-- ==== Sys2Proof/Word.lean ====
section
/-! DEFINITION. The word types of the ZA5120: 32-bit registers (R7), bytes, and the sparse map that holds every
indexed resource (register words, lane settings, buckets, histograms, memory bytes). -/

namespace Sys2Proof

/-- A register word: "All registers are 32 bits wide" (00_scope.md, Registers). -/
abbrev Word := BitVec 32

/-- One byte of a memory. -/
abbrev Byte := BitVec 8

/-- A sparse map from a key to a value, in one canonical form: keys strictly rising, and no entry equal to what an
unlisted key reads as (that value is given where the map is read or written). -/
abbrev FMap (α : Type) := List (Nat × α)

end Sys2Proof
end

