-- ==== Sys2Proof/Syntax.lean ====
section
/-! DEFINITION. The commands and events of the block, one constructor for each row of spec/opcode_table.json, in the
table's order, with their operands. The first operand `t` of each is the tick (R2's coarse unit of time, counted from
power-up) at which the command arrives or the event happens; facts that come from beyond a ball (a measured
temperature, a phase, a link frame, an ECC outcome) are operands. -/

namespace Sys2Proof

/-- The three paths that reach the register fabric (R25), in the order in which the fabric applies them. -/
inductive Path where
  | saggar | greenware | host
deriving DecidableEq, Repr

/-- Why a started lock sequence fails (R56); BAD_REF fails at the start of step 1, inside LOCK. -/
inductive LockFailure where
  | noBand | timeout | noRef
deriving DecidableEq, Repr

/-- What a BOOT stage found (R82): the stage passed; it failed; stage 2 read the two slots with these verification
reasons (0 = passes, 1 to 7 as R469); stage 5 retired these physical pages (R86). -/
inductive BootResult where
  | pass
  | failed
  | verified (active other : Nat)
  | tested (pages : List Nat)
deriving DecidableEq, Repr

/-- One diode conversion (R434, R435): a temperature in 1/16 °C, or a reading beyond a limit. -/
inductive DiodeReading where
  | celsius16 (v : Int) | openWire | short
deriving DecidableEq, Repr

/-- What resets the PCIe endpoint (R431). -/
inductive EndpointEvent where
  | perst | hotReset | linkDown | flr
deriving DecidableEq, Repr

/-- What puts the unit into RESET (R81, R533): the pin, or a rail below its power-on threshold; `mramLost` says
whether that rail is VDD_AON or VDDA_18, so that the record in flight is torn (R476, R533). -/
inductive ResetCause where
  | pin | rail (mramLost : Bool)
deriving DecidableEq, Repr

/-- The ECC outcome of one granule (R319). -/
inductive Ecc where
  | clean | corrected | uncorrectable
deriving DecidableEq, Repr

/-- One requester port's request for its next granule (R328, R330): logical byte address of the granule; the bytes to
write (`none` for a read) as one little-endian number; the ECC outcome met in memory; how long it has waited. -/
structure MemReq where
  port : Nat
  laddr : Nat
  wdata : Option (BitVec 512)
  ecc : Ecc
  waitNs : Nat
deriving DecidableEq, Repr

/-- The operation a management REQ carries (R406). -/
inductive MgmtOp where
  | regRd (off : Nat)
  | regWr (off : Nat) (val : Word)
  | mbxRd (id : Nat)
  | mbxWr (id : Nat) (val : BitVec 128)
deriving DecidableEq, Repr

/-- One copy-engine descriptor as the engine reads it from host memory (R423), with what the transfer then meets:
the granule at which a memory fault arises and its class (R335), or a PCIe error at that granule. -/
structure CeDesc where
  host : BitVec 64
  dev : BitVec 64
  len : Nat
  toDevice : Bool
  irq : Bool
  statusPos : Nat
  stop : Option (Nat × Nat)
  pcieErr : Option (Nat × Word)
  hostData : BitVec 512
deriving DecidableEq, Repr

/-- The commands and events of the ZA5120. -/
inductive Instr where
  -- register fabric
  | registerWrite (t : Nat) (path : Path) (off size : Nat) (val : Word)
  | statusClear (t : Nat) (path : Path) (off : Nat) (val : Word)
  | lockWrite (t : Nat) (path : Path) (off : Nat) (val : Word)
  | fifoHwmRead (t : Nat) (path : Path) (off size : Nat)
  | mbxRead (t : Nat) (path : Path)
  | mbxWrite (t : Nat) (path : Path)
  | mbxRelease (t : Nat) (path : Path)
  | mbxFreezeExpiry (t : Nat) (path : Path)
  | crcCompute (t : Nat) (path : Path)
  | crcComputeDone (t : Nat)
  | crcSweepStart (t : Nat)
  | crcSweepDone (t : Nat)
  | timerExpiry (t : Nat) (n : Fin 8)
  -- clock synthesis
  | lock (t : Nat) (path : Path)
  | lockComplete (t : Nat) (phase : Word) (hclkPhase : Bool)
  | lockFail (t : Nat) (reason : LockFailure)
  | bandSweep (t : Nat) (path : Path)
  | bandSweepDone (t : Nat) (refOk : Bool) (bands : List Word)
  | phaseMeasure (t : Nat) (path : Path) (phase : Word)
  | refLost (t : Nat)
  | holdoverExpiry (t : Nat)
  | lockLost (t : Nat)
  | refReturn (t : Nat)
  | refRequalified (t : Nat) (jump freqErr : Int)
  | slewDone (t : Nat)
  | realignDone (t : Nat) (phase : Word)
  -- modes and start-up
  | modeTargetWrite (t : Nat) (path : Path) (val : Word)
  | idleModeSample (t : Nat)
  | frameBoundarySample (t : Nat)
  | frameBoundary (t : Nat)
  | stateSkew (t : Nat)
  | resetAssert (t : Nat) (cause : ResetCause)
  | resetRelease (t : Nat) (straps : BitVec 8)
  | bootStageComplete (t : Nat) (r : BootResult)
  | bootRetry (t : Nat) (path : Path)
  | safeRelease (t : Nat) (path : Path)
  | standbyEntered (t : Nat)
  | wake (t : Nat)
  | standbyExited (t : Nat)
  -- Wheel control
  | programBankWrite (t : Nat) (path : Path) (off size : Nat) (val : Word)
  | wheelStart (t : Nat) (path : Path)
  | wheelStop (t : Nat) (path : Path)
  | armSwap (t : Nat) (path : Path)
  | disarm (t : Nat) (path : Path)
  | wheelAbort (t : Nat) (path : Path)
  | hostEventPost (t : Nat) (path : Path) (ev : BitVec 8)
  -- Wheel instructions: the Wheel issues the word at its program counter
  | illegalInstruction (t : Nat) (uecc : Bool)
  | jmp (t : Nat)
  | br (t : Nat)
  | loop (t : Nat)
  | call (t : Nat)
  | ret (t : Nat)
  | waitev (t : Nat)
  | waitevEvent (t : Nat)
  | waitevTimeout (t : Nat)
  | halt (t : Nat)
  | sync (t : Nat)
  | syncEvent (t : Nat) (src : Fin 3) (n : Fin 32)
  | syncTimeout (t : Nat)
  | ldi (t : Nat)
  | mov (t : Nat)
  | add (t : Nat)
  | sub (t : Nat)
  | and (t : Nat)
  | or (t : Nat)
  | shl (t : Nat)
  | shr (t : Nat)
  | cmp (t : Nat)
  | shot (t : Nat)
  | gate (t : Nat)
  | zoom (t : Nat)
  | pix (t : Nat)
  | step (t : Nat)
  | mark (t : Nat)
  | setp (t : Nat)
  | budget (t : Nat)
  -- the shot timeline
  | budgetDecision (t : Nat)
  | slotStart (t : Nat) (uecc : Bool)
  | stepAction (t : Nat)
  | markAction (t : Nat)
  | pixelClose (t : Nat)
  -- emission
  | proofDecision (t : Nat) (k : Fin 32)
  | proofPulse (t : Nat) (k : Fin 32)
  | selectPacket (t : Nat)
  | tablePacket (t : Nat) (echo : Byte)
  | drvResend (t : Nat) (path : Path)
  | clearFail (t : Nat) (path : Path)
  | proveAll (t : Nat) (path : Path)
  | ebmRefill (t : Nat)
  | refbufReady (t : Nat)
  | monitorObservation (t : Nat) (samples : List Nat)
  | monitorTriggerSample (t : Nat) (s0 s1 fine : Nat)
  -- beam steering
  | controlSample (t : Nat)
  | axisLinkFrame (t : Nat) (a : Fin 2) (rx : Word)
  | encoderEdge (t : Nat) (up : Bool)
  | encoderIndex (t : Nat)
  | spinupTimeout (t : Nat)
  | noEdgeTimeout (t : Nat)
  | settleWindowEnd (t : Nat)
  | axisEnable (t : Nat) (path : Path) (a : Fin 2)
  | axisRestart (t : Nat) (path : Path) (a : Fin 2)
  | traceArm (t : Nat) (path : Path) (a : Fin 2)
  | traceForce (t : Nat) (path : Path) (a : Fin 2)
  | traceFreeze (t : Nat) (a : Fin 2)
  -- receive lanes
  | laneEdge (t : Nat) (l : Fin 512) (fine : BitVec 10) (moved : Bool)
  | laneTokenRefill (t : Nat) (l : Fin 512)
  | stuckDetect (t : Nat) (l : Fin 512)
  | referenceEdge (t : Nat) (k : Fin 32) (inputB : Bool) (fine : BitVec 10)
  | thresholdSwitch (t : Nat) (l : Fin 512)
  | rangeSwitch (t : Nat) (l : Fin 512)
  | idleLaneBoundary (t : Nat)
  | sectorSettled (t : Nat) (s : Fin 8)
  -- lane calibration
  | calAutoStart (t : Nat)
  | calStart (t : Nat) (path : Path)
  | calAbort (t : Nat) (path : Path)
  | calLaneComplete (t : Nat) (l : Fin 512)
  | calWindowExpiry (t : Nat)
  | calHoldEnd (t : Nat)
  -- Kiln
  | kilnEventBin (t : Nat) (s : Fin 8) (uecc : Bool)
  | predictionDeadline (t : Nat) (s : Fin 8)
  | lanePixelHandoff (t : Nat) (s : Fin 8) (j : Fin 64) (uecc : Bool)
  | shelfAddition (t : Nat) (s : Fin 8) (j : Fin 64)
  | waveCaptureComplete (t : Nat) (s : Fin 8)
  | waveCaptureDeadline (t : Nat) (s : Fin 8) (lanes : Nat)
  | bufferClearDone (t : Nat) (s : Fin 8)
  | kilnClearDone (t : Nat) (s : Fin 8)
  -- Shelf
  | shelfHeaderArrival (t : Nat) (s : Fin 8) (j : Fin 64) (uecc : Bool)
  | shelfBinsArrival (t : Nat) (s : Fin 8) (j : Fin 64) (uecc : Bool)
  | shelfWriteback (t : Nat) (s : Fin 8) (j : Fin 64)
  | shelfWritebackDone (t : Nat) (s : Fin 8) (fault : Bool)
  | shfFlush (t : Nat) (path : Path)
  -- Glaze and the Point Queue
  | glazeStage2 (t : Nat) (s : Fin 8) (j : Fin 64) (bufErr : Bool)
  | glazeStage3 (t : Nat) (s : Fin 8) (j : Fin 64)
  | glazeStall (t : Nat) (s : Fin 8) (j : Fin 64)
  | pqFrameEnd (t : Nat)
  | pqDeliver (t : Nat) (c : Fin 3) (uecc : Bool)
  -- memory
  | memGranule (t : Nat) (ch : Fin 16) (reqs : List MemReq)
  | rgnRebuild (t : Nat) (path : Path)
  | rgnRebuildDone (t : Nat)
  | scrubPass (t : Nat) (path : Path)
  | scrubPeriod (t : Nat)
  | memMaintenance (t : Nat) (ch : Fin 16)
  | memStarveWarn (t : Nat) (port : Fin 10)
  | memHotChange (t : Nat) (pkg : Fin 4) (hot : Bool)
  | selfRefreshEntered (t : Nat)
  -- capture, recorder and guard
  | capTrigger (t : Nat) (path : Path)
  | triggerEvaluation (t : Nat)
  | recPostExpiry (t : Nat)
  | waveFreeze (t : Nat)
  | capRelease (t : Nat) (path : Path)
  | holdoffEnd (t : Nat)
  | capExport (t : Nat) (path : Path)
  | capExportAbort (t : Nat) (path : Path)
  | exportDone (t : Nat)
  | fieldTest (t : Nat)
  | guardStale (t : Nat)
  | ossdRestart (t : Nat) (path : Path)
  | ossdAutoRestart (t : Nat)
  | ossdFeedbackMismatch (t : Nat)
  | fieldCrcSweep (t : Nat)
  -- timestamps
  | tsuInputEdge (t : Nat) (n : Fin 16) (rising : Bool)
  | tsuStampQueued (t : Nat) (n : Fin 16) (fine : BitVec 10)
  | tsuFlush (t : Nat) (path : Path) (bits : BitVec 16)
  | freqGateEnd (t : Nat)
  | ppsWindowMiss (t : Nat)
  | extFreqWindow (t : Nat) (count : Nat)
  -- the Coil
  | coilLinkChange (t : Nat) (p : Fin 2) (up : Bool)
  | coilPacketReceive (t : Nat) (p : Fin 2) (hdr : BitVec 64) (crcOk : Bool)
  | token (t : Nat) (p : Fin 2) (mask : BitVec 16) (list : List Nat) (strapped : Bool) (ident : BitVec 64)
  | tokenEnd (t : Nat) (p : Fin 2) (mask : BitVec 16) (list : List Nat)
  | topo (t : Nat) (ring : Bool) (list : List Nat)
  | linkEvent (t : Nat)
  | coilEnumerate (t : Nat) (path : Path)
  | enumTimeout (t : Nat)
  | enumRetry (t : Nat)
  | coilTimePeriod (t : Nat)
  | syncPacket (t : Nat) (p : Fin 2) (ts corr tArr tDep : Int)
  | delayReq (t : Nat) (p : Fin 2) (src : Fin 17) (t2 t3 : Int)
  | delayResp (t : Nat) (p : Fin 2) (t1 t2 t3 t4 : Int)
  | coilTrimStep (t : Nat)
  | coilSyncTimeout (t : Nat)
  | coilHoldExpiry (t : Nat)
  | coilEpoch (t : Nat) (path : Path)
  | coilSchedCommit (t : Nat) (path : Path)
  | schedTable (t : Nat) (cycle : Nat) (act : Nat) (wins : List (BitVec 64))
  | schedActivate (t : Nat)
  | coilCycleStart (t : Nat)
  | streamRecords (t : Nat) (p : Fin 2) (origin : Fin 17) (dst : Fin 32) (seq : BitVec 16) (recs : List (BitVec 128))
  | req (t : Nat) (src : Fin 17) (op : MgmtOp) (answered : Bool)
  | resp (t : Nat) (src : Fin 17) (status : Nat) (detail : Nat)
  | coilNoAgent (t : Nat)
  | coilMgmtTimeout (t : Nat)
  | status (t : Nat) (src : Fin 17) (w0 frames offset : Word)
  | coilStatusTimer (t : Nat)
  | coilNodeStale (t : Nat) (a : Fin 17)
  -- host interface
  | pcieConfigRequest (t : Nat)
  | bar2Access (t : Nat) (addr : Nat) (wdata : Option (BitVec 512 × BitVec 64)) (ecc : Ecc)
  | ringActivate (t : Nat) (path : Path) (off : Nat) (val : Word)
  | ringRdWrite (t : Nat) (path : Path) (off : Nat) (val : Word)
  | ringWriteback (t : Nat) (x : Fin 20)
  | ptStall (t : Nat)
  | eventRingDeliver (t : Nat)
  | rrStall (t : Nat) (a : Fin 17)
  | ceDescriptor (t : Nat) (d : CeDesc)
  | ceResume (t : Nat) (path : Path) (d : CeDesc)
  | ceAbort (t : Nat) (path : Path)
  | irqHoldEnd (t : Nat) (v : Fin 64)
  | msixUnmask (t : Nat) (v : Fin 64)
  | endpointReset (t : Nat) (e : EndpointEvent)
  -- thermal
  | thmConversion (t : Nat) (d : DiodeReading)
  | throttleGraceExpiry (t : Nat)
  | coolDownDone (t : Nat)
  | coneWrite (t : Nat) (path : Path) (off : Nat) (val : Word)
  -- sensor front end
  | sfeOutput (t : Nat) (y : Int) (trip : Bool)
  | sfeInject (t : Nat) (path : Path)
  | sfeCal (t : Nat) (path : Path)
  | sfeCalDone (t : Nat) (coeffs : List (Int × Nat))
  | loopUpdate (t : Nat) (measured : Nat)
  | loopFaultTimer (t : Nat)
  -- Saggar and the persistent store
  | updOpen (t : Nat) (path : Path)
  | updVerify (t : Nat) (path : Path)
  | updVerifyDone (t : Nat) (ecc : Ecc)
  | updActivate (t : Nat) (path : Path)
  | updAbort (t : Nat) (path : Path)
  | attest (t : Nat) (path : Path)
  | attestDone (t : Nat)
  | park (t : Nat) (path : Path)
  | compact (t : Nat) (path : Path)
  | compactDone (t : Nat) (checkOk : Bool)
  | rollbackCommit (t : Nat) (path : Path)
  | revoke (t : Nat) (path : Path)
  | otpDone (t : Nat)
  | limitsStore (t : Nat) (path : Path)
  | seal (t : Nat) (path : Path)
  | scfgApply (t : Nat) (path : Path)
  | permitSet (t : Nat)
  | saggarWatchdog (t : Nat)
  | saggarRestartDone (t : Nat) (torn : Bool)
  | brownOut (t : Nat) (rail : Fin 10)
  | brownOutRelease (t : Nat) (rail : Fin 10)
  | wevEdge (t : Nat) (n : Fin 8)
  | sectorResume (t : Nat) (s : Fin 8)
  | clearFatal (t : Nat) (path : Path)
  | heldEventsRecorded (t : Nat) (off : Nat)
  | requalifyFail (t : Nat)
  | bclkRefinChange (t : Nat) (qualifies : Bool)
  | pcieLinkUp (t : Nat) (speed width : Nat)
  | idleBoundaryApply (t : Nat)
  | ossdFeedbackAgree (t : Nat)
  | mfpPulseEnd (t : Nat) (pin : Fin 32)
deriving DecidableEq, Repr

end Sys2Proof
end

