-- ==== Sys2Proof/Config.lean ====
section
/-! DEFINITION. What the spec leaves open, as constants without a body: no proof can see their values. -/

namespace Sys2Proof

/-- The n-th value that the spec leaves open (log 2). -/
opaque Config.freeWord : Nat → Word

/-- The n-th wide value that the spec leaves open (log 2). -/
opaque Config.freeWide : Nat → BitVec 128

/-- A byte of memory whose content the spec leaves open, since the n-th loss: by physical address (log 2). -/
opaque Config.freeByte : Nat → Nat → Byte

/-- SHA-256 of a byte string; the spec names the function only (R468). -/
opaque Config.sha256 : List Nat → BitVec 256

/-- Verification of an LMS signature over a message (R468): public key, message, signature bytes. -/
opaque Config.lmsVerify : List Nat → List Nat → List Nat → Bool

/-- Word `n` of 16 bytes of the HSS signature over a message with leaf `i` (R479). -/
opaque Config.hssSign : Nat → List (BitVec 128) → Nat → BitVec 128

/-- The key hash that the factory burned into OTP (R469, R470). -/
opaque Config.otpKeyHash : BitVec 256

/-- The HSS public key provisioned at the factory, in words of 16 bytes (R479). -/
opaque Config.attPub : Nat → BitVec 128

end Sys2Proof
end

