-- ==== Sys2Proof/Machine/State.lean ====
section
/-! DEFINITION. The state of the ZA5120 as plain data: one structure per block of R503, the queue of waiting commands,
and the state right after reset. Times are ticks (R2) since power-up unless a field says otherwise. Registers that
software reads and writes whole stay words; live machine state that the registers only show is held by name. -/

namespace Sys2Proof.Machine

/-- Why a command stops the machine: only for an address that the spec says does not exist. -/
inductive Fault where
  /-- A register access at or beyond 64 MiB (R413: BAR0 decodes 64 MiB). Raised by the register accesses. Safe. -/
  | outsideBar0
  /-- A BAR2 access at or beyond 128 GiB (R413). Raised by BAR2_ACCESS. Safe. -/
  | outsideBar2
deriving DecidableEq, Repr

/-- Why a command has no meaning here. -/
inductive Refusal where
  /-- The command's arm has no meaning yet. Raised by exec's refused arms only. Safe. -/
  | notModelled (mnemonic : String)
deriving DecidableEq, Repr

/-! ## Register fabric -/

/-- An S register (R28): sequence number, event flags, the tick of the last recorded event and its flags, flags of held
events. -/
structure SReg where
  seq : BitVec 16 := 0
  flags : BitVec 16 := 0
  last : Option Nat := none
  ev : BitVec 16 := 0
  held : BitVec 16 := 0
deriving DecidableEq, Repr

/-- One path's mailbox (R33 to R36). -/
structure Mailbox where
  sel : BitVec 16 := 0
  data : BitVec 128 := 0
  valid : Bool := false
  err : Nat := 0
  frozen : Option (Nat × BitVec 128) := none
  readAt : Nat := 0
deriving DecidableEq, Repr

/-- An update of a wide value that a freeze defers (R34): a new value, or `n` more in the counter at bits
[lo+len-1:lo]. -/
inductive WideUpd where
  | set (v : BitVec 128)
  | add (lo len n : Nat)
deriving DecidableEq, Repr

/-- A write of a C register in the present PCLK cycle (R25): offset, tick, path, the value before the cycle's writes, the
word written. -/
structure RegWr where
  off : Nat
  at_ : Nat
  path : Path
  old : BitVec 16
  val : Word
deriving DecidableEq, Repr

/-- One sweep of the configuration CRC (R41): its start, and the old words of members written after it had read them. -/
structure Sweep where
  start : Nat
  old : FMap (Option Word) := []
deriving DecidableEq, Repr

/-- The configuration CRC engine (R41 to R43): the periodic sweep in progress, the start of the last one (0: none), whether
the reference was valid at its start, and the commanded sweep. -/
structure CrcEngine where
  refValid : Bool := false
  matched : Bool := false
  sweep : Option Sweep := none
  startAt : Nat := 0
  compares : Bool := false
  cmd : Option Sweep := none
  driftInGuard : Bool := false
deriving DecidableEq, Repr

/-- A shared timer (R47): whether it counts, and the tick of its next expiry (none with a period of 0). -/
structure Timer where
  run : Bool := false
  next : Option Nat := none
deriving DecidableEq, Repr

/-! ## Fault and event log -/

/-- An event to be logged (R485, R486), before it has its sequence number: the tick of its detection, its 12-bit code
(R487), the instance, detail, address, value, path and repeat count of R486, and its UTIME. -/
structure LogEntry where
  tick : Nat := 0
  code : Nat := 0
  inst : Nat := 0
  detail : Nat := 0
  addr : Nat := 0
  value : Nat := 0
  path : Nat := 3
  rep : Nat := 0
  utime : Nat := 0
deriving DecidableEq, Repr

/-- A log entry with its sequence number. -/
structure LogRec where
  seq : Nat
  e : LogEntry
deriving DecidableEq, Repr

/-- The fault and event log and the recovery state (R485 to R494). -/
structure FaultLog where
  nextSeq : Nat := 1
  pend : List LogEntry := []
  ring : List LogRec := []
  fatal : BitVec 4 := 0
  recovering : FMap Nat := []
  ceLast : FMap (Option Nat) := []
  ceRep : FMap Nat := []
  sectorFaults : FMap (List Nat) := []
deriving DecidableEq, Repr

/-! ## Clock synthesis -/

/-- CLK_INFO.state (R73). -/
inductive ClkState where
  | bclk | qualify | acquire | locked | holdover | slewing | realign | powerDown
deriving DecidableEq, Repr

/-- A clock output (R60, R61): whether it is enabled with a divider, its divider, the tick from which it runs, its delay
at tick `dlyAt` and the delay it moves to. -/
structure ClkOut where
  on : Bool := false
  div : Nat := 0
  from_ : Nat := 0
  dly : Nat := 0
  dlyAt : Nat := 0
  dlyTo : Nat := 0
deriving DecidableEq, Repr

/-- The clock system (R51 to R74): `seqAt` the start of the lock sequence or band sweep, `seqRefin` and `seqPath` what the
lock uses, `holdAt` the start of holdover, `requalAt` that of a requalification, `slewAt` that of a slew, `switchAt` the
tick of the last switch to BCLK; `realignFire`: the REALIGN steps have begun. -/
structure Clock where
  state : ClkState := .bclk
  band : Nat := 0
  refPresent : Bool := false
  memRetained : Bool := false
  hclkPhase : Bool := false
  failReason : Nat := 0
  lockStarted : Bool := false
  seqAt : Nat := 0
  sweeping : Bool := false
  seqRefin : Nat := 0
  seqPath : Nat := 0
  holdAt : Nat := 0
  requalAt : Option Nat := none
  slewAt : Nat := 0
  jump : Int := 0
  switchAt : Nat := 0
  alignAt : Nat := 0
  realignFire : Bool := false
  serdesRef : Bool := false
  outs : FMap ClkOut := []
deriving DecidableEq, Repr

/-! ## Modes and start-up -/

/-- The eight operating modes (R19). -/
inductive Mode where
  | reset | boot | standby | ready | scan | guard | service | safe
deriving DecidableEq, Repr

/-- Progress of one long operation (R90, R91). -/
structure Progress where
  run : BitVec 16 := 0
  st : Nat := 0
  pos : Nat := 0
  total : Nat := 0
deriving DecidableEq, Repr

/-- Mode exchange, BOOT, SAFE and STANDBY (R75 to R98). `decided` is the transition that the last sample decided, `pendNew` a
target accepted since; `was` the pending target before the writes of the cycle `wasAt`. -/
structure Modes where
  active : Mode := .boot
  pending : Bool := false
  previous : Mode := .reset
  refuse : Nat := 0
  skewAt : Nat := 0
  pendNew : Bool := false
  wasAt : Nat := 0
  was : Option Mode := none
  lastFrame : Option Nat := none
  decided : Option Mode := none
  stage : Nat := 0
  running : Bool := false
  failed : Bool := false
  memTest : Nat := 1
  failCode : Nat := 0
  forceMarch : Bool := false
  bootDone : Bool := false
  bootFault : Bool := false
  retryStage : Option Nat := none
  boot : Progress := {}
  train : Progress := {}
  mtest : Progress := {}
  standbyStep : Nat := 0
  waking : Bool := false
deriving DecidableEq, Repr

/-! ## Wheel -/

/-- WHL_INFO.state (R122). -/
inductive WState where
  | idle | running | waiting | faulted
deriving DecidableEq, Repr

/-- One loop counter (R132): iterations left, first and last instruction of its body. -/
structure LoopCtr where
  left : Nat
  first : Nat
  last : Nat
deriving DecidableEq, Repr

/-- A bound shot (R105, R141): its slot, its index in its pixel, the pixel's sequence number, and what the decision
tick made of it (R111, R112, R142): the mask without disabled emitters, the stagger applied, the pulse offsets and width
of its burst, the emitters granted. -/
structure Shot where
  slot : Nat := 0
  mask : BitVec 32 := 0
  prof : Nat := 0
  stag : Nat := 0
  code : Nat := 0
  pc : Nat := 0
  idx : Nat := 0
  pix : Nat := 0
  decided : Bool := false
  throttled : Bool := false
  granted : BitVec 32 := 0
  offs : List Nat := []
  width : Nat := 0
deriving DecidableEq, Repr

/-- A queued timeline action (R108). -/
inductive Action where
  | shot
  | gate (tiles : BitVec 32) (lanes : BitVec 16) (openT closeT : Nat)
  | zoom (src win : Nat) (tiles : BitVec 32) (lanes : BitVec 16) (start : Nat)
  | step (ax : Nat) (val : Int) (ofs : Nat)
  | mark (tag : Nat) (val : Word) (ofs : Nat)
  | setp (param : Nat) (idx : Option Nat) (val : Nat)
  | pix (close : Nat) (eof : Bool) (az el : Nat) (seq : Nat)
deriving DecidableEq, Repr

/-- A timeline queue entry: its action, the slot it attaches to (none until the next SHOT binds), its program
counter. -/
structure QEntry where
  act : Action
  slot : Option Nat
  pc : Nat
deriving DecidableEq, Repr

/-- What the Wheel waits for (R137, R138). -/
inductive Wait where
  | hostEv (wd : Nat) (mask : Nat) (until_ : Nat)
  | sync (wd src n ofs : Nat) (until_ : Nat)
deriving DecidableEq, Repr

/-- The Wheel (R99 to R123): execution state (R102), the grid (R104), the timeline queue (R108), the pixel being issued
(R109), the frame in progress and its pending boundary (R110), and the shot whose slot is in progress. -/
structure Wheel where
  state : WState := .idle
  bank : Nat := 0
  armed : Bool := false
  armAt : Nat := 0
  armOld : Bool := false
  faultCode : Nat := 0
  pc : Nat := 0
  readyAt : Nat := 0
  regs : FMap Word := []
  z : Bool := false
  n : Bool := false
  c : Bool := false
  rets : List Nat := []
  loops : List LoopCtr := []
  hostev : BitVec 8 := 0
  evAt : Nat := 0
  evUsed : BitVec 8 := 0
  mem : FMap Word := []
  wait : Option Wait := none
  anchor : Nat := 0
  period : Nat := 10000
  periodNext : Nat := 10000
  queue : List QEntry := []
  shots : List Shot := []
  lastSlot : Option Nat := none
  lastEnd : Nat := 0
  afterPix : Bool := true
  issShots : Nat := 0
  issSeq : Nat := 0
  prevClose : Nat := 0
  cur : Option Shot := none
  pixTotal : Nat := 0
  anyPix : Bool := false
  lastEof : Bool := false
  eofAt : Option Nat := none
  eofNext : Option Nat := none
  sampled : Bool := false
  firstFrame : Bool := false
  swapped : Bool := false
  haltReq : Bool := false
  stopReq : Bool := false
  startHeld : Bool := false
  frameOpen : Bool := false
  frameAt : Nat := 0
  fid : Nat := 0
  held : Bool := false
  voidRest : Nat := 0
  setps : List (Nat × Nat × Nat) := []
deriving DecidableEq, Repr

/-- A pixel as the descriptors of R258 carry it: shared by the 512 lane-pixels. `frame` is the frame number, `fid` the
count of frames since power-up, `void` a cause of R309 (0: none). -/
structure Pixel where
  seq : Nat := 0
  frame : Nat := 0
  fid : Nat := 0
  frameAt : Nat := 0
  first : Option Nat := none
  shots : List Shot := []
  az : Nat := 0
  el : Nat := 0
  hasPix : Bool := false
  close : Nat := 0
  utClose : Nat := 0
  eof : Bool := false
  void : Nat := 0
  holdover : Bool := false
  throttled : Bool := false
  calGen : Nat := 0
  refs : FMap (List Nat) := []
deriving DecidableEq, Repr

/-! ## Emission -/

/-- One emitter (R176 to R181). `st` is the state code of R176. -/
structure Emitter where
  st : Nat := 0
  unobs : Nat := 0
  grantedFrame : Bool := false
  goodFrame : Bool := false
  grace : Nat := 0
  opens : Nat := 0
  cls : Nat := 0
  wholeOff : Bool := false
  proveReq : Bool := false
  nsr : Nat := 0
  lpSat : Nat := 0
  lpAll : Nat := 0
deriving DecidableEq, Repr

/-- A placed proof pulse (R178): emitter, slot start, decision. -/
structure Proof where
  k : Nat
  slot : Nat
  decided : Bool := false
  granted : Bool := false
deriving DecidableEq, Repr

/-- What the pulse monitor observes in the current slot (R172). -/
structure Obs where
  k : Nat
  proof : Bool
  at_ : Nat
  code : Nat
  width : Nat
  started : Bool := false
  p3 : Bool := false
deriving DecidableEq, Repr

/-- A pulse on a trigger pair: emitter, leading tick, width in half-ticks (R152). -/
structure Pulse where
  k : Nat
  at_ : Nat
  half : Nat
deriving DecidableEq, Repr

/-- Emission (R152 to R185). Buckets hold (content, refills when stored), refills counted since all were emptied; `codes`
is the code table of the frame, `width` and `active` the committed widths and codes, `widthSnap` and `codeSnap` those
being sent; `boundary` is the boundary tick whose emission part is done; `obs` the pulse under observation. -/
structure Emission where
  emitters : FMap Emitter := []
  buckets : FMap (Nat × Nat) := []
  refills : Nat := 0
  refillAt : Nat := 0
  lockAt : Nat := 0
  policy : Bool := false
  failClass : Nat := 0
  failEmt : Nat := 0
  failAt : Option Nat := none
  codes : FMap (List Nat) := []
  derivedFor : Nat := 0
  active : FMap (BitVec 128) := []
  width : FMap Nat := []
  widthSnap : FMap Nat := []
  codeSnap : FMap (BitVec 128) := []
  tblNext : Nat := 0
  tblTried : Bool := false
  tblAck : BitVec 32 := 0
  tblDoneAt : Option Nat := none
  tblFrame : Bool := false
  dirty : Bool := false
  committed : Bool := false
  staleRun : Nat := 0
  boundary : Option Nat := none
  sel : BitVec 8 := 0
  lastProfile : Nat := 0
  shadow : FMap (BitVec 128) := []
  refbufAt : Option Nat := none
  refbufReady : Bool := false
  early : Bool := false
  obs : Option Obs := none
  lastP3 : Nat := 31
  proofs : List Proof := []
  boardInhibit : BitVec 8 := 0xFF
  pulses : List Pulse := []
deriving DecidableEq, Repr

/-! ## Beam steering -/

/-- One axis of the control engine (R187 to R204). `st` is the state code of R199, `reason` that of R208. `spNext` holds
the set-points that have landed since the last sample: value, tick, whether a STEP wrote it; `entry` is set until the
sample at which SPINUP or SETTLING is entered. -/
structure Axis where
  enabled : Bool := false
  cfgOff : Bool := false
  st : Nat := 0
  reason : Nat := 0
  sp : Int := 0
  spNext : List (Int × Nat × Bool) := []
  meas : Int := 0
  prev : Int := 0
  rx : Int := 0
  vel : Int := 0
  integ : Int := 0
  u : Int := 0
  uSat : Bool := false
  e : Int := 0
  gi : Nat := 0
  p : Int := 0
  d : Int := 0
  ff : Int := 0
  linkBad : Nat := 0
  overN : Nat := 0
  underN : Nat := 0
  travelN : Nat := 0
  trackN : Nat := 0
  lockN : Nat := 0
  since : Nat := 0
  entry : Bool := false
  window : Option Nat := none
deriving DecidableEq, Repr

/-- Trace of one axis (R205, R206): four buffers, oldest sample first. -/
structure Trace where
  st : Nat := 0
  bufs : FMap (List Int) := []
  decimN : Nat := 0
  postLeft : Nat := 0
  count : Nat := 0
  trigUt : Nat := 0
  forced : Bool := false
  seenSt : Nat := 0
  seenStall : Bool := true
deriving DecidableEq, Repr

/-- The control engine (R186 to R210). -/
structure Steering where
  ax0 : Axis := {}
  ax1 : Axis := {}
  tr0 : Trace := {}
  tr1 : Trace := {}
  sampleAt : Nat := 0
  count : Nat := 0
  countPrev : Nat := 0
  idxAt : Option Nat := none
  revs : Nat := 0
  indexSeen : Bool := false
  edgeNow : Option Nat := none
  edgePrev : Option Nat := none
  edgeDir : Bool := true
  perFirst : Nat := 0
  perEdges : Nat := 0
  perN : Int := 0
  facet : Option (Nat × Nat) := none
  stall : Bool := true
  capTrig : Bool := false
deriving DecidableEq, Repr

/-! ## Lanes -/

/-- A zoom window setting of a lane (R144): source 0 OFF, 1 EXPLICIT, 2 PREDICT, 3 PREDICT_FB; start tick; whether it
was set by win = 3. -/
structure ZoomSet where
  src : Nat := 0
  start : Nat := 0
  all : Bool := false
deriving DecidableEq, Repr

/-- One lane (R211 to R231). `nom`, `floor`, `ceil` are the values at rank 3 (R117); `gainNext` and `gainForced` wait for
their boundaries; `thr` and `gain` are applied. `used` is how many tokens the bucket lacks; `deadTo` is in fine LSB; `edges` are those of the open pixel. -/
structure Lane where
  nom : Nat := 0x80
  floor : Nat := 0x00
  ceil : Nat := 0xFF
  gainNext : Option Nat := none
  gainForced : Option Nat := none
  thr : Nat := 0x80
  gain : Nat := 0
  tOff : Int := 0
  masked : Bool := false
  used : Nat := 0
  tokenAt : Nat := 0
  deadTo : Nat := 0
  edges : Nat := 0
  thrFrom : Nat := 0
  thrTo : Nat := 0
  rngFrom : Nat := 0
  rngTo : Nat := 0
  atBound : Bool := false
  pinned : Bool := false
  stuck : Bool := false
  gOpen : Nat := 0
  gClose : Nat := 0
  zooms : FMap ZoomSet := []
  mixed : Bool := false
deriving DecidableEq, Repr

/-- The lane field (R211 to R232): lanes, powered sectors and the end of their settling, first reference edges of the
current slot (position in fine LSB), reference times of the open pixel by tile, blanking by tile. -/
structure Lanes where
  lane : FMap Lane := []
  secOn : BitVec 8 := 0
  settleAt : FMap Nat := []
  refA : FMap (Option Nat) := []
  refB : FMap (Option Nat) := []
  refTimes : FMap (List Nat) := []
  blankFrom : FMap Nat := []
  blankTo : FMap Nat := []
  idleAt : Nat := 0
deriving DecidableEq, Repr

/-! ## Lane calibration -/

/-- A lane's calibration set (R235). `t` lists the entries that differ from the reset table. -/
structure CalSet where
  t : FMap Nat := []
  o : Int := 0
  skew : Nat := 32
  trim : Int := 0
  isReset : Bool := true
deriving DecidableEq, Repr

/-- What a run collects for one lane (R233), and its verdict (R240): `live` is the live time at its end, `sub` the ticks
inside gates or blanked so far; `swap` whether its new set is taken. -/
structure CalRun where
  h : FMap Nat := []
  n : Nat := 0
  m : Nat := 0
  sub : Nat := 0
  live : Nat := 0
  steady : Bool := true
  done : Bool := false
  status : Nat := 0
  k : Int := 0
deriving DecidableEq, Repr

/-- Status of a lane as CAL_LANE_l shows it. -/
structure CalLane where
  status : Nat := 0
  bound : Bool := false
  stale : Nat := 0
deriving DecidableEq, Repr

/-- The calibration block (R233 to R246). `st` is CAL_INFO.state; `inRun` the sectors of the run; `tAcc` the mean
temperature of the last accepted run; `swapAt` the earliest tick of a pending swap. -/
structure Calib where
  st : Nat := 0
  commanded : Bool := false
  failReason : Nat := 0
  bank : Nat := 0
  runs : FMap CalRun := []
  inRun : BitVec 8 := 0
  startAt : Nat := 0
  tMin : Int := 0
  tMax : Int := 0
  tSum : Int := 0
  tN : Nat := 0
  tAcc : Int := 0
  holdTo : Nat := 0
  sets : FMap CalSet := []
  next : FMap CalSet := []
  swapAt : Option Nat := none
  lanes : FMap CalLane := []
  prog : Progress := {}
deriving DecidableEq, Repr

/-! ## Kiln -/

/-- An in-gate event waiting in a Kiln's queue (R254): lane in the sector, slot start, coarse, fine. -/
structure KEvent where
  j : Nat
  slot : Nat
  c : Nat
  f : Nat
deriving DecidableEq, Repr

/-- Descriptor parts of one lane-pixel (R258): window starts in 1/65,536 tick, the widest gate span (R290), flags, SAT
flags of the coarse ranges and windows, stacking age. -/
structure Desc where
  win : FMap (Option Int) := []
  gOpen : Nat := 8192
  gClose : Nat := 0
  mixed : Bool := false
  stackMiss : Bool := false
  stacked : Bool := false
  waveSkip : Bool := false
  masked : Bool := false
  satC : Nat := 0
  satZ : Nat := 0
  age : Nat := 1
deriving DecidableEq, Repr

/-- A record of the Shelf as fetched for one lane (R274, R281): the tick of its arrival, its header as a
number, whether the fetch failed, its bins once they have arrived. -/
structure ShelfHdr where
  got : Bool := false
  at_ : Nat := 0
  raw : Nat := 0
  bad : Bool := false
  bins : Option Nat := none
deriving DecidableEq, Repr

/-- One buffer of a Kiln (R256): its pixel and number since the Wheel start, bin width, Glaze selects, bins
(keyed 2048·lane + bin, and 384·lane + 128·window + bin), descriptors, and the Shelf's records for it. -/
structure KBuf where
  pix : Pixel := {}
  nth : Nat := 0
  width : Nat := 1
  codeSet : BitVec 16 := 0xFFFF
  amb : Nat := 0
  rain : Nat := 0
  coarse : FMap Nat := []
  zoom : FMap Nat := []
  desc : FMap Desc := []
  hdrs : FMap ShelfHdr := []
deriving DecidableEq, Repr

/-- A closed pixel that a sector hands to Glaze (R259): the next lane, the tick of lane 0, its buffer (none for a pixel
without bins), and a VOID cause of the sector's own. -/
structure Hand where
  pix : Pixel
  j : Nat := 0
  start : Nat
  buf : Option Nat := none
  void : Nat := 0
deriving DecidableEq, Repr

/-- One Kiln (R247 to R270): `cell` is the expected index of the open pixel, `predCell` that of the pixel whose records are
being fetched into `fetch`, `predShut` whether the prediction deadline of the pixel about to open has passed, `late` the
lanes that missed it, `void` a VOID cause of the open pixel in this sector. `capState` is KLN_INFO.cap_state. -/
structure Kiln where
  fill : Nat := 0
  bufs : FMap KBuf := []
  hands : List Hand := []
  lastStart : Option Nat := none
  void : Nat := 0
  cell : Nat := 0
  width : Nat := 1
  widthNext : Nat := 1
  capEn : Bool := false
  capNext : Bool := false
  capAt : Nat := 0
  queue : List KEvent := []
  hwm : Nat := 0
  fetch : FMap ShelfHdr := []
  predCell : Nat := 0
  predShut : Bool := false
  late : BitVec 64 := 0
  capState : Nat := 0
  spareAt : Nat := 0
  capIdx : Nat := 0
  decimN : Nat := 0
  clearAt : Option Nat := none
deriving DecidableEq, Repr

/-! ## Shelf -/

/-- A staged write-back (R283): sector-wide pixel number and lane, byte address, the record as one little-endian number
of 640 bytes, or of the 64-byte header alone; ready once Glaze's returns are in it. -/
structure ShelfWb where
  pix : Nat
  j : Nat
  addr : Nat
  len : Nat
  val : Nat
  ready : Bool := false
deriving DecidableEq, Repr

/-- The Shelf (R272 to R288): settings in force and waiting, the ticks of a flush command and of a SHF_EGO
write since the last sample, ego-motion in force and latched at the sample, the duration of
the frame before, old geometry entries of the present frame, staged write-backs by sector. -/
structure Shelf where
  depth : Nat := 1
  depthNext : Nat := 1
  decay : Nat := 1
  decayNext : Nat := 1
  cells : Nat := 0
  flushReq : Option Nat := none
  flushNow : Bool := false
  egoFresh : Option Nat := none
  egoFrame : Bool := false
  egoV : Int := 0
  egoW : Int := 0
  snapOk : Bool := false
  snapV : Int := 0
  snapW : Int := 0
  tf : Nat := 0
  egoTabOld : FMap (Option (BitVec 16)) := []
  staging : FMap (List ShelfWb) := []
deriving DecidableEq, Repr

/-! ## Glaze and the Point Queue -/

/-- A candidate or kept return (R295 to R302): coarse bin, E16, σ16, n_p, width, the window of a zoom-only candidate, PARTIAL,
then time (1/65,536 tick), range before its lower bound, intensity, confidence, source, SAT, WEATHER. -/
structure Cand where
  b : Nat
  e : Int
  sigma : Nat
  np : Nat
  width : Nat := 1
  zoom : Option Nat := none
  part : Bool := false
  time : Int := 0
  range : Int := 0
  inten : Nat := 0
  conf : Nat := 0
  src : Nat := 0
  sat : Bool := false
  weather : Bool := false
deriving DecidableEq, Repr

/-- A lane-pixel inside a Glaze pipeline (R289): its lane, hand-off tick and stage; copies of its pixel, descriptor, bin
width, selects and bins; whether its write-back is staged; its candidates. -/
structure GJob where
  j : Nat
  at_ : Nat
  stage : Nat := 1
  pix : Pixel
  desc : Desc := {}
  width : Nat := 1
  codeSet : BitVec 16 := 0xFFFF
  amb : Nat := 0
  rain : Nat := 0
  coarse : FMap Nat := []
  zoom : FMap Nat := []
  hdr : ShelfHdr := {}
  wb : Bool := false
  cands : List Cand := []
  void : Nat := 0
deriving DecidableEq, Repr

/-- One Glaze pipeline (R289 to R303), its applied selects and those that wait for the next pixel (R315, R116), the VOID run
being gathered (R309), the lane-pixels it has passed in all, and the MARK copies that wait for their place (R148): after
how many lane-pixels, frame, record. -/
structure Glaze where
  jobs : List GJob := []
  codeSet : BitVec 16 := 0xFFFF
  codeNext : BitVec 16 := 0xFFFF
  amb : Nat := 0
  ambNext : Nat := 0
  rain : Nat := 0
  rainNext : Nat := 0
  voidRun : Option (Nat × Nat × Nat × Pixel) := none
  passed : Nat := 0
  marks : List (Nat × Nat × BitVec 128) := []
deriving DecidableEq, Repr

/-- A consumer of the Point Queue (R313): `st` 0 NORMAL, 1 LOSS, 2 DEAD; the records it has not taken; what its next
GAP record counts (first frame, records, points, sectors, whole frames); its stall (R419). -/
structure Consumer where
  en : Bool := false
  st : Nat := 0
  unread : List (BitVec 128) := []
  firstFrame : Nat := 0
  withheld : Nat := 0
  points : Nat := 0
  sectors : BitVec 8 := 0
  frames : Nat := 0
  stallAt : Option Nat := none
  stalled : Bool := false
deriving DecidableEq, Repr

/-- A frame on its way through the Point Queue (R306, R307, R312): its FRAME record, the counts of its END record, the
consumers enabled at its boundary, the records held until the frame before it has ended, and how many pixels had closed
in all when it ended. -/
structure FrameQ where
  fid : Nat := 0
  frame : Nat := 0
  head : BitVec 128 := 0
  ens : BitVec 3 := 0
  begun : Bool := false
  recs : List (BitVec 128) := []
  endPix : Option Nat := none
  mode : Nat := 0
  wheelFault : Nat := 0
  skew : Bool := false
  safe : Bool := false
  holdSeen : Bool := false
  timeSat : Bool := false
  points : Nat := 0
  void : Nat := 0
  stackMiss : Nat := 0
  waveSkip : Nat := 0
  utEnd : Nat := 0
deriving DecidableEq, Repr

/-- The Point Queue (R312, R313): its consumers and the frames not yet ended, oldest first; `nair` is the refractivity in
force (R300, R314). -/
structure PointQ where
  host : Consumer := {}
  rec_ : Consumer := {}
  coil : Consumer := {}
  frames : List FrameQ := []
  nair : Nat := 0
deriving DecidableEq, Repr

/-! ## Memory -/

/-- One channel's arbiter (R328). -/
structure Chan where
  owner : Option Nat := none
  run : Nat := 0
  rr : Nat := 9
  maint : Bool := false
deriving DecidableEq, Repr

/-- A port's checked page, the address that would go on with its transfer, and its granules completed (R323, R330,
R336). -/
structure Port where
  page : Option Nat := none
  next : Option Nat := none
  warned : Bool := false
  done : Nat := 0
deriving DecidableEq, Repr

/-- The LPDDR5X controller (R318 to R344). `bytes` is the data space: physical byte address to byte. The region table
in force is given by the page counts of the seven regions at its build (`sizes`), the pages retired then (`mapped`), and
whether FW pages are READ (R326). `bytes` holds the difference to what an unlisted byte reads as: 0, or from physical page
`openFrom` on the open byte of `openEpoch` (R340, R350). `lost`: its content was lost (R340). -/
structure Mem where
  bytes : FMap Byte := []
  openFrom : Nat := 0
  openEpoch : Nat := 0
  lost : Bool := false
  sizes : List Nat := []
  fwRead : Bool := false
  valid : Bool := false
  busy : Bool := false
  selfRefresh : Bool := false
  hot : BitVec 4 := 0
  scrub : Bool := false
  scrubAt : Nat := 0
  chans : FMap Chan := []
  ports : FMap Port := []
  ceCount : FMap Nat := []
  retirePend : List Nat := []
  retired : List Nat := []
  mapped : List Nat := []
  prog : Progress := {}
  rdata : BitVec 512 := 0
  enteringSr : Bool := false
deriving DecidableEq, Repr

/-! ## Capture, recorder, guard -/

/-- A trigger condition that has reached the engine (R345): its tick, source bit, UTIME tick, fine bits, interpolated,
detail. -/
structure Cond where
  at_ : Nat
  src : Nat
  ut : Nat
  fine : Nat
  interp : Bool
  detail : Nat
deriving DecidableEq, Repr

/-- A point or blind lane-pixel on its way to the field tests (R358). -/
structure Point where
  rec_ : BitVec 128
  lane : Nat
  az : Nat
  blind : Bool
  ut : Nat
  fine : Nat
deriving DecidableEq, Repr

/-- Records the recorder discards while frozen (R353): all, whole frames, points, sectors, first frame. -/
structure RecLoss where
  n : Nat := 0
  frames : Nat := 0
  points : Nat := 0
  sectors : BitVec 8 := 0
  first : Option Nat := none
deriving DecidableEq, Repr

/-- Capture, recorder and guard (R345 to R368). `st` is CAP_INFO.state, `export_` 1 while an export runs; `recFrames` lists
UTIME and position (records written since RESET) of the FRAME records; `trigPos` is the position at the trigger;
`trigInput` the input whose fine bits are awaited; `waveUts` lists index and UTIME of WAVE records, oldest first. -/
structure Capture where
  st : Nat := 0
  conds : List Cond := []
  trigUt : Nat := 0
  trigPos : Nat := 0
  trigInput : Option Nat := none
  postAt : Option Nat := none
  postFrame : Option Nat := none
  holdAt : Nat := 0
  holdN : Nat := 0
  recOff : Nat := 0
  recWraps : Nat := 0
  recResume : Bool := false
  recLoss : RecLoss := {}
  recGap : Option Nat := none
  recFrames : List (Nat × Nat) := []
  frzStart : Nat := 0
  frzEnd : Nat := 0
  waveFrozen : Bool := false
  waveAt : Option Nat := none
  waveIdx : Nat := 0
  waveWraps : Nat := 0
  waveUts : List (Nat × Nat) := []
  waveKept : List Nat := []
  export_ : Bool := false
  exProg : Progress := {}
  exWhat : Nat := 0
  exBad : List Nat := []
  ossd : Bool := false
  okSince : Option Nat := none
  fbFault : Bool := false
  refWritten : Bool := false
  sweepOk : Bool := false
  rangesOk : Bool := true
  viol : BitVec 16 := 0
  violNew : BitVec 16 := 0
  violN : FMap Nat := []
  cleanFrame : Bool := false
  set : Nat := 0
  setAt : Nat := 0
  tests : List Point := []
  pixOpenAt : Nat := 0
  stale : Bool := false
  guardAt : Nat := 0
  fieldSweepAt : Nat := 0
deriving DecidableEq, Repr

/-! ## Timestamps -/

/-- A stamp (R377): tick and UTIME of the edge, fine bits, direction, lost flag, edge number; `pps` is the count that
TSU_EXT_MAP gets with it, for an accepted PPS edge. -/
structure Stamp where
  at_ : Nat
  ut : Nat
  fine : Nat := 0
  rising : Bool
  lost : Bool := false
  num : Nat
  pps : Option Nat := none
deriving DecidableEq, Repr

/-- One timestamp input: its queue, stamps in conversion, end of dead time, edges stamped, whether the next entry stored
carries its lost flag. -/
structure TsuIn where
  queue : List Stamp := []
  conv : List Stamp := []
  deadTo : Nat := 0
  num : Nat := 0
  lostNext : Bool := false
deriving DecidableEq, Repr

/-- The timestamp unit and UTIME (R369 to R384). UTIME reads `utBase + (now - utAt)` while it counts; `stopAt` is the tick of
the switch to BCLK. `gate` holds the stamps of the frequency gate that began at `gateAt`. The next PPS edge is due one
second after `ppsAt`. -/
structure Tsu where
  utRun : Bool := false
  utBase : Nat := 0
  utAt : Nat := 0
  stopAt : Nat := 0
  setPend : Bool := false
  ins : FMap TsuIn := []
  gateAt : Nat := 0
  gate : List Stamp := []
  ppsAt : Option Nat := none
  ppsRow : Nat := 0
  ppsMiss : Nat := 0
  ppsPresent : Bool := false
  ppsAcc : Nat := 0
  freqPresent : Bool := false
  freqBad : Nat := 0
deriving DecidableEq, Repr

/-! ## Coil -/

/-- A packet that the unit sends (R388, R390): port, class, destination, source, type, hops, sequence number, and the
payload where the unit itself makes it. -/
structure CoilPkt where
  port : Nat
  cls : Nat
  dst : Nat
  src : Nat
  typ : Nat
  hops : Nat := 0
  seq : Nat := 0
  payload : List (BitVec 128) := []
deriving DecidableEq, Repr

/-- The Coil block (R385 to R410). `topo` lists addresses from the root's port 1 to its port 0; `rootPort` is the port on
which the last TOKEN arrived; `enumPhase` is 0 outside enumeration, 1 while a TOKEN is out of port 1, 2 of port 0;
`align` is the state code of R398; `offs` and `holdOffs` are the filters of R397 and R398, oldest first, in fine LSB;
`nextSched` is a schedule that waits for its activation time; `sink` holds STREAM packets that wait for their ring;
`mgmt` the requests Greenware has not answered; `sent` what the unit sent, in order. -/
structure Coil where
  link : BitVec 2 := 0
  addr : Nat := 0
  addrNext : Nat := 0
  yielded : Bool := false
  ring : Bool := false
  topo : List Nat := []
  rootPort : Nat := 0
  enumAt : Nat := 0
  enumPhase : Nat := 0
  enumMask : BitVec 16 := 0
  enumList : List Nat := []
  enumSplit : Nat := 0
  retryAt : Option Nat := none
  align : Nat := 0
  lostReason : Nat := 0
  trim : Int := 0
  trimAt : Nat := 0
  offs : List Int := []
  stepPend : Nat := 0
  driftN : Nat := 0
  holdOffs : List Int := []
  syncAt : Nat := 0
  holdAt : Nat := 0
  periodAt : Nat := 0
  pktSeq : FMap Nat := []
  seen : List (Nat × Nat × Nat) := []
  lastRx : Option (BitVec 64) := none
  sched : List (BitVec 64) := []
  cycle : Nat := 0
  act : Nat := 0
  nextSched : Option (Nat × Nat × List (BitVec 64)) := none
  rxSeq : FMap (Option Nat) := []
  sink : FMap (List (List (BitVec 128))) := []
  mgmt : List (Nat × Nat) := []
  lastResp : Option (Nat × Nat × Nat) := none
  sent : List CoilPkt := []
  statusAt : Nat := 0
  nodeAt : FMap (Option Nat) := []
  epochReq : Bool := false
deriving DecidableEq, Repr

/-! ## Host interface -/

/-- A record ring in host memory (R416, R417): base, write-back address and pages latched at activation; records written
and pages returned since then; pages since the last page interrupt; when a write-back is due; whether an interrupt waits
for it; whether a record waits for room, and since when the ring has been full. -/
structure Ring where
  active : Bool := false
  base : Nat := 0
  wba : Nat := 0
  pages : Nat := 0
  written : Nat := 0
  returned : Nat := 0
  pageIrq : Nat := 0
  wbDue : Option Nat := none
  irqDue : Bool := false
  waiting : Bool := false
  fullAt : Option Nat := none
deriving DecidableEq, Repr

/-- One MSI-X vector (R426). -/
structure Vec where
  pend : Bool := false
  sent : Option Nat := none
  held : Bool := false
  masked : Bool := true
deriving DecidableEq, Repr

/-- What the unit posts to the host, in order (R418). -/
inductive Posted where
  | record (ring : Nat) (addr : Nat) (r : BitVec 128)
  | writeback (ring : Nat) (addr : Nat) (v : Word)
  | msix (v : Nat)
  | status (addr : Nat) (v : Word)
  | data (addr : Nat) (v : BitVec 512)
deriving DecidableEq, Repr

/-- The host interface (R411 to R433): rings 0 PT, 1 EV, 2 EX, 3 CE and 3 + a for HIF_RR_a; the event-ring buffer; what was
posted to the host; the copy engine, whose ring counts descriptors (`written`: consumed, `ceTail`: posted, `cePos`: the
position its last stop reached); the answer to the last BAR2 read and configuration request. -/
structure Hif where
  speed : Nat := 0
  width : Nat := 0
  busMaster : Bool := false
  msixEn : Bool := false
  rings : FMap Ring := []
  evBuf : List (BitVec 128) := []
  vecs : FMap Vec := []
  posted : List Posted := []
  ceTail : Nat := 0
  cePos : Nat := 0
  ceHalted : Bool := false
  bar2 : BitVec 512 := 0
  bar2Poison : Bool := false
  cfgRetry : Bool := true
deriving DecidableEq, Repr

/-! ## Thermal -/

/-- Thermal management (R434 to R445). Bit n - 1 of `inCone`: the die is in Cone n; `okRun` conversions within limits in a
row, up to 16; `brk` the limits met in the present break; ends of the grace and cool-down timers; `c3` from the entry to
Cone 3 to cool_done; `lvOld` the levels before a write in the cycle `lvAt`; `enfMs` parts of a millisecond counted. -/
structure Thermal where
  convAt : Nat := 0
  converted : Bool := false
  temp : Int := 0
  inCone : BitVec 3 := 0
  okRun : Nat := 16
  brk : BitVec 2 := 0
  graceAt : Option Nat := none
  coolAt : Option Nat := none
  enforced : Bool := false
  onSince : Nat := 0
  enfAt : Nat := 0
  enfMs : Nat := 0
  c3 : Bool := false
  cone3Live : Bool := true
  lvOld : List Nat := []
  lvAt : Nat := 0
deriving DecidableEq, Repr

/-! ## Sensor front end -/

/-- The housekeeping converter and loop output (R446 to R464). `st` is SFE_INFO.state; `cfg` the registers A to G latched
for the visit; `avg` the last response outputs; `outN` outputs of the visit, `wait` those still invalid; `startAt` the
start of the conversion in progress; `res`, `valid`, `bad` the entries' results, whether they are valid, whether the last
output was open, short or over; `prev` the results of the scan cycle before; `lastAt` the tick of an entry's last valid output. -/
structure Sfe where
  st : Nat := 0
  slot : Nat := 0
  cfg : List Nat := []
  avg : List Int := []
  outN : Nat := 0
  wait : Nat := 0
  startAt : Nat := 0
  tripped : Bool := false
  open_ : BitVec 16 := 0
  bad : BitVec 16 := 0
  valid : BitVec 16 := 0
  res : FMap Int := []
  prev : FMap (Option Int) := []
  count : FMap Nat := []
  injPend : Bool := false
  calPend : Bool := false
  calAt : Nat := 0
  resume : Option Nat := none
  lastAt : FMap Nat := []
  loopCmd : Nat := 0
  loopCur : Nat := 0
  loopHost : Bool := false
  loopFault : Bool := false
  loopBadAt : Option Nat := none
  loopOkAt : Option Nat := none
  loopSrcBad : Bool := false
  loopAt : Nat := 0
deriving DecidableEq, Repr

/-! ## Saggar and the persistent store -/

/-- A journal record (R475): type, sequence number, payload bytes. -/
structure JRec where
  typ : Nat
  seq : Nat
  payload : List Nat
deriving DecidableEq, Repr

/-- A valid checkpoint slot (R478): the sequence number it covers, the journal offset that goes on, the live records. -/
structure Ckpt where
  cov : Nat := 0
  off : Nat := 0
  recs : List JRec := []
deriving DecidableEq, Repr

/-- A burn of OTP fuses in progress (R470, R475). -/
inductive Burn where
  | counter (v : Nat) | revoke (k : Nat) | seal
deriving DecidableEq, Repr

/-- Saggar, the persistent store and OTP (R465 to R483). `upd` is SEC_INFO.upd_state; slots 0 EMPTY, 1 VALID, 2 INVALID;
`mram` the image slots by byte offset; `ring` the journal records since the base's offset, oldest first, `occupied`
their bytes, `jAt` when the last one was written and `torn` whether power loss tore it; `compacting` what a compaction covers; `attRep` the report
being signed. -/
structure Sec where
  permit : Bool := false
  booted : Nat := 0
  active : Nat := 0
  slot0 : Nat := 0
  slot1 : Nat := 0
  bootVer : Nat := 0
  bootKey : Nat := 0
  upd : Nat := 0
  updSlot : Nat := 0
  verifyReason : Nat := 0
  refuse : Nat := 0
  vProg : Progress := {}
  mram : FMap Byte := []
  ring : List JRec := []
  ckptA : Option Ckpt := some {}
  ckptB : Option Ckpt := some {}
  head : Nat := 0
  occupied : Nat := 0
  jseq : Nat := 1
  jAt : Nat := 0
  torn : Bool := false
  compacting : Option Ckpt := none
  jProg : Progress := {}
  attBusy : Bool := false
  attNext : Nat := 0
  attLimit : Nat := 0
  attDead : Bool := false
  attRep : List (BitVec 128) := []
  attOut : List (BitVec 128) := []
  attRead : Nat := 0
  otpCounter : Nat := 0
  revoked : BitVec 4 := 0
  sealed : Bool := false
  burn : Option Burn := none
  restarting : Bool := false
  tripped : BitVec 10 := 0
deriving DecidableEq, Repr

/-- Pins and identity that no block owns (R506, R523 to R527). `mfpTo` is the end of a pulse on an MFP output. -/
structure Pins where
  straps : BitVec 8 := 0
  inReset : Bool := false
  mfpTo : FMap Nat := []
  ven : BitVec 16 := 0
  step : BitVec 8 := 1
  grade : Bool := false
  unitId : BitVec 64 := 0
deriving DecidableEq, Repr

/-- The machine. `deferred` lists the updates that freezes hold back, oldest first; `recent` those of the present PCLK cycle,
by identifier and tick (R36); `rdata` answers the last read command. -/
structure State where
  now : Nat := 0
  regs : FMap (BitVec 16) := []
  locks : FMap Nat := []
  stat : FMap SReg := []
  wide : FMap (BitVec 128) := []
  deferred : List (Nat × WideUpd) := []
  recent : List (Nat × Nat × WideUpd) := []
  mbxS : Mailbox := {}
  mbxG : Mailbox := {}
  mbxH : Mailbox := {}
  lastWrites : List RegWr := []
  rdata : Word := 0
  crc : CrcEngine := {}
  timers : FMap Timer := []
  log : FaultLog := {}
  clk : Clock := {}
  mode : Modes := {}
  whl : Wheel := {}
  pix : Pixel := {}
  emt : Emission := {}
  str : Steering := {}
  lan : Lanes := {}
  cal : Calib := {}
  kln : FMap Kiln := []
  shf : Shelf := {}
  glz : FMap Glaze := []
  pq : PointQ := {}
  mem : Mem := {}
  cap : Capture := {}
  tsu : Tsu := {}
  coil : Coil := {}
  hif : Hif := {}
  thm : Thermal := {}
  sfe : Sfe := {}
  sec : Sec := {}
  pins : Pins := {}
  freeNext : Nat := 0
  pending : List Instr := []
deriving DecidableEq, Repr

/-- The machine right after reset: every field at its default above, which is the spec's reset value where it gives
one (log entries name the others); no command waits. -/
def State.reset : State := {}

end Sys2Proof.Machine
end

