-- ==== Sys2Proof/Machine/Bits.lean ====
section
/-! DEFINITION. Bit fields, signed values, byte packing, and the sparse maps of Word.lean: read and write with a
default. -/

namespace Sys2Proof.Machine

/-! ## Sparse maps -/

/-- The value at key `k`; an unlisted key reads as `d`. -/
def fget {α : Type} (d : α) : FMap α → Nat → α
  | [], _ => d
  | (a, v) :: m, k => if k = a then v else fget d m k

/-- Put `v` in front of the first larger key. -/
def fins {α : Type} : FMap α → Nat → α → FMap α
  | [], k, v => [(k, v)]
  | (a, w) :: m, k, v => if k < a then (k, v) :: (a, w) :: m else (a, w) :: fins m k v

/-- Write `v` at key `k`, keeping keys rising; writing the value an unlisted key reads as removes the entry. -/
def fset {α : Type} [DecidableEq α] (d : α) (m : FMap α) (k : Nat) (v : α) : FMap α :=
  let r := m.filter (fun x => decide (x.1 ≠ k))
  if v = d then r else fins r k v

/-- The map with value `f k` at each key below `n`, where `d k` is what an unlisted key reads as. -/
def fmk {α : Type} [DecidableEq α] (d : Nat → α) (n : Nat) (f : Nat → α) : FMap α :=
  (List.range n).filterMap (fun k => if f k = d k then none else some (k, f k))

/-- Apply `f` to every listed value. -/
def fmapAll {α : Type} [DecidableEq α] (d : α) (m : FMap α) (f : α → α) : FMap α :=
  m.filterMap (fun x => if f x.2 = d then none else some (x.1, f x.2))

/-- Apply `f` to the value at key `k`. -/
def fmod {α : Type} [DecidableEq α] (d : α) (m : FMap α) (k : Nat) (f : α → α) : FMap α :=
  fset d m k (f (fget d m k))

/-- The canonical form: keys strictly rising from `lo`, no entry equal to `d`. -/
def fwfFrom {α : Type} [DecidableEq α] (d : α) : Nat → FMap α → Bool
  | _, [] => true
  | lo, (a, v) :: m => decide (lo ≤ a) && decide (v ≠ d) && fwfFrom d (a + 1) m

/-- The canonical form of a sparse map. -/
def fwf {α : Type} [DecidableEq α] (d : α) (m : FMap α) : Bool := fwfFrom d 0 m

/-! ## Fields -/

/-- Bits [hi:lo] of a natural number. -/
def bitsOf (n hi lo : Nat) : Nat := (n >>> lo) % 2 ^ (hi + 1 - lo)

/-- Bit `i` of a natural number. -/
def bitOf (n i : Nat) : Bool := Nat.testBit n i

/-- 1 for true. -/
def b2n (b : Bool) : Nat := if b then 1 else 0

/-- The flag word with bit `i` set. -/
def flag16 (i : Nat) : BitVec 16 := BitVec.ofNat 16 (2 ^ i)

/-- A two's-complement reading of the low `w` bits of `n`. -/
def sgn (w n : Nat) : Int :=
  let m := n % 2 ^ w
  if m < 2 ^ (w - 1) then (m : Int) else (m : Int) - (2 ^ w : Nat)

/-- The low `w` bits of the two's-complement form of `v`. -/
def unsgn (w : Nat) (v : Int) : Nat := (v % (2 ^ w : Nat)).toNat

/-- `v` held between `lo` and `hi`. -/
def clampI (lo hi v : Int) : Int := max lo (min hi v)

/-- `v` held between `lo` and `hi`. -/
def clampN (lo hi v : Nat) : Nat := max lo (min hi v)

/-- Round half away from zero of `a / b` for `b > 0`. -/
def roundDiv (a : Int) (b : Int) : Int :=
  if 0 ≤ a then (2 * a + b) / (2 * b) else -((2 * (-a) + b) / (2 * b))

/-- Division towards minus infinity by a positive divisor. -/
def floorDiv (a b : Int) : Int := Int.fdiv a b

/-- Put `v` at bits [lo+len-1:lo] of `w`. -/
def putBits (w lo len v : Nat) : Nat :=
  w - bitsOf w (lo + len - 1) lo * 2 ^ lo + (v % 2 ^ len) * 2 ^ lo

/-- Word `i` (32 bits) of a wide value. -/
def wordOf (v : BitVec 128) (i : Nat) : Nat := bitsOf v.toNat (32 * i + 31) (32 * i)

/-- A wide value from up to four words, least significant first. -/
def ofWords (w0 w1 w2 w3 : Nat) : BitVec 128 :=
  BitVec.ofNat 128 (w0 % 2 ^ 32 + (w1 % 2 ^ 32) * 2 ^ 32 + (w2 % 2 ^ 32) * 2 ^ 64 + (w3 % 2 ^ 32) * 2 ^ 96)

/-- Fields packed from bit 0 up: (width, value) each. -/
def packFields : List (Nat × Nat) → Nat
  | [] => 0
  | (w, v) :: r => v % 2 ^ w + packFields r * 2 ^ w

/-- Little-endian bytes of a list as one number. -/
def bytesToNat : List Nat → Nat
  | [] => 0
  | b :: r => b % 256 + 256 * bytesToNat r

/-- The low `n` bytes of `v`, least significant first. -/
def natToBytes : Nat → Nat → List Nat
  | 0, _ => []
  | n + 1, v => v % 256 :: natToBytes n (v / 256)

/-- How many bits of the low `n` are set. -/
def popCount : Nat → Nat → Nat
  | 0, _ => 0
  | n + 1, v => b2n (bitOf v n) + popCount n v

/-- The lowest set bit below `n`, or none. -/
def lowestBit (n v : Nat) : Option Nat := (List.range n).find? (fun i => bitOf v i)

/-- Fold a state change over the numbers below `n`, ascending. -/
def forN {σ : Type} (n : Nat) (s : σ) (f : σ → Nat → σ) : σ := (List.range n).foldl f s

/-- ⌊√n⌋ of a number below 2^(2k) (digit by digit, `k` bits). -/
def isqrtBits : Nat → Nat → Nat → Nat
  | 0, _, r => r
  | k + 1, n, r => isqrtBits k n (if (r + 2 ^ k) * (r + 2 ^ k) ≤ n then r + 2 ^ k else r)

/-- ⌊√n⌋ for n below 2^64. -/
def isqrt (n : Nat) : Nat := isqrtBits 32 n 0

end Sys2Proof.Machine
end

