-- ==== Sys2Proof/Machine/RegMap.lean ====
section
/-! DEFINITION. The register map of 23_register_map.md: offsets by name, and one row per register family with its type,
implemented bits, reset value, configuration-CRC membership and path rule (R24 to R32, R503 to R514). -/

namespace Sys2Proof.Machine

/-- The register types (R7). -/
inductive RType where
  | c | s | l | m | v | x
deriving DecidableEq, Repr

/-- Which paths a register accepts writes from: every path, Saggar only, or Saggar and host (the Cone levels, R465). -/
inductive PathRule where
  | any | saggar | cone
deriving DecidableEq, Repr

/-- A family of registers at base + s1·i + st·j (i < n1, j < n). `mask` is the implemented bits of [15:0]; `crc` is 0
for no CRC, 1 for the configuration CRC (R514), 2 for the field CRC (R364). -/
structure Row where
  base : Nat
  n1 : Nat
  s1 : Nat
  n : Nat
  st : Nat
  typ : RType
  mask : Nat
  reset : Nat
  crc : Nat
  path : PathRule
deriving DecidableEq, Repr

/-- Does the row hold a register at this word offset? -/
def Row.has (r : Row) (off : Nat) : Bool :=
  if r.base ≤ off then
    let d := off - r.base
    if r.n1 = 1 then decide (d % r.st = 0) && decide (d / r.st < r.n)
    else decide (d / r.s1 < r.n1) && decide (d % r.s1 % r.st = 0) && decide (d % r.s1 / r.st < r.n)
  else false

/-- The word offsets of a row, ascending within the row. -/
def Row.offs (r : Row) : List Nat :=
  (List.range r.n1).flatMap (fun i => (List.range r.n).map (fun j => r.base + r.s1 * i + r.st * j))

/-- One register, or `n` at a stride. -/
def row (typ : RType) (base mask reset crc : Nat) (n : Nat := 1) (st : Nat := 4) (path : PathRule := .any) : Row :=
  { base, n1 := 1, s1 := 0, n, st, typ, mask, reset, crc, path }

/-- `n1` groups of `n` registers. -/
def row2 (typ : RType) (base mask reset crc n1 s1 n st : Nat) : Row :=
  { base, n1, s1, n, st, typ, mask, reset, crc, path := .any }

/-! ## Offsets -/

def Reg.GLB_ID_DEV : Nat := 0x0000000
def Reg.GLB_ID_VEN : Nat := 0x0000004
def Reg.GLB_ID_STEP : Nat := 0x0000008
def Reg.GLB_STRAPS : Nat := 0x000000C
def Reg.GLB_MODE_TARGET : Nat := 0x0000040
def Reg.GLB_MODE_ACTIVE : Nat := 0x0000044
def Reg.GLB_MODE_STAT : Nat := 0x0000048
def Reg.GLB_MODE_CMD : Nat := 0x000004C
def Reg.GLB_BOOT_INFO : Nat := 0x0000050
def Reg.GLB_BOOT_PROG : Nat := 0x0000054
def Reg.GLB_SAFE_CAUSE : Nat := 0x0000058
def Reg.GLB_SAFE_LIVE : Nat := 0x000005C
def Reg.GLB_MBX_SEL : Nat := 0x0000100
def Reg.GLB_MBX_CMD : Nat := 0x0000104
def Reg.GLB_MBX_VALID : Nat := 0x0000108
def Reg.GLB_MBX_D : Nat := 0x0000110
def Reg.GLB_CRC_CTL : Nat := 0x0000140
def Reg.GLB_CRC_CMD : Nat := 0x0000144
def Reg.GLB_CRC_STAT : Nat := 0x0000148
def Reg.GLB_CRC_INFO : Nat := 0x000014C
def Reg.GLB_REG_STAT : Nat := 0x0000180
def Reg.GLB_PINMUX : Nat := 0x0000200
def Reg.GLB_TIMMUX : Nat := 0x0000220
def Reg.GLB_TIM_CTL : Nat := 0x0000240
def Reg.CLK_REF_CTL : Nat := 0x0100000
def Reg.CLK_HOLD_CTL : Nat := 0x0100004
def Reg.CLK_CMD : Nat := 0x0100008
def Reg.CLK_STAT : Nat := 0x010000C
def Reg.CLK_INFO : Nat := 0x0100010
def Reg.CLK_OUT_CTL : Nat := 0x0100020
def Reg.CLK_OUT_DLY : Nat := 0x0100040
def Reg.WHL_CTL : Nat := 0x0200000
def Reg.WHL_PERIOD : Nat := 0x0200004
def Reg.WHL_CMD : Nat := 0x0200008
def Reg.WHL_STAT : Nat := 0x020000C
def Reg.WHL_INFO : Nat := 0x0200010
def Reg.WHL_PC : Nat := 0x0200014
def Reg.WHL_HOSTEV : Nat := 0x0200018
def Reg.EMT_CTL : Nat := 0x0300000
def Reg.EMT_ENABLE : Nat := 0x0300004
def Reg.EMT_MON_CTL : Nat := 0x030000C
def Reg.EMT_MON_OPEN : Nat := 0x0300010
def Reg.EMT_MON_OVER : Nat := 0x0300014
def Reg.EMT_MON_SHORT : Nat := 0x0300018
def Reg.EMT_SENSE_GAIN : Nat := 0x030001C
def Reg.EMT_MON_TRIG : Nat := 0x0300020
def Reg.EMT_NSR_CTL : Nat := 0x0300024
def Reg.EMT_NSR_LO : Nat := 0x0300028
def Reg.EMT_CMD : Nat := 0x030002C
def Reg.EMT_STAT : Nat := 0x0300030
def Reg.EMT_INFO : Nat := 0x0300034
def Reg.EMT_FAIL : Nat := 0x0300038
def Reg.EMT_UNVER : Nat := 0x0300040
def Reg.EMT_EBM_LOCK : Nat := 0x0300050
def Reg.EMT_BOARD_MAP : Nat := 0x0300060
def Reg.EMT_BOARD_SFE : Nat := 0x0300080
def Reg.EMT_PROF_WIDTH : Nat := 0x0300100
def Reg.EMT_PROOF_CODE : Nat := 0x0300120
def Reg.EMT_CODE_A : Nat := 0x0300200
def Reg.EMT_CODE_B : Nat := 0x0300204
def Reg.EMT_PROF_CODE : Nat := 0x0301000
def Reg.STR_CTL : Nat := 0x0400000
def Reg.STR_CMD : Nat := 0x0400004
def Reg.STR_STAT : Nat := 0x0400008
def Reg.STR_INFO : Nat := 0x040000C
def Reg.STR_AX1_SP : Nat := 0x0400010
def Reg.STR_AX1_SP_APPLIED : Nat := 0x0400014
def Reg.STR_AX1_POS : Nat := 0x0400018
def Reg.STR_AX0_CPR : Nat := 0x0400040
def Reg.STR_AX0_GEOM : Nat := 0x0400044
def Reg.STR_AX0_OFS : Nat := 0x0400048
def Reg.STR_AX0_LIM : Nat := 0x040004C
def Reg.STR_AX0_LOCK : Nat := 0x0400050
def Reg.STR_AX0_TMO : Nat := 0x0400054
def Reg.STR_AX1_MIN : Nat := 0x0400080
def Reg.STR_AX1_MAX : Nat := 0x0400084
def Reg.STR_AX1_ERR : Nat := 0x0400088
def Reg.STR_AX1_SETTLE : Nat := 0x040008C
def Reg.STR_LAW_0_SHIFT : Nat := 0x04000C0
def Reg.STR_LAW_1_SHIFT : Nat := 0x04000E0
def Reg.STR_LAW_KI : Nat := 0x04000C4
def Reg.STR_LAW_KD : Nat := 0x04000C8
def Reg.STR_LAW_ILIM : Nat := 0x04000CC
def Reg.STR_LAW_ULIM : Nat := 0x04000D0
def Reg.STR_TRC_SEL : Nat := 0x0400100
def Reg.STR_TRC_CTL : Nat := 0x0400104
def Reg.STR_TRC_POST : Nat := 0x0400108
def Reg.STR_TRC_LVL : Nat := 0x040010C
def Reg.STR_TRC_INFO : Nat := 0x0400110
def Reg.LAN_CTL : Nat := 0x0500000
def Reg.LAN_TRK : Nat := 0x0500004
def Reg.LAN_TRK_STEP : Nat := 0x0500008
def Reg.LAN_BLANK : Nat := 0x050000C
def Reg.LAN_RATE : Nat := 0x0500010
def Reg.LAN_STAT : Nat := 0x0500014
def Reg.LAN_INFO : Nat := 0x0500018
def Reg.LAN_REF_CTL : Nat := 0x0500020
def Reg.LAN_THR : Nat := 0x0500100
def Reg.LAN_BND : Nat := 0x0500200
def Reg.LAN_APPL : Nat := 0x0500300
def Reg.CAL_CTL : Nat := 0x0600000
def Reg.CAL_DT : Nat := 0x0600004
def Reg.CAL_SPREAD : Nat := 0x0600008
def Reg.CAL_HITS : Nat := 0x060000C
def Reg.CAL_WIN : Nat := 0x0600010
def Reg.CAL_LIM_DNL : Nat := 0x0600014
def Reg.CAL_LIM_MOVE : Nat := 0x0600018
def Reg.CAL_TRIM : Nat := 0x060001C
def Reg.CAL_RUN_MASK : Nat := 0x0600020
def Reg.CAL_CMD : Nat := 0x0600024
def Reg.CAL_STAT : Nat := 0x0600028
def Reg.CAL_INFO : Nat := 0x060002C
def Reg.CAL_PROG : Nat := 0x06000F0
def Reg.CAL_LANE : Nat := 0x0600400
def Reg.KLN_ZOOM_CTL : Nat := 0x0700000
def Reg.KLN_CAP_CTL : Nat := 0x0700004
def Reg.KLN_SAT : Nat := 0x0700008
def Reg.KLN_STAT : Nat := 0x070000C
def Reg.KLN_INFO : Nat := 0x0700010
def Reg.SHF_CTL : Nat := 0x0800000
def Reg.SHF_CELLS : Nat := 0x0800004
def Reg.SHF_CMD : Nat := 0x0800008
def Reg.SHF_STAT : Nat := 0x080000C
def Reg.SHF_INFO : Nat := 0x0800010
def Reg.SHF_CELLS_APPLIED : Nat := 0x0800014
def Reg.GLZ_CTL : Nat := 0x0900000
def Reg.GLZ_CODE_SET : Nat := 0x0900004
def Reg.GLZ_DET : Nat := 0x0900008
def Reg.GLZ_ZDET : Nat := 0x090000C
def Reg.GLZ_COINC : Nat := 0x0900010
def Reg.GLZ_STAT : Nat := 0x0900014
def Reg.GLZ_INFO : Nat := 0x0900018
def Reg.GLZ_NAIR : Nat := 0x0980000
def Reg.GLZ_PQ_CTL : Nat := 0x0980004
def Reg.GLZ_PQ_STAT : Nat := 0x0980008
def Reg.GLZ_PQ_INFO : Nat := 0x098000C
def Reg.MEM_CTL : Nat := 0x0A00000
def Reg.MEM_SCRUB : Nat := 0x0A00004
def Reg.MEM_STARVE : Nat := 0x0A00008
def Reg.MEM_CMD : Nat := 0x0A0000C
def Reg.MEM_STAT : Nat := 0x0A00010
def Reg.MEM_INFO : Nat := 0x0A00014
def Reg.MEM_RGN_SIZE : Nat := 0x0A00040
def Reg.MEM_PRIO : Nat := 0x0A00020
def Reg.MEM_RGN_RD : Nat := 0x0A00060
def Reg.MEM_RGN_WR : Nat := 0x0A00080
def Reg.MEM_TRAIN_PROG : Nat := 0x0A000F0
def Reg.MEM_TEST_PROG : Nat := 0x0A000F4
def Reg.MEM_RGN_PROG : Nat := 0x0A000F8
def Reg.CAP_CTL : Nat := 0x0B00000
def Reg.CAP_TRIG_EN : Nat := 0x0B00004
def Reg.CAP_TRIG_FAULT : Nat := 0x0B00008
def Reg.CAP_HOLDOFF : Nat := 0x0B0000C
def Reg.CAP_REC_PRE : Nat := 0x0B00010
def Reg.CAP_REC_POST : Nat := 0x0B00014
def Reg.CAP_WAVE_PRE : Nat := 0x0B00018
def Reg.CAP_WAVE_POST : Nat := 0x0B0001C
def Reg.CAP_STAT_CMP : Nat := 0x0B00020
def Reg.CAP_CMD : Nat := 0x0B00028
def Reg.CAP_STAT : Nat := 0x0B0002C
def Reg.CAP_INFO : Nat := 0x0B00030
def Reg.CAP_VIOL : Nat := 0x0B00034
def Reg.CAP_EXPORT_CTL : Nat := 0x0B00040
def Reg.CAP_GUARD_CTL : Nat := 0x0B00050
def Reg.CAP_GUARD_RST : Nat := 0x0B00054
def Reg.CAP_GUARD_TMO : Nat := 0x0B00058
def Reg.CAP_FSET : Nat := 0x0B00060
def Reg.CAP_FSET_SEL : Nat := 0x0B00070
def Reg.CAP_FIELD_CTL : Nat := 0x0B00080
def Reg.CAP_EXPORT_PROG : Nat := 0x0B000F0
def Reg.TSU_EXT_CTL : Nat := 0x0C00000
def Reg.TSU_PPS_WIN : Nat := 0x0C00004
def Reg.TSU_FREQ_SEL : Nat := 0x0C00008
def Reg.TSU_FREQ_GATE : Nat := 0x0C0000C
def Reg.TSU_FLUSH : Nat := 0x0C00014
def Reg.TSU_STAT : Nat := 0x0C00018
def Reg.TSU_INFO : Nat := 0x0C0001C
def Reg.TSU_IN_CTL : Nat := 0x0C00100
def Reg.TSU_QLVL : Nat := 0x0C00140
def Reg.COIL_CTL : Nat := 0x0D00000
def Reg.COIL_SINK : Nat := 0x0D00004
def Reg.COIL_HOLD : Nat := 0x0D00008
def Reg.COIL_ASYM : Nat := 0x0D0000C
def Reg.COIL_CMD : Nat := 0x0D00014
def Reg.COIL_STAT : Nat := 0x0D00018
def Reg.COIL_INFO : Nat := 0x0D0001C
def Reg.COIL_TRIM : Nat := 0x0D00020
def Reg.HIF_CMD : Nat := 0x0E00000
def Reg.HIF_STAT : Nat := 0x0E00004
def Reg.HIF_INFO : Nat := 0x0E00008
def Reg.HIF_IRQ_HOLD : Nat := 0x0E0000C
def Reg.HIF_IRQ_EN : Nat := 0x0E00010
def Reg.HIF_PT_CTL : Nat := 0x0E00100
def Reg.HIF_EV_CTL : Nat := 0x0E00120
def Reg.HIF_RR_CTL : Nat := 0x0E00200
def Reg.HIF_SIZE : Nat := 0x0E00104
def Reg.HIF_RD : Nat := 0x0E00108
def Reg.HIF_WR : Nat := 0x0E0010C
def Reg.HIF_RR_SIZE : Nat := 0x0E00204
def Reg.HIF_RR_RD : Nat := 0x0E00208
def Reg.HIF_RR_WR : Nat := 0x0E0020C
def Reg.HIF_PT_STALL : Nat := 0x0E00110
def Reg.THM_CONE12 : Nat := 0x0F00000
def Reg.THM_CONE3 : Nat := 0x0F00004
def Reg.THM_HYST : Nat := 0x0F00008
def Reg.THM_GRACE : Nat := 0x0F0000C
def Reg.THM_COOL : Nat := 0x0F00010
def Reg.THM_STAT : Nat := 0x0F00014
def Reg.THM_INFO : Nat := 0x0F00018
def Reg.THM_TEMP : Nat := 0x0F0001C
def Reg.SFE_CTL : Nat := 0x1000000
def Reg.SFE_IEXC : Nat := 0x1000004
def Reg.SFE_INJ_CTL : Nat := 0x1000008
def Reg.SFE_CMD : Nat := 0x100000C
def Reg.SFE_STAT : Nat := 0x1000010
def Reg.SFE_INFO : Nat := 0x1000014
def Reg.SFE_OPEN : Nat := 0x1000018
def Reg.SFE_LOOP_CTL : Nat := 0x1000020
def Reg.SFE_LOOP_LO : Nat := 0x1000024
def Reg.SFE_LOOP_HI : Nat := 0x1000028
def Reg.SFE_LOOP_HOST : Nat := 0x100002C
def Reg.SFE_LOOP_CUR : Nat := 0x1000030
def Reg.SFE_LOOP_APPLIED : Nat := 0x1000034
def Reg.SFE_CH_A : Nat := 0x1000100
def Reg.SFE_CH_B : Nat := 0x1000104
def Reg.SFE_CH_C : Nat := 0x1000108
def Reg.SFE_CH_D : Nat := 0x100010C
def Reg.SFE_CH_E : Nat := 0x1000110
def Reg.SFE_CH_F : Nat := 0x1000114
def Reg.SFE_CH_G : Nat := 0x1000118
def Reg.SEC_CMD : Nat := 0x1100000
def Reg.SEC_ARG : Nat := 0x1100004
def Reg.SEC_STAT : Nat := 0x1100008
def Reg.SEC_INFO : Nat := 0x110000C
def Reg.SEC_VERIFY_PROG : Nat := 0x11000F0
def Reg.SEC_JRNL_PROG : Nat := 0x11000F4
def Reg.FLT_CTL : Nat := 0x1200000
def Reg.FLT_CMD : Nat := 0x1200004
def Reg.FLT_STAT : Nat := 0x1200008
def Reg.FLT_INFO : Nat := 0x120000C
def Reg.GLZ_AMB_OFF : Nat := 0x2000000
def Reg.GLZ_AMB_TRIM : Nat := 0x2000080
def Reg.GLZ_AMB_SMOOTH : Nat := 0x2000084
def Reg.GLZ_WX_L : Nat := 0x2001000
def Reg.GLZ_WX_STEP : Nat := 0x2001100
def Reg.GLZ_WX_WMIN : Nat := 0x2001104
def Reg.GLZ_OFS : Nat := 0x2002000
def Reg.EMT_DERATE : Nat := 0x2200000
def Reg.STR_COG : Nat := 0x2300000
def Reg.STR_FRIC : Nat := 0x2304000
def Reg.STR_GAIN : Nat := 0x2305000
def Reg.STR_TRACE : Nat := 0x2310000
def Reg.CAL_TABLE : Nat := 0x2400000
def Reg.CAL_HIST : Nat := 0x2600000
def Reg.SHF_KV : Nat := 0x2800000
def Reg.SHF_KW : Nat := 0x2800004
def Reg.MEM_RGN_TABLE : Nat := 0x2A00000
def Reg.CAP_FMIN : Nat := 0x2C00000
def Reg.CAP_FMAX : Nat := 0x2D00000
def Reg.SFE_TABLE : Nat := 0x2E00000

/-! ## Rows, block by block (R505 to R513) -/

/-- The GLB registers. -/
def glbRows : List Row := [
  row .v 0x0000000 0x0 0x0 0,
  row .v 0x0000004 0x0 0x0 0,
  row .v 0x0000008 0x0 0x0 0,
  row .v 0x000000C 0x0 0x0 0,
  row .c 0x0000040 0x7 0x3 0,
  row .v 0x0000044 0x0 0x0 0,
  row .s 0x0000048 0x3FF 0x0 0,
  row .x 0x000004C 0x3 0x0 0,
  row .v 0x0000050 0x0 0x0 0,
  row .v 0x0000054 0x0 0x0 0,
  row .s 0x0000058 0xFF 0x0 0,
  row .v 0x000005C 0x0 0x0 0,
  row .c 0x0000100 0xFFFF 0x0 0,
  row .x 0x0000104 0x7 0x0 0,
  row .v 0x0000108 0x0 0x0 0,
  row .m 0x0000110 0x0 0x0 0 4 0x4,
  row .c 0x0000140 0x1 0x1 0,
  row .x 0x0000144 0x1 0x0 0,
  row .s 0x0000148 0x3 0x0 0,
  row .v 0x000014C 0x0 0x0 0,
  row .s 0x0000180 0x1F 0x0 0,
  row .l 0x0000200 0xFFFF 0x0 1 8 0x4,
  row .l 0x0000220 0xFFFF 0x0 1 2 0x4,
  row .c 0x0000240 0x1F 0x0 0 8 0x4]

/-- The CLK registers. -/
def clkRows : List Row := [
  row .c 0x0100000 0x7FF 0x566 1,
  row .c 0x0100004 0xFFFF 0x32 1,
  row .x 0x0100008 0x7 0x0 0,
  row .s 0x010000C 0x1FF 0x0 0,
  row .v 0x0100010 0x0 0x0 0,
  row .c 0x0100020 0xFFF 0x0 1 8 0x4,
  row .c 0x0100040 0x3FF 0x0 1 8 0x4]

/-- The WHL registers. -/
def whlRows : List Row := [
  row .c 0x0200000 0x1 0x1 1,
  row .c 0x0200004 0xFFFF 0x2710 1,
  row .x 0x0200008 0x1F 0x0 0,
  row .s 0x020000C 0x3F 0x0 0,
  row .v 0x0200010 0x0 0x0 0,
  row .v 0x0200014 0x0 0x0 0,
  row .x 0x0200018 0xFF 0x0 0]

/-- The EMT registers. -/
def emtRows : List Row := [
  row .c 0x0300000 0x3FFF 0x2180 1,
  row .c 0x0300004 0xFFFF 0x0 1 2 0x4,
  row .c 0x030000C 0xFF 0x40 1,
  row .c 0x0300010 0xFF 0x40 1,
  row .c 0x0300014 0x1FF 0x140 1,
  row .c 0x0300018 0x3FF 0x20 1,
  row .c 0x030001C 0xFFFF 0x100 1,
  row .c 0x0300020 0x3FF 0x3FF 1,
  row .c 0x0300024 0xFFF 0x420 1,
  row .c 0x0300028 0xFF 0x8 1,
  row .x 0x030002C 0x7 0x0 0,
  row .s 0x0300030 0xFFF 0x0 0,
  row .v 0x0300034 0x0 0x0 0,
  row .v 0x0300038 0x0 0x0 0 2 0x4,
  row .v 0x0300040 0x0 0x0 0 2 0x4,
  row .l 0x0300050 0x1 0x0 1 (path := .saggar),
  row .c 0x0300060 0x7777 0x0 1 8 0x4,
  row .c 0x0300080 0x1F 0x0 1 8 0x4,
  row .c 0x0300100 0x7F 0x20 1 8 0x4,
  row .c 0x0300120 0xFFF 0x100 1,
  row .c 0x0300200 0x7 0x1 1 16 0x10,
  row2 .c 0x0300204 0x1FF 0x0 1 16 0x10 3 0x4,
  row .c 0x0301000 0xFFF 0x0 1 256 0x4]

/-- The STR registers. -/
def strRows : List Row := [
  row .c 0x0400000 0x3 0x0 1,
  row .x 0x0400004 0x3F 0x0 0,
  row .s 0x0400008 0xFF 0x0 0,
  row .v 0x040000C 0x0 0x0 0,
  row .c 0x0400010 0xFFFF 0x0 0,
  row .v 0x0400014 0x0 0x0 0,
  row .v 0x0400018 0x0 0x0 0,
  row .c 0x0400040 0xFFFF 0x1000 1,
  row .c 0x0400044 0xF 0x8 1,
  row .c 0x0400048 0xFFFF 0x0 1,
  row .c 0x040004C 0xFFFF 0xD0D 1,
  row .c 0x0400050 0xFFFF 0x6403 1,
  row .c 0x0400054 0xFF3F 0x6408 1,
  row .c 0x0400080 0xFFFF 0xC180 1,
  row .c 0x0400084 0xFFFF 0x3E80 1,
  row .c 0x0400088 0xFFFF 0x40 1,
  row .c 0x040008C 0x3FF 0xC8 1,
  row .c 0x04000C0 0xF 0x6 1,
  row .c 0x04000C4 0xFFFF 0x0 1 2 0x20,
  row .c 0x04000C8 0xFFFF 0x0 1 2 0x20,
  row .c 0x04000CC 0xFFFF 0x2000 1 2 0x20,
  row .c 0x04000D0 0xFFFF 0x7FFF 1 2 0x20,
  row .c 0x04000E0 0xF 0x2 1,
  row .c 0x0400100 0xFFFF 0x8210 1 2 0x20,
  row .c 0x0400104 0xFFFF 0x80 1 2 0x20,
  row .c 0x0400108 0x3FFF 0x1000 1 2 0x20,
  row .c 0x040010C 0xFFFF 0x100 1 2 0x20,
  row .v 0x0400110 0x0 0x0 0 2 0x20]

/-- The LAN registers. -/
def lanRows : List Row := [
  row .c 0x0500000 0x3 0x0 1 8 0x10000,
  row .c 0x0500004 0xFFFF 0x1450 1 8 0x10000,
  row .c 0x0500008 0xF 0x4 1 8 0x10000,
  row .c 0x050000C 0xFF 0x0 1 8 0x10000,
  row .c 0x0500010 0x1FFF 0x1020 1 8 0x10000,
  row .s 0x0500014 0x7F 0x0 0 8 0x10000,
  row .v 0x0500018 0x0 0x0 0 8 0x10000,
  row2 .c 0x0500020 0x3FF 0x200 1 8 0x10000 4 0x4,
  row2 .c 0x0500100 0xFFF 0x80 1 8 0x10000 64 0x4,
  row2 .c 0x0500200 0xFFFF 0xFF00 1 8 0x10000 64 0x4,
  row2 .v 0x0500300 0x0 0x0 0 8 0x10000 64 0x4]

/-- The CAL registers. -/
def calRows : List Row := [
  row .c 0x0600000 0xFFF 0x8D 1,
  row .c 0x0600004 0x3FF 0x20 1,
  row .c 0x0600008 0x3FF 0x10 1,
  row .c 0x060000C 0xFF 0x10 1,
  row .c 0x0600010 0xFF 0x1E 1,
  row .c 0x0600014 0xFFFF 0x1040 1,
  row .c 0x0600018 0xFFF 0x410 1,
  row .c 0x060001C 0xFF 0x20 1,
  row .c 0x0600020 0xFF 0xFF 1,
  row .x 0x0600024 0x3 0x0 0,
  row .s 0x0600028 0x3F 0x0 0,
  row .v 0x060002C 0x0 0x0 0,
  row .v 0x06000F0 0x0 0x0 0,
  row .v 0x0600400 0x0 0x0 0 512 0x4]

/-- The KLN registers. -/
def klnRows : List Row := [
  row .c 0x0700000 0x3 0x1 1 8 0x10000,
  row .c 0x0700004 0x1FF 0x2 1 8 0x10000,
  row .c 0x0700008 0x3FF 0x0 1 8 0x10000,
  row .s 0x070000C 0xFF 0x0 0 8 0x10000,
  row .v 0x0700010 0x0 0x0 0 8 0x10000]

/-- The SHF registers. -/
def shfRows : List Row := [
  row .c 0x0800000 0x7F 0x69 1,
  row .c 0x0800004 0x3FFF 0x2000 1,
  row .x 0x0800008 0x1 0x0 0,
  row .s 0x080000C 0x1F 0x0 0,
  row .v 0x0800010 0x0 0x0 0,
  row .v 0x0800014 0x0 0x0 0]

/-- The GLZ registers. -/
def glzRows : List Row := [
  row .c 0x0900000 0x3FF 0x8 1 8 0x10000,
  row .c 0x0900004 0xFFFF 0xFFFF 1 8 0x10000,
  row .c 0x0900008 0xFFFF 0x3004 1 8 0x10000,
  row .c 0x090000C 0xFFFF 0x280B 1 8 0x10000,
  row .c 0x0900010 0xFFF 0x280 1 8 0x10000,
  row .s 0x0900014 0x7F 0x0 0 8 0x10000,
  row .v 0x0900018 0x0 0x0 0 8 0x10000,
  row .c 0x0980000 0xFFFF 0x0 1,
  row .c 0x0980004 0x7 0x1 1,
  row .s 0x0980008 0x3F 0x0 0,
  row .v 0x098000C 0x0 0x0 0]

/-- The MEM registers. -/
def memRows : List Row := [
  row .c 0x0A00000 0x7F 0x41 1,
  row .c 0x0A00004 0xFF 0x18 1,
  row .c 0x0A00008 0xFFFF 0x3E8 0,
  row .x 0x0A0000C 0x3 0x0 0,
  row .s 0x0A00010 0xFF 0x0 0,
  row .v 0x0A00014 0x0 0x0 0,
  row .c 0x0A00020 0xF 0xC 0,
  row .c 0x0A00024 0xF 0xB 0,
  row .c 0x0A00028 0xF 0x6 0,
  row .c 0x0A0002C 0xF 0xA 0,
  row .c 0x0A00030 0xF 0x9 0,
  row .c 0x0A00034 0xF 0x4 0,
  row .c 0x0A00038 0xF 0x8 0,
  row .c 0x0A0003C 0xF 0xE 0,
  row .c 0x0A00040 0xFFFF 0x10 1 (path := .saggar),
  row .c 0x0A00044 0xFFFF 0x200 1 (path := .saggar),
  row .c 0x0A00048 0xFFFF 0x40 1 (path := .saggar),
  row .c 0x0A0004C 0xFFFF 0x500 1 (path := .saggar),
  row .c 0x0A00050 0xFFFF 0xC00 1 (path := .saggar),
  row .c 0x0A00054 0xFFFF 0x20 1 (path := .saggar),
  row .c 0x0A00060 0x3FF 0x2C0 1 (path := .saggar),
  row .c 0x0A00064 0x3FF 0x2C0 1 (path := .saggar),
  row .c 0x0A00068 0x3FF 0x270 1 (path := .saggar),
  row .c 0x0A0006C 0x3FF 0x261 1 (path := .saggar),
  row .c 0x0A00070 0x3FF 0x270 1 (path := .saggar),
  row .c 0x0A00074 0x3FF 0x270 1 (path := .saggar),
  row .c 0x0A00078 0x3FF 0x270 1 (path := .saggar),
  row .c 0x0A00080 0x3FF 0x280 1 (path := .saggar),
  row .c 0x0A00084 0x3FF 0x2C0 1 (path := .saggar),
  row .c 0x0A00088 0x3FF 0x270 1 (path := .saggar),
  row .c 0x0A0008C 0x3FF 0x202 1 (path := .saggar),
  row .c 0x0A00090 0x3FF 0x204 1 (path := .saggar),
  row .c 0x0A00094 0x3FF 0x300 1 (path := .saggar),
  row .c 0x0A00098 0x3FF 0x208 1 (path := .saggar),
  row .v 0x0A000F0 0x0 0x0 0,
  row .v 0x0A000F4 0x0 0x0 0,
  row .v 0x0A000F8 0x0 0x0 0]

/-- The CAP registers. -/
def capRows : List Row := [
  row .c 0x0B00000 0x1F 0xA 1,
  row .c 0x0B00004 0x3F 0x23 1,
  row .c 0x0B00008 0x1F 0x18 1,
  row .c 0x0B0000C 0xFFFF 0x3E8 0,
  row .c 0x0B00010 0xFFFF 0xD6D8 0,
  row .c 0x0B00014 0xFFFF 0x1388 0,
  row .c 0x0B00018 0xFFFF 0x28 0,
  row .c 0x0B0001C 0xFFFF 0xA 0,
  row .c 0x0B00020 0xF 0x0 0 2 0x4,
  row .x 0x0B00028 0x1F 0x0 0,
  row .s 0x0B0002C 0x7FFF 0x0 0,
  row .v 0x0B00030 0x0 0x0 0,
  row .v 0x0B00034 0x0 0x0 0,
  row .c 0x0B00040 0xFFFF 0x1 0,
  row .c 0x0B00050 0x3 0x0 1 (path := .saggar),
  row .c 0x0B00054 0xFFFF 0x1F4 1 (path := .saggar),
  row .c 0x0B00058 0x1FFF 0x3E8 1 (path := .saggar),
  row .c 0x0B00060 0xFFFF 0x0 1 4 0x4,
  row .c 0x0B00070 0x3 0x0 0,
  row .c 0x0B00080 0x3FFF 0x1000 1 16 0x4,
  row .v 0x0B000F0 0x0 0x0 0]

/-- The TSU registers. -/
def tsuRows : List Row := [
  row .c 0x0C00000 0x7F 0x18 1,
  row .c 0x0C00004 0x3FF 0x64 1,
  row .c 0x0C00008 0x1F 0x2 1,
  row .c 0x0C0000C 0x3FFF 0x3E8 1,
  row .x 0x0C00014 0xFFFF 0x0 0,
  row .s 0x0C00018 0x7FF 0x0 0,
  row .v 0x0C0001C 0x0 0x0 0,
  row .c 0x0C00100 0x1F 0x8 1 2 0x4,
  row .c 0x0C00108 0x1F 0x0 1,
  row .c 0x0C0010C 0x1F 0x8 1,
  row .c 0x0C00110 0x1F 0x0 1 12 0x4,
  row .v 0x0C00140 0x0 0x0 0 16 0x4]

/-- The COIL registers. -/
def coilRows : List Row := [
  row .c 0x0D00000 0x1F 0x10 1,
  row .c 0x0D00004 0x1F 0x1 1,
  row .c 0x0D00008 0xFFFF 0x3E8 1,
  row .c 0x0D0000C 0xFFFF 0x0 1 2 0x4,
  row .x 0x0D00014 0x7 0x0 0,
  row .s 0x0D00018 0xFFFF 0x0 0,
  row .v 0x0D0001C 0x0 0x0 0,
  row .v 0x0D00020 0x0 0x0 0]

/-- The HIF registers. -/
def hifRows : List Row := [
  row .x 0x0E00000 0x3 0x0 0,
  row .s 0x0E00004 0x3FF 0x0 0,
  row .v 0x0E00008 0x0 0x0 0,
  row .c 0x0E0000C 0xFFFF 0x14 0,
  row .c 0x0E00010 0xFFFF 0x0 0 4 0x4,
  row .c 0x0E00100 0x3FF 0x2 0,
  row .c 0x0E00104 0x7FFF 0x0 0 4 0x20,
  row .c 0x0E00108 0xFFFF 0x0 0 4 0x20,
  row .v 0x0E0010C 0x0 0x0 0 4 0x20,
  row .c 0x0E00110 0xFFFF 0x1F4 0,
  row .c 0x0E00120 0x3FD 0x0 0 3 0x20,
  row .c 0x0E00200 0x3FD 0x0 0 16 0x20,
  row .c 0x0E00204 0x7FFF 0x0 0 16 0x20,
  row .c 0x0E00208 0xFFFF 0x0 0 16 0x20,
  row .v 0x0E0020C 0x0 0x0 0 16 0x20]

/-- The THM registers. -/
def thmRows : List Row := [
  row .c 0x0F00000 0xFFFF 0x766E 1 (path := .cone),
  row .c 0x0F00004 0xFF 0x80 1 (path := .cone),
  row .c 0x0F00008 0xFFF 0x555 1 (path := .cone),
  row .c 0x0F0000C 0x3FFF 0x1F4 1,
  row .c 0x0F00010 0xFFFF 0x1388 1,
  row .s 0x0F00014 0xFF 0x0 0,
  row .v 0x0F00018 0x0 0x0 0,
  row .v 0x0F0001C 0x0 0x0 0]

/-- The SFE registers. -/
def sfeRows : List Row := [
  row .c 0x1000000 0x1 0x0 1,
  row .c 0x1000004 0x3F 0x0 1,
  row .c 0x1000008 0xF 0x0 1,
  row .x 0x100000C 0x3 0x0 0,
  row .s 0x1000010 0x1FF 0x0 0,
  row .v 0x1000014 0x0 0x0 0,
  row .v 0x1000018 0x0 0x0 0,
  row .c 0x1000020 0x1FF 0x100 1,
  row .c 0x1000024 0xFFFF 0x0 1,
  row .c 0x1000028 0xFFFF 0xA00 1,
  row .c 0x100002C 0xFFFF 0x0 0,
  row .v 0x1000030 0x0 0x0 0,
  row .v 0x1000034 0x0 0x0 0,
  row .c 0x1000100 0xFFFF 0x100 1 16 0x20,
  row .c 0x1000104 0xFFFF 0xFA0 1 16 0x20,
  row .c 0x1000108 0x7FFF 0x801 1 16 0x20,
  row .c 0x100010C 0xFFF 0x0 1 16 0x20,
  row .c 0x1000110 0x7FF 0x0 1 16 0x20,
  row .c 0x1000114 0xFFFF 0x8000 1 16 0x20,
  row .c 0x1000118 0xFFFF 0x7FFF 1 16 0x20]

/-- The SEC registers. -/
def secRows : List Row := [
  row .x 0x1100000 0xFFF 0x0 0,
  row .c 0x1100004 0x3F 0x0 0,
  row .s 0x1100008 0xFFFF 0x0 0,
  row .v 0x110000C 0x0 0x0 0,
  row .v 0x11000F0 0x0 0x0 0,
  row .v 0x11000F4 0x0 0x0 0]

/-- The FLT registers. -/
def fltRows : List Row := [
  row .c 0x1200000 0xFFF 0x401 1,
  row .x 0x1200004 0x1 0x0 0,
  row .s 0x1200008 0x7F 0x0 0,
  row .v 0x120000C 0x0 0x0 0]

/-- The table windows (R513). -/
def windowRows : List Row := [
  row2 .c 0x2000000 0xFFFF 0x0 1 8 0x100 32 0x4,
  row .c 0x2000080 0xFFFF 0x8 1 8 0x100,
  row .c 0x2000084 0xFFFF 0x0 1 8 0x100,
  row2 .c 0x2001000 0xFFFF 0x0 1 8 0x200 64 0x4,
  row .c 0x2001100 0xFFFF 0x100 1 8 0x200,
  row .c 0x2001104 0xFFFF 0x3 1 8 0x200,
  row .c 0x2002000 0xFFFF 0x0 1 512 0x4,
  row2 .c 0x2200000 0xFFF 0xFFF 1 8 0x100 64 0x4,
  row .c 0x2300000 0xFFFF 0x0 1 4096 0x4,
  row .c 0x2304000 0xFFFF 0x0 1 1024 0x4,
  row .c 0x2305000 0xFFFF 0x0 1 512 0x4,
  row .v 0x2310000 0x0 0x0 0 65536 0x4,
  row .v 0x2400000 0x0 0x0 0 524288 0x4,
  row .v 0x2600000 0x0 0x0 0 524288 0x4,
  row .c 0x2800000 0xFFFF 0x4000 1 8192 0x8,
  row .c 0x2800004 0xFFFF 0x0 1 8192 0x8,
  row .v 0x2A00000 0x0 0x0 0 65536 0x4,
  row .c 0x2C00000 0xFFFF 0x0 2 262144 0x4,
  row .c 0x2D00000 0xFFFF 0x0 2 262144 0x4,
  row2 .c 0x2E00000 0xFFFF 0x0 1 4 0x200 65 0x4]

/-- The rows that can hold an offset: a block's, or the windows'. -/
def rowsAt (off : Nat) : List Row :=
  match off / 0x100000 with
  | 0 => glbRows
  | 1 => clkRows
  | 2 => whlRows
  | 3 => emtRows
  | 4 => strRows
  | 5 => lanRows
  | 6 => calRows
  | 7 => klnRows
  | 8 => shfRows
  | 9 => glzRows
  | 10 => memRows
  | 11 => capRows
  | 12 => tsuRows
  | 13 => coilRows
  | 14 => hifRows
  | 15 => thmRows
  | 16 => sfeRows
  | 17 => secRows
  | 18 => fltRows
  | _ => windowRows

/-- The row of a word offset; none is unmapped (R503, R513). MEM_PRIO_8 and MEM_PRIO_9 would lie on MEM_RGN_SIZE_0 and
MEM_RGN_SIZE_1 (R511); those offsets hold MEM_RGN_SIZE. DESIGN CHOICE, unsafe (log 12). -/
def rowAt (off : Nat) : Option Row := (rowsAt off).find? (fun r => r.has off)

/-- The value of [15:0] after RESET. -/
def regReset (off : Nat) : BitVec 16 :=
  match rowAt off with
  | some r => BitVec.ofNat 16 r.reset
  | none => 0

/-- All rows in the order of their base offsets. -/
def allRows : List Row :=
  glbRows ++ clkRows ++ whlRows ++ emtRows ++ strRows ++ lanRows ++ calRows ++ klnRows ++ shfRows ++ glzRows ++ memRows ++ capRows ++ tsuRows ++ coilRows ++ hifRows ++ thmRows ++ sfeRows ++ secRows ++ fltRows ++ windowRows

/-- Ascending merge of offsets (a member list need not be a block of one row). -/
def mergeOffs : List Nat → List Nat → List Nat
  | [], l => l
  | a :: r, l => l.takeWhile (· < a) ++ a :: mergeOffs r (l.dropWhile (· < a))

/-- The members of the configuration CRC in ascending offset order (R41, R514). -/
def crcMembers : List Nat :=
  allRows.foldl (fun acc r => if r.crc = 1 then mergeOffs acc r.offs else acc) []

end Sys2Proof.Machine
end

