-- ==== Sys2Proof/Machine/IdMap.lean ====
section
/-! DEFINITION. The wide values (type M) by mailbox identifier: width, who may write (R33 to R37 and the rules of each
chapter that names a value writable), reset value. -/

namespace Sys2Proof.Machine

/-- Which paths may write a wide value: none (err 2), every path, Saggar only (err 4 on others), Saggar and Greenware
(err 4 for the host, R74). Values with a further condition carry the path part of it here. -/
inductive WAcc where
  | ro | rw | sag | sagGreen
deriving DecidableEq, Repr

/-- Identifiers base to base + n - 1, each `bits` wide. -/
structure IdRow where
  base : Nat
  n : Nat
  bits : Nat
  acc : WAcc
  reset : Nat := 0
deriving DecidableEq, Repr

/-! ## Identifiers -/

def Id.GLB_RETIRED_PAGES : Nat := 0x0001
def Id.GLB_BOOT_POS : Nat := 0x0002
def Id.GLB_UNIT_ID : Nat := 0x0003
def Id.GLB_CFG_CRC_REF : Nat := 0x0010
def Id.GLB_CFG_CRC_CUR : Nat := 0x0011
def Id.GLB_CFG_CRC_LAST : Nat := 0x0012
def Id.GLB_TIM_PERIOD : Nat := 0x0020
def Id.CLK_VCO_BAND : Nat := 0x0800
def Id.CLK_PHASE : Nat := 0x0820
def Id.CLK_JUMP : Nat := 0x0821
def Id.CLK_HOLD_TIME : Nat := 0x0822
def Id.CLK_FREQ_ERR : Nat := 0x0823
def Id.CLK_LOCK_COUNT : Nat := 0x0824
def Id.WHL_W : Nat := 0x1000
def Id.WHL_FAULT_INFO : Nat := 0x1010
def Id.WHL_SHOT_COUNT : Nat := 0x1011
def Id.WHL_DENY_COUNT : Nat := 0x1012
def Id.WHL_SKIP_COUNT : Nat := 0x1013
def Id.WHL_SYNC_TIMEOUTS : Nat := 0x1014
def Id.WHL_THROTTLE_COUNT : Nat := 0x1015
def Id.WHL_FRAME_COUNT : Nat := 0x1016
def Id.EMT_STATE : Nat := 0x1800
def Id.EMT_OBS_LAST : Nat := 0x1801
def Id.EMT_EBM_FAST_CAP : Nat := 0x1802
def Id.EMT_PROOF_COUNT : Nat := 0x1806
def Id.EMT_DENY_STALL : Nat := 0x1807
def Id.EMT_DRV_RESENDS : Nat := 0x1808
def Id.EMT_STALE_FRAMES : Nat := 0x1809
def Id.EMT_APPLIED : Nat := 0x1820
def Id.EMT_BOARD_TEMP : Nat := 0x1840
def Id.STR_AX0_SP : Nat := 0x2000
def Id.STR_AX0_SP_APPLIED : Nat := 0x2001
def Id.STR_AX0_SPEED : Nat := 0x2002
def Id.STR_AX0_POS : Nat := 0x2003
def Id.STR_TRC_TRIG : Nat := 0x2004
def Id.STR_FAULT_COUNT : Nat := 0x2006
def Id.STR_LINK_ERRS : Nat := 0x2008
def Id.LAN_EVT_COUNT : Nat := 0x2800
def Id.LAN_RDROP : Nat := 0x2A00
def Id.LAN_DROP : Nat := 0x2C00
def Id.LAN_REF_MISS : Nat := 0x2E00
def Id.LAN_PINNED : Nat := 0x2E20
def Id.LAN_STUCK : Nat := 0x2E28
def Id.CAL_POS : Nat := 0x3000
def Id.CAL_COUNT : Nat := 0x3001
def Id.CAL_LAST : Nat := 0x3002
def Id.CAL_RUN_SUM : Nat := 0x3003
def Id.KLN_PIX_COUNT : Nat := 0x3800
def Id.KLN_STACK_MISS : Nat := 0x3808
def Id.KLN_WAVE_SKIP : Nat := 0x3810
def Id.KLN_SAT_COUNT : Nat := 0x3818
def Id.KLN_FIFO_DROP : Nat := 0x3820
def Id.KLN_UPDATES : Nat := 0x3828
def Id.KLN_WAVE_PTR : Nat := 0x3830
def Id.SHF_EGO : Nat := 0x4000
def Id.SHF_EGO_APPLIED : Nat := 0x4001
def Id.SHF_FLUSH_FRAME : Nat := 0x4002
def Id.SHF_STACKED : Nat := 0x4003
def Id.SHF_RESTARTS : Nat := 0x4004
def Id.SHF_WB_LOST : Nat := 0x4005
def Id.SHF_EGO_MISSING : Nat := 0x4006
def Id.SHF_OOR : Nat := 0x4007
def Id.GLZ_POINTS : Nat := 0x4800
def Id.GLZ_WEATHER : Nat := 0x4808
def Id.GLZ_CODE_REJ : Nat := 0x4810
def Id.GLZ_EXCESS : Nat := 0x4818
def Id.GLZ_NEG : Nat := 0x4820
def Id.GLZ_PQ_WITHHELD : Nat := 0x4828
def Id.GLZ_PQ_GAPS : Nat := 0x482C
def Id.MEM_TRAIN_POS : Nat := 0x5000
def Id.MEM_TEST_POS : Nat := 0x5001
def Id.MEM_RGN_POS : Nat := 0x5002
def Id.MEM_CE_COUNT : Nat := 0x5003
def Id.MEM_UE_COUNT : Nat := 0x5004
def Id.MEM_LAST_FAULT : Nat := 0x5005
def Id.MEM_RETIRE_PENDING : Nat := 0x5006
def Id.MEM_BW : Nat := 0x5010
def Id.MEM_WAIT_MAX : Nat := 0x5020
def Id.CAP_EXPORT_POS : Nat := 0x5800
def Id.CAP_TRIG_LAST : Nat := 0x5801
def Id.CAP_REC_PTR : Nat := 0x5802
def Id.CAP_FRZ_REC : Nat := 0x5803
def Id.CAP_FRZ_WAVE : Nat := 0x5804
def Id.CAP_TRIG_COUNT : Nat := 0x5805
def Id.CAP_TRIG_MISSED : Nat := 0x5806
def Id.CAP_FIELD_CRC_REF : Nat := 0x5807
def Id.CAP_FIELD_CRC_LAST : Nat := 0x5808
def Id.CAP_VIOL_COUNT : Nat := 0x5809
def Id.CAP_REC_LOST : Nat := 0x580A
def Id.CAP_REC_FAULTS : Nat := 0x580B
def Id.CAP_REC_BAD : Nat := 0x580C
def Id.CAP_STAT_LIM : Nat := 0x5810
def Id.TSU_UTIME : Nat := 0x6000
def Id.TSU_UTIME_SET : Nat := 0x6001
def Id.TSU_FREQ : Nat := 0x6002
def Id.TSU_EXT_MAP : Nat := 0x6003
def Id.TSU_GAP : Nat := 0x6004
def Id.TSU_Q : Nat := 0x6010
def Id.TSU_LOST : Nat := 0x6020
def Id.COIL_OFFSET : Nat := 0x6800
def Id.COIL_LINK_DELAY : Nat := 0x6801
def Id.COIL_SCHED_CYCLE : Nat := 0x6802
def Id.COIL_SCHED_ACT : Nat := 0x6803
def Id.COIL_WIN : Nat := 0x6810
def Id.COIL_WIN_ACTIVE : Nat := 0x6830
def Id.COIL_SCHED_ACTIVE : Nat := 0x6850
def Id.COIL_NODE : Nat := 0x6860
def Id.COIL_TOPO : Nat := 0x6870
def Id.COIL_DISCARDS : Nat := 0x6880
def Id.COIL_SEQ_GAPS : Nat := 0x6881
def Id.COIL_UTIME_STEPS : Nat := 0x6882
def Id.HIF_BASE : Nat := 0x7000
def Id.HIF_RR_BASE : Nat := 0x7010
def Id.HIF_RR_WBA : Nat := 0x7020
def Id.HIF_EVT_LOST : Nat := 0x7030
def Id.HIF_PT_STALLS : Nat := 0x7031
def Id.HIF_BAR2_ERRS : Nat := 0x7032
def Id.HIF_CE_LAST : Nat := 0x7033
def Id.HIF_PCIE_ERR : Nat := 0x7034
def Id.THM_TEMP_MAX : Nat := 0x7800
def Id.THM_CONE3_COUNT : Nat := 0x7801
def Id.THM_THROTTLE_MS : Nat := 0x7802
def Id.SFE_RES : Nat := 0x8000
def Id.SFE_INJ_RES : Nat := 0x8010
def Id.SFE_CAL : Nat := 0x8011
def Id.SFE_OPEN_COUNT : Nat := 0x8020
def Id.SEC_VERIFY_POS : Nat := 0x8800
def Id.SEC_JRNL_POS : Nat := 0x8801
def Id.SEC_UPD_DATA : Nat := 0x8802
def Id.SEC_UPD_POS : Nat := 0x8803
def Id.SEC_ATT_NONCE : Nat := 0x8804
def Id.SEC_ATT_OUT : Nat := 0x8806
def Id.SEC_ATT_STATE : Nat := 0x8807
def Id.SEC_ATT_PUB : Nat := 0x8808
def Id.SEC_OTP : Nat := 0x880C
def Id.SEC_LIMITS : Nat := 0x880D
def Id.SEC_JRNL_INFO : Nat := 0x880E
def Id.SEC_JRNL_TORN : Nat := 0x880F
def Id.SEC_MRAM_CE : Nat := 0x8810
def Id.SEC_BOOT_COUNT : Nat := 0x8811
def Id.SEC_SCFG : Nat := 0x8820
def Id.FLT_LOG_SEL : Nat := 0x9000
def Id.FLT_LOG_REC : Nat := 0x9001
def Id.FLT_LOG_EXT : Nat := 0x9002
def Id.FLT_LOG_RANGE : Nat := 0x9003
def Id.FLT_SUPPRESSED : Nat := 0x9004
def Id.FLT_SECTOR_RECOV : Nat := 0x9008

/-! ## Rows, block by block -/

/-- The wide values of GLB. -/
def glbIds : List IdRow := [
  ⟨0x0001, 1, 32, .ro, 0⟩,
  ⟨0x0002, 1, 64, .ro, 0⟩,
  ⟨0x0003, 1, 64, .ro, 0⟩,
  ⟨0x0010, 1, 32, .rw, 0⟩,
  ⟨0x0011, 1, 32, .ro, 0⟩,
  ⟨0x0012, 1, 32, .ro, 0⟩,
  ⟨0x0020, 8, 32, .rw, 0⟩]

/-- The wide values of CLK. -/
def clkIds : List IdRow := [
  ⟨0x0800, 32, 32, .sagGreen, 0⟩,
  ⟨0x0820, 1, 32, .ro, 0⟩,
  ⟨0x0821, 1, 32, .ro, 0⟩,
  ⟨0x0822, 1, 32, .ro, 0⟩,
  ⟨0x0823, 1, 32, .ro, 0⟩,
  ⟨0x0824, 1, 32, .ro, 0⟩]

/-- The wide values of WHL. -/
def whlIds : List IdRow := [
  ⟨0x1000, 16, 32, .rw, 0⟩,
  ⟨0x1010, 1, 96, .ro, 0⟩,
  ⟨0x1011, 1, 32, .rw, 0⟩,
  ⟨0x1012, 1, 32, .rw, 0⟩,
  ⟨0x1013, 1, 32, .rw, 0⟩,
  ⟨0x1014, 1, 32, .rw, 0⟩,
  ⟨0x1015, 1, 32, .rw, 0⟩,
  ⟨0x1016, 1, 32, .rw, 0⟩]

/-- The wide values of EMT. -/
def emtIds : List IdRow := [
  ⟨0x1800, 1, 128, .ro, 0⟩,
  ⟨0x1801, 1, 64, .ro, 0⟩,
  ⟨0x1802, 4, 32, .sag, 0⟩,
  ⟨0x1806, 1, 32, .rw, 0⟩,
  ⟨0x1807, 1, 32, .rw, 0⟩,
  ⟨0x1808, 1, 32, .rw, 0⟩,
  ⟨0x1809, 1, 32, .rw, 0⟩,
  ⟨0x1820, 32, 108, .ro, 0⟩,
  ⟨0x1840, 8, 17, .ro, 0⟩]

/-- The wide values of STR. -/
def strIds : List IdRow := [
  ⟨0x2000, 1, 24, .rw, 0⟩,
  ⟨0x2001, 1, 24, .ro, 0⟩,
  ⟨0x2002, 1, 32, .ro, 0⟩,
  ⟨0x2003, 1, 32, .ro, 0⟩,
  ⟨0x2004, 2, 77, .ro, 0⟩,
  ⟨0x2006, 2, 32, .rw, 0⟩,
  ⟨0x2008, 1, 32, .rw, 0⟩]

/-- The wide values of LAN. -/
def lanIds : List IdRow := [
  ⟨0x2800, 512, 32, .rw, 0⟩,
  ⟨0x2A00, 512, 32, .rw, 0⟩,
  ⟨0x2C00, 512, 64, .rw, 0⟩,
  ⟨0x2E00, 32, 32, .rw, 0⟩,
  ⟨0x2E20, 8, 32, .rw, 0⟩,
  ⟨0x2E28, 8, 32, .rw, 0⟩]

/-- The wide values of CAL. -/
def calIds : List IdRow := [
  ⟨0x3000, 1, 64, .ro, 0⟩,
  ⟨0x3001, 1, 32, .rw, 0⟩,
  ⟨0x3002, 1, 96, .ro, 0⟩,
  ⟨0x3003, 1, 32, .ro, 0⟩]

/-- The wide values of KLN. -/
def klnIds : List IdRow := [
  ⟨0x3800, 8, 32, .rw, 0⟩,
  ⟨0x3808, 8, 32, .rw, 0⟩,
  ⟨0x3810, 8, 32, .rw, 0⟩,
  ⟨0x3818, 8, 32, .rw, 0⟩,
  ⟨0x3820, 8, 32, .rw, 0⟩,
  ⟨0x3828, 8, 64, .rw, 0⟩,
  ⟨0x3830, 1, 96, .ro, 0⟩]

/-- The wide values of SHF. -/
def shfIds : List IdRow := [
  ⟨0x4000, 1, 64, .rw, 0⟩,
  ⟨0x4001, 1, 96, .ro, 0⟩,
  ⟨0x4002, 1, 32, .ro, 0⟩,
  ⟨0x4003, 1, 32, .rw, 0⟩,
  ⟨0x4004, 1, 32, .rw, 0⟩,
  ⟨0x4005, 1, 32, .rw, 0⟩,
  ⟨0x4006, 1, 32, .rw, 0⟩,
  ⟨0x4007, 1, 32, .rw, 0⟩]

/-- The wide values of GLZ. -/
def glzIds : List IdRow := [
  ⟨0x4800, 8, 32, .rw, 0⟩,
  ⟨0x4808, 8, 32, .rw, 0⟩,
  ⟨0x4810, 8, 32, .rw, 0⟩,
  ⟨0x4818, 8, 32, .rw, 0⟩,
  ⟨0x4820, 8, 32, .rw, 0⟩,
  ⟨0x4828, 3, 32, .rw, 0⟩,
  ⟨0x482C, 3, 32, .rw, 0⟩]

/-- The wide values of MEM. -/
def memIds : List IdRow := [
  ⟨0x5000, 1, 64, .ro, 0⟩,
  ⟨0x5001, 1, 64, .ro, 0⟩,
  ⟨0x5002, 1, 64, .ro, 0⟩,
  ⟨0x5003, 1, 32, .rw, 0⟩,
  ⟨0x5004, 1, 32, .rw, 0⟩,
  ⟨0x5005, 1, 64, .ro, 0⟩,
  ⟨0x5006, 1, 32, .ro, 0⟩,
  ⟨0x5010, 10, 64, .rw, 0⟩,
  ⟨0x5020, 10, 32, .rw, 0⟩]

/-- The wide values of CAP. -/
def capIds : List IdRow := [
  ⟨0x5800, 1, 64, .ro, 0⟩,
  ⟨0x5801, 1, 128, .ro, 0⟩,
  ⟨0x5802, 1, 96, .ro, 0⟩,
  ⟨0x5803, 1, 128, .ro, 0⟩,
  ⟨0x5804, 1, 96, .ro, 0⟩,
  ⟨0x5805, 1, 32, .rw, 0⟩,
  ⟨0x5806, 1, 32, .rw, 0⟩,
  ⟨0x5807, 1, 32, .sag, 0⟩,
  ⟨0x5808, 1, 32, .ro, 0⟩,
  ⟨0x5809, 1, 32, .rw, 0⟩,
  ⟨0x580A, 1, 32, .rw, 0⟩,
  ⟨0x580B, 1, 32, .rw, 0⟩,
  ⟨0x580C, 1, 128, .ro, 0⟩,
  ⟨0x5810, 2, 32, .rw, 0⟩]

/-- The wide values of TSU. -/
def tsuIds : List IdRow := [
  ⟨0x6000, 1, 64, .ro, 0⟩,
  ⟨0x6001, 1, 64, .rw, 0⟩,
  ⟨0x6002, 1, 128, .ro, 0⟩,
  ⟨0x6003, 1, 128, .ro, 0⟩,
  ⟨0x6004, 1, 64, .ro, 0⟩,
  ⟨0x6010, 16, 128, .ro, 0⟩,
  ⟨0x6020, 16, 32, .rw, 0⟩]

/-- The wide values of COIL. -/
def coilIds : List IdRow := [
  ⟨0x6800, 1, 32, .ro, 0⟩,
  ⟨0x6801, 1, 64, .ro, 0⟩,
  ⟨0x6802, 1, 24, .rw, 0⟩,
  ⟨0x6803, 1, 64, .rw, 0⟩,
  ⟨0x6810, 32, 64, .rw, 0⟩,
  ⟨0x6830, 32, 64, .ro, 0⟩,
  ⟨0x6850, 1, 88, .ro, 0⟩,
  ⟨0x6860, 16, 128, .rw, 0⟩,
  ⟨0x6870, 1, 128, .ro, 0⟩,
  ⟨0x6880, 1, 64, .rw, 0⟩,
  ⟨0x6881, 1, 32, .rw, 0⟩,
  ⟨0x6882, 1, 32, .rw, 0⟩]

/-- The wide values of HIF. -/
def hifIds : List IdRow := [
  ⟨0x7000, 8, 64, .rw, 0⟩,
  ⟨0x7010, 16, 64, .rw, 0⟩,
  ⟨0x7020, 16, 64, .rw, 0⟩,
  ⟨0x7030, 1, 32, .rw, 0⟩,
  ⟨0x7031, 1, 32, .rw, 0⟩,
  ⟨0x7032, 1, 32, .rw, 0⟩,
  ⟨0x7033, 1, 64, .ro, 0⟩,
  ⟨0x7034, 1, 64, .ro, 0⟩]

/-- The wide values of THM. -/
def thmIds : List IdRow := [
  ⟨0x7800, 1, 16, .rw, 0x8000⟩,
  ⟨0x7801, 1, 32, .rw, 0⟩,
  ⟨0x7802, 1, 32, .rw, 0⟩]

/-- The wide values of SFE. -/
def sfeIds : List IdRow := [
  ⟨0x8000, 16, 64, .ro, 0⟩,
  ⟨0x8010, 1, 64, .ro, 0⟩,
  ⟨0x8011, 8, 64, .ro, 0⟩,
  ⟨0x8020, 1, 32, .rw, 0⟩]

/-- The wide values of SEC. -/
def secIds : List IdRow := [
  ⟨0x8800, 1, 64, .ro, 0⟩,
  ⟨0x8801, 1, 64, .ro, 0⟩,
  ⟨0x8802, 1, 128, .rw, 0⟩,
  ⟨0x8803, 1, 32, .ro, 0⟩,
  ⟨0x8804, 2, 128, .rw, 0⟩,
  ⟨0x8806, 1, 128, .ro, 0⟩,
  ⟨0x8807, 1, 96, .ro, 0⟩,
  ⟨0x8808, 4, 128, .ro, 0⟩,
  ⟨0x880C, 1, 64, .ro, 0⟩,
  ⟨0x880D, 1, 128, .rw, 0⟩,
  ⟨0x880E, 1, 128, .ro, 0⟩,
  ⟨0x880F, 1, 32, .ro, 0⟩,
  ⟨0x8810, 1, 32, .ro, 0⟩,
  ⟨0x8811, 1, 32, .ro, 0⟩,
  ⟨0x8820, 24, 32, .rw, 0⟩]

/-- The wide values of FLT. -/
def fltIds : List IdRow := [
  ⟨0x9000, 1, 32, .rw, 0⟩,
  ⟨0x9001, 1, 128, .ro, 0⟩,
  ⟨0x9002, 1, 128, .ro, 0⟩,
  ⟨0x9003, 1, 64, .ro, 0⟩,
  ⟨0x9004, 1, 32, .rw, 0⟩,
  ⟨0x9008, 8, 32, .rw, 0⟩]

/-- The identifier rows of the block that [15:11] names. -/
def idsAt (id : Nat) : List IdRow :=
  match id / 2048 with
  | 0 => glbIds
  | 1 => clkIds
  | 2 => whlIds
  | 3 => emtIds
  | 4 => strIds
  | 5 => lanIds
  | 6 => calIds
  | 7 => klnIds
  | 8 => shfIds
  | 9 => glzIds
  | 10 => memIds
  | 11 => capIds
  | 12 => tsuIds
  | 13 => coilIds
  | 14 => hifIds
  | 15 => thmIds
  | 16 => sfeIds
  | 17 => secIds
  | 18 => fltIds
  | _ => []

/-- The row of an identifier; none is an identifier that no chapter defines (R504). -/
def idAt (id : Nat) : Option IdRow :=
  (idsAt id).find? (fun r => decide (r.base ≤ id) && decide (id < r.base + r.n))

/-- The width in bits; 0 for an unknown identifier. -/
def idBits (id : Nat) : Nat :=
  match idAt id with
  | some r => r.bits
  | none => 0

/-- The value after RESET. SFE_CAL_g is a factory value: offset 0, gain 1.0. DESIGN CHOICE, unsafe (log 4). -/
def wideReset (id : Nat) : BitVec 128 :=
  if Id.SFE_CAL ≤ id ∧ id < Id.SFE_CAL + 8 then ofWords 0 (2 ^ 30) 0 0
  else
    match idAt id with
    | some r => BitVec.ofNat 128 r.reset
    | none => 0

end Sys2Proof.Machine
end

