-- ==== Sys2Proof/Machine/Ops.lean ====
section
/-! DEFINITION. The shared operations of the register fabric: time, register fields, wide values with their freeze,
interrupt vectors, S registers, and the entry of an event into the fault and event log. -/

namespace Sys2Proof.Machine

/-! ## Time and modes -/

/-- Ticks per microsecond (tick = 312.5 ps, 00_scope.md). -/
def usT (n : Nat) : Nat := 3200 * n

/-- Ticks per millisecond. -/
def msT (n : Nat) : Nat := 3200000 * n

/-- The tree runs from the VCO: locked, in holdover, slewing or realigning (R16, R78). -/
def State.onVco (s : State) : Bool :=
  match s.clk.state with
  | .locked | .holdover | .slewing | .realign => true
  | .bclk | .qualify | .acquire | .powerDown => false

/-- Ticks of one PCLK cycle: 8 from the VCO (400 MHz), 32 from BCLK (100 MHz) (R65). -/
def State.pclk (s : State) : Nat := if s.onVco then 8 else 32

/-- Do two ticks fall in one PCLK cycle? -/
def State.sameCycle (s : State) (a b : Nat) : Bool := decide (a / s.pclk = b / s.pclk)

/-- The number of a mode (R19). -/
def Mode.code : Mode → Nat
  | .reset => 0 | .boot => 1 | .standby => 2 | .ready => 3 | .scan => 4 | .guard => 5 | .service => 6 | .safe => 7

/-- The mode of a 3-bit number (R19). -/
def Mode.ofCode : Nat → Mode
  | 0 => .reset | 1 => .boot | 2 => .standby | 3 => .ready | 4 => .scan | 5 => .guard | 6 => .service | _ => .safe

/-- SCAN, GUARD or SERVICE: the modes in which R16 allows emission. -/
def Mode.scanning : Mode → Bool
  | .scan | .guard | .service => true
  | .reset | .boot | .standby | .ready | .safe => false

/-- The two-bit path code of R486. -/
def pathCode : Path → Nat
  | .saggar => 0 | .greenware => 1 | .host => 2

/-- Are the blocks other than GLB, THM and SFE out of reach: in RESET, and in STANDBY from step 5 of its entry (R97)? -/
def State.gated (s : State) : Bool := s.pins.inReset || decide (s.mode.standbyStep = 5)

/-- A command on a register outside GLB, THM and SFE: it reaches its block only while that block is in reach. -/
def State.onBar (s : State) (f : State → State) : State := if s.gated then s else f s

/-- A command on a GLB, THM or SFE register: in RESET no register is reached. -/
def State.onGlb (s : State) (f : State → State) : State := if s.pins.inReset then s else f s

/-- UTIME in ticks, modulo 2^64 (R369): while it counts it grows with the tick. -/
def State.utime (s : State) : Nat :=
  (if s.tsu.utRun then s.tsu.utBase + (s.now - s.tsu.utAt) else s.tsu.utBase) % 2 ^ 64

/-- UTIME as it stands (or stood) at tick `t`, by the present offset. -/
def State.utimeAt (s : State) (t : Nat) : Nat :=
  ((if s.tsu.utRun then (s.tsu.utBase : Int) + t - s.tsu.utAt else s.tsu.utBase) % (2 ^ 64 : Int)).toNat

/-! ## Registers -/

/-- The value of [15:0] of a C or L register. -/
def State.reg (s : State) (off : Nat) : BitVec 16 := fget (regReset off) s.regs off

/-- Field [hi:lo] of a C or L register. -/
def State.fld (s : State) (off hi lo : Nat) : Nat := bitsOf (s.reg off).toNat hi lo

/-- One bit of a C or L register. -/
def State.bit (s : State) (off i : Nat) : Bool := bitOf (s.reg off).toNat i

/-- Has this L register been committed (R31)? -/
def State.committed (s : State) (off : Nat) : Bool := decide (fget 0 s.locks off = 1)

/-- A masked write of a C register (R26), through the register's implemented bits (R8). -/
def cMerge (old : BitVec 16) (impl : Nat) (val : Word) : BitVec 16 :=
  let m : BitVec 16 := (val.extractLsb' 16 16) &&& BitVec.ofNat 16 impl
  (old &&& ~~~m) ||| (val.extractLsb' 0 16 &&& m)

/-- The 32-bit word that a C or L register reads as (R26, R31). -/
def State.regWord (s : State) (off : Nat) : Nat := (s.reg off).toNat + (if s.committed off then 2 ^ 31 else 0)

/-- How many registers of a row lie below `off`. -/
def Row.below (r : Row) (off : Nat) : Nat :=
  let part := fun n => min r.n ((n + r.st - 1) / r.st)
  if r.n1 = 1 then part (off - r.base)
  else if r.n1 ≤ (off - r.base) / r.s1 then r.n1 * r.n
  else (off - r.base) / r.s1 * r.n + part ((off - r.base) % r.s1)

/-- The place of a member in the sweep (R41): how many members lie below it; none for another register. -/
def crcIndex (off : Nat) : Option Nat :=
  match rowAt off with
  | some r => if r.crc = 1 then some ((allRows.map (fun q => if q.crc = 1 then q.below off else 0)).sum) else none
  | none => none

/-- A member of `i` members below it is about to change: a sweep that has read it keeps its old word `w`. The sweep reads one
member in each PCLK cycle (R514). -/
def Sweep.keep (x : Sweep) (p now i off w : Nat) : Sweep :=
  if x.start / p + i ≤ now / p ∧ fget none x.old off = none then
    { x with old := fset none x.old off (some (BitVec.ofNat 32 w)) }
  else x

/-- The sweeps in progress meet a write of `off`. -/
def State.sweepKeep (s : State) (off : Nat) : State :=
  if s.crc.sweep = none ∧ s.crc.cmd = none then s
  else
    match crcIndex off with
    | some i =>
      let f := fun (x : Sweep) => x.keep s.pclk s.now i off (s.regWord off)
      { s with crc := { s.crc with sweep := s.crc.sweep.map f, cmd := s.crc.cmd.map f } }
    | none => s

/-- Put a value into [15:0] of a register. -/
def State.setReg (s : State) (off : Nat) (v : BitVec 16) : State :=
  let s := s.sweepKeep off
  { s with regs := fset (regReset off) s.regs off v }

/-- The value of a C register before the writes of the present PCLK cycle. -/
def State.regBefore (s : State) (off : Nat) : BitVec 16 :=
  match s.lastWrites.find? (fun w => decide (w.off = off) && s.sameCycle w.at_ s.now) with
  | some w => w.old
  | none => s.reg off

/-- The writes of one cycle to one register, in the order of R25: Saggar, Greenware, host. -/
def pathOrder (l : List RegWr) : List RegWr :=
  l.filter (fun w => decide (w.path = .saggar)) ++ l.filter (fun w => decide (w.path = .greenware)) ++
    l.filter (fun w => decide (w.path = .host))

/-- A write of a C register: the writes that its PCLK cycle has brought so far apply in the order of R25, each under its own
mask (R26). -/
def State.cWrite (s : State) (off : Nat) (val : Word) (path : Path) : State :=
  match rowAt off with
  | some r =>
    let now := s.lastWrites.filter (fun w => s.sameCycle w.at_ s.now)
    let l := now ++ [{ off, at_ := s.now, path, old := s.regBefore off, val }]
    let v := (pathOrder (l.filter (fun w => decide (w.off = off)))).foldl (fun v w => cMerge v r.mask w.val) (s.regBefore off)
    { s.setReg off v with lastWrites := l }
  | none => s

/-! ## Wide values -/

/-- The stored word of a wide value. -/
def State.wideRaw (s : State) (id : Nat) : BitVec 128 := fget (wideReset id) s.wide id

/-- Does some path's mailbox hold this identifier frozen (R34)? -/
def State.isFrozen (s : State) (id : Nat) : Bool :=
  let f := fun (m : Mailbox) => match m.frozen with
    | some (k, _) => decide (k = id)
    | none => false
  f s.mbxS || f s.mbxG || f s.mbxH

/-- An update applied to a stored value of `bits` bits. -/
def WideUpd.apply (bits : Nat) : WideUpd → BitVec 128 → BitVec 128
  | .set v, _ => BitVec.ofNat 128 (v.toNat % 2 ^ bits)
  | .add lo len n, w => BitVec.ofNat 128 (putBits w.toNat lo len (bitsOf w.toNat (lo + len - 1) lo + n))

/-- A wide value as the hardware has it: what is stored, and the updates that a freeze defers. -/
def State.wideN (s : State) (id : Nat) : Nat :=
  ((s.deferred.filter (fun x => decide (x.1 = id))).foldl (fun v x => x.2.apply (idBits id) v) (s.wideRaw id)).toNat

/-- A hardware update of a wide value: deferred while a mailbox holds it frozen (R34, R44). -/
def State.updWide (s : State) (id : Nat) (u : WideUpd) : State :=
  let s := { s with recent := s.recent.filter (fun (r : Nat × Nat × WideUpd) => s.sameCycle r.2.1 s.now) ++ [(id, s.now, u)] }
  if s.isFrozen id then { s with deferred := s.deferred ++ [(id, u)] }
  else { s with wide := fset (wideReset id) s.wide id (u.apply (idBits id) (s.wideRaw id)) }

/-- Hardware writes a result into a wide value. -/
def State.putWide (s : State) (id : Nat) (v : Nat) : State := s.updWide id (.set (BitVec.ofNat 128 v))

/-- A counter counts `n` more; it wraps at its width. -/
def State.bump (s : State) (id : Nat) (n : Nat := 1) : State :=
  if n = 0 then s else s.updWide id (.add 0 (idBits id) n)

/-- The deferred updates that no freeze holds any longer are applied in order (R34). -/
def State.applyDeferred (s : State) : State :=
  let go := s.deferred.filter (fun x => !s.isFrozen x.1)
  let keep := s.deferred.filter (fun x => s.isFrozen x.1)
  go.foldl (fun s x => { s with wide := fset (wideReset x.1) s.wide x.1 (x.2.apply (idBits x.1) (s.wideRaw x.1)) })
    { s with deferred := keep }

/-! ## Interrupt vectors -/

/-- The MSI-X vector of an S register (R425); none where the table lists none. -/
def vecOf (off : Nat) : Option Nat :=
  if off = Reg.HIF_STAT then some 4
  else if off = Reg.GLB_MODE_STAT then some 5
  else if off = Reg.GLB_REG_STAT then some 6
  else if off = Reg.GLB_CRC_STAT then some 7
  else if off = Reg.CLK_STAT then some 8
  else if off = Reg.WHL_STAT then some 9
  else if off = Reg.EMT_STAT then some 10
  else if off = Reg.GLZ_PQ_STAT then some 35
  else if off = Reg.SHF_STAT then some 36
  else if off = Reg.CAL_STAT then some 37
  else if off = Reg.MEM_STAT then some 38
  else if off = Reg.CAP_STAT then some 39
  else if off = Reg.TSU_STAT then some 40
  else if off = Reg.COIL_STAT then some 41
  else if off = Reg.THM_STAT then some 42
  else if off = Reg.SFE_STAT then some 43
  else if off = Reg.SEC_STAT then some 44
  else if off / 0x100000 = 5 then some (11 + off % 0x100000 / 0x10000)
  else if off / 0x100000 = 7 then some (19 + off % 0x100000 / 0x10000)
  else if off / 0x100000 = 9 then some (27 + off % 0x100000 / 0x10000)
  else none

/-- Post something to the host (R418). -/
def State.post (s : State) (p : Posted) : State := { s with hif := { s.hif with posted := s.hif.posted ++ [p] } }

/-- Send the message of vector `v` now. -/
def State.sendMsi (s : State) (v : Nat) : State :=
  let ve := fget ({} : Vec) s.hif.vecs v
  ({ s with hif := { s.hif with
      vecs := fset {} s.hif.vecs v { ve with sent := some s.now, held := false, pend := false } } }).post (.msix v)

/-- A cause of vector `v` (R425, R426): signalled when its enable bit is set; merged inside the hold and inside one
PCLK cycle; a masked vector sets its PBA bit. -/
def State.signal (s : State) (v : Nat) : State :=
  if s.bit (Reg.HIF_IRQ_EN + 4 * (v / 16)) (v % 16) && s.hif.msixEn then
    let ve := fget ({} : Vec) s.hif.vecs v
    if ve.masked then { s with hif := { s.hif with vecs := fset {} s.hif.vecs v { ve with pend := true } } }
    else
      match ve.sent with
      | none => s.sendMsi v
      | some a =>
        if s.sameCycle a s.now then s
        else if s.now < a + usT (s.reg Reg.HIF_IRQ_HOLD).toNat then
          { s with hif := { s.hif with vecs := fset {} s.hif.vecs v { ve with held := true } } }
        else s.sendMsi v
  else s

/-! ## S registers (R28) -/

/-- Record the held events that are due, 16 PCLK cycles after the last recorded event. -/
def SReg.settle (p now : Nat) (r : SReg) : SReg :=
  match r.last with
  | some l =>
    if r.held ≠ 0 ∧ l + 16 * p ≤ now then
      { seq := r.seq + 1, flags := r.flags ||| r.held, last := some (l + 16 * p), ev := r.held, held := 0 }
    else r
  | none => r

/-- An event with these flags: recorded, merged into an event of the same PCLK cycle, or held. DEDUCED (log 7). -/
def SReg.record (p now : Nat) (f : BitVec 16) (r : SReg) : SReg :=
  match r.last with
  | some l =>
    if now / p = l / p then { r with flags := r.flags ||| f, ev := r.ev ||| f }
    else if now < l + 16 * p then { r with held := r.held ||| f }
    else { r with seq := r.seq + 1, flags := r.flags ||| f, last := some now, ev := f }
  | none => { r with seq := r.seq + 1, flags := r.flags ||| f, last := some now, ev := f }

/-- A write of an S register (R29, R30): the written sequence number must be the current one, or the one before an event of
the same PCLK cycle, whose flags stay. None: the write is refused. -/
def SReg.clear (p now : Nat) (val : Word) (r : SReg) : Option SReg :=
  let same := match r.last with
    | some l => decide (now / p = l / p)
    | none => false
  let seq := if same then r.seq - 1 else r.seq
  let keep := if same then r.ev else 0
  if val.extractLsb' 16 16 = seq then some { r with flags := r.flags &&& (~~~(val.extractLsb' 0 16) ||| keep) } else none

/-- The S register at `off` with its due held events recorded. -/
def State.sreg (s : State) (off : Nat) : SReg := (fget {} s.stat off).settle s.pclk s.now

/-- An S register records an event with these flags (R28); its vector is signalled when seq increments (R425). -/
def State.raise (s : State) (off : Nat) (f : BitVec 16) : State :=
  let r0 := fget {} s.stat off
  let r1 := (s.sreg off).record s.pclk s.now f
  let s1 := { s with stat := fset {} s.stat off r1 }
  if r1.seq = r0.seq then s1
  else
    match vecOf off with
    | some v => s1.signal v
    | none => s1

/-! ## Log entries (R485 to R488) -/

/-- The position of an S register among those of its block, in ascending offset (R487). -/
def sregPos (off : Nat) : Nat :=
  if off = Reg.GLB_SAFE_CAUSE then 1
  else if off = Reg.GLB_CRC_STAT then 2
  else if off = Reg.GLB_REG_STAT then 3
  else if off = Reg.GLZ_PQ_STAT then 1
  else 0

/-- The INFO code of flag `b` of the S register at `off` (R487). -/
def infoCode (off b : Nat) : Nat := 64 * (off / 0x100000) + 16 * sregPos off + b

/-- Is this a fault code (R487)? -/
def isFaultCode (code : Nat) : Bool := bitOf code 11

/-- The class of a fault code (R484): 0 correctable to 3 unit-fatal. -/
def faultClass (code : Nat) : Nat := bitsOf code 10 9

/-- The block that a code names (R487). -/
def codeBlock (code : Nat) : Nat := if isFaultCode code then bitsOf code 8 4 else bitsOf code 10 6

/-- The ordering group of R485: unit-fatal first, INFO last. -/
def codeGroup (code : Nat) : Nat := if isFaultCode code then 3 - faultClass code else 4

/-- A trigger condition reaches the capture engine (R345): a disabled source is not counted. -/
def State.capCond (s : State) (src ut fine : Nat) (interp : Bool) (detail : Nat) : State :=
  if s.bit Reg.CAP_TRIG_EN src then
    { s with cap := { s.cap with conds := s.cap.conds ++ [{ at_ := s.now, src, ut, fine, interp, detail }] } }
  else s

/-- An entry joins those of its PCLK cycle; its sequence number comes when the cycle is complete (R485). A fault of a
selected class is a capture condition (R345), and every entry is a cause of vector 45 (R425). -/
def State.logPush (s : State) (e : LogEntry) : State :=
  let e := { e with tick := s.now, utime := s.utime }
  let s := { s with log := { s.log with pend := s.log.pend ++ [e] } }
  let s := if isFaultCode e.code && s.bit Reg.CAP_TRIG_FAULT (faultClass e.code)
           then s.capCond 1 s.utime 0 false e.code else s
  s.signal 45

/-- What the extension of an entry holds (R486). -/
structure Info where
  inst : Nat := 0
  detail : Nat := 0
  addr : Nat := 0
  value : Nat := 0
  path : Nat := 3
deriving DecidableEq, Repr

/-- An INFO event: flag `b` of the S register at `off`, and its log entry. -/
def State.event (s : State) (off b : Nat) (i : Info := {}) : State :=
  (s.raise off (flag16 b)).logPush
    { code := infoCode off b, inst := i.inst, detail := i.detail, addr := i.addr, value := i.value, path := i.path }

/-- An INFO event that has no flag (R487). -/
def State.eventNoFlag (s : State) (block index : Nat) (i : Info := {}) : State :=
  s.logPush { code := 64 * block + index, inst := i.inst, detail := i.detail, addr := i.addr, value := i.value,
              path := i.path }

/-- The FLT_STAT flag of a fault's class (R501). -/
def fltFlag (code : Nat) : BitVec 16 := flag16 (faultClass code)

/-- A fault of another class than correctable: its entry and the FLT_STAT flag of its class. -/
def State.faultEntry (s : State) (code : Nat) (i : Info := {}) : State :=
  (s.logPush { code, inst := i.inst, detail := i.detail, addr := i.addr, value := i.value, path := i.path }).raise
    Reg.FLT_STAT (fltFlag code)

/-- The key under which occurrences of a correctable fault are held back (R488). -/
def ceKey (code inst : Nat) : Nat := 65536 * code + inst

/-- A correctable fault (R488): logged at most once per ce_hold ms for each code and instance; occurrences between are
added to the repeat count of the next entry and counted in FLT_SUPPRESSED. -/
def State.faultCe (s : State) (code : Nat) (i : Info := {}) : State :=
  let k := ceKey code i.inst
  let hold := msT (s.fld Reg.FLT_CTL 7 0)
  let free := match fget none s.log.ceLast k with
    | none => true
    | some l => decide (l + hold ≤ s.now)
  if free then
    let rep := fget 0 s.log.ceRep k
    let s := { s with log := { s.log with
      ceLast := fset none s.log.ceLast k (some s.now), ceRep := fset 0 s.log.ceRep k 0 } }
    (s.logPush { code, inst := i.inst, detail := i.detail, addr := i.addr, value := i.value, path := i.path,
                 rep }).raise Reg.FLT_STAT (fltFlag code)
  else
    ({ s with log := { s.log with
      ceRep := fset 0 s.log.ceRep k (min 65535 (fget 0 s.log.ceRep k + 1)) } }).bump Id.FLT_SUPPRESSED

/-- A fault with its block's flag (R487: the flag is set, the log entry has the fault form only). -/
def State.fault (s : State) (code off : Nat) (f : BitVec 16) (i : Info := {}) : State :=
  let s := s.raise off f
  if faultClass code = 0 then s.faultCe code i else s.faultEntry code i

/-- A value was clamped to a bound (R22): PARAM_CLAMP with the address and the value applied. -/
def State.paramClamp (s : State) (addr value : Nat) (path : Nat := 3) : State :=
  s.event Reg.GLB_REG_STAT 2 { addr, value, path }

/-- A length was clamped to its buffer (R45). -/
def State.lenClamp (s : State) (addr value : Nat) (path : Nat := 3) : State :=
  s.event Reg.GLB_REG_STAT 1 { addr, value, path }

/-- A discarded or unmapped access (R24, R25). -/
def State.accessErr (s : State) (off : Nat) (path : Nat) : State :=
  s.event Reg.GLB_REG_STAT 4 { addr := off, path }

end Sys2Proof.Machine
end

