-- ==== Sys2Proof/Machine/Stream.lean ====
section
/-! DEFINITION. Bytes of the LPDDR5X behind the region table, the stream records, the recorder ring, the Point Queue, the
settling of the log, and the advance of time. -/

namespace Sys2Proof.Machine

/-! ## Memory behind the region table (R320 to R323) -/

/-- First logical page of region `r`. -/
def regionStart (sizes : List Nat) (r : Nat) : Nat := (sizes.take r).sum

/-- The region of logical page `l`, if any. -/
def regionOf (sizes : List Nat) (l : Nat) : Option Nat :=
  (List.range 7).find? (fun r => decide (regionStart sizes r ≤ l) && decide (l < regionStart sizes (r + 1)))

/-- The physical page of logical page `l`: non-retired pages in ascending order (R325). -/
def ppageOf (mapped : List Nat) (l : Nat) : Nat := mapped.foldl (fun p q => if q ≤ p then p + 1 else p) l

/-- Owner port of region `r`, 15 for shared (R321). -/
def ownerOf (r : Nat) : Nat :=
  match r with
  | 0 => 7 | 1 => 6 | 2 => 15 | 3 => 1 | 4 => 2 | 5 => 8 | _ => 3

/-- The entry of logical page `l` (R322). -/
def State.pageEntry (s : State) (l : Nat) : Nat :=
  if s.mem.valid then
    match regionOf s.mem.sizes l with
    | some r => packFields [(16, ppageOf s.mem.mapped l), (3, r), (1, 1), (2, if r = 0 ∧ s.mem.fwRead then 1 else 2),
        (4, ownerOf r), (1, 1), (1, b2n (s.mem.retirePend.contains (ppageOf s.mem.mapped l)))]
    | none => 0
  else 0

/-- The class of an access check (R323, R335): 0 permitted, 1 UNMAPPED, 2 PERMISSION. While a rebuild runs, ports other
than ARB_7 and ARB_9 meet no mapped page (R325). -/
def State.accessClass (s : State) (port l : Nat) (write : Bool) : Nat :=
  if !s.mem.valid || (s.mem.busy && port ≠ 7 && port ≠ 9) then 1
  else
    match regionOf s.mem.sizes l with
    | none => 1
    | some r =>
      let rd := s.bit (Reg.MEM_RGN_RD + 4 * r) port
      let wr := s.bit (Reg.MEM_RGN_WR + 4 * r) port
      let readOnly := decide (r = 0) && s.mem.fwRead
      let owned := decide (ownerOf r = port) || decide (ownerOf r = 15) || decide (port = 9)
      if write then (if wr && !readOnly && owned then 0 else 2) else (if rd then 0 else 2)

/-- Bytes of one page. -/
def pageBytes : Nat := 2097152

/-- The physical address of a logical byte address. -/
def State.physOf (s : State) (a : Nat) : Nat := ppageOf s.mem.mapped (a / pageBytes) * pageBytes + a % pageBytes

/-- What a byte at physical address `p` that is not listed reads as: 0, or an open byte where the content is undefined. -/
def Mem.base (m : Mem) (p : Nat) : Byte :=
  if m.openFrom ≤ p / pageBytes then Sys2Proof.Config.freeByte m.openEpoch p else 0

/-- The byte at a physical address. -/
def Mem.byteAt (m : Mem) (p : Nat) : Byte := fget 0 m.bytes p ^^^ m.base p

/-- Write the byte at a physical address. -/
def Mem.setByte (m : Mem) (p : Nat) (v : Byte) : Mem := { m with bytes := fset 0 m.bytes p (v ^^^ m.base p) }

/-- The canonical form of the memory. -/
def Mem.wf (m : Mem) : Bool := fwf 0 m.bytes

/-- The content from physical page `p` on becomes undefined (R340, R350). -/
def State.memOpen (s : State) (p : Nat) : State :=
  { s with
    freeNext := s.freeNext + 1
    mem := { s.mem with
      bytes := s.mem.bytes.filter (fun x => decide (x.1 / pageBytes < p)), openFrom := p, openEpoch := s.freeNext } }

/-- A byte of the data space at a logical address. -/
def State.memByte (s : State) (a : Nat) : Byte := s.mem.byteAt (s.physOf a)

/-- `n` bytes from logical address `a`, little-endian. -/
def State.memNat (s : State) (a : Nat) : Nat → Nat
  | 0 => 0
  | n + 1 => s.memNat a n + (s.memByte (a + n)).toNat * 256 ^ n

/-- Write the low `n` bytes of `v` from logical address `a`. -/
def State.memPut (s : State) (a : Nat) (n v : Nat) : State :=
  forN n s (fun s i => { s with mem := s.mem.setByte (s.physOf (a + i)) (BitVec.ofNat 8 (v / 256 ^ i)) })

/-- The status word of R335. -/
def statusWord (cls pos : Nat) : Nat := cls % 16 + (pos % 2 ^ 26) * 64

/-- A transfer fault on a port (R336): MEM_LAST_FAULT, desc_fault and the log entry. -/
def State.portFault (s : State) (port l cls pos : Nat) : State :=
  let st := statusWord cls pos
  (s.putWide Id.MEM_LAST_FAULT (st + (l % 65536 + port * 65536) * 2 ^ 32)).fault
    (if port ≤ 3 then 0xAA0 else 0xAA1) Reg.MEM_STAT (flag16 2) { inst := port, detail := port, addr := l, value := st }

/-! ## Records (R304 to R311) -/

/-- The type field of a record. -/
def recType (r : BitVec 128) : Nat := bitsOf r.toNat 3 0

/-- The sector a POINT, MARK or VOID record belongs to. -/
def recSector (r : BitVec 128) : Nat :=
  if recType r = 1 then bitsOf r.toNat 14 6 / 64 else bitsOf r.toNat 6 4

/-- A 128-bit record from its fields, bit 0 up. -/
def mkRec (l : List (Nat × Nat)) : BitVec 128 := BitVec.ofNat 128 (packFields l)

/-- `v` held at the largest value of `w` bits. -/
def satN (w v : Nat) : Nat := min (2 ^ w - 1) v

/-- EVENT record (R311). -/
def eventRec (seq : Nat) (e : LogEntry) : BitVec 128 :=
  mkRec [(4, 0xD), (12, e.code), (32, seq), (16, e.detail), (64, e.utime)]

/-- The extension of a log entry (R486). -/
def eventExt (seq : Nat) (e : LogEntry) : BitVec 128 :=
  mkRec [(32, seq), (32, e.addr), (32, e.value), (2, e.path), (6, 0), (8, e.inst), (16, e.rep)]

/-- GAP record (R310). -/
def gapRec (c : Nat) (multi : Bool) (sectors frame records frames points : Nat) : BitVec 128 :=
  mkRec [(4, 0xB), (2, c), (1, b2n multi), (1, 0), (8, sectors), (32, frame), (24, satN 24 records),
    (16, if multi then satN 16 frames else 0), (24, satN 24 points)]

/-- END record (R307) of a frame. -/
def endRec (q : FrameQ) : BitVec 128 :=
  mkRec [(4, 0x9), (3, q.mode), (1, 0), (4, q.wheelFault), (1, b2n q.skew), (1, b2n q.safe), (1, b2n q.holdSeen),
    (1, b2n q.timeSat), (32, q.frame), (24, satN 24 q.points), (20, satN 20 q.void), (20, satN 20 q.stackMiss),
    (16, satN 16 q.waveSkip)]

/-! ## The recorder ring (R350 to R353) -/

/-- Records the REC region holds. -/
def State.recCap (s : State) : Nat := 131072 * (s.mem.sizes.getD 6 0)

/-- CAP_REC_PTR follows the write position. -/
def State.recPtr (s : State) : State :=
  s.putWide Id.CAP_REC_PTR (s.cap.recOff + (s.cap.recWraps % 2 ^ 32) * 2 ^ 32 + s.recCap % 2 ^ 32 * 2 ^ 64)

/-- Does the recorder write (R349)? After a release it resumes with the next FRAME record (R353). -/
def State.recWriting (s : State) : Bool :=
  !s.cap.recResume && match s.cap.st with
  | 0 => s.pq.rec_.en
  | 3 => false
  | _ => true

/-- Move the write position to record `off` of the ring, counting a wrap. -/
def State.recMove (s : State) (off : Nat) : State :=
  if off < s.recCap then { s with cap := { s.cap with recOff := off } }
  else { s with cap := { s.cap with recOff := 0, recWraps := s.cap.recWraps + 1 } }

/-- One 16-byte record at the write position; a fault on ARB_3 abandons the rest of the page (R352). -/
def State.recPut (s : State) (r : BitVec 128) : State :=
  if s.recCap = 0 then s
  else
    let a := regionStart s.mem.sizes 6 * pageBytes + 16 * s.cap.recOff
    let l := a / pageBytes
    let cls := s.accessClass 3 l true
    if cls = 0 then ((s.memPut a 16 r.toNat).recMove (s.cap.recOff + 1)).recPtr
    else
      let s := s.portFault 3 l cls 0
      let s := s.fault 0xAB0 Reg.CAP_STAT (flag16 14) { addr := l }
      let s := (s.bump Id.CAP_REC_FAULTS).putWide Id.CAP_REC_BAD
        ((s.wideN Id.CAP_REC_BAD * 65536 + l % 65536) % 2 ^ 128)
      let s := { s with cap := { s.cap with recGap := some (s.cap.recGap.getD 0 + 1) } }
      (s.recMove ((s.cap.recOff / 131072 + 1) * 131072)).recPtr

/-- A record joins the ring, after the GAP record of an abandoned page if one is due (R352). -/
def State.recWrite (s : State) (r : BitVec 128) : State :=
  match s.cap.recGap with
  | none => s.recPut r
  | some n =>
    let f := match s.pq.frames with
      | q :: _ => q.frame
      | [] => 0
    (({ s with cap := { s.cap with recGap := none } }).recPut (gapRec 1 false 0 f n 0 0)).recPut r

/-! ## Settling the log (R485) -/

/-- Does entry `a` take its number before entry `b` (R485)? -/
def logBefore (p : Nat) (a b : LogEntry) : Bool :=
  let ca := a.tick / p
  let cb := b.tick / p
  if ca ≠ cb then decide (ca < cb)
  else if codeGroup a.code ≠ codeGroup b.code then decide (codeGroup a.code < codeGroup b.code)
  else if codeBlock a.code ≠ codeBlock b.code then decide (codeBlock a.code < codeBlock b.code)
  else decide (a.inst < b.inst)

/-- Insert behind the entries that do not come after it. -/
def logInsert (p : Nat) (e : LogEntry) : List LogEntry → List LogEntry
  | [] => [e]
  | a :: r => if logBefore p e a then e :: a :: r else a :: logInsert p e r

/-- The waiting entries in the order of R485. -/
def logSort (p : Nat) (l : List LogEntry) : List LogEntry := l.foldl (fun acc e => logInsert p e acc) []

/-- An entry takes the next sequence number and enters the ring of 4,096; the loss of the oldest is flagged. -/
def State.logRing (s : State) (e : LogEntry) : State :=
  let seq := s.log.nextSeq
  let full := decide (4096 ≤ s.log.ring.length)
  let ring := (if full then s.log.ring.drop 1 else s.log.ring) ++ [LogRec.mk seq e]
  let s := { s with log := { s.log with nextSeq := (seq + 1) % 2 ^ 32, ring } }
  if full then s.raise Reg.FLT_STAT (flag16 6) else s

/-- An EVENT record enters the event-ring buffer of 1,024, or is lost (R420). -/
def State.logHost (s : State) (r : BitVec 128) : State :=
  if s.hif.evBuf.length < 1024 then { s with hif := { s.hif with evBuf := s.hif.evBuf ++ [r] } }
  else (s.bump Id.HIF_EVT_LOST).raise Reg.HIF_STAT (flag16 1)

/-- One entry is logged, and its record passes to the host's buffer and the recorder (R350, R420). -/
def State.logCommit (s : State) (e : LogEntry) : State :=
  let r := eventRec s.log.nextSeq e
  let s := (s.logRing e).logHost r
  if s.recWriting then s.recWrite r else s

/-- The entries of PCLK cycles before the present one take their numbers, in the order of R485. -/
def State.settleLog (s : State) : State :=
  let due := s.log.pend.filter (fun e => !s.sameCycle e.tick s.now)
  if due.isEmpty then s
  else
    let s := { s with log := { s.log with pend := s.log.pend.filter (fun e => s.sameCycle e.tick s.now) } }
    (logSort s.pclk due).foldl (fun s e => s.logCommit e) s

/-- Time moves to tick `t` (never back); the log entries of earlier cycles take their numbers. -/
def State.at (s : State) (t : Nat) : State := ({ s with now := max s.now t }).settleLog

/-! ## The Point Queue (R312, R313) -/

/-- Consumer `c`: 0 HOST, 1 REC, 2 COIL. -/
def PointQ.con (q : PointQ) (c : Nat) : Consumer :=
  match c with
  | 0 => q.host | 1 => q.rec_ | _ => q.coil

/-- Replace consumer `c`. -/
def PointQ.setCon (q : PointQ) (c : Nat) (x : Consumer) : PointQ :=
  match c with
  | 0 => { q with host := x } | 1 => { q with rec_ := x } | _ => { q with coil := x }

/-- Change consumer `c`. -/
def State.modCon (s : State) (c : Nat) (f : Consumer → Consumer) : State :=
  { s with pq := s.pq.setCon c (f (s.pq.con c)) }

/-- Free places of ring `x`, 0 while it is inactive (R416). -/
def State.ringRoom (s : State) (x : Nat) : Nat :=
  let r := fget ({} : Ring) s.hif.rings x
  if r.active then r.pages * 256 - (r.written - r.returned * 256) else 0

/-- A record waits for the point ring while it has no room: the HOST consumer is stalled from now (R419). -/
def State.hostWaits (s : State) : State :=
  if s.pq.host.unread.isEmpty || decide (s.ringRoom 0 ≠ 0) then
    s.modCon 0 (fun x => { x with stallAt := none, stalled := false })
  else s.modCon 0 (fun x => { x with stallAt := x.stallAt.orElse (fun _ => some s.now) })

/-- A record joins what consumer `c` has not taken; at 126,976 unread the consumer enters LOSS. -/
def State.conPush (s : State) (c frame : Nat) (r : BitVec 128) : State :=
  let s := s.modCon c (fun x => { x with unread := x.unread ++ [r] })
  let s := if c = 0 then s.hostWaits else s
  let x := s.pq.con c
  if x.st = 0 ∧ 126976 ≤ x.unread.length then
    (s.modCon c (fun x => { x with st := 1, firstFrame := frame })).event Reg.GLZ_PQ_STAT c {}
  else s

/-- Consumer `c` loses a record: it is counted for its next GAP. -/
def State.conHold (s : State) (c : Nat) (r : BitVec 128) (whole : Bool) : State :=
  (s.modCon c (fun x => { x with
    withheld := x.withheld + 1
    points := x.points + b2n (recType r = 1)
    sectors := if recType r = 1 ∨ recType r = 0xA ∨ recType r = 0xC then x.sectors ||| BitVec.ofNat 8 (2 ^ recSector r)
               else x.sectors
    frames := x.frames + b2n whole })).bump (Id.GLZ_PQ_WITHHELD + c)

/-- Deliver the GAP of consumer `c` (R310) and start counting afresh. -/
def State.conGap (s : State) (c : Nat) (multi : Bool) : State :=
  let x := s.pq.con c
  let g := gapRec c multi x.sectors.toNat x.firstFrame x.withheld x.frames x.points
  (s.modCon c (fun x => { x with
    unread := x.unread ++ [g], withheld := 0, points := 0, sectors := 0, frames := 0 })).bump (Id.GLZ_PQ_GAPS + c)

/-- Consumer `c` enters DEAD: the reserve is full while it is in LOSS. -/
def State.conDead (s : State) (c : Nat) : State :=
  (s.modCon c (fun x => { x with st := 2 })).event Reg.GLZ_PQ_STAT (3 + c) {}

/-- Record `r` of frame `frame` for consumer `c` (the table of R313). -/
def State.conEnq (s : State) (c frame : Nat) (r : BitVec 128) : State :=
  let x := s.pq.con c
  let n := x.unread.length
  let head := decide (recType r = 8)
  let tail := decide (recType r = 9)
  if !x.en then s
  else
    match x.st with
    | 0 => s.conPush c frame r
    | 1 =>
      if head then
        if n < 65536 then (s.modCon c (fun x => { x with st := 0 })).conPush c frame r
        else if n + 1 ≤ 131072 then (s.modCon c (fun x => { x with firstFrame := frame })).conPush c frame r
        else (s.conDead c).conHold c r false
      else if tail then
        if n + 2 ≤ 131072 then (s.conGap c false).conPush c frame r
        else (s.conDead c).conHold c r true
      else s.conHold c r false
    | _ =>
      if head && decide (n < 65536) then
        ((s.conGap c true).modCon c (fun x => { x with st := 0 })).conPush c frame r
      else s.conHold c r tail

/-- Record `r` of frame `frame` for all three consumers, each at its own position (R15). -/
def State.enqAll (s : State) (frame : Nat) (r : BitVec 128) : State := forN 3 s (fun s c => s.conEnq c frame r)

/-- Change frame `fid` among those not yet ended. -/
def State.modFrame (s : State) (fid : Nat) (f : FrameQ → FrameQ) : State :=
  { s with pq := { s.pq with frames := s.pq.frames.map (fun q => if q.fid = fid then f q else q) } }

/-- A record of frame `fid`: to the consumers when that frame is being output, else held (R312). -/
def State.enqueue (s : State) (fid : Nat) (r : BitVec 128) : State :=
  match s.pq.frames with
  | [] => s
  | q :: _ =>
    if q.fid = fid then s.enqAll q.frame r
    else s.modFrame fid (fun q => { q with recs := q.recs ++ [r] })

/-- The oldest frame begins: enables as sampled at its boundary, its FRAME record, the records held for it. -/
def State.beginFrame (s : State) : State :=
  match s.pq.frames with
  | [] => s
  | q :: r =>
    if q.begun then s
    else
      let s := { s with pq := { s.pq with frames := { q with begun := true, recs := [] } :: r } }
      let s := forN 3 s (fun s c =>
        s.modCon c (fun x =>
          if bitOf q.ens.toNat c then { x with en := true }
          else { x with en := false, unread := [], st := 0, stallAt := none, stalled := false, withheld := 0, points := 0, sectors := 0,
                        frames := 0 }))
      (q.head :: q.recs).foldl (fun s x => s.enqAll q.frame x) s

/-- A new frame with its FRAME record; it begins at once when no earlier frame waits for its END. -/
def State.pushFrame (s : State) (q : FrameQ) : State :=
  ({ s with pq := { s.pq with frames := s.pq.frames ++ [q] } }).beginFrame

/-- A statistics comparator on an END record (R348). -/
def State.statCompare (s : State) (n : Nat) (q : FrameQ) : State :=
  let off := Reg.CAP_STAT_CMP + 4 * n
  let m := match s.fld off 1 0 with
    | 0 => q.points | 1 => q.void | 2 => q.stackMiss | _ => q.waveSkip
  let lim := s.wideN (Id.CAP_STAT_LIM + n)
  let hit := if s.bit off 2 then decide (lim < m) else decide (m < lim)
  if s.bit off 3 && hit then s.capCond 4 q.utEnd 0 false n else s

/-- Has every sector passed the last lane-pixel and the MARK copies of the oldest frame (R312, R496)? -/
def State.frameDrained (s : State) (q : FrameQ) : Bool :=
  match q.endPix with
  | none => false
  | some n => (List.range 8).all (fun k =>
      let g := fget {} s.glz k
      decide (64 * n ≤ g.passed) && g.marks.all (fun m => m.2.1 ≠ q.fid) && g.voidRun.isNone)

/-- The END record of the oldest frame once it is drained; the next frame's FRAME record follows at once (R312). -/
def State.endFrame (s : State) : State :=
  match s.pq.frames with
  | [] => s
  | q :: r =>
    if q.begun && s.frameDrained q then
      let s := (s.enqAll q.frame (endRec q)).statCompare 0 q
      let s := s.statCompare 1 q
      ({ s with pq := { s.pq with frames := r } }).beginFrame
    else s

end Sys2Proof.Machine
end

