-- ==== Sys2Proof/Machine/CoilNet.lean ====
section
/-! DEFINITION. What other blocks use of the Coil: its routes, the packets the unit sends, and the STATUS reports to the
root (R387, R390, R391, R407); with them the live SAFE causes that a STATUS carries (R94). -/

namespace Sys2Proof.Machine

/-- The SAFE causes whose condition is still present (R94): GLB_SAFE_LIVE. -/
def State.safeLive (s : State) : Nat :=
  b2n (s.clk.lockStarted && !s.onVco) + 2 * b2n s.thm.cone3Live +
    4 * b2n (s.emt.emitters.any (fun e => decide (e.2.st = 5) && e.2.wholeOff)) + 8 * b2n s.mode.bootFault +
    16 * b2n (decide (s.log.fatal ≠ 0)) + 32 * b2n (decide (s.sec.tripped ≠ 0)) + 64 * b2n s.sec.restarting

/-! ## Links and routes (R387, R390 to R392) -/

/-- Does the Coil port logic run: a SerDes reference, and not in RESET or STANDBY (R387)? -/
def State.coilOn (s : State) : Bool :=
  s.clk.serdesRef && decide (s.mode.active ≠ .reset) && decide (s.mode.active ≠ .standby)

/-- Can port `p` send? -/
def State.coilUp (s : State) (p : Nat) : Bool := s.coilOn && bitOf s.coil.link.toNat p

/-- The unit is the root: an enabled candidate that has not lost a contest (R391). -/
def State.coilRoot (s : State) : Bool :=
  s.bit Reg.COIL_CTL 0 && (bitOf s.pins.straps.toNat 0 || s.bit Reg.COIL_CTL 1) && !s.coil.yielded

/-- The position of address `a` in the topology list. -/
def coilPos (l : List Nat) (a : Nat) : Option Nat := if a = 0 then none else l.findIdx? (fun x => decide (x = a))

/-- The port that leads to higher positions of the list. In a LINE the list runs from the far end of the root's port 1
through the root to the far end of its port 0 (DEDUCED, log 22). -/
def State.coilHigher (s : State) : Nat :=
  if s.coilRoot then (if s.coil.ring then 1 else 0)
  else if s.coil.ring then 1 - s.coil.rootPort
  else match coilPos s.coil.topo s.coil.addr, coilPos s.coil.topo 1 with
    | some i, some r => if i < r then s.coil.rootPort else 1 - s.coil.rootPort
    | _, _ => s.coil.rootPort

/-- The route to address `dst`: the port with fewer hops, port 0 on a tie, and the positions passed on the way (R390). -/
def State.coilRoute (s : State) (dst : Nat) : Option (Nat × List Nat) :=
  match coilPos s.coil.topo s.coil.addr, coilPos s.coil.topo dst with
  | some i, some j =>
    let n := s.coil.topo.length
    let hi := s.coilHigher
    let up := (j + n - i) % n
    let dn := (i + n - j) % n
    let rise := if s.coil.ring then decide (up < dn) || (decide (up = dn) && decide (hi = 0)) else decide (i < j)
    if i = j then none
    else if rise then some (hi, (List.range up).map (fun k => s.coil.topo.getD ((i + k + 1) % n) 0))
    else some (1 - hi, (List.range dn).map (fun k => s.coil.topo.getD ((i + n - (k + 1)) % n) 0))
  | _, _ => none

/-- The upstream port (R396). -/
def State.coilUpstream (s : State) : Nat :=
  match s.coilRoute 1 with
  | some (p, _) => p
  | none => s.coil.rootPort

/-! ## Sending -/

/-- Change the Coil block. -/
def State.modCoil (s : State) (f : Coil → Coil) : State := { s with coil := f s.coil }

/-- A packet leaves by its port, if that can send. -/
def State.coilSend (s : State) (p : CoilPkt) : State :=
  if s.coilUp p.port then s.modCoil (fun c => { c with sent := c.sent ++ [p] }) else s

/-- The next sequence number of a class (R388). -/
def State.coilSeq (s : State) (cls : Nat) : Nat := fget 0 s.coil.pktSeq cls

/-- A sequence number of a class is used. -/
def State.coilSeqUsed (s : State) (cls : Nat) : State :=
  s.modCoil (fun c => { c with pktSeq := fset 0 c.pktSeq cls ((fget 0 c.pktSeq cls + 1) % 65536) })

/-- A packet of the unit's own out of one port. -/
def State.coilOut (s : State) (port cls typ dst : Nat) (payload : List (BitVec 128)) : State :=
  (s.coilSend { port, cls, dst, src := s.coil.addr, typ, seq := s.coilSeq cls, payload }).coilSeqUsed cls

/-- A packet of the unit's own to one address, by its route. -/
def State.coilTo (s : State) (cls typ dst : Nat) (payload : List (BitVec 128)) : State :=
  match s.coilRoute dst with
  | some (p, _) => s.coilOut p cls typ dst payload
  | none => s

/-- A broadcast: both ports in a LINE, port 1 only in a RING (R390). -/
def State.coilBcast (s : State) (cls typ : Nat) (payload : List (BitVec 128)) : State :=
  let p := fun port => CoilPkt.mk port cls 31 s.coil.addr typ 0 (s.coilSeq cls) payload
  let s1 := if s.coil.ring then s else s.coilSend (p 0)
  (s1.coilSend (p 1)).coilSeqUsed cls

/-! ## STATUS (R407) -/

/-- Word 0 of a node entry as this unit reports it. -/
def State.coilStatusWord (s : State) : Nat :=
  packFields [(3, s.mode.active.code), (3, s.fld Reg.GLB_MODE_TARGET 2 0), (1, b2n s.mode.pending), (3, s.coil.align),
    (8, s.safeLive)]

/-- A report replaces the reported fields of entry `a`; a target other than target_cmd marks it superseded. -/
def State.coilReport (s : State) (a w0 frames offset : Nat) : State :=
  let id := Id.COIL_NODE + (a - 1)
  let cmd := bitsOf (s.wideN id) 22 20
  let sup := decide (bitsOf w0 5 3 ≠ cmd)
  let s := (s.putWide id (w0 % 2 ^ 18 + b2n sup * 2 ^ 19 + cmd * 2 ^ 20 + frames % 2 ^ 32 * 2 ^ 32 +
    offset % 2 ^ 32 * 2 ^ 64)).modCoil (fun c => { c with nodeAt := fset none c.nodeAt a (some s.now) })
  if sup then s.event Reg.COIL_STAT 13 { inst := a, detail := a } else s

/-- The unit sends its STATUS to the root; the root enters its own. -/
def State.coilStatus (s : State) : State :=
  if s.bit Reg.COIL_CTL 0 && decide (s.coil.addr ≠ 0) then
    let s := s.modCoil (fun c => { c with statusAt := s.now })
    let w0 := s.coilStatusWord
    let frames := s.wideN Id.WHL_FRAME_COUNT
    let off := s.wideN Id.COIL_OFFSET
    if s.coilRoot then s.coilReport s.coil.addr w0 frames off
    else s.coilTo 0 5 1 [ofWords w0 frames off 0]
  else s

/-- A command changed the live SAFE causes of `before`: the change is reported. -/
def State.coilLive (s : State) (before : Nat) : State := if s.safeLive = before then s else s.coilStatus

/-- The same where the unit was in SAFE already, so that no change of mode reports it. -/
def State.coilLiveFrom (u s : State) : State := if s.mode.active = .safe then u.coilLive s.safeLive else u

end Sys2Proof.Machine
end

