-- ==== Sys2Proof/Machine/Cut.lean ====
section
/-! DEFINITION. Hand-off queues and VOID pixels, the cut of a frame, the halt of the Wheel, mode changes, and the entry
into SAFE (R93, R94, R98, R120, R267, R494 to R496). -/

namespace Sys2Proof.Machine

/-! ## VOID -/

/-- The order in which one cause is recorded (R495); 0 is no cause. -/
def voidRank (c : Nat) : Nat :=
  match c with
  | 7 => 0 | 1 => 1 | 3 => 2 | 2 => 3 | 4 => 4 | 5 => 5 | 6 => 6 | _ => 7

/-- Of two causes the one that R495 records. -/
def voidOr (a b : Nat) : Nat := if voidRank a ≤ voidRank b then a else b

/-- The Kiln of sector `k`. -/
def State.kiln (s : State) (k : Nat) : Kiln := fget {} s.kln k

/-- Change the Kiln of sector `k`. -/
def State.modKiln (s : State) (k : Nat) (f : Kiln → Kiln) : State := { s with kln := fmod {} s.kln k f }

/-- The Glaze pipeline of sector `k`. -/
def State.glaze (s : State) (k : Nat) : Glaze := fget {} s.glz k

/-- Change the Glaze pipeline of sector `k`. -/
def State.modGlaze (s : State) (k : Nat) (f : Glaze → Glaze) : State := { s with glz := fmod {} s.glz k f }

/-- The offset of sector `k`'s copy of a per-sector register (R503). -/
def secOff (off k : Nat) : Nat := off + 0x10000 * k

/-- A closed pixel joins the hand-off queue of sector `k`: lane 0 at its close, but at least 40,000 ticks after lane 0
of the pixel before it (R109, R259; the latter for a pixel cut by a fault or abort: DEDUCED, log 20). -/
def State.pushHand (s : State) (k : Nat) (pix : Pixel) (buf : Option Nat) (void : Nat) : State :=
  s.modKiln k (fun x =>
    let st := match x.lastStart with
      | some l => max pix.close (l + 40000)
      | none => pix.close
    { x with hands := x.hands ++ [{ pix, start := st, buf, void }], lastStart := some st })

/-- The FILL buffer and the event queue of sector `k` are emptied. -/
def State.clearFill (s : State) (k : Nat) : State :=
  s.modKiln k (fun x => { x with bufs := fset {} x.bufs x.fill {}, queue := [], void := 0 })

/-- The open pixel, if its first slot has started, becomes VOID with this cause in every sector (R267). -/
def State.voidOpenPixel (s : State) (cause : Nat) : State :=
  match s.pix.first with
  | none => s
  | some _ =>
    let p := { s.pix with void := voidOr cause s.pix.void, close := s.now, utClose := s.utime }
    let s := forN 8 s (fun s k =>
      (((s.pushHand k p none (s.kiln k).void).clearFill k).event (secOff Reg.KLN_STAT k) 7 { inst := k }))
    { s with whl := { s.whl with pixTotal := s.whl.pixTotal + 1 } }

/-! ## Frame cut and halt -/

/-- Pulses of the burst in progress that have not started do not start (R17). -/
def State.stopBurst (s : State) : State :=
  { s with emt := { s.emt with pulses := s.emt.pulses.filter (fun p => decide (p.at_ ≤ s.now)) } }

/-- What a cut frame's END record shows (R307). -/
structure CutInfo where
  cause : Nat
  mode : Nat
  wheelFault : Nat := 0
  skew : Bool := false
  safe : Bool := false
deriving DecidableEq, Repr

/-- The frame in progress ends now: unstarted actions are cancelled, the open pixel is VOID, and the END record is due
once every sector has passed what was handed off (R93, R120, R80, R496). -/
def State.cutFrame (s : State) (c : CutInfo) : State :=
  let s := s.voidOpenPixel c.cause
  let s := if s.whl.frameOpen then
      s.modFrame s.whl.fid (fun q => { q with
        endPix := some s.whl.pixTotal, mode := c.mode, wheelFault := c.wheelFault, skew := c.skew, safe := c.safe,
        utEnd := s.utime })
    else s
  { s with
    pix := {}
    whl := { s.whl with
      queue := [], shots := [], cur := none, frameOpen := false, eofAt := none, eofNext := none, sampled := false, issShots := 0,
      haltReq := false, voidRest := 0, lastSlot := none, afterPix := true } }

/-- Does the Wheel run a program (RUNNING or WAITING)? -/
def State.wheelRuns (s : State) : Bool :=
  match s.whl.state with
  | .running | .waiting => true
  | .idle | .faulted => false

/-- The Wheel halts: IDLE with WHL_STAT.halted raised, or FAULTED, which raises fault instead (R119). A code table not
yet committed is committed by a lone SELECT from now on (R160). -/
def State.haltWheel (s : State) (faulted : Bool) : State :=
  let run := s.wheelRuns
  let s := { s with
    whl := { s.whl with
      state := if faulted then .faulted else if run then .idle else s.whl.state, wait := none, stopReq := false, haltReq := false, startHeld := false
      held := false }
    emt := { s.emt with dirty := s.emt.dirty || s.emt.tblFrame, tblFrame := false } }
  if run && !faulted then s.event Reg.WHL_STAT 1 {} else s

/-! ## Calibration runs that end FAILED (R239) -/

/-- The calibration run fails: 1 TOO_MANY_REJECTS, 2 TEMP_MOVED, 3 ABORTED, 4 NO_DATA. A failed automatic run holds for
max_s seconds. -/
def State.calFail (s : State) (reason : Nat) : State :=
  let auto := !s.cal.commanded
  ({ s with cal := { s.cal with
      st := if auto then 3 else 0
      holdTo := s.now + msT (1000 * s.fld Reg.CAL_WIN 7 0)
      commanded := false, failReason := reason, swapAt := none
      prog := { s.cal.prog with st := 3 } } }).event Reg.CAL_STAT 2 { detail := reason }

/-- A run in progress ends ABORTED. -/
def State.calAbort (s : State) : State := if s.cal.st = 1 ∨ s.cal.st = 2 then s.calFail 3 else s

/-! ## Mode changes -/

/-- MODE_ACTIVE changes (R76): previous, pending and the transition event; the change is reported to the root of the
Coil (R407). -/
def State.setMode (s : State) (m : Mode) : State :=
  (({ s with mode := { s.mode with
      previous := s.mode.active, active := m, pending := false, decided := none, lastFrame := none } }).event
    Reg.GLB_MODE_STAT 0 {}).coilStatus

/-- The master emission permit is cleared (R466). -/
def State.permitOff (s : State) : State :=
  if s.sec.permit then ({ s with sec := { s.sec with permit := false } }).event Reg.SEC_STAT 5 {} else s

/-- OSSD_A and OSSD_B go low (R362 and its causes). -/
def State.dropOssd (s : State) : State :=
  if s.cap.ossd then ({ s with cap := { s.cap with ossd := false, okSince := none } }).event Reg.CAP_STAT 9 {}
  else s

/-- Every SAFE cause of these bits is latched and logged (R94, R487). -/
def State.latchCauses (s : State) (causes : Nat) : State :=
  let s := s.raise Reg.GLB_SAFE_CAUSE (BitVec.ofNat 16 causes)
  forN 8 s (fun s b => if bitOf causes b then s.logPush { code := infoCode Reg.GLB_SAFE_CAUSE b } else s)

/-- A run that is in progress ends FAILED (R90). -/
def Progress.fail (p : Progress) : Progress := if p.st = 1 then { p with st := 3 } else p

/-- The runs of BOOT and of its stages end FAILED. -/
def State.bootRunsFail (s : State) : State :=
  { s with
    mode := { s.mode with boot := s.mode.boot.fail, train := s.mode.train.fail, mtest := s.mode.mtest.fail }
    mem := { s.mem with busy := false, prog := s.mem.prog.fail } }

/-- A BOOT in progress is interrupted (R95): running 0, failed 1, fail_code 0. -/
def State.interruptBoot (s : State) : State :=
  if s.mode.running then
    ({ s with mode := { s.mode with running := false, failed := true, failCode := 0, retryStage := none } }).bootRunsFail
  else s

/-- A STANDBY entry in progress stops, its domains are released again; memories leave self-refresh when the VCO is
still locked (R98). -/
def State.leaveStandby (s : State) : State :=
  { s with
    cap := { s.cap with fieldSweepAt := if s.mode.standbyStep = 5 then s.now else s.cap.fieldSweepAt }
    mode := { s.mode with standbyStep := 0, waking := false }
    mem := { s.mem with selfRefresh := s.mem.selfRefresh && !s.onVco }
    clk := { s.clk with state := if s.clk.state = .powerDown then .bclk else s.clk.state } }

/-- What SAFE entry does to the data path (R93): no pulse starts, OSSD drops, the frame is cut, the Wheel halts. -/
def State.safeCut (s : State) (causes : Nat) : State :=
  ((s.interruptBoot.stopBurst.dropOssd).cutFrame
    { cause := if bitOf causes 0 then 7 else 1, mode := 7, safe := true }).haltWheel false

/-- SAFE entry is a capture condition when CAP_TRIG_FAULT.safe_entry is set (R345). -/
def State.safeTrigger (s : State) : State :=
  if s.bit Reg.CAP_TRIG_FAULT 4 then s.capCond 1 s.utime 0 false 0 else s

/-- Entry into SAFE with these causes, at once (R93, R94, R98). In SAFE already, the causes are only latched; in RESET
nothing enters it. -/
def State.safeEnter (s : State) (causes : Nat) : State :=
  let s := if s.pins.inReset then s else s.latchCauses causes
  if s.pins.inReset then s
  else if s.mode.active = .safe then s.permitOff
  else (((s.safeCut causes).permitOff.setMode .safe).event Reg.GLB_MODE_STAT 3 {}).leaveStandby.safeTrigger.calAbort

/-- A unit-fatal fault (R494): logged in the fault form, with the FLT_INFO.fatal bit that latches it, if one does. -/
def State.fatal (s : State) (code : Nat) (fatalBit : Option Nat) (cause : Nat) (i : Info := {}) : State :=
  let u := s.faultEntry code i
  let u := match fatalBit with
    | some b => { u with log := { u.log with fatal := u.log.fatal ||| BitVec.ofNat 4 (2 ^ b) } }
    | none => u
  (u.safeEnter (2 ^ cause)).coilLiveFrom s

/-! ## Sector recovery (R492, R493) -/

/-- A sector-local fault of sector `k` (already logged): VOID with cause RECOVERY, Kiln and Glaze reset, resumption from
now + 4,096; repeat_n faults within 1 s escalate. -/
def State.sectorFault (s : State) (k : Nat) : State :=
  let s := s.modKiln k (fun x => { x with
    hands := x.hands.map (fun h => { h with void := voidOr 5 h.void })
    void := if s.pix.first.isSome then voidOr 5 x.void else x.void
    bufs := [], queue := [], capState := 0, clearAt := some (s.now + 3200) })
  let again := s.sameCycle (fget 0 s.log.recovering k - 4096) s.now && decide (fget 0 s.log.recovering k ≠ 0)
  let s := if again then s else s.bump (Id.FLT_SECTOR_RECOV + k)
  let s := { s with log := { s.log with
    recovering := fset 0 s.log.recovering k (s.now + 4096)
    sectorFaults := fmod [] s.log.sectorFaults k
      (fun l => (l ++ [s.now]).filter (fun a => decide (s.now < a + msT 1000))) } }
  let n := s.fld Reg.FLT_CTL 11 8
  if n ≠ 0 ∧ n ≤ (fget [] s.log.sectorFaults k).length then
    (s.raise Reg.FLT_STAT (flag16 4)).fatal 0xF20 (some 3) 4 { inst := k, detail := k }
  else s

/-- An uncorrectable word in the SRAM of Kiln `k` (R490, code 0xC72; R492). -/
def State.kilnUecc (s : State) (k : Nat) : State := (s.faultEntry 0xC72 { inst := k, detail := k }).sectorFault k

/-- An uncorrectable word in the active bank or the timeline queue (R490, code 0xE20; R494). -/
def State.wheelUecc (s : State) : State := s.fatal 0xE20 (some 2) 4 { detail := s.whl.pc }

/-- An uncorrectable word in the Point Queue (R490, code 0xE90; R494). -/
def State.pqUecc (s : State) : State := s.fatal 0xE90 (some 1) 4 {}

end Sys2Proof.Machine
end

