-- ==== Sys2Proof/Machine/Pins.lean ====
section
/-! DEFINITION. Free values, and the ownership of multi-function pins and shared timers (R46 to R49, R526). -/

namespace Sys2Proof.Machine

/-! ## Free values -/

/-- A word the spec leaves open: the next one (log 2). -/
def State.freeW (s : State) : Word := Sys2Proof.Config.freeWord s.freeNext

/-- The free value just used is spent. -/
def State.freeUsed (s : State) : State := { s with freeNext := s.freeNext + 1 }

/-- A quotient whose rounding the spec does not give: the integer below it or the one above it (log 2). -/
def State.openQuot (s : State) (a b : Int) : Int :=
  floorDiv a b + (if a % b = 0 then 0 else ((s.freeW.toNat % 2 : Nat) : Int))

/-! ## Ownership -/

/-- The owner code of MFP pin `m` (R46): 0x0 while its mux register has never been written. -/
def State.mfpCode (s : State) (m : Nat) : Nat := s.fld (Reg.GLB_PINMUX + 4 * (m / 4)) (4 * (m % 4) + 3) (4 * (m % 4))

/-- The owner code of timer `n`, 0 when it has never been committed. -/
def State.timCode (s : State) (n : Nat) : Nat :=
  if s.committed (Reg.GLB_TIMMUX + 4 * (n / 4)) then s.fld (Reg.GLB_TIMMUX + 4 * (n / 4)) (4 * (n % 4) + 3) (4 * (n % 4)) else 0

/-- Is the Coil enabled (R49)? -/
def State.coilEn (s : State) : Bool := s.bit Reg.COIL_CTL 0

/-- Does pin `m` (0 to 14) serve as its input (R526)? SYNC_IO belongs to an enabled Coil (R49). -/
def State.mfpInput (s : State) (m : Nat) : Bool := decide (s.mfpCode m ≤ 1) && !(decide (m = 0) && s.coilEn)

/-- The owner code that makes an output of pin `m`, from 23 up. -/
def mfpOutCode (m : Nat) : Nat :=
  match m with
  | 27 => 2 | 28 => 2 | 29 => 4 | 30 => 5 | 31 => 7 | _ => 6

/-- Pin `m` goes high for `n` ticks, when its function owns it. -/
def State.mfpPulse (s : State) (m n : Nat) : State :=
  if s.mfpCode m = mfpOutCode m then { s with pins := { s.pins with mfpTo := fset 0 s.pins.mfpTo m (s.now + n) } } else s

/-- A feature lacks a resource that it needs (R48): the feature's register and the resource are logged. -/
def State.resDenied (s : State) (feature resource path : Nat) : State :=
  s.event Reg.GLB_REG_STAT 3 { addr := feature, value := resource, path }

/-- MFP_PULSE_END (R526): the pin returns low. -/
def execMfpPulseEnd (t : Nat) (pin : Fin 32) (s : State) : Host.Outcome State Fault Refusal :=
  let s := s.at (max t (fget 0 s.pins.mfpTo pin))
  .next { s with pins := { s.pins with mfpTo := fset 0 s.pins.mfpTo pin 0 } }

end Sys2Proof.Machine
end

