-- ==== Sys2Proof/Machine/Timestamp.lean ====
section
/-! DEFINITION. The timestamp unit: UTIME, stamped edges and their queues, the frequency estimate, the external references
(R369 to R382). -/

namespace Sys2Proof.Machine

/-- Change the timestamp unit. -/
def State.modTsu (s : State) (f : Tsu → Tsu) : State := { s with tsu := f s.tsu }

/-- Input `n`. -/
def State.tsin (s : State) (n : Nat) : TsuIn := fget {} s.tsu.ins n

/-- Change input `n`. -/
def State.modIn (s : State) (n : Nat) (f : TsuIn → TsuIn) : State := s.modTsu (fun u => { u with ins := fmod {} u.ins n f })

/-! ## UTIME (R369 to R371) -/

/-- UTIME stops with the switch to BCLK; queues and conversions are emptied (R370, R378, R382). -/
def State.tsuClockLost (s : State) : State :=
  let u := s.utime
  s.modTsu (fun x => { x with
    utRun := false, utBase := u, stopAt := s.now, ins := fmapAll {} x.ins (fun i => { i with queue := [], conv := [] })
    gate := [], ppsAt := none, ppsRow := 0 })

/-- UTIME starts at 0 on the first lock after RESET (R369). -/
def State.utimeStart (s : State) : State := s.modTsu (fun x => { x with utRun := true, utBase := 0, utAt := s.now, gateAt := s.now })

/-- UTIME resumes after BCLK with the interruption added, in BCLK cycles of 32 ticks rounded up to 64 ticks (R370). -/
def State.utimeResume (s : State) : State :=
  let gap := ((s.now - s.tsu.stopAt) / 32 * 32 + 63) / 64 * 64
  ((s.modTsu (fun x => { x with utRun := true, utBase := x.utBase + gap, utAt := s.now, gateAt := s.now })).putWide Id.TSU_GAP
    gap).event Reg.TSU_STAT 7 {}

/-- UTIME steps forward by `n` ticks. -/
def State.utimeStep (s : State) (n : Nat) : State := s.modTsu (fun x => { x with utBase := x.utBase + n })

/-- A waiting TSU_UTIME_SET takes effect or is refused at a boundary (R371). -/
def State.utimeSetBoundary (s : State) : State :=
  if s.tsu.setPend then
    let v := s.wideN Id.TSU_UTIME_SET
    let s := s.modTsu (fun x => { x with setPend := false })
    if v < s.utime ∨ (s.coilEn ∧ s.bit Reg.COIL_CTL 2) then s.event Reg.TSU_STAT 8 {}
    else s.modTsu (fun x => { x with utBase := v, utAt := s.now })
  else s

/-! ## Edges (R373 to R376) -/

/-- The pin of input `n`, if it is a multi-function pin. -/
def tsuPin (n : Nat) : Option Nat :=
  if n = 2 then some 1 else if n = 3 then some 0 else if 4 ≤ n ∧ n ≤ 13 then some (n + 1)
  else if 14 ≤ n ∧ n ≤ 15 then some (n - 11) else none

/-- Does input `n` stamp its internal source? -/
def State.tsuInt (s : State) (n : Nat) : Bool :=
  decide (n = 1) || (decide (n = 3) && s.coilEn) || (decide (n = 0 ∨ n = 3) && s.bit (Reg.TSU_IN_CTL + 4 * n) 3)

/-- May input `n` stamp its selected source (R48, R373)? -/
def State.tsuOwns (s : State) (n : Nat) : Bool :=
  s.tsuInt n || match tsuPin n with
    | some m => s.mfpInput m
    | none => true

/-- Does the input stamp this direction (R374)? 3 applies BOTH. -/
def State.tsuSel (s : State) (n : Nat) (rising : Bool) : Bool :=
  match s.fld (Reg.TSU_IN_CTL + 4 * n) 2 1 with
  | 0 => rising
  | 1 => !rising
  | _ => true

/-- Missing windows that end the PPS (R383): 0 applies 1. -/
def State.missN (s : State) : Nat := max 1 (s.fld Reg.TSU_EXT_CTL 6 3)

/-- Half-width of a PPS window in ticks: 1 to 1,000 µs. -/
def State.ppsWin (s : State) : Nat := usT (clampN 1 1000 (s.fld Reg.TSU_PPS_WIN 9 0))

/-- An accepted PPS edge (R380): the count it gives to TSU_EXT_MAP. -/
def State.ppsAccept (s : State) : State × Nat :=
  let row := s.tsu.ppsRow + 1
  let found := !s.tsu.ppsPresent && decide (2 ≤ row)
  let acc := if found then 0 else if s.tsu.ppsPresent then s.tsu.ppsAcc + 1 else 0
  let s := s.modTsu (fun x => { x with
    ppsAt := some s.now, ppsRow := row, ppsMiss := 0, ppsPresent := x.ppsPresent || found, ppsAcc := acc })
  (if found then s.event Reg.TSU_STAT 4 {} else s, acc)

/-- A PPS edge is checked (R380): window limits are inside; the first edge has no window and starts the expectation. -/
def State.ppsEdge (s : State) : State × Option Nat :=
  if s.bit Reg.TSU_EXT_CTL 0 then
    let ok := match s.tsu.ppsAt with
      | none => true
      | some p => decide (p + 3200000000 ≤ s.now + s.ppsWin) && decide (s.now ≤ p + 3200000000 + s.ppsWin)
    if ok then (s.ppsAccept.1, some s.ppsAccept.2)
    else ((s.modTsu (fun x => { x with ppsAt := some s.now, ppsRow := 0 })).event Reg.TSU_STAT 2 {}, none)
  else (s, none)

/-- An edge that input `n` stamps: dead for 10 ns, numbered, in conversion; TRIG_IN forms its condition (R345). -/
def State.tsuStamp (s : State) (n : Nat) (rising : Bool) : State :=
  let p := if n = 2 then s.ppsEdge else (s, none)
  let s := p.1
  let st : Stamp := { at_ := s.now, ut := s.utime, rising, num := (s.tsin n).num + 1, pps := p.2 }
  let s := s.modIn n (fun x => { x with conv := x.conv ++ [st], deadTo := s.now + 32, num := (x.num + 1) % 2 ^ 32 })
  if 14 ≤ n ∧ rising then s.capCond 3 st.ut 0 true (n - 14) else s

/-- An edge at the selected source of input `n`. -/
def State.tsuEdge (s : State) (n : Nat) (rising : Bool) : State :=
  if s.onVco && s.bit (Reg.TSU_IN_CTL + 4 * n) 0 && s.tsuOwns n && s.tsuSel n rising && decide ((s.tsin n).deadTo ≤ s.now) then
    s.tsuStamp n rising
  else s

/-- An edge of the internal source of input `n`. -/
def State.tsuInternal (s : State) (n : Nat) : State := if s.tsuInt n then s.tsuEdge n true else s

/-- TSU_INPUT_EDGE (R374). -/
def execTsuInputEdge (t : Nat) (n : Fin 16) (rising : Bool) (s : State) : Host.Outcome State Fault Refusal :=
  .next ((s.at t).tsuEdge n rising)

/-! ## Queues (R377, R378) -/

/-- A complete stamp enters queue `n`, or one is lost to a full queue. -/
def State.tsuPush (s : State) (n : Nat) (st : Stamp) : State :=
  let x := s.tsin n
  if x.queue.length < 256 then
    s.modIn n (fun x => { x with queue := x.queue ++ [{ st with lost := x.lostNext }], lostNext := false })
  else
    let s := (s.bump (Id.TSU_LOST + n)).event Reg.TSU_STAT 0 { inst := n, detail := n }
    if s.bit (Reg.TSU_IN_CTL + 4 * n) 4 then s.modIn n (fun x => { x with lostNext := true })
    else s.modIn n (fun x => { x with queue := x.queue.drop 1 ++ [{ st with lost := true }], lostNext := false })

/-- The input whose edges the regression engine measures. -/
def State.freqSel (s : State) : Nat := min 16 (s.fld Reg.TSU_FREQ_SEL 4 0)

/-- TSU_EXT_MAP of an accepted PPS edge. -/
def State.ppsMap (s : State) (st : Stamp) : State :=
  match st.pps with
  | some n => s.putWide Id.TSU_EXT_MAP (packFields [(64, st.ut), (32, st.fine), (32, n)])
  | none => s

/-- The fine bits of a TRIG_IN trigger (R347). -/
def State.trigStamp (s : State) (n fine : Nat) : State :=
  if s.cap.trigInput = some n then
    let w := s.wideN Id.CAP_TRIG_LAST
    { s with cap := { s.cap with trigInput := none } }.putWide Id.CAP_TRIG_LAST (putBits (putBits w 64 10 fine) 83 1 1)
  else s

/-- TSU_STAMP_QUEUED (R376, R377): the oldest stamp in conversion of the input, with its fine bits. -/
def execTsuStampQueued (t : Nat) (n : Fin 16) (fine : BitVec 10) (s : State) : Host.Outcome State Fault Refusal :=
  let s := s.at t
  match (s.tsin n).conv with
  | [] => .next s
  | st0 :: r =>
    let st := { st0 with fine := fine.toNat }
    let s := s.modIn n (fun x => { x with conv := r })
    let s := if s.freqSel = n.val then s.modTsu (fun x => { x with gate := x.gate ++ [st] }) else s
    .next (((s.ppsMap st).trigStamp n st.fine).tsuPush n st)

/-- A mailbox read of TSU_Q_n pops the oldest entry (R377): the words it gives. -/
def State.tsuPop (s : State) (n : Nat) : State × BitVec 128 :=
  match (s.tsin n).queue with
  | [] => (s, 0)
  | st :: r =>
    (s.modIn n (fun x => { x with queue := r }),
     mkRec [(64, st.ut), (10, st.fine), (1, b2n st.rising), (1, b2n st.lost), (1, 1), (19, 0), (32, st.num)])

/-- TSU_FLUSH bits: the queues of the inputs named are emptied (R377). -/
def State.tsuFlush (s : State) (bits : BitVec 16) : State :=
  forN 16 s (fun s n => if bitOf bits.toNat n then s.modIn n (fun x => { x with queue := [] }) else s)

/-- TSU_FLUSH (R377). -/
def execTsuFlush (t : Nat) (_path : Path) (bits : BitVec 16) (s : State) : Host.Outcome State Fault Refusal :=
  .next ((s.at t).onBar (fun s => s.tsuFlush bits))

/-! ## Frequency estimate (R379) -/

/-- Gate length in ms: above 10,000 applies 10,000; 0 stops the engine. -/
def State.freqGate (s : State) : Nat := min 10000 (s.fld Reg.TSU_FREQ_GATE 13 0)

/-- A new gate starts now. -/
def State.freqRestart (s : State) : State := s.modTsu (fun x => { x with gateAt := s.now, gate := [] })

/-- Numerator and denominator of the period b in fine LSB for stamp times `l` in fine LSB. -/
def fitSlope (l : List Nat) : Int × Int :=
  let n := l.length
  let sk := (List.range n).sum
  let skk := ((List.range n).map (fun k => k * k)).sum
  let st := l.sum
  let skt := (l.zipIdx.map (fun x => x.1 * x.2)).sum
  ((n * skt : Nat) - (sk * st : Nat), (n * skk : Nat) - (sk * sk : Nat))

/-- A gate's result is written: the period and residual are free where the spec leaves their rounding or value open
(log 2). EXT_FREQ gives no stamps of its own to this model, so its period is free. -/
def State.freqWrite (s : State) (l : List Nat) : State :=
  let ext := decide (s.freqSel = 16) && s.tsu.freqPresent
  let n := if ext then s.freqGate else l.length
  let f := fitSlope l
  let ok := decide (3 ≤ n)
  let b := if ext || decide (f.2 = 0) then s.freeW.toNat else unsgn 64 (s.openQuot (f.1 * 2 ^ 22) f.2)
  let res := Sys2Proof.Config.freeWord (s.freeNext + 1)
  let s := { s with freeNext := s.freeNext + 2 }
  let s := (s.putWide Id.TSU_FREQ (packFields [(64, b), (16, n), (15, 0), (1, b2n ok), (32, res.toNat)])).event Reg.TSU_STAT 5 {}
  if ok then s else s.event Reg.TSU_STAT 6 {}

/-- FREQ_GATE_END (R379): stamps up to the gate's last tick belong to it, those in conversion with fine bits 0. -/
def execFreqGateEnd (t : Nat) (s : State) : Host.Outcome State Fault Refusal :=
  if s.freqGate = 0 || !s.onVco then .next (s.at t)
  else
    let end_ := s.tsu.gateAt + msT s.freqGate
    let s := s.at (max t end_)
    let all := s.tsu.gate ++ (if s.freqSel < 16 then (s.tsin s.freqSel).conv else [])
    let now := all.filter (fun x => decide (x.at_ ≤ end_))
    let s := s.freqWrite (now.map (fun x => 1024 * x.ut + x.fine))
    .next (s.modTsu (fun x => { x with gateAt := end_, gate := x.gate.filter (fun y => decide (end_ < y.at_)) }))

/-! ## External references (R380, R381) -/

/-- PPS_WINDOW_MISS (R380): the window of the edge that is due closes empty. -/
def execPpsWindowMiss (t : Nat) (s : State) : Host.Outcome State Fault Refusal :=
  match s.tsu.ppsAt with
  | none => .next (s.at t)
  | some p =>
    if s.bit Reg.TSU_EXT_CTL 0 then
      let s := s.at (max t (p + 3200000000 + s.ppsWin))
      let lost := s.tsu.ppsPresent && decide (s.missN ≤ s.tsu.ppsMiss + 1)
      let s := (s.modTsu (fun x => { x with
        ppsAt := some (p + 3200000000), ppsRow := 0, ppsMiss := x.ppsMiss + 1
        ppsPresent := x.ppsPresent && !lost })).event Reg.TSU_STAT 1 {}
      .next (if lost then s.event Reg.TSU_STAT 3 {} else s)
    else .next (s.at t)

/-- EXT_FREQ_WINDOW (R381): edges counted in one 10 µs window. -/
def execExtFreqWindow (t : Nat) (count : Nat) (s : State) : Host.Outcome State Fault Refusal :=
  let s := s.at t
  let sel := s.fld Reg.TSU_EXT_CTL 2 1
  let want := if sel = 1 then 100 else 1000
  if sel = 0 || !s.mfpInput 2 then .next s
  else if want ≤ count + 2 ∧ count ≤ want + 2 then
    let found := !s.tsu.freqPresent
    let s := s.modTsu (fun x => { x with freqPresent := true, freqBad := 0 })
    .next (if found then s.event Reg.TSU_STAT 10 {} else s)
  else
    let lost := s.tsu.freqPresent && decide (3 ≤ s.tsu.freqBad + 1)
    let s := s.modTsu (fun x => { x with freqBad := x.freqBad + 1, freqPresent := x.freqPresent && !lost })
    .next (if lost then s.event Reg.TSU_STAT 9 {} else s)

end Sys2Proof.Machine
end

