-- ==== Sys2Proof/Machine/Steering.lean ====
section
/-! DEFINITION. The beam steering control engine (R186 to R210): encoder, facets, set-points, control law, axis states,
faults and traces. -/

namespace Sys2Proof.Machine

/-! ## Axes and traces -/

/-- Axis `a`. -/
def State.ax (s : State) (a : Nat) : Axis := if a = 0 then s.str.ax0 else s.str.ax1

/-- Change axis `a`. -/
def State.modAx (s : State) (a : Nat) (f : Axis → Axis) : State :=
  { s with str := if a = 0 then { s.str with ax0 := f s.str.ax0 } else { s.str with ax1 := f s.str.ax1 } }

/-- Trace `a`. -/
def State.tr (s : State) (a : Nat) : Trace := if a = 0 then s.str.tr0 else s.str.tr1

/-- Change trace `a`. -/
def State.modTr (s : State) (a : Nat) (f : Trace → Trace) : State :=
  { s with str := if a = 0 then { s.str with tr0 := f s.str.tr0 } else { s.str with tr1 := f s.str.tr1 } }

/-- Ticks of one control sample (R187). -/
def samplePeriod : Nat := 32000

/-- The signed value of a 16-bit register. -/
def State.regI (s : State) (off : Nat) : Int := sgn 16 (s.reg off).toNat

/-- Counts per revolution (R190). -/
def State.cpr (s : State) : Nat := (s.reg Reg.STR_AX0_CPR).toNat

/-- Facets F as applied: above 8 applies 8 (R191). -/
def State.facets (s : State) : Nat := min 8 (s.fld Reg.STR_AX0_GEOM 3 0)

/-- Counts per facet E (R191). -/
def State.facetLen (s : State) : Nat := if s.facets = 0 then s.cpr else s.cpr / s.facets

/-- The first count of facet `f` (R191). -/
def State.facetStart (s : State) (f : Nat) : Nat := ((s.reg Reg.STR_AX0_OFS).toNat + f * s.facetLen) % s.cpr

/-- The count within the current facet, e of R165. -/
def State.facetPos (s : State) : Nat :=
  (s.str.count + s.cpr - (s.reg Reg.STR_AX0_OFS).toNat % s.cpr) % s.cpr % s.facetLen

/-- The beam sector of R165; none before the first index after enable (R190). -/
def State.beamSector (s : State) : Option Nat :=
  if s.str.indexSeen then some (64 * s.facetPos / s.facetLen) else none

/-- The NO_EDGE limit in samples, held at 1 to 8 (R201). -/
def State.edgeTo (s : State) : Nat := clampN 1 8 (s.fld Reg.STR_AX0_TMO 3 0)

/-- No encoder edge for edge_to × 10 µs. -/
def State.noEdge (s : State) : Bool :=
  match s.str.edgeNow with
  | some e => decide (e + s.edgeTo * samplePeriod ≤ s.now)
  | none => true

/-! ## Set-points (R193 to R195) -/

/-- The set-point that a written value commands (R193, R194). -/
def State.spBound (s : State) (a : Nat) (v : Int) : Int :=
  if a = 0 then (if v ≤ 0 then 0 else clampI 30000 600000 v)
  else clampI (s.regI Reg.STR_AX1_MIN) (s.regI Reg.STR_AX1_MAX) v

/-- A set-point lands now: a clamp is recorded; a host write in the HCLK cycle of a STEP does not replace it (R195). -/
def State.landSp (s : State) (a : Nat) (v : Int) (isStep : Bool) (addr path : Nat) : State :=
  let b := s.spBound a v
  let beaten := !isStep && (s.ax a).spNext.any (fun x => x.2.2 && decide (x.2.1 / 32 = s.now / 32))
  let s := if beaten then s else s.modAx a (fun x => { x with spNext := x.spNext ++ [(b, s.now, isStep)] })
  if b = v then s else s.paramClamp addr (unsgn 32 b) path

/-- The set-point in force at a sample tick: the last that landed before it (R187). -/
def State.applySp (s : State) (a : Nat) : State :=
  s.modAx a (fun x => { x with
    sp := ((x.spNext.filter (fun y => decide (y.2.1 < s.now))).getLast?.map (fun y => y.1)).getD x.sp
    spNext := x.spNext.filter (fun y => !decide (y.2.1 < s.now)) })

/-! ## Axis states (R199) -/

/-- Axis `a` enters state `st`: zero torque in OFF and FAULT; the integrator and the run lengths are cleared; index_seen
counts from enable. -/
def State.axEnter (s : State) (a st : Nat) : State :=
  let s := s.modAx a (fun x => { x with
    st, u := 0, uSat := false, integ := if st = 2 then 0 else x.integ
    overN := 0, underN := 0, travelN := 0, trackN := 0, lockN := 0
    entry := decide (st = 2), since := s.now, window := none })
  if a = 0 ∧ st = 0 then { s with str := { s.str with indexSeen := false } } else s

/-- The state an axis takes up from OFF, FAULT or STANDBY (R199). -/
def State.axStart (s : State) (a : Nat) : Nat := if a = 0 ∧ (s.ax 0).sp = 0 then 1 else 2

/-- STEER_STALL (R200); at its rise no later pulse of a burst starts (R16, R17). -/
def State.strUpdate (s : State) : State :=
  let stall := decide (s.str.ax0.st ≠ 3) || (s.str.ax1.enabled && decide (s.str.ax1.st ≠ 3))
  let s := if stall && !s.str.stall then s.stopBurst else s
  { s with str := { s.str with stall } }

/-- An axis fault latches (R203): counted, flagged, logged with axis and reason. -/
def State.axFault (s : State) (a reason : Nat) : State :=
  let s := (s.axEnter a 4).modAx a (fun x => { x with reason, integ := 0 })
  (((s.bump (Id.STR_FAULT_COUNT + a)).fault 0xA40 Reg.STR_STAT (flag16 a)
    { inst := a, detail := a + 256 * reason })).strUpdate

/-- Is the tree on BCLK while the axes are live (R204; STANDBY has its own row there)? -/
def State.axClockLost (s : State) : Bool :=
  !s.onVco && decide (s.mode.active ≠ .standby) && decide (s.mode.active ≠ .boot) && decide (s.mode.active ≠ .reset)

/-- May axes leave OFF in this mode (R204)? -/
def State.axModeOk (s : State) : Bool :=
  match s.mode.active with
  | .reset | .boot | .standby => false
  | .ready | .scan | .guard | .service | .safe => true

/-- The configuration faults of R191. -/
def State.axCfgBad (s : State) (a : Nat) : Bool :=
  decide (a = 0) && (decide (s.cpr < 1024) || (decide (s.facets ≠ 0) && decide (s.cpr % s.facets ≠ 0)) ||
    decide (s.cpr ≤ (s.reg Reg.STR_AX0_OFS).toNat))

/-- An enabled axis in OFF leaves it (R199). -/
def State.axLeaveOff (s : State) (a : Nat) : State :=
  if (s.ax a).enabled && !(s.ax a).cfgOff && decide ((s.ax a).st = 0) && s.axModeOk then
    if s.axClockLost then s.axFault a 9
    else
      let s := if a = 0 then { s with str := { s.str with indexSeen := false, revs := 0 } } else s
      s.axEnter a (s.axStart a)
  else s

/-- ax_en of axis `a` takes a new value: setting it checks the configuration (R191); clearing it acts at the next
sample. -/
def State.axEnable (s : State) (a : Nat) (on : Bool) : State :=
  if on && !(s.ax a).enabled then
    let bad := s.axCfgBad a
    let s := s.modAx a (fun x => { x with enabled := true, cfgOff := bad })
    if bad then s.event Reg.STR_STAT 4 { inst := a } else (s.axLeaveOff a).strUpdate
  else s.modAx a (fun x => { x with enabled := on })

/-- The switch to BCLK: every enabled axis enters FAULT with reason CLOCK (R204). -/
def State.strClockLost (s : State) : State :=
  forN 2 s (fun s a =>
    if (s.ax a).enabled && decide ((s.ax a).st ≠ 4) && s.axClockLost then s.axFault a 9 else s)

/-- STANDBY: zero torque (R96, R204). -/
def State.strStandby (s : State) : State :=
  (forN 2 s (fun s a => if (s.ax a).st = 4 then s else s.axEnter a 0)).strUpdate

/-- Exit from STANDBY: each enabled axis restarts (R204). -/
def State.strWake (s : State) : State := (forN 2 s (fun s a => s.axLeaveOff a)).strUpdate

/-- DRV_EN of an axis: low in OFF and FAULT (R186, R199). -/
def State.drvEn (s : State) (a : Nat) : Bool :=
  (s.ax a).enabled && decide ((s.ax a).st ≠ 0) && decide ((s.ax a).st ≠ 4)

/-! ## Measurement -/

/-- Intervals and ticks of the speed measurement (R192). -/
def State.encSpan (s : State) : Int × Int :=
  if 2 ≤ s.str.perEdges then (s.str.perN, ((s.str.edgeNow.getD 0 : Nat) : Int) - s.str.perFirst)
  else
    match s.str.edgePrev, s.str.edgeNow with
    | some a, some b => (if s.str.edgeDir then 1 else -1, (b : Int) - a)
    | _, _ => (0, 1)

/-- The measured speed in 0.01 rpm (R192); its rounding is left open, and so is the speed of two edges in one tick. -/
def State.encSpeed (s : State) : Int :=
  let d := s.encSpan
  let den := (s.cpr : Int) * d.2
  if den = 0 then sgn 32 s.freeW.toNat else s.openQuot (6000 * 3200000000 * d.1) den

/-- The measurements of a sample (R187): speed of AX_0, position of AX_1; a new sample period begins. -/
def State.axMeasure (s : State) : State :=
  let v := s.encSpeed
  let s := { s with str := { s.str with
    ax0 := { s.str.ax0 with prev := s.str.ax0.meas, meas := v }
    ax1 := { s.str.ax1 with prev := s.str.ax1.meas, meas := s.str.ax1.rx, vel := s.str.ax1.rx - s.str.ax1.meas }
    perEdges := 0, perN := 0 } }
  s.freeUsed

/-! ## Control law (R196, R197) -/

/-- The cogging or friction term. -/
def State.feedForward (s : State) (a : Nat) (e : Int) : Int :=
  if a = 0 then
    if s.str.indexSeen then s.regI (Reg.STR_COG + 4 * (4096 * s.str.count / s.cpr % 4096)) else 0
  else
    let lo := s.regI Reg.STR_AX1_MIN
    let hi := s.regI Reg.STR_AX1_MAX
    let p := clampI lo hi s.str.ax1.meas
    let i := (1024 * (p - lo) / (hi - lo + 1)).toNat % 1024
    let m : Int := (s.reg (Reg.STR_FRIC + 4 * i)).toNat
    let v := s.str.ax1.vel
    if v ≠ 0 then v.sign * m else e.sign * m

/-- The law of R196 for axis `a`, leaving its terms in the axis. -/
def State.axLaw (s : State) (a : Nat) : State :=
  let x := s.ax a
  let k := 0x20 * a
  let e := x.sp - x.meas
  let gi := min 255 (e.natAbs >>> s.fld (Reg.STR_LAW_0_SHIFT + k) 3 0)
  let g : Int := (s.reg (Reg.STR_GAIN + 0x400 * a + 4 * gi)).toNat
  let p := e * g / 256
  let ilim : Int := (s.reg (Reg.STR_LAW_ILIM + k)).toNat
  let ulim : Int := (s.reg (Reg.STR_LAW_ULIM + k)).toNat
  let ki : Int := (s.reg (Reg.STR_LAW_KI + k)).toNat
  let kd : Int := (s.reg (Reg.STR_LAW_KD + k)).toNat
  let integ := if x.uSat && decide (e.sign = x.u.sign) then x.integ else clampI (-ilim) ilim (x.integ + e * ki / 65536)
  let d := if a = 0 then 0 else x.vel * kd / 16
  let ff := s.feedForward a e
  let raw := ff + p + integ - d
  s.modAx a (fun x => { x with
    e, gi, p, integ, d, ff, u := clampI (-ulim) ulim raw, uSat := decide (raw ≤ -ulim) || decide (ulim ≤ raw) })

/-- Zero torque: the error is still formed. -/
def State.axIdleLaw (s : State) (a : Nat) : State :=
  s.modAx a (fun x => { x with e := x.sp - x.meas, gi := 0, p := 0, d := 0, ff := 0, u := 0, uSat := false })

/-- The drive of axis `a` at a sample (R199): closed loop, or zero torque. -/
def State.axDrive (s : State) (a : Nat) : State :=
  match (s.ax a).st with
  | 1 => if s.noEdge then s.axIdleLaw a else s.axLaw a
  | 2 | 3 => s.axLaw a
  | _ => s.axIdleLaw a

/-! ## Fault conditions (R201) -/

/-- Over-speed (order 4). -/
def State.axOver (s : State) : Bool :=
  decide (630000 < (s.ax 0).meas) ||
    decide ((s.ax 0).sp * (256 + s.fld Reg.STR_AX0_LIM 15 8 : Nat) < (s.ax 0).meas * 256)

/-- Under-speed (order 5). -/
def State.axUnder (s : State) : Bool :=
  decide ((s.ax 0).meas * 256 < (s.ax 0).sp * (256 - (s.fld Reg.STR_AX0_LIM 7 0 : Int)))

/-- SPINUP lasting longer than its limit (order 6), not checked at its entry sample. -/
def State.axSpinOver (s : State) : Bool :=
  !(s.ax 0).entry && decide ((s.ax 0).since + msT (100 * s.fld Reg.STR_AX0_TMO 15 8) < s.now)

/-- Position outside the travel limits widened by err_max (order 7). -/
def State.axTravel (s : State) : Bool :=
  let m : Int := (s.reg Reg.STR_AX1_ERR).toNat
  decide ((s.ax 1).meas < s.regI Reg.STR_AX1_MIN - m) || decide (s.regI Reg.STR_AX1_MAX + m < (s.ax 1).meas)

/-- |e| above err_max (order 8). -/
def State.axTrack (s : State) : Bool := decide ((s.reg Reg.STR_AX1_ERR).toNat < (s.ax 1).e.natAbs)

/-- The run lengths of the conditions that need two samples. -/
def State.axCount (s : State) (a : Nat) : State :=
  let x := s.ax a
  if a = 0 then
    let o := s.axOver && decide (x.st = 2 ∨ x.st = 3)
    let n := s.axUnder && decide (x.st = 3)
    let lock := decide (x.e.natAbs * 256 ≤ x.sp.toNat * s.fld Reg.STR_AX0_LOCK 7 0)
    s.modAx 0 (fun x => { x with
      overN := if o then x.overN + 1 else 0, underN := if n then x.underN + 1 else 0
      lockN := if lock then x.lockN + 1 else 0 })
  else
    let t := s.axTravel && decide (x.st = 2 ∨ x.st = 3)
    let k := s.axTrack && decide (x.st = 3) && x.window.isNone
    s.modAx 1 (fun x => { x with
      travelN := if t then x.travelN + 1 else 0, trackN := if k then x.trackN + 1 else 0 })

/-- The first fault reason of R201 that holds at this sample, 0 if none. -/
def State.axReason (s : State) (a : Nat) : Nat :=
  let x := s.ax a
  if x.st = 0 ∨ x.st = 4 then 0
  else if 2 ≤ x.linkBad then 1
  else if a = 0 then
    if x.st = 3 ∧ s.noEdge then 3
    else if 2 ≤ x.overN then 4
    else if 2 ≤ x.underN then 5
    else if x.st = 2 ∧ s.axSpinOver then 6
    else 0
  else if 2 ≤ x.travelN then 7
  else if 2 ≤ x.trackN then 8
  else 0

/-- Does the condition behind a latched reason still hold (R203)? Conditions that are over once they have happened
(INDEX, SPINUP) are absent. -/
def State.axPersists (s : State) (a : Nat) : Bool :=
  s.axClockLost ||
  match (s.ax a).reason with
  | 1 => decide (2 ≤ (s.ax a).linkBad)
  | 3 => s.noEdge
  | 4 => s.axOver
  | 5 => s.axUnder
  | 7 => s.axTravel
  | 8 => s.axTrack
  | _ => false

/-- The end of the settle window of AX_1 (R199, R201): RUN or TRACK from SETTLING. -/
def State.windowEnd (s : State) : State :=
  match (s.ax 1).window with
  | none => s
  | some w =>
    if w ≤ s.now then
      let s := s.modAx 1 (fun x => { x with window := none })
      if (s.ax 1).st = 2 then
        if s.axTrack then s.axFault 1 8 else (((s.axEnter 1 3)).event Reg.STR_STAT 3 { inst := 1 }).strUpdate
      else s
    else s

/-- A settle window that ended before this sample. -/
def State.windowOverdue (s : State) : State :=
  match (s.ax 1).window with
  | some w => if w < s.now then s.windowEnd else s
  | none => s

/-! ## Transitions at a sample -/

/-- The change that the set-point makes to the state of AX_0, and the settle window it opens on AX_1 (R199, R201). -/
def State.axSpChange (s : State) (a : Nat) (old : Int) : State :=
  let x := s.ax a
  if a = 0 then
    if x.sp = 0 ∧ (x.st = 2 ∨ x.st = 3) then s.axEnter 0 1
    else if x.st = 1 ∧ x.sp ≠ 0 then s.axEnter 0 2
    else if x.st = 3 ∧ x.sp.toNat * s.fld Reg.STR_AX0_LOCK 7 0 < (x.sp - old).natAbs * 256 then s.axEnter 0 2
    else s
  else if x.st = 3 ∧ x.sp ≠ old then
    s.modAx 1 (fun x => { x with
      window := some (s.now + s.fld Reg.STR_AX1_SETTLE 9 0 * samplePeriod), trackN := 0 })
  else s

/-- The entry sample of SPINUP and SETTLING: times count from it (R201). -/
def State.axEntrySample (s : State) (a : Nat) : State :=
  if (s.ax a).entry then
    s.modAx a (fun x => { x with
      since := s.now
      window := if a = 1 then some (s.now + s.fld Reg.STR_AX1_SETTLE 9 0 * samplePeriod) else none })
  else s

/-- AX_0 enters RUN: index seen, and the error inside the lock window on lock_n consecutive samples (R199). -/
def State.axLock (s : State) : State :=
  if (s.ax 0).st = 2 ∧ s.str.indexSeen ∧ s.fld Reg.STR_AX0_LOCK 15 8 ≤ (s.ax 0).lockN then
    (s.axEnter 0 3).event Reg.STR_STAT 2 {}
  else s

/-- One control sample of axis `a` (R187, R196, R199, R201). An enable bit that was cleared takes the axis to OFF after a
fault of the same sample is logged (R207). -/
def State.axSample (s : State) (a : Nat) : State :=
  let old := (s.ax a).sp
  let s := s.applySp a
  let s := if (s.ax a).st = 0 then s.axLeaveOff a else s
  let s := (s.axSpChange a old).axEntrySample a
  let s := (s.axDrive a).axCount a
  let r := s.axReason a
  let s := if r ≠ 0 then s.axFault a r else if a = 0 then s.axLock else s
  let s := s.modAx a (fun x => { x with entry := false })
  if !(s.ax a).enabled && decide ((s.ax a).st ≠ 0) then s.axEnter a 0 else s

/-! ## Traces (R205, R206) -/

/-- The value of node `n` of axis `a` (R205). -/
def State.traceNode (s : State) (a n : Nat) : Int :=
  let x := s.ax a
  match n with
  | 0 => x.sp | 1 => x.meas | 2 => x.e | 3 => x.gi | 4 => x.p | 5 => x.integ | 6 => x.d | 7 => x.ff | 8 => x.u
  | 9 => x.rx | 10 => if a = 0 then s.str.count else x.vel | 11 => x.st | _ => 0

/-- One stored sample: shifted and saturated. -/
def State.traceSample (s : State) (a j : Nat) : Int :=
  let n := bitsOf (s.reg (Reg.STR_TRC_SEL + 0x20 * a)).toNat (4 * j + 3) (4 * j)
  clampI (-32768) 32767 (s.traceNode a n / 2 ^ s.fld (Reg.STR_TRC_CTL + 0x20 * a) 6 3)

/-- Post-trigger samples as applied (R206). -/
def State.tracePost (s : State) (a : Nat) : Nat := min 8192 (s.fld (Reg.STR_TRC_POST + 0x20 * a) 13 0)

/-- Samples a trace holds. -/
def Trace.len (t : Trace) : Nat := (fget [] t.bufs 0).length

/-- The four buffers take one sample each; the oldest of 8,192 goes. -/
def State.traceStore (s : State) (a : Nat) : State :=
  let b := fmk (fun _ => []) 4 (fun j =>
    let l := fget [] (s.tr a).bufs j ++ [s.traceSample a j]
    if 8192 < l.length then l.drop 1 else l)
  s.modTr a (fun t => { t with bufs := b, decimN := 0, postLeft := if t.st = 2 then t.postLeft - 1 else 0 })

/-- Does the trigger of trace `a` come at this sample (R206)? -/
def State.traceTrig (s : State) (a : Nat) (spChanged : Bool) : Bool :=
  let t := s.tr a
  t.forced ||
  match s.fld (Reg.STR_TRC_CTL + 0x20 * a) 2 0 with
  | 1 => spChanged
  | 2 => decide ((s.reg (Reg.STR_TRC_LVL + 0x20 * a)).toNat ≤ (s.ax a).e.natAbs)
  | 3 => decide ((s.ax a).st ≠ t.seenSt)
  | 4 => s.str.stall && !t.seenStall
  | 5 => s.str.capTrig
  | _ => false

/-- The trace freezes: trc_done_a, UTIME of the trigger sample, the trigger's index (R206). The index of a trigger that
is no longer in the buffer is left open. -/
def State.traceDone (s : State) (a : Nat) : State :=
  let t := s.tr a
  if t.st = 2 ∧ t.postLeft = 0 then
    let n := t.len
    let i := if s.tracePost a < n then n - 1 - s.tracePost a else s.freeW.toNat % 8192
    let s := (s.modTr a (fun t => { t with st := 3, count := n })).freeUsed
    (s.putWide (Id.STR_TRC_TRIG + a) (t.trigUt + i * 2 ^ 64)).event Reg.STR_STAT (6 + a) { inst := a }
  else s

/-- The trace of axis `a` at a sample: store, then look for the trigger (R205, R206). -/
def State.traceStep (s : State) (a : Nat) (spChanged : Bool) : State :=
  let dec := s.fld (Reg.STR_TRC_CTL + 0x20 * a) 15 7
  let s := s.traceDone a
  let t := s.tr a
  let s := if (t.st = 1 ∨ t.st = 2) ∧ dec ≠ 0 then
      (if dec ≤ t.decimN + 1 then s.traceStore a else s.modTr a (fun t => { t with decimN := t.decimN + 1 }))
    else s
  let s := if t.st = 1 && s.traceTrig a spChanged then
      s.modTr a (fun t => { t with st := 2, postLeft := s.tracePost a, trigUt := s.utime, forced := false })
    else s
  s.modTr a (fun t => { t with seenSt := (s.ax a).st, seenStall := s.str.stall })

/-! ## Commands -/

/-- Is a facet mark due at this count (R191)? Marks need the index, and an axis that is neither OFF nor in FAULT. -/
def State.facetMark (s : State) : State :=
  if s.str.indexSeen && decide ((s.ax 0).st ≠ 0) && decide ((s.ax 0).st ≠ 4) then
    match (List.range s.facets).find? (fun f => decide (s.facetStart f = s.str.count)) with
    | some f => { s with str := { s.str with facet := some (f, s.now) } }.tsuInternal 1
    | none => s
  else s

/-- CONTROL_SAMPLE (R187): one sample every 32,000 ticks. -/
def execControlSample (t : Nat) (s : State) : Host.Outcome State Fault Refusal :=
  let due := if s.str.sampleAt = 0 then t else max t (s.str.sampleAt + samplePeriod)
  let s := (s.at due).windowOverdue
  let sp0 := (s.ax 0).sp
  let sp1 := (s.ax 1).sp
  let s := { s with str := { s.str with sampleAt := s.now } }
  let s := ((s.axMeasure.axSample 0).axSample 1).strUpdate
  let s := (s.traceStep 0 (decide ((s.ax 0).sp ≠ sp0))).traceStep 1 (decide ((s.ax 1).sp ≠ sp1))
  .next { s with str := { s.str with capTrig := false } }

/-- AXIS_LINK_FRAME (R188, R189): the readback of an enabled axis, or a link error. -/
def execAxisLinkFrame (t : Nat) (a : Fin 2) (rx : Word) (s : State) : Host.Outcome State Fault Refusal :=
  let s := s.at t
  if (s.ax a).enabled then
    if bitsOf rx.toNat 31 28 = 0b1010 then
      .next (s.modAx a (fun x => { x with rx := sgn 16 (bitsOf rx.toNat 27 12), linkBad := 0 }))
    else
      .next (((s.modAx a (fun x => { x with linkBad := x.linkBad + 1 })).bump Id.STR_LINK_ERRS).fault 0x840
        Reg.STR_STAT (flag16 5) { inst := a, detail := a })
  else .next s

/-- The count moves by one edge, unless the edge is that of an index in the same tick (R190, R207). -/
def State.countEdge (s : State) (up : Bool) : Nat :=
  if s.str.idxAt = some s.now then s.str.count
  else if up then (if s.cpr ≤ s.str.count + 1 then 0 else s.str.count + 1)
  else (if s.str.count = 0 then s.cpr - 1 else s.str.count - 1)

/-- ENCODER_EDGE (R186, R190, R191). -/
def execEncoderEdge (t : Nat) (up : Bool) (s : State) : Host.Outcome State Fault Refusal :=
  let s := s.at t
  let c := s.countEdge up
  let x := s.str
  .next ({ s with str := { x with
    count := c
    countPrev := x.count
    edgeNow := some s.now
    edgePrev := x.edgeNow
    edgeDir := up
    perFirst := if x.perEdges = 0 then s.now else x.perFirst
    perEdges := x.perEdges + 1
    perN := if x.perEdges = 0 then 0 else if up then x.perN + 1 else x.perN - 1 } }).facetMark

/-- ENCODER_INDEX (R190): the count before the index is checked once an index has been seen; then it is 0. -/
def execEncoderIndex (t : Nat) (s : State) : Host.Outcome State Fault Refusal :=
  let s := s.at t
  let before := if s.str.edgeNow = some s.now then s.str.countPrev else s.str.count
  let off := ((before : Int) - (s.cpr - 1)).natAbs
  let bad := s.str.indexSeen && decide (s.fld Reg.STR_AX0_TMO 5 4 < off) && decide ((s.ax 0).st ≠ 0) &&
    decide ((s.ax 0).st ≠ 4)
  let on := (s.ax 0).enabled && decide ((s.ax 0).st ≠ 0)
  let s := { s with str := { s.str with
    count := 0
    idxAt := some s.now
    revs := if s.str.indexSeen then (s.str.revs + 1) % 65536 else s.str.revs
    indexSeen := s.str.indexSeen || on } }
  let s := if (s.ax 0).enabled then s.tsuInternal 0 else s
  .next (if bad then s.axFault 0 2 else s.facetMark)

/-- SPINUP_TIMEOUT (R201): at the first sample past the limit. -/
def execSpinupTimeout (t : Nat) (s : State) : Host.Outcome State Fault Refusal :=
  let due := (s.ax 0).since + msT (100 * s.fld Reg.STR_AX0_TMO 15 8) + samplePeriod
  let s := if (s.ax 0).st = 2 && !(s.ax 0).entry then s.at (max t due) else s.at t
  if (s.ax 0).st = 2 && s.axSpinOver then .next (s.axFault 0 6) else .next s

/-- NO_EDGE_TIMEOUT (R201): in RUN. -/
def execNoEdgeTimeout (t : Nat) (s : State) : Host.Outcome State Fault Refusal :=
  let s := s.at t
  if (s.ax 0).st = 3 && s.noEdge then .next (s.axFault 0 3) else .next s

/-- SETTLE_WINDOW_END (R199, R201). -/
def execSettleWindowEnd (t : Nat) (s : State) : Host.Outcome State Fault Refusal :=
  match (s.ax 1).window with
  | some w => .next (s.at (max t w)).windowEnd
  | none => .next (s.at t)

/-- AXIS_ENABLE (R191): a write of 1 to STR_CTL.ax_en of axis `a`. -/
def execAxisEnable (t : Nat) (path : Path) (a : Fin 2) (s : State) : Host.Outcome State Fault Refusal :=
  .next ((s.at t).onBar (fun s =>
    (s.cWrite Reg.STR_CTL (BitVec.ofNat 32 (65537 * 2 ^ a.val)) path).axEnable a true))

/-- STR_CMD.restart_a (R203): accepted while the fault condition is absent. -/
def State.axRestart (s : State) (a : Nat) : State :=
  if (s.ax a).st = 4 && !s.axPersists a && (s.ax a).enabled then (s.axEnter a (s.axStart a)).strUpdate else s

/-- AXIS_RESTART (R203). -/
def execAxisRestart (t : Nat) (_path : Path) (a : Fin 2) (s : State) : Host.Outcome State Fault Refusal :=
  .next ((s.at t).onBar (fun s => s.axRestart a))

/-- STR_CMD.trc_arm_a (R206). -/
def State.traceArm (s : State) (a : Nat) : State :=
  s.modTr a (fun _ => { st := 1, seenSt := (s.ax a).st, seenStall := s.str.stall })

/-- TRACE_ARM (R206). -/
def execTraceArm (t : Nat) (_path : Path) (a : Fin 2) (s : State) : Host.Outcome State Fault Refusal :=
  .next ((s.at t).onBar (fun s => s.traceArm a))

/-- STR_CMD.trc_force_a (R206): the next sample is the trigger sample. -/
def State.traceForce (s : State) (a : Nat) : State :=
  if (s.tr a).st = 1 then s.modTr a (fun t => { t with forced := true }) else s

/-- TRACE_FORCE (R206). -/
def execTraceForce (t : Nat) (_path : Path) (a : Fin 2) (s : State) : Host.Outcome State Fault Refusal :=
  .next ((s.at t).onBar (fun s => s.traceForce a))

/-- TRACE_FREEZE (R206). -/
def execTraceFreeze (t : Nat) (a : Fin 2) (s : State) : Host.Outcome State Fault Refusal :=
  .next ((s.at t).traceDone a)

end Sys2Proof.Machine
end

