-- ==== Sys2Proof/Machine/Emission.lean ====
section
/-! DEFINITION. Emission (R152 to R185): permission, profiles and codes, the driver bus, the Emission Budget Monitor, the
pulse monitor, emitter states, proofs and failures. -/

namespace Sys2Proof.Machine

/-! ## Emitters and boards -/

/-- Emitter `k`. -/
def State.em (s : State) (k : Nat) : Emitter := fget {} s.emt.emitters k

/-- Change emitter `k`. -/
def State.modEm (s : State) (k : Nat) (f : Emitter → Emitter) : State :=
  { s with emt := { s.emt with emitters := fmod {} s.emt.emitters k f } }

/-- The emitter enables (R183). -/
def State.emtEnabled (s : State) (k : Nat) : Bool := s.bit (Reg.EMT_ENABLE + 4 * (k / 16)) (k % 16)

/-- The board of emitter `k` (R162). -/
def State.boardOf (s : State) (k : Nat) : Nat :=
  s.fld (Reg.EMT_BOARD_MAP + 4 * (k / 4)) (4 * (k % 4) + 2) (4 * (k % 4))

/-- Does board `b`'s sensor read in range, with a valid reading of the last 100 ms (R162)? -/
def State.boardReads (s : State) (b : Nat) : Bool :=
  let r := Reg.EMT_BOARD_SFE + 4 * b
  let ch := s.fld r 3 0
  let l := fget 0 s.sfe.lastAt ch
  s.bit r 4 && !bitOf s.sfe.open_.toNat ch && !bitOf s.sfe.bad.toNat ch && decide (l ≠ 0) && decide (s.now ≤ l + msT 100)

/-- The inhibited boards. -/
def State.boardMask (s : State) : Nat := ((List.range 8).map (fun b => if s.boardReads b then 0 else 2 ^ b)).sum

/-- The board inhibitions are brought up to date; a new one raises board_inhibit (R162). -/
def State.updBoards (s : State) : State :=
  let m := BitVec.ofNat 8 s.boardMask
  let new := m &&& ~~~s.emt.boardInhibit
  let s := { s with emt := { s.emt with boardInhibit := m } }
  if new = 0 then s else s.event Reg.EMT_STAT 6 { detail := new.toNat }

/-! ## Permission (R16) -/

/-- Is the protective-field configuration valid (R364)? -/
def State.fieldValid (s : State) : Bool := s.cap.refWritten && s.cap.sweepOk && s.cap.rangesOk

/-- Does a failure hold WHOLE_OFF effect (R180)? -/
def State.wholeOff (s : State) : Bool := (List.range 32).any (fun k => decide ((s.em k).st = 5) && (s.em k).wholeOff)

/-- The die is below Cone 3 and the diode healthy. -/
def State.dieOk (s : State) : Bool := s.thm.converted && !bitOf s.thm.inCone.toNat 2 && decide (16 ≤ s.thm.okRun)

/-- The conditions of R16 that do not depend on the emitter; a held frame fires nothing either (R68). -/
def State.emitOk (s : State) : Bool :=
  s.sec.permit && s.mode.active.scanning && s.onVco && !s.str.stall && s.dieOk && !s.wholeOff && !s.whl.held &&
    (decide (s.mode.active ≠ .guard) || (s.crc.matched && s.fieldValid))

/-- The conditions of R16 for emitter `k`, but for the grant. -/
def State.fireOk (s : State) (k : Nat) : Bool := s.emitOk && s.boardReads (s.boardOf k)

/-- May an emitter in this state emit normal pulses (R176)? -/
def emitsNormal (st : Nat) : Bool := decide (1 ≤ st) && decide (st ≤ 4)

/-! ## Coil windows (R113, R402) -/

/-- The schedule in force at this tick: cycle, windows. A pending one is in force from its activation time (R403). -/
def State.coilSched (s : State) : Nat × List (BitVec 64) :=
  match s.coil.nextSched with
  | some (a, c, w) => if a ≤ s.utime then (c, w) else (s.coil.cycle, s.coil.sched)
  | none => (s.coil.cycle, s.coil.sched)

/-- Does the span of `n` ticks from tick `t` lie inside a window that the unit holds (R113, R398, R402)? A
changed address counts from the frame boundary (R394, R408). -/
def State.coilFires (s : State) (t n : Nat) : Bool :=
  if s.bit Reg.COIL_CTL 3 then
    let c := s.coilSched.1
    let p := s.utimeAt t % c
    decide (s.coil.align = 2 ∨ s.coil.align = 3) && decide (s.emt.derivedFor ≠ 0) && decide (c ≠ 0) &&
      s.coilSched.2.any (fun w =>
        let st := bitsOf w.toNat 23 0
        decide (st ≤ p) && decide (p + n ≤ st + bitsOf w.toNat 47 32) && bitOf w.toNat (48 + (s.emt.derivedFor - 1)))
  else true

/-! ## Profiles and applied codes (R153, R161) -/

/-- A written pulse width as applied, in half-ticks (R153). -/
def widthApplied (w : Nat) : Nat := if w = 0 then 0 else clampN 13 64 w

/-- The committed width of profile `p`. -/
def State.profWidth (s : State) (p : Nat) : Nat := fget 32 s.emt.width p

/-- Field `p` of a code set: profiles 0 to 7, then the proof code. -/
def codeField (v : BitVec 128) (p : Nat) : Nat := bitsOf v.toNat (12 * p + 11) (12 * p)

/-- The committed code of emitter `k` in profile `p` (8: proof). -/
def State.appliedCode (s : State) (k p : Nat) : Nat := codeField (fget 0 s.emt.active k) p

/-- The nominal code of emitter `k` in profile `p` (8: proof). -/
def State.nominalCode (s : State) (k p : Nat) : Nat :=
  if p = 8 then s.fld Reg.EMT_PROOF_CODE 11 0 else s.fld (Reg.EMT_PROF_CODE + 4 * (32 * p + k)) 11 0

/-- The derating ceiling of board `b` at its temperature (R162). -/
def State.derateCeil (s : State) (b : Nat) : Nat :=
  let t := clampI (-640) 1880 (sgn 16 (s.wideN (Id.EMT_BOARD_TEMP + b)))
  s.fld (Reg.EMT_DERATE + 256 * b + 4 * ((t + 640) / 40).toNat) 11 0

/-- The near-saturation reduction of a code (R161). -/
def nsrCode (nom st : Nat) : Nat := nom * (16 - st) / 16

/-- The code of emitter `k` in profile `p` as R161 computes it. -/
def State.codeOf (s : State) (k p : Nat) : Nat :=
  min (s.nominalCode k p) (min (s.derateCeil (s.boardOf k)) (nsrCode (s.nominalCode k p) (s.em k).nsr))

/-- The code set of emitter `k`. -/
def State.codeSet (s : State) (k : Nat) : BitVec 128 :=
  BitVec.ofNat 128 (packFields ((List.range 9).map (fun p => (12, s.codeOf k p))))

/-- Does derating lower some code, does near-saturation reduction? -/
def State.derates (s : State) : Bool :=
  (List.range 32).any (fun k => (List.range 9).any (fun p =>
    decide (s.derateCeil (s.boardOf k) < s.nominalCode k p)))

/-- Does near-saturation reduction lower some code? -/
def State.nsrLowers (s : State) : Bool :=
  (List.range 32).any (fun k => (List.range 9).any (fun p =>
    decide (nsrCode (s.nominalCode k p) (s.em k).nsr < s.nominalCode k p)))

/-- A snapshot of profiles and applied codes; its 32 TABLE packets are to be sent (R159). -/
def State.tblSnapshot (s : State) : State :=
  let s := { s with emt := { s.emt with
    widthSnap := fmk (fun _ => 32) 8 (fun p => widthApplied (s.fld (Reg.EMT_PROF_WIDTH + 4 * p) 6 0))
    codeSnap := fmk (fun _ => 0) 32 s.codeSet
    tblNext := 0, tblTried := false, tblAck := 0, tblDoneAt := none } }
  let s := if s.derates then s.event Reg.EMT_STAT 7 {} else s
  if s.nsrLowers then s.event Reg.EMT_STAT 8 {} else s

/-- A profile register changed: outside SCAN, GUARD and SERVICE the table is sent at once (R160). -/
def State.emtDirty (s : State) : State :=
  if s.mode.active.scanning then s
  else ({ s with emt := { s.emt with dirty := true, tblFrame := false } }).tblSnapshot

/-- The commit: the snapshot's codes and widths are in force (R159). -/
def State.tblCommit (s : State) : State :=
  { s with emt := { s.emt with
    active := s.emt.codeSnap, width := s.emt.widthSnap, dirty := false, staleRun := 0, tblFrame := false,
    shadow := s.emt.codeSnap } }

/-! ## Codes (R155, R156) -/

/-- f of R155 for a Coil address. -/
def coilF (addr : Nat) : Nat := if 1 ≤ addr ∧ addr ≤ 16 then addr - 1 else 0

/-- A derived code (R155): pulse count and gaps. -/
def derivedCode (addr c : Nat) : List Nat := [3, 4 * (12 + coilF addr), 4 * (28 + (c + 5 * coilF addr) % 16), 0]

/-- The code table as it stands (R156). -/
def State.codeTable (s : State) : FMap (List Nat) :=
  fmk (derivedCode 0) 16 (fun c =>
    if s.bit Reg.EMT_CTL 1 then
      let r := Reg.EMT_CODE_A + 16 * c
      [min 4 (s.fld r 2 0), s.fld (r + 4) 8 0, s.fld (r + 8) 8 0, s.fld (r + 12) 8 0]
    else derivedCode s.coil.addr c)

/-- Entry `c` of the code table of the frame. -/
def State.codeEntry (s : State) (c : Nat) : List Nat := fget (derivedCode 0 c) s.emt.codes c

/-- The least gap between pulses of `w` half-ticks under TABLE (R156). -/
def minGap (w : Nat) : Nat := (w + 1) / 2 + 8

/-- Running sums from `a`. -/
def offsFrom (a : Nat) : List Nat → List Nat
  | [] => [a]
  | g :: r => a :: offsFrom (a + g) r

/-- The gaps of an entry that are used. -/
def usedGaps (e : List Nat) : List Nat := (e.drop 1).take (e.headD 0 - 1)

/-- Pulse offsets of code `c` at profile `p`, in ticks (R155, R156); none for a count of 0. -/
def State.codeOffs (s : State) (c p : Nat) : List Nat :=
  let e := s.codeEntry c
  if e.headD 0 = 0 then []
  else offsFrom 0 ((usedGaps e).map (fun g => if s.bit Reg.EMT_CTL 1 then max (minGap (s.profWidth p)) g else g))

/-- A used gap below the minimum raises PARAM_CLAMP (R156). -/
def State.gapClamp (s : State) (c p : Nat) : State :=
  let m := minGap (s.profWidth p)
  let g := usedGaps (s.codeEntry c)
  forN 3 s (fun s i =>
    if s.bit Reg.EMT_CTL 1 && decide (i < g.length) && decide (g.getD i 0 < m) then
      s.paramClamp (Reg.EMT_CODE_A + 16 * c + 4 * (i + 1)) m
    else s)

/-- The offsets of the pulses that end within 320 ticks when the first starts at `base` (R142). -/
def pulsesIn (offs : List Nat) (w base : Nat) : List Nat :=
  if w = 0 then [] else offs.filter (fun o => decide (2 * (base + o) + w ≤ 640))

/-- The stagger applied to a burst of `n` emitters (R142). -/
def staggerFit (offs : List Nat) (w n stag : Nat) : Nat :=
  let last := offs.getLastD 0
  if offs = [] ∨ w = 0 ∨ 2 * ((n - 1) * stag + last) + w ≤ 640 then stag
  else if 2 * last + w ≤ 640 then (640 - w - 2 * last) / (2 * (n - 1)) else 0

/-! ## Budget Monitor (R164 to R169) -/

/-- The key of a bucket: emitter, beam sector, fast (0) or slow (1). -/
def bucketKey (k sec slow : Nat) : Nat := 2 * (64 * k + sec) + slow

/-- The content of a bucket with its refills so far (R165). -/
def State.bucket (s : State) (k sec slow : Nat) : Nat :=
  let b := fget (0, 0) s.emt.buckets (bucketKey k sec slow)
  let cap := s.wideN (if slow = 0 then Id.EMT_EBM_FAST_CAP else Id.EMT_EBM_FAST_CAP + 2)
  let rate := s.wideN (if slow = 0 then Id.EMT_EBM_FAST_CAP + 1 else Id.EMT_EBM_FAST_CAP + 3)
  min cap (b.1 + rate * (s.emt.refills - b.2))

/-- Charge both buckets of emitter `k` (R166). -/
def State.charge (s : State) (k sec cost : Nat) : State :=
  let c0 := s.bucket k sec 0 - cost
  let c1 := s.bucket k sec 1 - cost
  { s with emt := { s.emt with
    buckets := fset (0, 0) (fset (0, 0) s.emt.buckets (bucketKey k sec 0) (c0, s.emt.refills))
      (bucketKey k sec 1) (c1, s.emt.refills) } }

/-- Every bucket is set to empty (R167, R169). -/
def State.emptyBuckets (s : State) : State :=
  { s with emt := { s.emt with buckets := [], refills := 0, refillAt := s.now } }

/-- EMT_EBM_LOCK is committed (R167). -/
def State.ebmCommit (s : State) : State :=
  let s := s.emptyBuckets
  { s with emt := { s.emt with lockAt := s.now } }

/-- Do the conditions for a grant hold for emitter `k` at this decision, its buckets apart (R16, R111, R113, R167,
R168, R182)? `n` is the span that must lie in a Coil window from tick `t`. -/
def State.grantOk (s : State) (k t n : Nat) : Bool :=
  s.committed Reg.EMT_EBM_LOCK && !s.sameCycle s.emt.lockAt s.now && s.fireOk k && s.coilFires t n

/-- Is a burst of this cost granted, and charged (R166)? -/
def State.grant (s : State) (k t n cost : Nat) : Bool :=
  match s.beamSector with
  | some sec => s.grantOk k t n && decide (cost ≤ s.bucket k sec 0) && decide (cost ≤ s.bucket k sec 1)
  | none => false

/-- The charge of a grant. -/
def State.grantCharge (s : State) (k cost : Nat) : State :=
  match s.beamSector with
  | some sec => s.charge k sec cost
  | none => s

/-- The remaining budget of emitter `k` at the present steering position, and the cost of one burst (R151). -/
def State.budgetQuery (s : State) (k prof code : Nat) : Nat × Nat :=
  let w := s.profWidth prof
  let cost := s.appliedCode k prof * w * (pulsesIn (s.codeOffs code prof) w 0).length
  match s.beamSector with
  | some sec => (min (s.bucket k sec 0) (s.bucket k sec 1), cost)
  | none => (0, cost)

/-! ## Decision of a shot (R111, R112, R141, R142) -/

/-- How many emitters of the mask lie below `k`. -/
def maskRank (mask : BitVec 32) (k : Nat) : Nat := popCount k mask.toNat

/-- The Budget Monitor's decision on emitter `k` of a shot. -/
def State.decideOne (sh : Shot) (x : State × BitVec 32) (k : Nat) : State × BitVec 32 :=
  let s := x.1
  let cost := s.appliedCode k sh.prof * sh.width * (pulsesIn sh.offs sh.width (maskRank sh.mask k * sh.stag)).length
  if emitsNormal (s.em k).st && s.grant k sh.slot 320 cost then
    ((s.grantCharge k cost).modEm k (fun e => { e with grantedFrame := e.grantedFrame || decide (cost ≠ 0) }),
      x.2 ||| BitVec.ofNat 32 (2 ^ k))
  else x

/-- The emitters of a mask, ascending. -/
def maskList (m : BitVec 32) : List Nat := (List.range 32).filter (fun k => bitOf m.toNat k)

/-- The shot with its burst fixed: disabled emitters are absent, code, width, stagger (R141, R142, R176). -/
def State.fixShot (s : State) (sh : Shot) : Shot :=
  let mask := BitVec.ofNat 32 (((maskList sh.mask).filter (fun k => decide ((s.em k).st ≠ 0))).map (fun k => 2 ^ k)).sum
  let offs := s.codeOffs sh.code sh.prof
  let w := s.profWidth sh.prof
  { sh with mask, offs, width := w, stag := staggerFit offs w (maskList mask).length sh.stag, decided := true }

/-- Did the span rule change the burst (R142)? -/
def spanClamps (old new : Shot) : Bool :=
  decide (new.stag ≠ old.stag) || decide (new.offs ≠ [] ∧ new.width ≠ 0 ∧ 640 < 2 * new.offs.getLastD 0 + new.width)

/-- The monitor's choice among the granted emitters of a slot (R172). -/
def State.monitorChoice (s : State) (granted : BitVec 32) : Option (Nat × Bool) :=
  match (maskList granted).find? (fun k => decide ((s.em k).st = 1)) with
  | some k => some (k, false)
  | none =>
    ((List.range 32).map (fun i => (s.emt.lastP3 + 1 + i) % 32)).find? (fun k => bitOf granted.toNat k)
      |>.map (fun k => (k, true))

/-- The multiplexer switches at the decision tick (R172): a placed proof of the slot comes first. -/
def State.monitorSwitch (s : State) (sh : Shot) : State :=
  if s.emt.proofs.any (fun p => decide (p.slot = sh.slot)) then { s with emt := { s.emt with obs := none } }
  else
    match s.monitorChoice sh.granted with
    | none => { s with emt := { s.emt with obs := none } }
    | some (k, p3) =>
      let o : Obs := { k, proof := false, at_ := sh.slot + maskRank sh.mask k * sh.stag,
                       code := s.appliedCode k sh.prof, width := sh.width, p3 }
      { s with emt := { s.emt with obs := if sh.offs = [] ∨ sh.width = 0 then none else some o } }

/-- The denials of a shot are counted and flagged (R111, R168). -/
def State.countDenials (s : State) (n : Nat) : State :=
  if n = 0 then s
  else
    let s := (s.bump Id.WHL_DENY_COUNT n).event Reg.WHL_STAT 5 {}
    if s.str.stall then (s.bump Id.EMT_DENY_STALL n).event Reg.EMT_STAT 5 {} else s

/-- The decision on a bound shot (R111, R112); `throttle`: the pixel is suppressed at odd indices. -/
def State.decideShot (s : State) (sh : Shot) (throttle : Bool) : State × Shot :=
  let s := s.updBoards
  if throttle && decide (sh.idx % 2 = 1) then
    (s.bump Id.WHL_THROTTLE_COUNT, { sh with decided := true, throttled := true, mask := 0, granted := 0 })
  else
    let new := s.fixShot sh
    let s := if spanClamps sh new then s.paramClamp sh.pc new.stag else s
    let s := s.gapClamp sh.code sh.prof
    let r := (maskList new.mask).foldl (State.decideOne new) (s, 0)
    let new := { new with granted := r.2 }
    let s := r.1.countDenials ((maskList new.mask).length - (maskList r.2).length)
    (s.monitorSwitch new, new)

/-! ## Firing -/

/-- The pulses of one granted emitter. -/
def burstOf (sh : Shot) (k : Nat) : List Pulse :=
  let base := maskRank sh.mask k * sh.stag
  (pulsesIn sh.offs sh.width base).map (fun o => { k, at_ := sh.slot + base + o, half := sh.width })

/-- The burst of a shot fires at its slot on every granted emitter for which R16 holds (R154). -/
def State.fireShot (s : State) (sh : Shot) : State :=
  let ok := (maskList sh.granted).filter (fun k => s.fireOk k)
  let s := { s with emt := { s.emt with pulses := ok.flatMap (burstOf sh) } }
  match s.emt.obs with
  | some o =>
    if !o.proof && ok.contains o.k then
      { s with emt := { s.emt with
        obs := some { o with started := true }, lastP3 := if o.p3 then o.k else s.emt.lastP3 } }
    else if o.proof then s else { s with emt := { s.emt with obs := none } }
  | none => s

/-! ## Failures (R180) -/

/-- Emitter `k` fails with class `cls` (1 OPEN, 2 SHORT, 3 OVER, 4 UNVERIFIED, 5 BUS); `m` are the measures logged. -/
def State.emtFail (s : State) (k cls m : Nat) : State :=
  if (s.em k).st = 5 then s
  else
    let whole := !s.emt.policy || decide (cls = 2 ∨ cls = 3)
    let second := match s.emt.failAt with
      | some a => s.sameCycle a s.now && decide (s.emt.failEmt ≤ k)
      | none => false
    let u := s.modEm k (fun e => { e with st := 5, cls, wholeOff := whole, opens := 0 })
    let u := { u with emt := { u.emt with
      failAt := some s.now
      failEmt := if second then u.emt.failEmt else k
      failClass := if second then s.emt.failClass else cls
      proofs := u.emt.proofs.filter (fun p => decide (p.k ≠ k)) } }
    let i : Info := { inst := k, detail := k + 256 * cls, value := m % 2 ^ 32, addr := m / 2 ^ 32 }
    let u := u.raise Reg.EMT_STAT (flag16 0)
    if whole then (u.stopBurst.fatal 0xE30 none 2 i).coilLiveFrom s else u.faultEntry 0xA30 i

/-- WHOLE_OFF comes into force: failures under EMITTER_OFF take its effect (R180, third case). -/
def State.takeWholeOff (s : State) : State :=
  let l := (List.range 32).filter (fun k => decide ((s.em k).st = 5) && !(s.em k).wholeOff)
  if l = [] then s
  else
    let u := l.foldl (fun s k => s.modEm k (fun e => { e with wholeOff := true })) s
    (l.foldl (fun s k => s.fatal 0xE30 none 2 { inst := k, detail := k + 256 * (s.em k).cls }) u.stopBurst).coilLiveFrom s

/-- The policy in force: WHOLE_OFF in GUARD, else EMT_CTL.policy at a boundary (R180). -/
def State.emtPolicy (s : State) (guard : Bool) : State :=
  let new := s.bit Reg.EMT_CTL 0 && !guard
  let s := { s with emt := { s.emt with policy := new } }
  if new then s else s.takeWholeOff

/-- A proof that did not yield a GOOD observation (R178). -/
def State.proofFailed (s : State) (k : Nat) : State :=
  let s := { s with emt := { s.emt with proofs := s.emt.proofs.filter (fun p => decide (p.k ≠ k)) } }
  if (s.em k).st = 3 then
    (s.modEm k (fun e => { e with st := 4, grace := 0 })).event Reg.EMT_STAT 1 { inst := k, detail := k }
  else s

/-! ## Pulse monitor (R170 to R174) -/

/-- Do the converters run? Cone 3 and BCLK stop them (R171, R441). -/
def State.monRuns (s : State) : Bool := s.bit Reg.EMT_MON_CTL 1 && s.onVco && !s.thm.c3

/-- What an observation measures (R173), free of rounding: eight times the baseline, eight times the amplitude, the width
and the area; `c` is the applied code. -/
structure Measure where
  base8 : Nat
  amp8 : Int
  width : Nat
  area : Int
deriving DecidableEq, Repr

/-- The measures of 64 samples; `x` is 1,024 times the expected amplitude. -/
def measure (samples : List Nat) (x : Nat) : Measure :=
  let b := (samples.take 8).sum
  { base8 := b
    amp8 := 8 * ((samples.foldl max 0 : Nat) : Int) - b
    width := (samples.filter (fun v => decide ((8 * x : Int) ≤ 2048 * (8 * (v : Int) - b)))).length
    area := (samples.sum : Int) - 8 * b }

/-- The class of an observation (R174): 0 GOOD, 1 OPEN, 2 SHORT, 3 OVER, 4 NARROW. -/
def State.classify (s : State) (m : Measure) (x width : Nat) : Nat :=
  let ov := s.fld Reg.EMT_MON_OVER 8 0
  let open_ := s.fld Reg.EMT_MON_OPEN 7 0
  if 8 * s.fld Reg.EMT_MON_SHORT 9 0 < m.base8 then 2
  else if x = 0 then 1
  else if ((8 * x * ov : Nat) : Int) < m.amp8 * 262144 ∨ ((x * width * ov : Nat) : Int) < m.area * 524288 then 3
  else if m.amp8 * 262144 < ((8 * x * open_ : Nat) : Int) then 1
  else if m.width < 4 then 4
  else 0

/-- EMT_OBS_LAST of an observation (R185); fractions of the baseline and a negative area are left open. -/
def State.obsWord (s : State) (k cls : Nat) (m : Measure) : Nat :=
  let base := s.openQuot m.base8 8
  let amp := (m.amp8 + m.base8) / 8 - base
  let area := if 0 ≤ m.area then m.area.toNat else s.freeW.toNat
  packFields [(5, k), (3, cls), (10, (max 0 amp).toNat), (7, m.width), (7, 0), (16, area), (10, base.toNat)]

/-- What a classified observation does to the emitter's state (R174, R176, R178). -/
def State.obsResult (s : State) (k cls word : Nat) (proof : Bool) : State :=
  let open_ := decide (cls = 1) || (proof && decide (cls = 4))
  if cls = 0 then
    let st := (s.em k).st
    let good := decide (st = 1 ∨ st = 3 ∨ st = 4) || (proof && decide (st = 6))
    s.modEm k (fun e => { e with
      st := if good then 2 else e.st, unobs := 0, goodFrame := true, opens := 0, grace := if good then 0 else e.grace })
  else
    let s := if cls = 2 ∨ cls = 3 then s.emtFail k cls word
      else if open_ then
        let s := s.modEm k (fun e => { e with opens := e.opens + 1 })
        if s.fld Reg.EMT_CTL 10 8 < (s.em k).opens then s.emtFail k 1 word else s
      else s
    if proof then s.proofFailed k else s

/-- The observation in hand, if its pulse started, is made with these samples. -/
def State.observe (s : State) (samples : List Nat) : State :=
  match s.emt.obs with
  | none => s
  | some o =>
    let s := { s with emt := { s.emt with obs := none } }
    if !o.started then s
    else if !s.monRuns then (if o.proof then s.proofFailed o.k else s)
    else if !s.emt.refbufReady then
      let s := if s.emt.early then s
        else ({ s with emt := { s.emt with early := true } }).event Reg.EMT_STAT 9 { inst := o.k }
      if o.proof then s.proofFailed o.k else s
    else
      let x := o.code * (s.reg Reg.EMT_SENSE_GAIN).toNat
      let m := measure samples x
      let cls := s.classify m x o.width
      let word := s.obsWord o.k cls m
      let s := (s.putWide Id.EMT_OBS_LAST word).freeUsed
      let s := { s with emt := { s.emt with
        proofs := if o.proof then s.emt.proofs.filter (fun p => decide (p.k ≠ o.k)) else s.emt.proofs } }
      s.obsResult o.k cls word o.proof

/-- refbuf_en or the lock that it waits for: ready 2 ms later (R170, R171). -/
def State.refbufStart (s : State) : State :=
  { s with emt := { s.emt with
    refbufReady := false
    refbufAt := if s.bit Reg.EMT_MON_CTL 0 && s.onVco && !s.thm.c3 then some (s.now + msT 2) else none } }

/-- The tree left the VCO: the EMT logic is reset (R12, R169, R171). -/
def State.emtClockLost (s : State) : State :=
  let s := s.emptyBuckets.refbufStart
  { s with emt := { s.emt with pulses := s.emt.pulses.filter (fun p => decide (p.at_ ≤ s.now)), obs := none, proofs := [] } }

/-! ## Proofs (R178, R179) -/

/-- The first slot at or after `a` on the grid of period `p` that no proof holds and whose proof pulse lies in a window;
`n` slots are tried. -/
def State.proofSlot (s : State) (p : Nat) : Nat → Nat → Option Nat
  | 0, _ => none
  | n + 1, a =>
    if s.emt.proofs.any (fun q => decide (q.slot = a)) || !s.coilFires (a + p - 512) 10 then s.proofSlot p n (a + p)
    else some a

/-- The first grid slot that starts at or after `a`. -/
def State.gridFrom (s : State) (a : Nat) : Nat :=
  let w := s.whl
  if a ≤ w.anchor then w.anchor else w.anchor + (a - w.anchor + w.period - 1) / w.period * w.period

/-- Emitter `k`'s proof takes the first qualifying slot whose proof tick lies 256 ticks ahead, if one does. -/
def State.placeProof (s : State) (k : Nat) : State :=
  let p := s.whl.period
  match s.proofSlot p 65536 (s.gridFrom (s.now + 768 - p)) with
  | some a => { s with emt := { s.emt with proofs := s.emt.proofs ++ [Proof.mk k a false false] } }
  | none => s

/-- Does an emitter in this state receive a proof attempt (R179)? -/
def needsProof (st : Nat) : Bool := decide (st = 3 ∨ st = 4 ∨ st = 6)

/-- Every pending proof without a slot takes one, in ascending emitter order. -/
def State.placeProofs (s : State) : State :=
  forN 32 s (fun s k =>
    if needsProof (s.em k).st && !s.emt.proofs.any (fun p => decide (p.k = k)) then s.placeProof k else s)

/-- The grid was re-anchored: proofs in slots with no SHOT bound are inserted again (R178). -/
def State.replaceProofs (s : State) : State :=
  let bound := fun (a : Nat) => s.whl.shots.any (fun h => decide (h.slot = a))
  let keep := s.emt.proofs.filter (fun p => p.decided || bound p.slot)
  ({ s with emt := { s.emt with proofs := keep } }).placeProofs

/-! ## Frame boundary -/

/-- The emitter enables take effect (R176). -/
def State.emtEnables (s : State) : State :=
  forN 32 s (fun s k =>
    let st := (s.em k).st
    if s.emtEnabled k then (if st = 0 then s.modEm k (fun e => { e with st := 1, unobs := 0, opens := 0 }) else s)
    else if st = 0 ∨ st = 5 then s
    else ({ s with emt := { s.emt with proofs := s.emt.proofs.filter (fun p => decide (p.k ≠ k)) } }).modEm k
      (fun e => { e with st := 0 }))

/-- The unobserved count, prove_all and the grace count of one emitter at the end of a frame, with proof_interval `iv`
(R176, R177, R179). -/
def emUnobserved (iv : Nat) (e : Emitter) : Emitter :=
  let n := if e.grantedFrame && !e.goodFrame then e.unobs + 1 else e.unobs
  let due := (e.st == 1 || e.st == 2) && (e.proveReq || decide (max 1 iv ≤ n))
  { e with
    unobs := n
    st := if due then 3 else e.st
    grace := if e.st = 4 then e.grace + 1 else 0
    grantedFrame := false, goodFrame := false, proveReq := false }

/-- Unobserved counts, prove_all and the grace of UNVERIFIED at the boundary that ends a frame (R176, R177, R179). -/
def State.emtUnobserved (s : State) : State :=
  let iv := s.fld Reg.EMT_CTL 7 3
  forN 32 s (fun s k =>
    let e := s.em k
    let s := s.modEm k (emUnobserved iv)
    if e.st = 4 ∧ 2 * iv < e.grace + 1 then s.emtFail k 4 0 else s)

/-- Proofs that found no slot in the ended frame are denied (R178). -/
def State.denyProofs (s : State) (t : Nat) : State :=
  let late := (s.emt.proofs.filter (fun p => !p.decided && decide (t ≤ p.slot))).map (fun p => p.k)
  late.foldl (fun s k => s.proofFailed k) s

/-- The near-saturation step of one emitter after a frame (R163). -/
def nsrStep (hi top lo : Nat) (e : Emitter) : Nat :=
  if e.lpAll = 0 then e.nsr
  else if e.lpAll * hi < e.lpSat * 256 then min top (e.nsr + 1)
  else if e.lpSat * 256 < e.lpAll * lo then e.nsr - 1
  else e.nsr

/-- The near-saturation steps follow the SAT fraction of the ended frame (R163). -/
def State.emtNsr (s : State) : State :=
  let on := s.bit Reg.EMT_CTL 2
  let hi := s.fld Reg.EMT_NSR_CTL 7 0
  let top := s.fld Reg.EMT_NSR_CTL 11 8
  let lo := s.fld Reg.EMT_NSR_LO 7 0
  forN 32 s (fun s k => s.modEm k (fun e => { e with nsr := if on then nsrStep hi top lo e else 0, lpSat := 0, lpAll := 0 }))

/-- Commit or staleness at boundary `t` (R159, R160). -/
def State.tblBoundary (s : State) (t : Nat) : State :=
  if !s.emt.tblFrame then s
  else
    let ok := match s.emt.tblDoneAt with
      | some a => decide (a + 256 < t)
      | none => false
    if ok then
      let s := s.tblCommit
      { s with emt := { s.emt with committed := true } }
    else
      let s := { s with emt := { s.emt with committed := false, staleRun := s.emt.staleRun + 1 } }
      let s := (s.bump Id.EMT_STALE_FRAMES).event Reg.EMT_STAT 4 {}
      if s.fld Reg.EMT_CTL 13 11 < s.emt.staleRun then
        forN 32 s (fun s k => if decide ((s.em k).st ≠ 0) then s.emtFail k 5 0 else s)
      else s

/-- The code table snapshot of a frame boundary; a changed Coil address re-derives it (R155, R156). -/
def State.codeBoundary (s : State) : State :=
  let re := !s.bit Reg.EMT_CTL 1 && decide (s.coil.addr ≠ s.emt.derivedFor)
  let s := { s with emt := { s.emt with codes := s.codeTable, derivedFor := s.coil.addr, tblFrame := true } }
  if re then s.event Reg.EMT_STAT 10 {} else s

/-- Which boundary the emission part was last done for. -/
def State.markBoundary (s : State) (t : Nat) : State := { s with emt := { s.emt with boundary := some t } }

/-- The emission part of the frame boundary at `t`, done once, by the first decision for the new frame or the boundary
itself: commit, policy, enables, counts, applied codes, code table, proofs (R155 to R163, R176 to R180). -/
def State.emtBoundary (s : State) (t : Nat) (guard : Bool) : State :=
  if s.emt.boundary = some t then s
  else
    let s := (((s.markBoundary t).tblBoundary t).emtPolicy guard).denyProofs t
    s.emtUnobserved.emtEnables.emtNsr.tblSnapshot.codeBoundary.placeProofs

/-! ## Driver bus (R157 to R160) -/

/-- One bit into the CRC-8 of R157 (polynomial 0x07). -/
def crc8Bit (c : Nat) (b : Bool) : Nat :=
  let top := xor (bitOf c 7) b
  let d := c * 2 % 256
  if top then d ^^^ 0x07 else d

/-- CRC-8 of the low `n` bits of a packet, most significant first. -/
def crc8 (n v : Nat) : Nat := (List.range n).foldl (fun c i => crc8Bit c (bitOf v (n - 1 - i))) 0

/-- A TABLE packet (R157). -/
def tableBits (k : Nat) (set : BitVec 128) : Nat :=
  1 * 2 ^ 118 + k * 2 ^ 113 + ((List.range 9).map (fun p => codeField set p * 2 ^ (100 - 12 * p))).sum

/-- A SELECT packet (R157): odd parity over its eight bits. -/
def selectBits (commit : Bool) (prof : Nat) : Nat :=
  let v := 2 * 64 + b2n commit * 32 + prof * 2
  v + (1 - popCount 8 v % 2)

/-- Channel `tblNext` is done; with the last echo the table is complete. -/
def State.tblAdvance (s : State) (ok : Bool) : State :=
  let k := s.emt.tblNext
  let ack := if ok then s.emt.tblAck ||| BitVec.ofNat 32 (2 ^ k) else s.emt.tblAck
  { s with emt := { s.emt with
    tblAck := ack, tblNext := k + 1, tblTried := false
    shadow := if ok then fset 0 s.emt.shadow k (fget 0 s.emt.codeSnap k) else s.emt.shadow
    tblDoneAt := if ack = BitVec.allOnes 32 then some s.now else s.emt.tblDoneAt } }

/-- TABLE_PACKET (R159, R160): the next channel's packet; a wrong echo is sent again once. -/
def execTablePacket (t : Nat) (echo : Byte) (s : State) : Host.Outcome State Fault Refusal :=
  let s := s.at t
  let k := s.emt.tblNext
  if (s.emt.tblFrame || s.emt.dirty) && decide (k < 32) && s.onVco then
    if crc8 120 (tableBits k (fget 0 s.emt.codeSnap k)) = echo.toNat then .next (s.tblAdvance true)
    else if s.emt.tblTried then .next ((s.tblAdvance false).event Reg.EMT_STAT 3 { inst := k, detail := k })
    else .next (({ s with emt := { s.emt with tblTried := true } }).bump Id.EMT_DRV_RESENDS)
  else .next s

/-- The profile a SELECT sent now carries (R158): a proof about to fire, the next undecided or bound shot, else the last
profile. -/
def State.selProfile (s : State) : Nat :=
  let p := s.whl.period
  if s.emt.proofs.any (fun q => decide (s.now < q.slot + p - 512) && decide (q.slot + p - 512 ≤ s.now + 240)) then 8
  else
    match s.whl.shots.find? (fun h => decide (s.now < h.slot) && decide (h.slot ≤ s.now + 240)) with
    | some h => h.prof
    | none => s.emt.lastProfile

/-- SELECT_PACKET (R158 to R160): the code set for the next pulses; the commit of a boundary or, outside the scanning
modes, of a table that is complete. -/
def execSelectPacket (t : Nat) (s : State) : Host.Outcome State Fault Refusal :=
  let s := s.at t
  let prof := s.selProfile
  let lone := !s.mode.active.scanning && s.emt.dirty && s.emt.tblDoneAt.isSome
  let frame := s.emt.tblFrame && match s.whl.eofAt, s.emt.tblDoneAt with
    | some e, some a => decide (a + 256 < e) && decide (e ≤ s.now + 240)
    | _, _ => false
  let s := { s with emt := { s.emt with
    sel := BitVec.ofNat 8 (selectBits (lone || frame) prof), lastProfile := prof } }
  .next (if lone then s.tblCommit else s)

/-- EMT_CMD.drv_resend (R183). -/
def State.drvResend (s : State) : State :=
  { s with emt := { s.emt with
    tblNext := 0, tblTried := false, tblAck := 0, tblDoneAt := none, dirty := s.emt.dirty || !s.emt.tblFrame
    codeSnap := if s.emt.tblFrame || s.emt.dirty then s.emt.codeSnap
      else fmk (fun _ => 0) 32 s.codeSet
    widthSnap := if s.emt.tblFrame || s.emt.dirty then s.emt.widthSnap
      else fmk (fun _ => 32) 8 (fun p => widthApplied (s.fld (Reg.EMT_PROF_WIDTH + 4 * p) 6 0)) } }

/-- DRV_RESEND (R183). -/
def execDrvResend (t : Nat) (_path : Path) (s : State) : Host.Outcome State Fault Refusal :=
  .next ((s.at t).onBar State.drvResend)

/-- EMT_CMD.clear_fail (R181, R182). -/
def State.clearFail (s : State) (path : Path) : State :=
  let m := s.mode.active
  let same := match s.emt.failAt with
    | some a => s.sameCycle a s.now
    | none => false
  if path = .greenware || same || !(m = .safe || m = .ready || m = .service) then s.event Reg.EMT_STAT 11 { path := pathCode path }
  else
    let s := forN 32 s (fun s k =>
      if (s.em k).st = 5 then s.modEm k (fun e => { e with st := 6, wholeOff := false, cls := 0 }) else s)
    if s.whl.frameOpen then s.placeProofs else s

/-- The same, with the change of the live causes reported (R407). -/
def State.clearFailed (s : State) (path : Path) : State := (s.clearFail path).coilLive s.safeLive

/-- CLEAR_FAIL (R181). -/
def execClearFail (t : Nat) (path : Path) (s : State) : Host.Outcome State Fault Refusal :=
  .next ((s.at t).onBar (fun s => s.clearFailed path))

/-- EMT_CMD.prove_all (R176). -/
def State.proveAll (s : State) : State :=
  forN 32 s (fun s k => s.modEm k (fun e => { e with proveReq := true }))

/-- PROVE_ALL (R176). -/
def execProveAll (t : Nat) (_path : Path) (s : State) : Host.Outcome State Fault Refusal :=
  .next ((s.at t).onBar State.proveAll)

/-- EBM_REFILL (R165): every 1,024 ticks while the tree is locked. -/
def execEbmRefill (t : Nat) (s : State) : Host.Outcome State Fault Refusal :=
  let s := s.at (max t (s.emt.refillAt + 1024))
  if s.onVco then .next { s with emt := { s.emt with refills := s.emt.refills + 1, refillAt := s.now } } else .next s

/-- REFBUF_READY (R170). -/
def execRefbufReady (t : Nat) (s : State) : Host.Outcome State Fault Refusal :=
  match s.emt.refbufAt with
  | some a =>
    let s := s.at (max t a)
    .next { s with emt := { s.emt with refbufReady := true, refbufAt := none } }
  | none => .next (s.at t)

/-- MONITOR_OBSERVATION (R173, R174): 64 samples of the pulse under observation. -/
def execMonitorObservation (t : Nat) (samples : List Nat) (s : State) : Host.Outcome State Fault Refusal :=
  .next ((s.at t).observe samples)

/-- MONITOR_TRIGGER_SAMPLE (R175, R346): with trig_en, a sample above the level is a PULSE condition; `s0` is the sample
at tick `t` and `fine`, `s1` the sample after it. -/
def execMonitorTriggerSample (t : Nat) (s0 s1 fine : Nat) (s : State) : Host.Outcome State Fault Refusal :=
  let s := s.at t
  let l := s.fld Reg.EMT_MON_TRIG 9 0
  if s.bit Reg.EMT_MON_CTL 2 && s.monRuns && decide (l < s1) then
    let f := fine + 1024 * (l - s0) / (s1 - s0)
    .next (s.capCond 2 ((s.utime + f / 1024) % 2 ^ 64) (f % 1024) true 0)
  else .next s

/-- PROOF_DECISION (R166, R178): 32 ticks before the proof pulse of emitter `k`. -/
def execProofDecision (t : Nat) (k : Fin 32) (s : State) : Host.Outcome State Fault Refusal :=
  match s.emt.proofs.find? (fun p => decide (p.k = k.val) && !p.decided) with
  | none => .next (s.at t)
  | some p =>
    let tick := p.slot + s.whl.period - 512
    let s := (s.at (max t (tick - 32))).updBoards
    let cost := s.appliedCode k 8 * 20
    if !needsProof (s.em k).st then
      .next { s with emt := { s.emt with proofs := s.emt.proofs.filter (fun q => decide (q.k ≠ k.val)) } }
    else if s.grant k tick 10 cost then
      let s := s.grantCharge k cost
      .next { s with emt := { s.emt with
        proofs := s.emt.proofs.map (fun q => if q.k = k.val then { q with decided := true, granted := true } else q) } }
    else .next (s.proofFailed k)

/-- Blanking of tile `k` from tick `t`. -/
def State.blankTile (s : State) (k t : Nat) : State :=
  let b := s.fld (secOff Reg.LAN_BLANK (k / 4)) 7 0
  if b = 0 then s
  else { s with lan := { s.lan with blankFrom := fset 0 s.lan.blankFrom k t, blankTo := fset 0 s.lan.blankTo k (t + b) } }

/-- PROOF_PULSE (R178): the granted proof pulse of emitter `k` starts, if R16 still holds. -/
def execProofPulse (t : Nat) (k : Fin 32) (s : State) : Host.Outcome State Fault Refusal :=
  match s.emt.proofs.find? (fun p => decide (p.k = k.val) && p.granted) with
  | none => .next (s.at t)
  | some p =>
    let tick := p.slot + s.whl.period - 512
    let s := s.at (max t tick)
    if s.fireOk k then
      let s := { s with emt := { s.emt with
        pulses := s.emt.pulses ++ [Pulse.mk k s.now 20]
        obs := some (Obs.mk k true s.now (s.appliedCode k 8) 20 true false) } }
      let s := ((s.blankTile k s.now).bump Id.EMT_PROOF_COUNT).event Reg.EMT_STAT 2 { inst := k, detail := k }
      .next (if s.monRuns then s else { (s.proofFailed k) with emt := { (s.proofFailed k).emt with obs := none } })
    else .next (s.proofFailed k)

end Sys2Proof.Machine
end

