-- ==== Sys2Proof/Machine/Lanes.lean ====
section
/-! DEFINITION. The receive lanes (R211 to R232): parameters and their boundaries, tracking, blanking, references, token
buckets, and the out-of-gate words that lane calibration collects. -/

namespace Sys2Proof.Machine

/-! ## Lanes and sectors -/

/-- Lane `l`. -/
def State.lane (s : State) (l : Nat) : Lane := fget {} s.lan.lane l

/-- Change lane `l`. -/
def State.modLane (s : State) (l : Nat) (f : Lane → Lane) : State :=
  { s with lan := { s.lan with lane := fmod {} s.lan.lane l f } }

/-- Base of sector `k`'s copy of a LAN register. -/
def lanReg (off l : Nat) : Nat := secOff off (l / 64) + 4 * (l % 64)

/-- Is sector `k` powered and are its lanes out of reset (R12, R228, R229, R441)? -/
def State.sectorPowered (s : State) (k : Nat) : Bool :=
  bitOf s.lan.secOn.toNat k && s.onVco && !s.thm.c3 && decide (s.mode.active ≠ .standby)

/-- Does lane `l` behave as masked (R227, R228)? -/
def State.laneOff (s : State) (l : Nat) : Bool := (s.lane l).masked || !s.sectorPowered (l / 64)

/-- The bucket depth of sector `k` (R221): a depth of 0 applies 1, above 16 applies 16. -/
def State.rateDepth (s : State) (k : Nat) : Nat := clampN 1 16 (s.fld (secOff Reg.LAN_RATE k) 12 8)

/-- Ticks per token of sector `k` (R221): below 32 applies 32. -/
def State.ratePeriod (s : State) (k : Nat) : Nat := max 32 (s.fld (secOff Reg.LAN_RATE k) 7 0)

/-- Sector `k`'s settling is over: its lanes start with full buckets and t = 0 (R228). -/
def State.settleSector (s : State) (k : Nat) : State :=
  let a := fget 0 s.lan.settleAt k
  if a ≠ 0 ∧ a ≤ s.now then
    let s := { s with lan := { s.lan with settleAt := fset 0 s.lan.settleAt k 0 } }
    forN 64 s (fun s j => s.modLane (64 * k + j) (fun x => { x with used := 0, tokenAt := a, tOff := 0 }))
  else s

/-- Do the lanes of sector `k` time edges now? -/
def State.sectorLive (s : State) (k : Nat) : Bool := s.sectorPowered k && decide (fget 0 s.lan.settleAt k = 0)

/-! ## Boundaries and invalid windows (R220) -/

/-- The next pixel close that is fixed. -/
def State.nextClose (s : State) : Option Nat :=
  s.whl.queue.findSome? (fun e => match e.act with
    | .pix c _ _ _ _ => some c
    | _ => none)

/-- The next boundary at which lane parameters apply, if it is known (R224, R226). -/
def State.nextBoundary (s : State) : Option Nat :=
  if s.wheelRuns then s.nextClose else some (s.lan.idleAt + 1024)

/-- The next slot with a SHOT bound. -/
def State.nextShotSlot (s : State) : Option Nat :=
  (s.whl.shots.find? (fun h => decide (s.now < h.slot))).map (fun h => h.slot)

/-- A threshold or trim of lane `l` that changes at boundary `b` landed now: a late one switches 8 ticks from now. -/
def State.lateThr (s : State) (l : Nat) (b : Option Nat) : State :=
  match b with
  | some b => if b < s.now + 128 then
      s.modLane l (fun x => { x with thrFrom := s.now + 8, thrTo := s.now + 136 }) else s
  | none => s

/-- The same for a gain range. -/
def State.lateRng (s : State) (l : Nat) (b : Option Nat) : State :=
  match b with
  | some b => if b < s.now + 80 then
      s.modLane l (fun x => { x with rngFrom := s.now + 8, rngTo := s.now + 85 }) else s
  | none => s

/-! ## Landing of rank-3 values (R117, R222, R223) -/

/-- Did a SETP of this parameter and instance land in this CCLK cycle (R117)? -/
def State.setpNow (s : State) (param idx : Nat) : Bool :=
  s.whl.setps.any (fun x => decide (x.1 = param) && decide (x.2.1 = idx) && decide (x.2.2 / 2 = s.now / 2))

/-- A nominal threshold lands: held inside floor and ceiling, and reported (R224). -/
def State.landNom (s : State) (l v addr path : Nat) : State :=
  let x := s.lane l
  let a := clampN x.floor x.ceil v
  let s := s.modLane l (fun x => { x with nom := a })
  let s := if a ≠ x.nom then s.lateThr l s.nextBoundary else s
  if a = v then s else s.paramClamp addr a path

/-- A floor lands. -/
def State.landFloor (s : State) (l v : Nat) : State :=
  (s.modLane l (fun x => { x with floor := v })).lateThr l (if s.bit (secOff Reg.LAN_CTL (l / 64)) 1 then none else s.nextBoundary)

/-- A ceiling lands. -/
def State.landCeil (s : State) (l v : Nat) : State :=
  (s.modLane l (fun x => { x with ceil := v })).lateThr l (if s.bit (secOff Reg.LAN_CTL (l / 64)) 1 then none else s.nextBoundary)

/-- A gain range lands, deferred or forced; 3 applies LOW and is reported (R222, R223, R231). -/
def State.landGain (s : State) (l v : Nat) (forced : Bool) (addr path : Nat) : State :=
  let g := min 2 v
  let s := s.modLane l (fun x => if forced then { x with gainForced := some g, gainNext := none }
    else { x with gainNext := some g })
  let s := if g = (s.lane l).gain then s else s.lateRng l (if forced then s.nextShotSlot else s.nextBoundary)
  if g = v then s else s.paramClamp addr g path

/-! ## Tracking (R224, R225) -/

/-- Does the closing pixel's rate ask for a raise? `n` edges in `d` ticks. -/
def trackRaise (hi n d : Nat) : Bool := decide (hi * d < n * 3200)

/-- The tracking offset after a pixel. -/
def trackOff (hi lo up n d : Nat) (x : Lane) : Int :=
  let t := if trackRaise hi n d then x.tOff + up else if n * 3200 < lo * d then x.tOff - 1 else x.tOff
  clampI (-128) 127 (clampI ((x.floor : Int) - x.nom) ((x.ceil : Int) - x.nom) t)

/-- The applied code for an offset. -/
def thrApplied (x : Lane) : Nat := (clampI x.floor x.ceil ((x.nom : Int) + x.tOff)).toNat

/-- The lane after the threshold step of a boundary that closes `d` ticks. -/
def trackStep (trk : Bool) (hi lo up d : Nat) (x : Lane) : Lane :=
  let x := if x.ceil < x.floor then { x with floor := x.ceil } else x
  let t := if trk then trackOff hi lo up x.edges d x else 0
  let raise := trk && trackRaise hi x.edges d && decide (up ≠ 0)
  let a := thrApplied { x with tOff := t }
  { x with
    tOff := t, thr := a
    pinned := raise && decide (x.thr = x.ceil)
    atBound := trk && (decide (a = x.floor) || decide (a = x.ceil)) }

/-- The threshold step of lane `l` with the settings of its sector. -/
def State.trackLane (s : State) (l d : Nat) : Lane :=
  let k := l / 64
  let r := secOff Reg.LAN_TRK k
  trackStep (s.bit (secOff Reg.LAN_CTL k) 1) (s.fld r 7 0) (s.fld r 15 8) (s.fld (secOff Reg.LAN_TRK_STEP k) 3 0) d (s.lane l)

/-- The deferred gain range of a pixel boundary. -/
def gainStep (x : Lane) : Lane :=
  match x.gainNext with
  | some g => { x with gain := g, gainNext := none }
  | none => x

/-- The calibration run of lane `l` notes a change of its threshold or range (R233). -/
def State.notSteady (s : State) (l : Nat) : State :=
  if s.cal.st = 1 then { s with cal := { s.cal with runs := fmod {} s.cal.runs l (fun r => { r with steady := false }) } }
  else s

/-- Lane `l` at a pixel boundary that closes `d` ticks: mask, gain range, threshold (R222 to R227). Masked lanes do not
track. -/
def State.laneBoundary (s : State) (l d : Nat) : State :=
  let k := l / 64
  let old := s.lane l
  let bad := decide (old.ceil < old.floor)
  let new := if s.laneOff l then { old with thr := thrApplied { old with tOff := 0 }, tOff := 0, pinned := false, atBound := false }
    else s.trackLane l d
  let new := { gainStep new with
    edges := 0, stuck := false, mixed := false, masked := s.bit (lanReg Reg.LAN_THR l) 11 }
  let s := s.modLane l (fun _ => new)
  let s := if bad && !s.laneOff l then s.paramClamp (lanReg Reg.LAN_BND l) old.ceil else s
  let s := if new.thr ≠ old.thr ∨ new.gain ≠ old.gain then s.notSteady l else s
  let s := if new.pinned then s.bump (Id.LAN_PINNED + k) else s
  if new.pinned && !old.pinned then s.event (secOff Reg.LAN_STAT k) 3 { inst := k, detail := l } else s

/-- Sector power at a boundary: a sector that is enabled settles for 20 µs (R228). -/
def State.sectorPower (s : State) (k : Nat) : State :=
  let en := s.bit (secOff Reg.LAN_CTL k) 0
  let was := bitOf s.lan.secOn.toNat k
  let m := BitVec.ofNat 8 (2 ^ k)
  if en && !was then
    { s with lan := { s.lan with secOn := s.lan.secOn ||| m, settleAt := fset 0 s.lan.settleAt k (s.now + usT 20) } }
  else if was && !en then
    { s with lan := { s.lan with secOn := s.lan.secOn &&& ~~~m, settleAt := fset 0 s.lan.settleAt k 0 } }
  else s

/-- The lane field at a pixel boundary that closes `d` ticks. -/
def State.lanesBoundary (s : State) (d : Nat) : State :=
  let s := forN 512 s (fun s l => s.laneBoundary l d)
  forN 8 s (fun s k => (s.settleSector k).sectorPower k)

/-- A forced range applies at the start of a slot with a SHOT bound; not at a pixel's first slot it marks the pixel
(R222). -/
def State.forcedGains (s : State) (first : Bool) : State :=
  forN 512 s (fun s l =>
    match (s.lane l).gainForced with
    | none => s
    | some g =>
      let changed := decide (g ≠ (s.lane l).gain)
      let s := s.modLane l (fun x => { x with gain := g, gainForced := none, mixed := x.mixed || !first })
      let s := if changed then s.notSteady l else s
      if first then s else s.event (secOff Reg.LAN_STAT (l / 64)) 6 { inst := l / 64, detail := l })

/-- The FCLK domain goes into reset: the tracking offsets return to 0 (R215). -/
def State.lanClockLost (s : State) : State :=
  let s := forN 512 s (fun s l => s.modLane l (fun x => { x with tOff := 0, edges := 0, deadTo := 0 }))
  { s with lan := { s.lan with refA := [], refB := [], refTimes := [], blankFrom := [], blankTo := [] } }

/-! ## Blanking and references (R218, R219) -/

/-- Is tile `k` blanked at this tick? -/
def State.blanked (s : State) (k : Nat) : Bool :=
  decide (fget 0 s.lan.blankFrom k ≤ s.now) && decide (s.now < fget 0 s.lan.blankTo k)

/-- Did emitter `k` fire in the shot of the current slot? -/
def State.fired (s : State) (sh : Shot) (k : Nat) : Bool :=
  s.emt.pulses.any (fun p => decide (p.k = k) && decide (sh.slot ≤ p.at_) && decide (p.at_ < sh.slot + 320))

/-- A timed reference in 1/65,536 tick (R300); `pos` in fine LSB from the slot start. -/
def refTime (pos : Nat) : Nat := 64 * pos + 32

/-- The reference of tile `k` for a shot it fired in: its time, and whether an edge was missing (R219). -/
def State.tileRef (s : State) (sh : Shot) (k : Nat) : Nat × Bool :=
  let prog := 65536 * (maskRank sh.mask k * sh.stag)
  let a := fget none s.lan.refA k
  let b := fget none s.lan.refB k
  match s.fld (secOff Reg.LAN_REF_CTL (k / 4) + 4 * (k % 4)) 1 0, a, b with
  | 0, _, _ => (prog, false)
  | 1, some p, _ => (refTime p, false)
  | 2, _, some p => (refTime p, false)
  | 3, some p, some q => ((refTime p + refTime q) / 2, false)
  | 3, some p, none => (refTime p, true)
  | 3, none, some q => (refTime q, true)
  | _, _, _ => (prog, true)

/-- The slot in progress ends: its references pass to the open pixel (R219). -/
def State.finishRefs (s : State) : State :=
  match s.whl.cur with
  | none => s
  | some sh =>
    let s := (maskList sh.granted).foldl (fun s k =>
      let f := s.fired sh k
      let r := if f then s.tileRef sh k else (65536 * (maskRank sh.mask k * sh.stag), false)
      let s := { s with lan := { s.lan with refTimes := fmod [] s.lan.refTimes k (fun l => l ++ [r.1]) } }
      if r.2 then (s.bump (Id.LAN_REF_MISS + k)).event (secOff Reg.LAN_STAT (k / 4)) 5 { inst := k / 4, detail := k }
      else s) s
    { s with lan := { s.lan with refA := [], refB := [] } }

/-! ## Gates and calibration hits -/

/-- Is an edge of lane `l` in gate at this tick (R217)? Its coarse value from the slot start, if so. -/
def State.inGate (s : State) (l : Nat) : Option Nat :=
  match s.whl.cur with
  | none => none
  | some sh =>
    let c := s.now - sh.slot
    let x := s.lane l
    let refused := bitOf sh.mask.toNat (l / 16) && !bitOf sh.granted.toNat (l / 16)
    if sh.slot ≤ s.now ∧ s.now < sh.slot + s.whl.period ∧ x.gOpen ≤ c ∧ c < x.gClose ∧ !refused ∧ !sh.throttled then some c
    else none

/-- Hits a lane collects in a run (R233). -/
def State.calHitLimit (s : State) : Nat := 65536 * s.fld Reg.CAL_HITS 7 0

/-- An out-of-gate word reaches lane calibration (R233). -/
def State.calHit (s : State) (l f : Nat) (moved : Bool) : State :=
  let r := fget {} s.cal.runs l
  if s.cal.st = 1 && bitOf s.cal.inRun.toNat (l / 64) && !r.done && decide (r.n < s.calHitLimit) then
    let r := { r with h := fmod 0 r.h f (· + 1), n := r.n + 1, m := r.m + b2n moved }
    { s with cal := { s.cal with runs := fset {} s.cal.runs l r } }
  else s

/-- How much of [a, b) lies in [c, d). -/
def overlap (a b c d : Nat) : Nat := min b d - max a c

/-- The ticks of the slot of `sh` up to now in which lane `l` is in gate or blanked, since collection began (R233). -/
def State.notLive (s : State) (sh : Shot) (l : Nat) : Nat :=
  let x := s.lane l
  let k := l / 16
  let refused := (bitOf sh.mask.toNat k && !bitOf sh.granted.toNat k) || sh.throttled || s.laneOff l
  let g0 := sh.slot + x.gOpen
  let g1 := if refused then g0 else sh.slot + x.gClose
  let b0 := max sh.slot (fget 0 s.lan.blankFrom k)
  let b1 := fget 0 s.lan.blankTo k
  overlap g0 g1 s.cal.startAt s.now + (overlap b0 b1 s.cal.startAt s.now - overlap (max b0 g0) (min b1 g1) s.cal.startAt s.now)

/-- The slot in progress ends for the collecting lanes. -/
def State.calSlotEnd (s : State) : State :=
  match s.whl.cur with
  | some sh =>
    if s.cal.st = 1 then
      let f := fun (x : Nat × CalRun) =>
        if x.2.done then x else (x.1, { x.2 with sub := x.2.sub + s.notLive sh x.1 })
      { s with cal := { s.cal with runs := s.cal.runs.map f } }
    else s
  | none => s

/-! ## Token bucket (R221) -/

/-- The bucket of lane `l` with its refills up to now. -/
def State.refillLane (s : State) (l : Nat) : State :=
  let p := s.ratePeriod (l / 64)
  s.modLane l (fun x =>
    let r := (s.now - x.tokenAt) / p
    { x with used := x.used - r, tokenAt := x.tokenAt + r * p })

/-- Does the bucket of lane `l` hold a token? -/
def State.hasToken (s : State) (l : Nat) : Bool := decide ((s.lane l).used < s.rateDepth (l / 64))

/-- One token is taken. -/
def State.takeToken (s : State) (l : Nat) : State := s.modLane l (fun x => { x with used := x.used + 1 })

/-! ## Commands -/

/-- LANE_TOKEN_REFILL (R221). -/
def execLaneTokenRefill (t : Nat) (l : Fin 512) (s : State) : Host.Outcome State Fault Refusal :=
  .next ((s.at (max t ((s.lane l).tokenAt + s.ratePeriod (l / 64)))).refillLane l)

/-- STUCK_DETECT (R212): a comparator has been high for 256 ticks. -/
def execStuckDetect (t : Nat) (l : Fin 512) (s : State) : Host.Outcome State Fault Refusal :=
  let s := s.at t
  let k := l.val / 64
  if s.laneOff l || !s.sectorLive k then .next s
  else
    let first := !(s.lane l).stuck
    let s := (s.modLane l (fun x => { x with stuck := true })).bump (Id.LAN_STUCK + k)
    .next (if first then s.event (secOff Reg.LAN_STAT k) 4 { inst := k, detail := l } else s)

/-- REFERENCE_EDGE (R219): the first rising edge of a selected input up to offset 512, in a shot in which the tile's
emitter fires. -/
def execReferenceEdge (t : Nat) (k : Fin 32) (inputB : Bool) (fine : BitVec 10) (s : State) :
    Host.Outcome State Fault Refusal :=
  let s := s.at t
  match s.whl.cur with
  | none => .next s
  | some sh =>
    let c := s.now - sh.slot
    let mode := s.fld (secOff Reg.LAN_REF_CTL (k.val / 4) + 4 * (k.val % 4)) 1 0
    let sel := decide (mode = 3) || decide (mode = (if inputB then 2 else 1))
    if sel && s.sectorLive (k.val / 4) && decide (sh.slot ≤ s.now) && decide (c ≤ 512) && s.fired sh k then
      let pos := 1024 * c + fine.toNat
      let first := fun (m : FMap (Option Nat)) => if (fget none m k).isSome then m else fset none m k (some pos)
      .next { s with lan := if inputB then { s.lan with refB := first s.lan.refB } else { s.lan with refA := first s.lan.refA } }
    else .next s

/-- Does the threshold of lane `l` change at the next boundary, as far as is known (R220, R224)? -/
def State.thrWillChange (s : State) (l : Nat) : Bool :=
  let d := match s.whl.cur with
    | some _ => s.nextClose.getD s.now - s.whl.prevClose
    | none => 1024
  decide ((s.trackLane l d).thr ≠ (s.lane l).thr) ||
    match s.cal.swapAt with
    | some _ => decide ((fget {} s.cal.next l).trim ≠ (fget {} s.cal.sets l).trim ∨
        (fget {} s.cal.next l).skew ≠ (fget {} s.cal.sets l).skew)
    | none => false

/-- THRESHOLD_SWITCH (R220): 128 ticks before the boundary the window of a change opens. -/
def execThresholdSwitch (t : Nat) (l : Fin 512) (s : State) : Host.Outcome State Fault Refusal :=
  let due := (s.nextBoundary.getD t) - 128
  let s := s.at (max t due)
  if s.thrWillChange l && !s.laneOff l then
    .next (s.modLane l (fun x => { x with thrFrom := s.now, thrTo := s.now + 128 }))
  else .next s

/-- RANGE_SWITCH (R220): 80 ticks before the boundary the window of a range change opens. -/
def execRangeSwitch (t : Nat) (l : Fin 512) (s : State) : Host.Outcome State Fault Refusal :=
  let x := s.lane l
  let b := if x.gainForced.isSome then s.nextShotSlot else s.nextBoundary
  let s := s.at (max t (b.getD t - 80))
  let g := (x.gainForced.orElse (fun _ => x.gainNext)).getD x.gain
  if g ≠ x.gain ∧ !s.laneOff l then
    .next (s.modLane l (fun x => { x with rngFrom := s.now, rngTo := s.now + 77 }))
  else .next s

/-- SECTOR_SETTLED (R228). -/
def execSectorSettled (t : Nat) (k : Fin 8) (s : State) : Host.Outcome State Fault Refusal :=
  .next ((s.at (max t (fget 0 s.lan.settleAt k))).settleSector k)

end Sys2Proof.Machine
end

