-- ==== Sys2Proof/Machine/Calib.lean ====
section
/-! DEFINITION. Lane calibration (R233 to R246): runs, results per lane, plausibility, trims, verdict and swap. -/

namespace Sys2Proof.Machine

/-! ## Sets and results -/

/-- The calibration set in force of lane `l`. -/
def State.calSet (s : State) (l : Nat) : CalSet := fget {} s.cal.sets l

/-- T[f] of the reset table (R235). -/
def resetT (f : Nat) : Nat := 64 * f + 32

/-- T[f] of a set. -/
def CalSet.tab (c : CalSet) (f : Nat) : Nat := fget (resetT f) c.t f

/-- The corrected time of an edge in 1/65,536 tick (R235, R249). -/
def CalSet.time (c : CalSet) (coarse f : Nat) : Int := ((65536 * coarse + c.tab f : Nat) : Int) + c.o

/-- The run of lane `l`. -/
def State.calRun (s : State) (l : Nat) : CalRun := fget {} s.cal.runs l

/-- Change the run of lane `l`. -/
def State.modRun (s : State) (l : Nat) (f : CalRun → CalRun) : State :=
  { s with cal := { s.cal with runs := fmod {} s.cal.runs l f } }

/-- Is lane `l` in the run? -/
def State.calIn (s : State) (l : Nat) : Bool := bitOf s.cal.inRun.toNat (l / 64)

/-- The table of a lane from its hits (R234): `acc` hits below code `f`; entries that differ from the reset table. -/
def tableFrom (h : FMap Nat) (n : Nat) : Nat → Nat → Nat → FMap Nat
  | 0, _, _ => []
  | k + 1, f, acc =>
    let hf := fget 0 h f
    let v := 65536 * (2 * acc + hf) / (2 * n)
    let r := tableFrom h n k (f + 1) (acc + hf)
    if v = resetT f then r else (f, v) :: r

/-- The lag X of a lane (R234). -/
def CalRun.lag (r : CalRun) : Int := ((65536 * r.m / r.n : Nat) : Int) - 32768

/-- k of R234. -/
def CalRun.kOf (r : CalRun) : Int := roundDiv r.lag 1024

/-- The skew tap a run gives (R234). -/
def State.newTap (s : State) (l : Nat) (r : CalRun) : Int :=
  if s.bit Reg.CAL_CTL 3 then 32 + r.kOf else (s.calSet l).skew

/-- The residual offset (R234). -/
def State.newOff (s : State) (l : Nat) (r : CalRun) : Int :=
  clampI (-32768) 32767 (r.lag - 1024 * (s.newTap l r - 32))

/-! ## Plausibility (R240) -/

/-- Is the code density implausible? -/
def State.dnlBad (s : State) (r : CalRun) : Bool :=
  r.h.any (fun x => decide (s.fld Reg.CAL_LIM_DNL 7 0 * r.n < x.2 * 16384)) ||
    decide (s.fld Reg.CAL_LIM_DNL 15 8 < 1024 - r.h.length)

/-- Does the tap lie or move too far? -/
def State.skewBad (s : State) (l : Nat) (r : CalRun) : Bool :=
  decide (r.kOf < -32) || decide (31 < r.kOf) ||
    (!(s.calSet l).isReset && decide (s.fld Reg.CAL_LIM_MOVE 11 8 < (s.newTap l r - (s.calSet l).skew).natAbs))

/-- Does the table move too far? -/
def State.inlBad (s : State) (l : Nat) (new : FMap Nat) : Bool :=
  !(s.calSet l).isReset && (List.range 1024).any (fun f =>
    decide (64 * s.fld Reg.CAL_LIM_MOVE 7 0 < (((fget (resetT f) new f : Nat) : Int) - (s.calSet l).tab f).natAbs))

/-- The status of a lane that reached its minimum (R240, R245): 1 ACCEPTED, 3 DNL, 4 SKEW, 5 INL_MOVE. -/
def State.calStatus (s : State) (l : Nat) (r : CalRun) : Nat :=
  if s.dnlBad r then 3 else if s.skewBad l r then 4 else if s.inlBad l (tableFrom r.h r.n 1024 0 0) then 5 else 1

/-! ## Ends of collection -/

/-- Lane `l` ends its collection with this status: 2 STARVED and 6 MASKED are given, others follow from its hits. -/
def State.calEnd (s : State) (l st : Nat) : State :=
  let cur := match s.whl.cur with
    | some sh => s.notLive sh l
    | none => 0
  let s := s.modRun l (fun r => { r with done := true, status := st, live := s.now - s.cal.startAt - (r.sub + cur) })
  let n := ((List.range 512).filter (fun i => (s.calRun i).done)).length
  let lane := fget {} s.cal.lanes l
  let s := { s with cal := { s.cal with
    lanes := fset {} s.cal.lanes l { lane with status := st }
    prog := { s.cal.prog with pos := min n (s.cal.prog.total - 1) } } }
  if 3 ≤ st ∧ st ≤ 5 then s.event Reg.CAL_STAT 3 { inst := l % 256, detail := l }
  else if st = 2 then s.event Reg.CAL_STAT 4 { inst := l % 256, detail := l }
  else s

/-- Lane `l` ends its collection now if it is masked, has its hits, or `expired`. -/
def State.calTryEnd (s : State) (expired : Bool) (l : Nat) : State :=
  let r := s.calRun l
  if !s.calIn l || r.done then s
  else if s.laneOff l then s.calEnd l 6
  else if s.calHitLimit ≤ r.n then s.calEnd l (s.calStatus l r)
  else if expired then s.calEnd l 2
  else s

/-! ## Trims (R236) -/

/-- Insert a lane in ascending rate N ÷ live. -/
def rateInsert (a : Nat × CalRun) : List (Nat × CalRun) → List (Nat × CalRun)
  | [] => [a]
  | b :: r => if a.2.n * b.2.live < b.2.n * a.2.live then a :: b :: r else b :: rateInsert a r

/-- The qualifying lanes of tile `k` in ascending rate. -/
def State.trimLanes (s : State) (k : Nat) : List (Nat × CalRun) :=
  ((List.range 16).map (fun i => (16 * k + i, s.calRun (16 * k + i)))).foldl
    (fun acc x => if s.calIn x.1 && x.2.steady && decide (x.2.status = 1) then rateInsert x acc else acc) []

/-- The new trim of an accepted lane and whether a bound holds it. -/
def State.newTrim (s : State) (l : Nat) : Int × Bool :=
  let old := (s.calSet l).trim
  let q := s.trimLanes (l / 16)
  let r := s.calRun l
  if !s.bit Reg.CAL_CTL 2 || decide (q.length < 8) || !r.steady then (old, false)
  else
    let ref := (q.getD ((q.length + 1) / 2 - 1) (0, {})).2
    let tol := s.fld Reg.CAL_TRIM 7 0
    if ref.n * r.live * (256 + tol) < r.n * ref.live * 256 then (if old = 15 then (15, true) else (old + 1, false))
    else if r.n * ref.live * 256 < ref.n * r.live * (256 - tol) then (if old = -16 then (-16, true) else (old - 1, false))
    else (old, false)

/-- The set that the run gives lane `l`. -/
def State.newSet (s : State) (l : Nat) : CalSet :=
  let r := s.calRun l
  { t := tableFrom r.h r.n 1024 0 0, o := s.newOff l r, skew := (s.newTap l r).toNat, trim := (s.newTrim l).1, isReset := false }

/-! ## Verdict and swap (R239, R241) -/

/-- How many lanes of the run have a status in [a, b]. -/
def State.calCount (s : State) (a b : Nat) : Nat :=
  ((List.range 512).filter (fun l => s.calIn l && (s.calRun l).done && decide (a ≤ (s.calRun l).status) &&
    decide ((s.calRun l).status ≤ b))).length

/-- Is lane `l` accepted in this run? -/
def State.calTaken (s : State) (l : Nat) : Bool := s.calIn l && decide ((s.calRun l).status = 1)

/-- An accepted verdict: the next sets, and the wait for the swap. -/
def State.calAccept (s : State) : State :=
  let next := forN 512 s.cal.sets (fun m l => if s.calTaken l then fset {} m l (s.newSet l) else m)
  let lanes := forN 512 s.cal.lanes (fun m l =>
    if s.calTaken l then fmod {} m l (fun x => { x with bound := (s.newTrim l).2 }) else m)
  let acc := s.openQuot s.cal.tSum s.cal.tN
  let s := s.freeUsed
  ({ s with cal := { s.cal with
    st := 2, failReason := 0, next, lanes, tAcc := acc, swapAt := some (s.now + 256) } }).event Reg.CAL_STAT 0 {}

/-- The verdict once every lane of the run is done (R239). -/
def State.calVerdict (s : State) : State :=
  let all := (List.range 512).all (fun l => !s.calIn l || (s.calRun l).done)
  if s.cal.st = 1 && all then
    let acc := s.calCount 1 1
    let rej := s.calCount 3 5
    let s := s.putWide Id.CAL_RUN_SUM (acc % 1024 + rej % 1024 * 2 ^ 10 + s.calCount 2 2 % 1024 * 2 ^ 20)
    if s.fld Reg.CAL_CTL 11 4 < rej then s.calFail 1
    else if (s.fld Reg.CAL_SPREAD 9 0 : Int) < s.cal.tMax - s.cal.tMin then s.calFail 2
    else if acc = 0 then s.calFail 4
    else s.calAccept
  else s

/-- The swap at boundary B, now (R241). -/
def State.calSwap (s : State) : State :=
  let gen := (s.wideN Id.CAL_COUNT + 1) % 65536
  let lanes := forN 512 s.cal.lanes (fun m l =>
    fmod {} m l (fun x => { x with stale := if s.calTaken l then 0 else min 255 (x.stale + 1) }))
  let s := { s with cal := { s.cal with
    st := 0, commanded := false, bank := 1 - s.cal.bank, sets := s.cal.next, next := [], swapAt := none, lanes
    prog := { s.cal.prog with st := 2, pos := s.cal.prog.total } } }
  let s := (s.bump Id.CAL_COUNT).putWide Id.CAL_LAST (s.utime + (unsgn 16 s.cal.tAcc + gen * 65536) * 2 ^ 64)
  s.event Reg.CAL_STAT 1 { detail := gen }

/-- The calibration part of a boundary: lanes that became masked end their collection; a due swap takes place (R239,
R241). `frame` tells whether the boundary is a frame boundary or no program runs. -/
def State.calBoundary (s : State) (frame : Bool) : State :=
  let s := if s.cal.st = 1 then (forN 512 s (fun s l => if s.laneOff l then s.calTryEnd false l else s)).calVerdict else s
  match s.cal.swapAt with
  | some a => if a ≤ s.now && (frame || !s.bit Reg.CAL_CTL 1) then s.calSwap else s
  | none => s

/-- A temperature during collection (R239, R241). -/
def State.calTemp (s : State) (t : Int) : State :=
  if s.cal.st = 1 then
    { s with cal := { s.cal with
      tMin := min s.cal.tMin t, tMax := max s.cal.tMax t, tSum := s.cal.tSum + t, tN := s.cal.tN + 1 } }
  else s

/-! ## Runs -/

/-- A run starts over the sectors of `mask`. -/
def State.calBegin (s : State) (mask : BitVec 8) (commanded : Bool) : State :=
  let total := 64 * popCount 8 mask.toNat
  let t := s.thm.temp
  let s := { s with cal := { s.cal with
    st := 1, commanded, failReason := 0, runs := [], inRun := mask, startAt := s.now
    tMin := t, tMax := t, tSum := t, tN := 1
    prog := { run := s.cal.prog.run + 1, st := 1, pos := 0, total } } }
  if mask = 0 then { s with cal := { s.cal with st := 0, commanded := false, prog := { s.cal.prog with st := 2 } } }
  else (forN 512 s (fun s l => s.calTryEnd (decide (s.fld Reg.CAL_WIN 7 0 = 0)) l)).calVerdict

/-- May runs start in this mode and clock state (R237)? -/
def State.calModeOk (s : State) : Bool :=
  (s.mode.active.scanning || decide (s.mode.active = .ready)) && s.onVco

/-- Does the die differ from the last accepted run by more than dt, or was there none? -/
def State.calDue (s : State) : Bool :=
  decide (s.wideN Id.CAL_COUNT = 0) || decide (s.fld Reg.CAL_DT 9 0 < (s.thm.temp - s.cal.tAcc).natAbs)

/-- CAL_AUTO_START (R237): an automatic run over all lanes. -/
def execCalAutoStart (t : Nat) (s : State) : Host.Outcome State Fault Refusal :=
  let s := s.at t
  if s.bit Reg.CAL_CTL 0 && decide (s.cal.st = 0) && s.calModeOk && s.calDue then .next (s.calBegin 0xFF false) else .next s

/-- CAL_CMD.start (R238); against an automatic start of the same cycle the command wins (R244). -/
def State.calStartCmd (s : State) (path : Path) : State :=
  let m := s.mode.active
  let free := decide (s.cal.st = 0) || (decide (s.cal.st = 1) && !s.cal.commanded && s.sameCycle s.cal.startAt s.now)
  if free && (decide (m = .ready) || decide (m = .service)) then
    s.calBegin (BitVec.ofNat 8 (s.fld Reg.CAL_RUN_MASK 7 0)) true
  else s.event Reg.CAL_STAT 5 { path := pathCode path }

/-- CAL_START (R238). -/
def execCalStart (t : Nat) (path : Path) (s : State) : Host.Outcome State Fault Refusal :=
  .next ((s.at t).onBar (fun s => s.calStartCmd path))

/-- CAL_ABORT (R239, R244). -/
def execCalAbort (t : Nat) (_path : Path) (s : State) : Host.Outcome State Fault Refusal :=
  .next ((s.at t).onBar State.calAbort)

/-- CAL_LANE_COMPLETE (R233, R234, R239): lane `l` has its hits, or is masked. -/
def execCalLaneComplete (t : Nat) (l : Fin 512) (s : State) : Host.Outcome State Fault Refusal :=
  let s := s.at t
  if s.cal.st = 1 then .next ((s.calTryEnd false l).calVerdict) else .next s

/-- CAL_WINDOW_EXPIRY (R233): lanes without their hits are STARVED. -/
def execCalWindowExpiry (t : Nat) (s : State) : Host.Outcome State Fault Refusal :=
  if s.cal.st = 1 then
    let s := s.at (max t (s.cal.startAt + msT (1000 * s.fld Reg.CAL_WIN 7 0)))
    .next (forN 512 s (fun s l => s.calTryEnd true l)).calVerdict
  else .next (s.at t)

/-- CAL_HOLD_END (R237). -/
def execCalHoldEnd (t : Nat) (s : State) : Host.Outcome State Fault Refusal :=
  if s.cal.st = 3 then
    let s := s.at (max t s.cal.holdTo)
    .next { s with cal := { s.cal with st := 0 } }
  else .next (s.at t)

end Sys2Proof.Machine
end

