-- ==== Sys2Proof/Machine/Memory.lean ====
section
/-! DEFINITION. The LPDDR5X controller (R318 to R344): arbitration of one granule, access checks, ECC outcomes and page
retirement, region builds, scrub, refresh and self-refresh entry. -/

namespace Sys2Proof.Machine

/-! ## Retirement (R337) -/

/-- Physical page `p` joins the pending-retire list. -/
def State.retirePage (s : State) (p : Nat) : State :=
  if s.mem.retirePend.contains p then s
  else
    let s := { s with mem := { s.mem with retirePend := s.mem.retirePend ++ [p] } }
    (s.putWide Id.MEM_RETIRE_PENDING s.mem.retirePend.length).event Reg.MEM_STAT 4 { addr := p, detail := p }

/-- A corrected granule at logical address `a` on channel `ch` (R319, R337). -/
def State.memCe (s : State) (a ch : Nat) : State :=
  let p := s.physOf a / pageBytes
  let n := fget 0 s.mem.ceCount p + 1
  let s := { s with mem := { s.mem with ceCount := fset 0 s.mem.ceCount p n } }
  let s := (s.bump Id.MEM_CE_COUNT).fault 0x8A0 Reg.MEM_STAT (flag16 0) { inst := ch, detail := ch, addr := a / pageBytes }
  if n = 4 then s.retirePage p else s

/-- An uncorrectable granule at logical address `a` met by a port at a position (R319, R336, R337). -/
def State.memUe (s : State) (port a pos : Nat) : State :=
  let s := (s.bump Id.MEM_UE_COUNT).raise Reg.MEM_STAT (flag16 1)
  let s := s.portFault port (a / pageBytes) 3 pos
  s.retirePage (s.physOf a / pageBytes)

/-! ## Arbitration (R328) -/

/-- Port `n`. -/
def State.port (s : State) (n : Nat) : Port := fget {} s.mem.ports n

/-- Change port `n`. -/
def State.modPort (s : State) (n : Nat) (f : Port → Port) : State :=
  { s with mem := { s.mem with ports := fmod {} s.mem.ports n f } }

/-- Channel `c`. -/
def State.chan (s : State) (c : Nat) : Chan := fget {} s.mem.chans c

/-- Change channel `c`. -/
def State.modChan (s : State) (c : Nat) (f : Chan → Chan) : State :=
  { s with mem := { s.mem with chans := fmod {} s.mem.chans c f } }

/-- The channel of byte `a` of the data space (R320). -/
def channelOf (a : Nat) : Nat := ((a >>> 11) ^^^ (a >>> 15)) % 16

/-- The priority of a port (R327, R329). MEM_PRIO_8 and MEM_PRIO_9 have no offset of their own (log 12): they keep their
reset values. -/
def State.prio (s : State) (n : Nat) : Nat :=
  match n with
  | 8 => 3
  | 9 => 2
  | _ => s.fld (Reg.MEM_PRIO + 4 * n) 3 0

/-- The next of the ports `l` after `last` in ascending cyclic order among the ten. -/
def nextCyclic (l : List Nat) (last : Nat) : Option Nat :=
  ((List.range 10).map (fun i => (last + 1 + i) % 10)).find? (fun p => l.contains p)

/-- The winner among the requesting ports: highest priority; the owner against equals for up to run_max granules; else
the round-robin pointer. -/
def State.arbWinner (s : State) (c : Chan) (ports : List Nat) : Option Nat :=
  let top := (ports.map s.prio).foldl max 0
  let eq := ports.filter (fun p => decide (s.prio p = top))
  match c.owner with
  | some o => if eq.contains o && decide (c.run < s.fld Reg.MEM_CTL 6 1) then some o else nextCyclic eq c.rr
  | none => nextCyclic eq c.rr

/-- The check at the first granule of a page (R323): requests that fail it fault and do not contend. -/
def State.portCheck (s : State) (r : MemReq) : State × Bool :=
  let l := r.laddr / pageBytes
  let s := if (s.port r.port).next = some r.laddr then s else s.modPort r.port (fun p => { p with done := 0, page := none })
  if (s.port r.port).page = some l then (s, true)
  else
    let cls := s.accessClass r.port l r.wdata.isSome
    if cls = 0 then (s.modPort r.port (fun p => { p with page := some l, next := some r.laddr }), true)
    else (s.portFault r.port l cls (s.port r.port).done, false)

/-- All requests checked in order; those that may contend. -/
def State.checkAll (s : State) : List MemReq → State × List MemReq
  | [] => (s, [])
  | r :: rest =>
    let x := s.portCheck r
    let y := x.1.checkAll rest
    (y.1, if x.2 then r :: y.2 else y.2)

/-- Does the last mapped granule lie at logical address `a`? -/
def State.lastGranule (s : State) (a : Nat) : Bool := decide (a + 64 = s.mem.sizes.sum * pageBytes)

/-- The granule is transferred whole (R330): progress, bytes, data; a walker that has read the last granule ends its
scrub pass. -/
def State.granule (s : State) (r : MemReq) : State :=
  let s := (s.modPort r.port (fun p => { p with next := some (r.laddr + 64), done := p.done + 1, warned := false })).bump
    (Id.MEM_BW + r.port) 64
  match r.wdata with
  | some v => s.memPut r.laddr 64 v.toNat
  | none =>
    { s with mem := { s.mem with
      rdata := BitVec.ofNat 512 (s.memNat r.laddr 64)
      scrub := s.mem.scrub && !(decide (r.port = 9) && s.lastGranule r.laddr) } }

/-- An uncorrectable granule read for an export will be replaced in the exported stream (R356). -/
def State.exportUe (s : State) (r : MemReq) : State :=
  let g := (regionOf s.mem.sizes (r.laddr / pageBytes)).getD 0
  if s.cap.export_ && decide (r.port = 4) && (decide (g = 4) || decide (g = 6)) then
    { s with cap := { s.cap with exBad := s.cap.exBad ++ [r.laddr] } }.event Reg.CAP_STAT 4 { addr := r.laddr / pageBytes }
  else s

/-- The granted request meets its ECC outcome (R319, R336). A whole-granule write meets none. -/
def State.memGrant (s : State) (ch : Nat) (r : MemReq) : State :=
  let s := if s.wideN (Id.MEM_WAIT_MAX + r.port) < r.waitNs then s.putWide (Id.MEM_WAIT_MAX + r.port) r.waitNs else s
  match r.wdata, r.ecc with
  | none, .uncorrectable => ((s.memUe r.port r.laddr (s.port r.port).done).exportUe r).modPort r.port (fun p => { p with next := none })
  | none, .corrected => (s.granule r).memCe r.laddr ch
  | _, _ => s.granule r

/-- The request with its granule's address. -/
def MemReq.align (r : MemReq) : MemReq := { r with laddr := r.laddr / 64 * 64 }

/-- One arbitration phase and its granule on channel `ch`: requests for other channels wait there. -/
def State.channelPhase (s : State) (ch : Nat) (reqs : List MemReq) : State :=
  let x := s.checkAll (reqs.map MemReq.align)
  let s := x.1
  let here := x.2.filter (fun r => decide (channelOf (s.physOf r.laddr) = ch))
  let c := s.chan ch
  match s.arbWinner c (here.map (·.port)) with
  | none => s.modChan ch (fun c => { c with owner := none, run := 0 })
  | some w =>
    let run := if c.owner = some w ∧ c.run < s.fld Reg.MEM_CTL 6 1 then c.run + 1 else 1
    let s := s.modChan ch (fun c => { c with owner := some w, run := run, rr := w })
    match here.find? (fun r => decide (r.port = w)) with
    | some r => s.memGrant ch r
    | none => s

/-- MEM_GRANULE (R328 to R332, R340): maintenance goes first; no grant is given in self-refresh. -/
def execMemGranule (t : Nat) (ch : Fin 16) (reqs : List MemReq) (s : State) : Host.Outcome State Fault Refusal :=
  let s := s.at t
  if s.mem.selfRefresh then .next s
  else if (s.chan ch).maint then .next (s.modChan ch (fun c => { c with maint := false, owner := none, run := 0 }))
  else .next (s.channelPhase ch (reqs.filter (fun r => decide (r.port < 10))))

/-- MEM_MAINTENANCE (R332): the channel is taken at its next granule boundary. -/
def execMemMaintenance (t : Nat) (ch : Fin 16) (s : State) : Host.Outcome State Fault Refusal :=
  .next ((s.at t).modChan ch (fun c => { c with maint := true }))

/-- MEM_STARVE_WARN (R334): once for each wait; a limit of 0 disables it. -/
def execMemStarveWarn (t : Nat) (port : Fin 10) (s : State) : Host.Outcome State Fault Refusal :=
  let s := s.at t
  if s.reg Reg.MEM_STARVE = 0 || (s.port port).warned then .next s
  else .next ((s.modPort port (fun p => { p with warned := true })).event Reg.MEM_STAT 3 { inst := port, detail := port })

/-! ## Region table (R321, R325) -/

/-- Pages left for REC by these sizes of regions 0 to 5, if they fit. -/
def State.recPages (s : State) (sizes : List Nat) : Option Nat :=
  let usable := 61440 - s.mem.retired.length
  if sizes.sum ≤ usable then some (usable - sizes.sum) else none

/-- The sizes in MEM_RGN_SIZE_r. -/
def State.rgnSizes (s : State) : List Nat := (List.range 6).map (fun r => (s.reg (Reg.MEM_RGN_SIZE + 4 * r)).toNat)

/-- Does physical page `p` keep its content when the table changes from one build to another? -/
def pageKept (oldS oldM newS newM : List Nat) (p : Nat) : Bool :=
  let log := fun (m : List Nat) => p - (m.filter (fun q => decide (q < p))).length
  !oldM.contains p && !newM.contains p && decide (log oldM = log newM) &&
    decide (regionOf oldS (log oldM) = regionOf newS (log newM))

/-- The table that the sizes give is in force; pages that changed region or number are zeroed, so undefined content is
left in REC only (R325, R350). -/
def State.rgnBuild (s : State) : State :=
  match s.recPages s.rgnSizes with
  | none => { s with mem := { s.mem with busy := false, prog := { s.mem.prog with st := 3 } } }.event Reg.MEM_STAT 6 {}
  | some rec_ =>
    let sizes := s.rgnSizes ++ [rec_]
    let keep := pageKept s.mem.sizes s.mem.mapped sizes s.mem.retired
    let rec0 := ppageOf s.mem.retired (regionStart sizes 6)
    { s with mem := { s.mem with
        bytes := s.mem.bytes.filter (fun x => keep (x.1 / pageBytes)), openFrom := max s.mem.openFrom rec0
        sizes, mapped := s.mem.retired, valid := true, busy := false
        prog := { s.mem.prog with st := 2, pos := s.mem.prog.total } } }.event Reg.MEM_STAT 5 {}

/-- A build starts: ports check their pages afresh. -/
def State.rgnStart (s : State) : State :=
  { s with mem := { s.mem with
    busy := true, ports := fmapAll {} s.mem.ports (fun p => { p with page := none })
    prog := { run := s.mem.prog.run + 1, st := 1, pos := 0, total := 61440 } } }

/-- MEM_CMD.rgn_rebuild (R325). -/
def State.rgnRebuild (s : State) (path : Path) : State :=
  if s.mem.busy then s
  else if (s.mode.active = .ready ∨ s.mode.active = .service) ∧ s.wheelRuns = false ∧ (s.recPages s.rgnSizes).isSome then
    s.rgnStart
  else s.event Reg.MEM_STAT 6 { path := pathCode path }

/-- RGN_REBUILD (R325): in READY or SERVICE with the Wheel IDLE or FAULTED; a size that does not fit keeps the table. -/
def execRgnRebuild (t : Nat) (path : Path) (s : State) : Host.Outcome State Fault Refusal :=
  .next ((s.at t).onBar (fun s => s.rgnRebuild path))

/-- RGN_REBUILD_DONE (R325). -/
def execRgnRebuildDone (t : Nat) (s : State) : Host.Outcome State Fault Refusal :=
  let s := s.at t
  .next (if s.mem.busy then s.rgnBuild else s)

/-! ## Scrub, temperature, self-refresh -/

/-- MEM_CMD.scrub_pass (R338). -/
def State.scrubPass (s : State) : State := { s with mem := { s.mem with scrub := true } }

/-- SCRUB_PASS (R338). -/
def execScrubPass (t : Nat) (_path : Path) (s : State) : Host.Outcome State Fault Refusal :=
  .next ((s.at t).onBar State.scrubPass)

/-- Ticks of the scrub period. -/
def State.scrubTicks (s : State) : Nat := msT (3600000 * s.fld Reg.MEM_SCRUB 7 0)

/-- SCRUB_PERIOD (R338): with scrub_en set and hours above 0. -/
def execScrubPeriod (t : Nat) (s : State) : Host.Outcome State Fault Refusal :=
  if s.bit Reg.MEM_CTL 0 && decide (s.scrubTicks ≠ 0) then
    let s := s.at (max t (s.mem.scrubAt + s.scrubTicks))
    .next { s with mem := { s.mem with scrub := true, scrubAt := s.now } }
  else .next (s.at t)

/-- MEM_HOT_CHANGE (R333). -/
def execMemHotChange (t : Nat) (pkg : Fin 4) (hot : Bool) (s : State) : Host.Outcome State Fault Refusal :=
  let s := s.at t
  let was := bitOf s.mem.hot.toNat pkg
  let m := BitVec.ofNat 4 (2 ^ pkg.val)
  let s := { s with mem := { s.mem with hot := if hot then s.mem.hot ||| m else s.mem.hot &&& ~~~m } }
  .next (if hot && !was then s.event Reg.MEM_STAT 7 { inst := pkg, detail := pkg } else s)

/-- SELF_REFRESH_ENTERED (R340): after STANDBY entry or the end of holdover has asked for it. The switch to BCLK follows
its cause within 2 µs (R64); an entry that completes in that time is taken to have come before the switch (log 32). -/
def execSelfRefreshEntered (t : Nat) (s : State) : Host.Outcome State Fault Refusal :=
  let s := s.at t
  if s.mem.enteringSr then
    let kept := decide (s.clk.state = .bclk) && decide (s.now ≤ s.clk.switchAt + usT 2)
    .next { s with
      mem := { s.mem with selfRefresh := true, enteringSr := false, lost := s.mem.lost || (decide (s.clk.state = .bclk) && !kept) }
      clk := { s.clk with memRetained := s.clk.memRetained || kept } }
  else .next s

end Sys2Proof.Machine
end

