-- ==== Sys2Proof/Machine/Shelf.lean ====
section
/-! DEFINITION. Counters and bins of a Kiln buffer, and the Shelf: cell records, validity, ego-motion, predictions,
stacking, write-back (R247 to R252, R272 to R288). -/

namespace Sys2Proof.Machine

/-! ## Counters and bins -/

/-- The exact zoom bin width of a code in 1/65,536 tick (R248). -/
def zoomW (code : Nat) : Nat :=
  match code with
  | 0 => 1678 | 1 => 3355 | 2 => 6711 | _ => 13422

/-- `n` more in counter `key` with full scale `full`; whether it had to be held there (R252). -/
def satAdd (full : Nat) (m : FMap Nat) (key n : Nat) : FMap Nat × Bool :=
  let v := fget 0 m key + n
  (fset 0 m key (min full v), decide (full < v))

/-- Buffer `i` of Kiln `k`. -/
def State.kbuf (s : State) (k i : Nat) : KBuf := fget {} (s.kiln k).bufs i

/-- Change buffer `i` of Kiln `k`. -/
def State.modBuf (s : State) (k i : Nat) (f : KBuf → KBuf) : State :=
  s.modKiln k (fun x => { x with bufs := fmod {} x.bufs i f })

/-- Descriptor of lane `j` of a buffer. -/
def KBuf.dsc (b : KBuf) (j : Nat) : Desc := fget {} b.desc j

/-- Change the descriptor of lane `j`. -/
def KBuf.modDsc (b : KBuf) (j : Nat) (f : Desc → Desc) : KBuf := { b with desc := fmod {} b.desc j f }

/-- The Shelf's record of lane `j` of a buffer. -/
def KBuf.hdr (b : KBuf) (j : Nat) : ShelfHdr := fget {} b.hdrs j

/-! ## Cells (R272, R273) -/

/-- Does the Shelf read or write at all (R273, R284)? -/
def State.shelfOn (s : State) : Bool := decide (s.shf.cells ≠ 0) && (decide (s.shf.depth ≠ 0) || s.bit Reg.SHF_CTL 5)

/-- Logical address of the record of lane 64k + j at azimuth index `a`. -/
def State.cellAddr (s : State) (k j a : Nat) : Nat :=
  regionStart s.mem.sizes 3 * pageBytes + 640 * ((k * s.shf.cells + a) * 64 + j)

/-- The largest cell count that the SHELF region holds. -/
def State.cellsMax (s : State) : Nat := if s.mem.valid then s.mem.sizes.getD 3 0 * pageBytes / 327680 else 0

/-! ## Header fields (R274) -/

/-- Bytes [hi:lo] of a header. -/
def hdrBytes (raw hi lo : Nat) : Nat := bitsOf raw (8 * hi + 7) (8 * lo)

/-- Age of a record. -/
def hdrAge (raw : Nat) : Nat := bitsOf (hdrBytes raw 9 9) 2 0

/-- Window start `i`, if used. -/
def hdrStart (raw i : Nat) : Option Nat :=
  let w := hdrBytes raw (15 + 4 * i) (12 + 4 * i)
  if bitOf w 31 then some (bitsOf w 28 0) else none

/-- Return time `i`, if valid. -/
def hdrRet (raw i : Nat) : Option Nat :=
  let w := hdrBytes raw (27 + 4 * i) (24 + 4 * i)
  if bitOf w 31 then some (bitsOf w 28 0) else none

/-- A 32-bit word of the header: bit 31 set with a value. -/
def hdrWord (v : Option Int) : Nat :=
  match v with
  | some x => 2 ^ 31 + unsgn 29 x
  | none => 0

/-- Is the fetched record valid for lane `l` at azimuth index `a` in frame `f` (R275)? -/
def State.hdrValid (s : State) (h : ShelfHdr) (l a f : Nat) : Bool :=
  h.got && !h.bad && decide (hdrBytes h.raw 8 8 = 0x5A) && decide (bitsOf (hdrBytes h.raw 5 4) 8 0 = l) &&
    decide (bitsOf (hdrBytes h.raw 7 6) 12 0 = a) && decide ((hdrBytes h.raw 3 0 + 1) % 2 ^ 32 = f % 2 ^ 32) &&
    decide (s.wideN Id.SHF_FLUSH_FRAME ≤ hdrBytes h.raw 3 0)

/-! ## Ego-motion (R278, R279) -/

/-- Offset of kv[a] (kw[a] is 4 further) in the geometry table (R288). -/
def egoOff (a : Nat) : Nat := 0x2800000 + 8 * a

/-- A geometry entry as it was at the last frame boundary. -/
def State.egoEntry (s : State) (off : Nat) : Int :=
  match fget none s.shf.egoTabOld off with
  | some v => sgn 16 v.toNat
  | none => s.regI off

/-- A geometry entry is about to change: its value at the boundary is kept for this frame (R288). -/
def State.egoKeep (s : State) (off : Nat) : State :=
  match fget none s.shf.egoTabOld off with
  | some _ => s
  | none => { s with shf := { s.shf with egoTabOld := fset none s.shf.egoTabOld off (some (s.reg off)) } }

/-- The time shift Δ of azimuth index `a` in 1/65,536 tick, rounded halves away from zero (R279). -/
def State.shfDelta (s : State) (a : Nat) : Int :=
  if s.bit Reg.SHF_CTL 6 then
    let num := -((s.shf.egoV * s.egoEntry (egoOff a) * 1000000 + s.shf.egoW * s.egoEntry (egoOff a + 4) * 16384) *
      (s.shf.tf : Int) * 13991)
    roundDiv num (16384 * 1000000 * 3200000000 * 10)
  else 0

/-- The sample of a frame boundary: SHF_EGO is latched when written since the last sample, a flush is taken (R277,
R278). Writes of the sample's own cycle wait. -/
def State.shfSample (s : State) : State :=
  let fresh := match s.shf.egoFresh with
    | some a => !s.sameCycle a s.now
    | none => false
  let flush := match s.shf.flushReq with
    | some a => !s.sameCycle a s.now
    | none => false
  let en := s.bit Reg.SHF_CTL 6
  let ok := fresh && en
  let ego := s.wideN Id.SHF_EGO
  let s := { s with shf := { s.shf with
    egoFresh := if fresh then none else s.shf.egoFresh
    flushReq := if flush then none else s.shf.flushReq
    flushNow := s.shf.flushNow || flush
    snapOk := ok
    snapV := if ok then sgn 32 ego else 0
    snapW := if ok then sgn 32 (ego / 2 ^ 32) else 0 } }
  if en && !fresh then (s.bump Id.SHF_EGO_MISSING).event Reg.SHF_STAT 0 {} else s

/-- Records with a tag below the new frame's number are invalid from now on (R277). -/
def State.shfFlush (s : State) (frame : Nat) : State :=
  ({ s with shf := { s.shf with flushNow := false } }.putWide Id.SHF_FLUSH_FRAME frame).event Reg.SHF_STAT 4 {}

/-- Cells, depth and decay of a frame boundary; whether the cells changed (R273, R284). -/
def State.shfApply (s : State) : State × Bool :=
  let want := (s.fld Reg.SHF_CELLS 13 0)
  let lim := min 8192 s.cellsMax
  let new := min want lim
  let changed := decide (new ≠ s.shf.cells)
  let s := { s with shf := { s.shf with cells := new, depth := s.shf.depthNext, decay := s.shf.decayNext } }
  (if changed && decide (new < want) then s.lenClamp Reg.SHF_CELLS new else s, changed)

/-- A frame boundary at which frame number `frame` begins; `tf` is the duration of the frame before it (R277 to R279,
R284, R285). -/
def State.shfBoundary (s : State) (frame tf : Nat) (start : Bool) : State :=
  let x := s.shfApply
  let s := x.1
  let s := if x.2 || start || s.shf.flushNow then s.shfFlush frame else s
  let s := { s with shf := { s.shf with
    egoFrame := s.shf.snapOk, egoV := s.shf.snapV, egoW := s.shf.snapW, tf, egoTabOld := [] } }
  s.putWide Id.SHF_EGO_APPLIED (unsgn 32 s.shf.egoV + unsgn 32 s.shf.egoW * 2 ^ 32 + tf % 2 ^ 32 * 2 ^ 64)

/-- The boundary of a unit whose Wheel runs no program: settings and a flush, as for the next frame to begin. -/
def State.shfIdleBoundary (s : State) : State :=
  let s := match s.shf.flushReq with
    | some a => if s.sameCycle a s.now then s
        else { s with shf := { s.shf with flushReq := none, flushNow := true } }
    | none => s
  let x := s.shfApply
  let s := x.1
  if x.2 || s.shf.flushNow then s.shfFlush ((s.wideN Id.WHL_FRAME_COUNT + 1) % 2 ^ 32) else s

/-- A stacking depth lands for the next frame boundary: above 4 applies 4 (R286). -/
def State.landDepth (s : State) (v addr path : Nat) : State :=
  let s := { s with shf := { s.shf with depthNext := min 4 v } }
  if 4 < v then s.lenClamp addr 4 path else s

/-- A decay lands: 0 applies 1/2 (R284). -/
def State.landDecay (s : State) (v addr path : Nat) : State :=
  let s := { s with shf := { s.shf with decayNext := max 1 v } }
  if v = 0 then s.paramClamp addr 1 path else s

/-! ## Fetch (R281) -/

/-- The read check and ECC outcome of a fetch of lane `l` at address `a` on ARB_0: whether the data came. -/
def State.shelfRead (s : State) (l a : Nat) (uecc : Bool) : State × Bool :=
  let cls := s.accessClass 0 (a / pageBytes) false
  if cls ≠ 0 then (s.portFault 0 (a / pageBytes) cls 0, false)
  else if uecc then
    ((s.memUe 0 a 0).faultEntry 0xA80 { inst := l / 64, detail := l }, false)
  else (s, true)

/-- SHELF_HEADER_ARRIVAL (R281): the header of lane `j` for the cell being fetched. -/
def execShelfHeaderArrival (t : Nat) (k : Fin 8) (j : Fin 64) (uecc : Bool) (s : State) :
    Host.Outcome State Fault Refusal :=
  let s := s.at t
  let a := (s.kiln k).predCell
  if s.shelfOn && decide (a < s.shf.cells) then
    let addr := s.cellAddr k j a
    let x := s.shelfRead (64 * k.val + j.val) addr uecc
    let h : ShelfHdr := { got := true, at_ := s.now, raw := if x.2 then x.1.memNat addr 64 else 0, bad := !x.2 }
    .next (x.1.modKiln k (fun q => { q with fetch := fset {} q.fetch j h }))
  else .next s

/-- Which buffer (or 3: the fetch) of sector `k` waits for the bins of lane `j`, oldest pixel first. -/
def State.binsFor (s : State) (k j : Nat) : Option Nat :=
  let q := s.kiln k
  let waits := fun (h : ShelfHdr) => h.got && !h.bad && h.bins.isNone
  let drain := q.hands.findSome? (fun h => if h.j ≤ j then h.buf else none)
  match drain with
  | some b => if waits ((s.kbuf k b).hdr j) then some b
      else if s.pix.first.isSome && waits ((s.kbuf k q.fill).hdr j) then some q.fill
      else if waits (fget {} q.fetch j) then some 3 else none
  | none => if s.pix.first.isSome && waits ((s.kbuf k q.fill).hdr j) then some q.fill
      else if waits (fget {} q.fetch j) then some 3 else none

/-- The cell index whose record a buffer (or 3: the fetch) holds. -/
def State.cellOf (s : State) (k i : Nat) : Nat :=
  let q := s.kiln k
  if i = 3 then q.predCell else if i = q.fill then q.cell else (s.kbuf k i).pix.az

/-- Replace the Shelf's record of lane `j` in a buffer (or 3: the fetch). -/
def State.setHdr (s : State) (k i j : Nat) (h : ShelfHdr) : State :=
  if i = 3 then s.modKiln k (fun q => { q with fetch := fset {} q.fetch j h })
  else s.modBuf k i (fun b => { b with hdrs := fset {} b.hdrs j h })

/-- The Shelf's record of lane `j` in a buffer (or 3: the fetch). -/
def State.getHdr (s : State) (k i j : Nat) : ShelfHdr :=
  if i = 3 then fget {} (s.kiln k).fetch j else (s.kbuf k i).hdr j

/-- SHELF_BINS_ARRIVAL (R281, R284): 576 bytes of bins; a depth of 0 fetches none. -/
def execShelfBinsArrival (t : Nat) (k : Fin 8) (j : Fin 64) (uecc : Bool) (s : State) :
    Host.Outcome State Fault Refusal :=
  let s := s.at t
  if s.shf.depth = 0 then .next s
  else
    match s.binsFor k j with
    | none => .next s
    | some i =>
      let addr := s.cellAddr k j (s.cellOf k i) + 64
      let x := s.shelfRead (64 * k.val + j.val) addr uecc
      let h := x.1.getHdr k i j
      .next (x.1.setHdr k i j (if x.2 then { h with bins := some (x.1.memNat addr 576) } else { h with bad := true }))

/-! ## Predictions and stacking (R276, R280, R282) -/

/-- Prediction word `i` of a valid record: the start that centres window `i` on the predicted return. -/
def State.predWord (s : State) (h : ShelfHdr) (l a f w i : Nat) : Option Int :=
  if s.bit Reg.SHF_CTL 5 && s.hdrValid h l a f then
    (hdrRet h.raw i).map (fun r => clampI 0 (65536 * 8191) ((r : Int) + s.shfDelta a - 64 * (w : Int)))
  else none

/-- Would the record of lane `j` in buffer `b` be stacked or restarted: 0 neither, 1 stacking is due, 2 the chain
restarts (R276). -/
def State.stackCase (s : State) (k j : Nat) (b : KBuf) : Nat :=
  let h := b.hdr j
  if s.shf.depth = 0 || !s.shelfOn || decide (b.pix.void ≠ 0) || (b.dsc j).stackMiss ||
      !s.hdrValid h (64 * k + j) b.pix.az b.pix.frame then 0
  else if hdrAge h.raw ≤ s.shf.depth ∧ hdrBytes h.raw 10 10 = b.width then 1
  else 2

/-- Bin `src` of window `i` of the 576 bytes of bins. -/
def recBin (bins i src : Nat) : Nat := bitsOf bins (1536 * i + 12 * src + 11) (1536 * i + 12 * src)

/-- Window `i` of the addition: bins moved by `m`, halved `dsh` times; keys of lane `j`. -/
def addWindow (bins dsh j i : Nat) (m : Int) (z : FMap Nat × Bool) : FMap Nat × Bool :=
  forN 128 z (fun z b =>
    let src := (b : Int) - m
    if 0 ≤ src ∧ src ≤ 127 then
      let r := satAdd 4095 z.1 (384 * j + 128 * i + b) (recBin bins i src.toNat >>> dsh)
      (r.1, z.2 || r.2)
    else z)

/-- Window `i` of lane `j` of a buffer receives its prior state, if both sides use it (R282). -/
def addPrior (delta : Int) (dsh j : Nat) (h : ShelfHdr) (bins : Nat) (b : KBuf) (i : Nat) : KBuf :=
  match hdrStart h.raw i, fget none (b.dsc j).win i with
  | some r, some n =>
    let z := addWindow bins dsh j i (roundDiv ((r : Int) + delta - n) (zoomW b.width)) (b.zoom, false)
    { b with zoom := z.1 }.modDsc j (fun d => if z.2 then { d with satZ := d.satZ ||| 2 ^ i } else d)
  | _, _ => b

/-- The addition of lane `j` into buffer `i` of sector `k`. -/
def State.stackLane (s : State) (k j i : Nat) (h : ShelfHdr) (bins : Nat) : State :=
  let d := s.shfDelta (s.kbuf k i).pix.az
  (s.modBuf k i (fun b =>
    (forN 3 b (addPrior d s.shf.decay j h bins)).modDsc j (fun x => { x with stacked := true, age := hdrAge h.raw + 1 }))).bump
    Id.SHF_STACKED

/-- SHELF_ADDITION (R262): refused when it would start later than 72 ticks before the hand-off; nothing is added when it is
not due or its bins are not held. -/
def execShelfAddition (t : Nat) (k : Fin 8) (j : Fin 64) (s : State) : Host.Outcome State Fault Refusal :=
  let s := s.at t
  match (s.kiln k).hands.find? (fun h => decide (h.j ≤ j.val)) with
  | some hd =>
    match hd.buf with
    | some i =>
      let h := (s.kbuf k i).hdr j
      let go := decide (s.now + 72 ≤ hd.start + 625 * j.val) && decide (hd.void = 0) &&
        decide (s.stackCase k j (s.kbuf k i) = 1) && !((s.kbuf k i).dsc j).stacked
      match h.bins with
      | some bins => .next (if go then s.stackLane k j i h bins else s)
      | none => .next s
    | none => .next s
  | none => .next s

/-! ## Write-back (R283, R284) -/

/-- The header that the write-back of a lane-pixel carries, without its returns. -/
def GJob.wbHeader (q : GJob) (k : Nat) : Nat :=
  let age := if q.desc.stacked then hdrAge q.hdr.raw + 1 else 1
  packFields [(32, q.pix.frame), (16, 64 * k + q.j), (16, q.pix.az), (8, 0x5A), (8, age), (8, q.width), (8, 0),
    (32, hdrWord (fget none q.desc.win 0)), (32, hdrWord (fget none q.desc.win 1)), (32, hdrWord (fget none q.desc.win 2)),
    (96, 0), (16, q.pix.calGen)]

/-- The three windows of a lane-pixel as 576 bytes. -/
def GJob.wbBins (q : GJob) : Nat :=
  (List.range 384).foldl (fun a b => a + (fget 0 q.zoom b % 4096) * 2 ^ (12 * b)) 0

/-- Staged write-backs of sector `k`. -/
def State.staged (s : State) (k : Nat) : List ShelfWb := fget [] s.shf.staging k

/-- Replace the staged write-backs of sector `k`. -/
def State.setStaged (s : State) (k : Nat) (l : List ShelfWb) : State :=
  { s with shf := { s.shf with staging := fset [] s.shf.staging k l } }

/-- A write-back is lost (R283). -/
def State.wbLost (s : State) (k j : Nat) : State :=
  (s.bump Id.SHF_WB_LOST).event Reg.SHF_STAT 1 { inst := k, detail := 64 * k + j }

/-- The Shelf reads lane-pixel `q` of sector `k` for its write-back; staging holds four pixels of a sector. -/
def State.stageWb (s : State) (k : Nat) (q : GJob) : State :=
  if !s.shelfOn || decide (q.void ≠ 0) || !q.pix.hasPix || decide (s.shf.cells ≤ q.pix.az) then s
  else if 256 ≤ (s.staged k).length then s.wbLost k q.j
  else
    let full := decide (s.shf.depth ≠ 0)
    let w : ShelfWb := {
      pix := q.pix.seq, j := q.j, addr := s.cellAddr k q.j q.pix.az, len := if full then 640 else 64
      val := q.wbHeader k + (if full then q.wbBins * 2 ^ 512 else 0) }
    s.setStaged k (s.staged k ++ [w])

/-- The overdue or due write-back read of lane `j` of sector `k`, once for each lane-pixel. -/
def State.doWb (s : State) (k j : Nat) : State :=
  match (s.glaze k).jobs.find? (fun q => decide (q.j = j) && !q.wb) with
  | some q =>
    (s.modGlaze k (fun g => { g with jobs := g.jobs.map (fun x => if x.j = j ∧ x.at_ = q.at_ then { x with wb := true } else x) })).stageWb
      k q
  | none => s

/-- SHELF_WRITEBACK (R283): at the hand-off tick plus 625. -/
def execShelfWriteback (t : Nat) (k : Fin 8) (j : Fin 64) (s : State) : Host.Outcome State Fault Refusal :=
  match (s.glaze k).jobs.find? (fun q => decide (q.j = j.val) && !q.wb) with
  | some q => .next ((s.at (max t (q.at_ + 625))).doWb k j)
  | none => .next (s.at t)

/-- Glaze's returns of a lane-pixel reach its staged write-back (R303). -/
def State.wbReturns (s : State) (k pix j : Nat) (r : List Int) : State :=
  let add := (List.range 3).foldl (fun a i =>
    a + (match r[i]? with | some t => (2 ^ 31 + unsgn 29 t) * 2 ^ (192 + 32 * i) | none => 0)) 0
  s.setStaged k ((s.staged k).map (fun w => if w.pix = pix ∧ w.j = j ∧ !w.ready then { w with val := w.val + add, ready := true } else w))

/-- SHELF_WRITEBACK_DONE (R283): the oldest complete staged record is written on ARB_1, or lost when the write faults. -/
def execShelfWritebackDone (t : Nat) (k : Fin 8) (fault : Bool) (s : State) : Host.Outcome State Fault Refusal :=
  let s := s.at t
  match (s.staged k).find? (·.ready) with
  | none => .next s
  | some w =>
    let s := s.setStaged k ((s.staged k).erase w)
    let cls := s.accessClass 1 (w.addr / pageBytes) true
    if fault then .next (s.wbLost k w.j)
    else if cls ≠ 0 then .next ((s.portFault 1 (w.addr / pageBytes) cls 0).wbLost k w.j)
    else .next (s.memPut w.addr w.len w.val)

/-- SHF_CMD.flush (R277). -/
def State.shfFlushCmd (s : State) : State := { s with shf := { s.shf with flushReq := some s.now } }

/-- SHF_FLUSH (R277): taken at the next frame boundary sample. -/
def execShfFlush (t : Nat) (_path : Path) (s : State) : Host.Outcome State Fault Refusal :=
  .next ((s.at t).onBar State.shfFlushCmd)

end Sys2Proof.Machine
end

