-- ==== Sys2Proof/Machine/Kiln.lean ====
section
/-! DEFINITION. The Kilns: edges and the event queue, binning, window placement, the triple buffer, hand-off, waveform
capture (R213 to R217, R247 to R271). -/

namespace Sys2Proof.Machine

/-! ## Binning (R249, R250) -/

/-- The coarse bin of a corrected time, held in 0 to 2,047. -/
def coarseBin (t : Int) : Nat := (clampI 0 2047 (floorDiv t 262144)).toNat

/-- Zoom window and bin of a corrected time: the lowest-indexed window that contains it. -/
def zoomBin (win : FMap (Option Int)) (w : Nat) (t : Int) : Option (Nat × Nat) :=
  (List.range 3).findSome? (fun i => match fget none win i with
    | some st => if st ≤ t ∧ t < st + 128 * (w : Int) then some (i, ((t - st) / (w : Int)).toNat) else none
    | none => none)

/-- One event in the bins of lane `j`: the buffer and the updates applied. -/
def binInto (b : KBuf) (j : Nat) (t : Int) : KBuf × Nat :=
  let cb := coarseBin t
  let c := satAdd 1023 b.coarse (2048 * j + cb) 1
  let b := { b with coarse := c.1 }.modDsc j (fun d => if c.2 then { d with satC := d.satC ||| 2 ^ (cb / 64) } else d)
  match zoomBin (b.dsc j).win (zoomW b.width) t with
  | none => (b, 1)
  | some (i, zb) =>
    let z := satAdd 4095 b.zoom (384 * j + 128 * i + zb) 1
    ({ b with zoom := z.1 }.modDsc j (fun d => if z.2 then { d with satZ := d.satZ ||| 2 ^ i } else d), 2)

/-- An event is applied with the calibration set in force; one of a pixel that has closed is dropped (R249, R255). -/
def State.binEvent (s : State) (k : Nat) (e : KEvent) : State :=
  let open_ := match s.pix.first with
    | some a => decide (a ≤ e.slot)
    | none => false
  if open_ then
    let q := s.kiln k
    let r := binInto (s.kbuf k q.fill) e.j ((s.calSet (64 * k + e.j)).time e.c e.f)
    (s.modBuf k q.fill (fun _ => r.1)).bump (Id.KLN_UPDATES + k) r.2
  else
    ((s.bump (Id.KLN_FIFO_DROP + k)).fault 0xC71 (secOff Reg.KLN_STAT k) (flag16 6) { inst := k, detail := k }).sectorFault k

/-- The events of sector `k` that satisfy `p` leave the queue from its front and are binned. -/
def State.binWhile (s : State) (k : Nat) (p : KEvent → Bool) : State :=
  let q := (s.kiln k).queue
  let s := s.modKiln k (fun x => { x with queue := q.dropWhile p })
  (q.takeWhile p).foldl (fun s e => s.binEvent k e) s

/-- Events that entered the queue more than 512 ticks ago have been binned (R255). -/
def State.binOverdue (s : State) (k : Nat) : State := s.binWhile k (fun e => decide (e.slot + e.c + 512 < s.now))

/-- KILN_EVENT_BIN (R249): the event at the front of the queue; `uecc`: its counters' words are uncorrectable (R492). -/
def execKilnEventBin (t : Nat) (k : Fin 8) (uecc : Bool) (s : State) : Host.Outcome State Fault Refusal :=
  let s := s.at t
  match (s.kiln k).queue with
  | [] => .next s
  | e :: r => .next (if uecc then s.kilnUecc k else (s.modKiln k (fun x => { x with queue := r })).binEvent k e)

/-- An in-gate event enters the queue of 2,048, or is dropped as a sector-local fault (R254). -/
def State.kilnPush (s : State) (k : Nat) (e : KEvent) : State :=
  let s := s.binOverdue k
  let n := (s.kiln k).queue.length
  if 2048 ≤ n then
    ((s.bump (Id.KLN_FIFO_DROP + k)).fault 0xC70 (secOff Reg.KLN_STAT k) (flag16 5) { inst := k, detail := k }).sectorFault k
  else s.modKiln k (fun x => { x with queue := x.queue ++ [e], hwm := max x.hwm (n + 1) })

/-! ## LANE_EDGE (R213 to R221) -/

/-- An edge inside an invalid window is dropped: LAN_DROP word `w` and its flag (R220). -/
def State.laneDrop (s : State) (l w : Nat) : State :=
  (s.updWide (Id.LAN_DROP + l) (.add (32 * w) 32 1)).event (secOff Reg.LAN_STAT (l / 64)) (1 + w)
    { inst := l / 64, detail := l }

/-- A timed edge outside invalid windows: token, event word, destination (R216, R221). -/
def State.laneWord (s : State) (l f : Nat) (moved : Bool) : State :=
  let s := s.refillLane l
  if s.hasToken l then
    let s := (s.takeToken l).bump (Id.LAN_EVT_COUNT + l)
    match s.inGate l, s.whl.cur with
    | some c, some sh => s.kilnPush (l / 64) { j := l % 64, slot := sh.slot, c, f }
    | _, _ => s.calHit l f moved
  else (s.bump (Id.LAN_RDROP + l)).event (secOff Reg.LAN_STAT (l / 64)) 0 { inst := l / 64, detail := l }

/-- An accepted edge: dead time of 8 ns from now (26,214.4 fine LSB), the count of R224, the invalid windows. -/
def State.laneTimed (s : State) (l pos f : Nat) (moved : Bool) : State :=
  let s := s.modLane l (fun x => { x with deadTo := pos + 26215, edges := x.edges + 1 })
  let x := s.lane l
  if x.rngFrom ≤ s.now ∧ s.now < x.rngTo then s.laneDrop l 0
  else if x.thrFrom ≤ s.now ∧ s.now < x.thrTo then s.laneDrop l 1
  else s.laneWord l f moved

/-- LANE_EDGE (R213): lanes that are off, blanked or dead time nothing. -/
def execLaneEdge (t : Nat) (l : Fin 512) (fine : BitVec 10) (moved : Bool) (s : State) :
    Host.Outcome State Fault Refusal :=
  let s := (s.at t).settleSector (l.val / 64)
  let pos := 1024 * s.now + fine.toNat
  if s.laneOff l || !s.sectorLive (l.val / 64) || s.blanked (l.val / 16) || decide (pos < (s.lane l).deadTo) then .next s
  else .next (s.laneTimed l pos fine.toNat moved)

/-! ## Opening a pixel (R251, R260, R261) -/

/-- Does a lane place any window by prediction? -/
def usesPred (x : Lane) : Bool := (List.range 3).any (fun i => decide (2 ≤ (fget {} x.zooms i).src))

/-- The zoom settings of lane `l` once the actions attached to slots up to `slot` have applied. -/
def State.zoomsAt (s : State) (l slot : Nat) : Lane :=
  s.whl.queue.foldl (fun x e => match e.act, e.slot with
    | .zoom src win tiles lanes start, some a =>
      if a ≤ slot ∧ bitOf tiles.toNat (l / 16) ∧ bitOf lanes.toNat (l % 16) then
        let z := fun (x : Lane) (i : Nat) => { x with zooms := fset {} x.zooms i { src, start, all := decide (win = 3) } }
        if win = 3 then forN 3 x z else z x win
      else x
    | _, _ => x) (s.lane l)

/-- The prediction deadline of the pixel whose first slot is `slot` (R261): lanes without their words are late. -/
def State.predDeadline (s : State) (k slot : Nat) : State :=
  let q := s.kiln k
  let any := s.shelfOn && s.bit Reg.SHF_CTL 5 && decide (q.predCell < s.shf.cells)
  let isLate := fun (j : Nat) =>
    let h := fget {} q.fetch j
    any && !(h.got && decide (h.at_ + 128 < slot)) && usesPred (s.zoomsAt (64 * k + j) slot)
  let late := (List.range 64).filter isLate
  let s := s.modKiln k (fun x => { x with predShut := true, late := BitVec.ofNat 64 ((late.map (2 ^ ·)).sum) })
  if late.isEmpty then s else s.event (secOff Reg.KLN_STAT k) 1 { inst := k, detail := late.headD 0 }

/-- The first slot of the next pixel to open, if a SHOT is bound to it. -/
def State.openingSlot (s : State) : Option Nat :=
  (s.whl.shots.find? (fun h => decide (h.idx = 0) && decide (s.now < h.slot))).map (·.slot)

/-- PREDICTION_DEADLINE (R261): 128 ticks before the first slot of the pixel about to open. -/
def execPredictionDeadline (t : Nat) (k : Fin 8) (s : State) : Host.Outcome State Fault Refusal :=
  match s.openingSlot with
  | none => .next (s.at t)
  | some a =>
    let s := s.at (max t (a - 128))
    .next (if (s.kiln k).predShut then s else s.predDeadline k a)

/-- The start of window `i` of lane `l` (R251); a late lane has no prediction words. -/
def State.winStart (s : State) (l a f w : Nat) (h : ShelfHdr) (late : Bool) (i : Nat) : Option Int :=
  let z := fget ({} : ZoomSet) (s.lane l).zooms i
  let expl : Option Int := some (65536 * z.start + (if z.all then i * 128 * w else 0) : Nat)
  let pred := if late then none else s.predWord h l a f w i
  match z.src with
  | 0 => none
  | 1 => expl
  | 2 => pred
  | _ => pred.orElse (fun _ => expl)

/-- The gate span of lane `l` joins that of its lane-pixel (R290); an empty gate adds nothing. -/
def joinGate (x : Lane) (d : Desc) : Desc :=
  if x.gOpen < x.gClose then { d with gOpen := min d.gOpen x.gOpen, gClose := max d.gClose x.gClose } else d

/-- The gates of a slot with a SHOT join the lane-pixels of the open pixel. -/
def State.joinGates (s : State) : State :=
  forN 8 s (fun s k => s.modBuf k (s.kiln k).fill (fun b => forN 64 b (fun b j => b.modDsc j (joinGate (s.lane (64 * k + j))))))

/-- Descriptor of lane `j` at the pixel's first slot. -/
def State.openDesc (s : State) (k j : Nat) : Desc :=
  let q := s.kiln k
  let l := 64 * k + j
  let late := bitOf q.late.toNat j
  let win := forN 3 ([] : FMap (Option Int)) (fun m i =>
    fset none m i (s.winStart l q.cell s.pix.frame (zoomW q.width) (fget {} q.fetch j) late i))
  { win, stackMiss := late && usesPred (s.lane l) }

/-- The cell index that is fetched while the pixel being opened fills: after its close 0 if its PIX is known to set eof
(R260, R281). -/
def State.nextCell (s : State) (k : Nat) : Nat :=
  let eof := s.whl.queue.any (fun e => match e.act with
    | .pix _ eof _ _ seq => eof && decide (seq = s.pix.seq)
    | _ => false)
  if eof then 0 else ((s.kiln k).cell + 1) % 8192

/-- The first slot of a pixel starts in sector `k`: the deadline if it is still due, width and windows, records, fetch
of the next cell, recovery (R248, R251, R492). -/
def State.kilnOpen (s : State) (k slot : Nat) : State :=
  let s := if (s.kiln k).predShut then s else s.predDeadline k slot
  let s := s.modKiln k (fun x => { x with width := x.widthNext })
  let q := s.kiln k
  let desc := forN 64 ([] : FMap Desc) (fun m j => fset {} m j (s.openDesc k j))
  let rec_ := fget 0 s.log.recovering k
  let s := s.modBuf k q.fill (fun b => { b with width := q.width, desc, hdrs := q.fetch })
  s.modKiln k (fun x => { x with
    fetch := [], predCell := s.nextCell k, predShut := false, late := 0
    void := if slot < rec_ then voidOr 5 x.void else x.void })

/-- An end-of-frame PIX issues for a pixel that has started: the next pixel is the first of a frame (R281). -/
def State.kilnEof (s : State) (seq : Nat) : State :=
  if s.pix.first.isSome && decide (s.pix.seq = seq) then
    forN 8 s (fun s k => s.modKiln k (fun x => { x with predCell := 0, fetch := [], predShut := false, late := 0 }))
  else s

/-- A Wheel start: expected index 0, the first pixel is selected by decimation (R260, R264). -/
def State.kilnStart (s : State) : State :=
  forN 8 s (fun s k => s.modKiln k (fun x => { x with
    cell := 0, predCell := 0, fetch := [], predShut := false, late := 0, decimN := 0 }))

/-! ## Applied width and capture enable (R116, R117) -/

/-- A zoom width lands for the next pixel. -/
def State.landWidth (s : State) (k v : Nat) : State := s.modKiln k (fun x => { x with widthNext := v })

/-- A capture enable lands for the next SPARE entry. -/
def State.landCap (s : State) (k : Nat) (v : Bool) : State :=
  s.modKiln k (fun x => { x with capNext := v, capAt := s.now })

/-! ## Waveform capture (R264 to R266) -/

/-- Bytes of a WAVE record. -/
def waveBytes : Nat := 163904

/-- WAVE records the region holds. -/
def State.waveCap (s : State) : Nat := s.mem.sizes.getD 4 0 * pageBytes / waveBytes

/-- Logical address of WAVE record `i`. -/
def State.waveAddr (s : State) (i : Nat) : Nat := regionStart s.mem.sizes 4 * pageBytes + waveBytes * i

/-- The clear of the SPARE buffer starts now (R265). -/
def State.startClear (s : State) (k : Nat) : State :=
  s.modKiln k (fun x => { x with capState := 2, clearAt := some (s.now + 3200) })

/-- The SPARE buffer is clear. -/
def State.endClear (s : State) (k : Nat) : State :=
  s.modKiln k (fun x => { x with bufs := fset {} x.bufs ((x.fill + 1) % 3) {}, capState := 0, clearAt := none })

/-- Lane `j` of the SPARE buffer is written to the record, unless a write faults: whether it was. -/
def State.waveLane (s : State) (k j : Nat) : State × Bool :=
  let q := s.kiln k
  let a := s.waveAddr q.capIdx + 64 + 2560 * j
  let l := a / pageBytes
  let l2 := (a + 2559) / pageBytes
  let cls := s.accessClass 2 l true
  let cls2 := s.accessClass 2 l2 true
  if cls ≠ 0 then (s.portFault 2 l cls 0, false)
  else if cls2 ≠ 0 then (s.portFault 2 l2 cls2 0, false)
  else
    let b := s.kbuf k ((q.fill + 1) % 3)
    let v := (List.range 2048).foldl (fun v i => v + fget 0 b.coarse (2048 * j + i) * 2 ^ (10 * i)) 0
    (s.memPut a 2560 v, true)

/-- The first `n` lanes are written in ascending order: the mask of those written. -/
def State.waveLanes (s : State) (k n : Nat) : State × Nat :=
  forN n (s, 0) (fun x j =>
    let r := x.1.waveLane k j
    (r.1, if r.2 then x.2 + 2 ^ j else x.2))

/-- The header of the record (R266); `w` is the mask of the lanes written. -/
def State.waveHeader (s : State) (k w : Nat) : Nat :=
  let b := s.kbuf k (((s.kiln k).fill + 1) % 3)
  let sat := (List.range 64).foldl (fun a j => if (b.dsc j).satC ≠ 0 ∨ (b.dsc j).satZ ≠ 0 then a + 2 ^ j else a) 0
  let miss := (List.range 64).any (fun j => (b.dsc j).stackMiss)
  packFields [(64, b.pix.utClose), (32, b.pix.frame), (16, b.pix.az), (16, b.pix.el), (8, k), (8, b.pix.shots.length),
    (8, b.width), (8, popCount 64 w), (64, 2 ^ 64 - 1 - w), (64, sat), (16, b.pix.calGen),
    (16, b2n miss + 2 * b2n b.pix.holdover)]

/-- Lanes not written carry WAVE_SKIP (R265). -/
def State.waveSkips (s : State) (k w : Nat) : State :=
  let n := 64 - popCount 64 w
  let i := ((s.kiln k).fill + 1) % 3
  let s := s.modBuf k i (fun b => forN 64 b (fun b j => if bitOf w j then b else b.modDsc j (fun d => { d with waveSkip := true })))
  if n = 0 then s
  else ((s.bump (Id.KLN_WAVE_SKIP + k) n).modFrame (s.kbuf k i).pix.fid (fun q => { q with waveSkip := q.waveSkip + n })).event
    (secOff Reg.KLN_STAT k) 3 { inst := k, detail := n }

/-- The capture of sector `k` ends with its first `n` lanes written, then its header, and the clear starts. -/
def State.waveEnd (s : State) (k n : Nat) : State :=
  let x := s.waveLanes k n
  let s := x.1.waveSkips k x.2
  let i := (s.kiln k).capIdx
  let a := s.waveAddr i
  let cls := s.accessClass 2 (a / pageBytes) true
  let ut := (s.kbuf k (((s.kiln k).fill + 1) % 3)).pix.utClose
  let s := if cls ≠ 0 then s.portFault 2 (a / pageBytes) cls 0
    else
      let s := s.memPut a 64 (s.waveHeader k x.2)
      { s with cap := { s.cap with waveUts := (s.cap.waveUts.filter (fun r => decide (r.1 ≠ i))) ++ [(i, ut)] } }
  s.startClear k

/-- The capture deadline of sector `k` (R265). -/
def State.waveDeadline (s : State) (k : Nat) : Nat := (s.kiln k).spareAt + 36000

/-- WAVE_CAPTURE_COMPLETE (R265): all 64 lanes and the header were written by the deadline. -/
def execWaveCaptureComplete (t : Nat) (k : Fin 8) (s : State) : Host.Outcome State Fault Refusal :=
  let s := s.at t
  if (s.kiln k).capState = 1 ∧ s.now ≤ s.waveDeadline k then .next (s.waveEnd k 64) else .next s

/-- WAVE_CAPTURE_DEADLINE (R265): `lanes` lanes had been completely written. -/
def execWaveCaptureDeadline (t : Nat) (k : Fin 8) (lanes : Nat) (s : State) : Host.Outcome State Fault Refusal :=
  if (s.kiln k).capState = 1 then .next ((s.at (max t (s.waveDeadline k))).waveEnd k (min 64 lanes)) else .next (s.at t)

/-- BUFFER_CLEAR_DONE (R265). -/
def execBufferClearDone (t : Nat) (k : Fin 8) (s : State) : Host.Outcome State Fault Refusal :=
  match (s.kiln k).capState, (s.kiln k).clearAt with
  | 2, some a => .next ((s.at (max t a)).endClear k)
  | _, _ => .next (s.at t)

/-- Is the pixel that enters SPARE captured (R264)? It is the sector's `n`-th pixel since the Wheel start. -/
def State.captures (s : State) (k n : Nat) (p : Pixel) : Bool :=
  let d := s.fld (secOff Reg.KLN_CAP_CTL k) 8 1
  (s.kiln k).capEn && !(s.thm.enforced && decide (s.thm.onSince < s.now)) && decide (d ≠ 0) && decide (n % d = 0) && !s.cap.waveFrozen && p.hasPix && decide (s.waveCap ≠ 0) && decide (p.void = 0)

/-- The pixel in the SPARE buffer of sector `k` has been handed off: its capture starts, or its clear (R264, R265). -/
def State.spareEntry (s : State) (k : Nat) : State :=
  let q := s.kiln k
  let b := s.kbuf k ((q.fill + 1) % 3)
  let s := s.modKiln k (fun x => { x with spareAt := s.now })
  if s.captures k b.nth b.pix then
    let i := s.cap.waveIdx
    let wrap := decide (s.waveCap ≤ i + 1)
    let s := { s with cap := { s.cap with
      waveIdx := if wrap then 0 else i + 1, waveWraps := if wrap then s.cap.waveWraps + 1 else s.cap.waveWraps } }
    let s := s.modKiln k (fun x => { x with capState := 1, capIdx := i })
    s.putWide Id.KLN_WAVE_PTR (s.cap.waveIdx % 2 ^ 32 + s.cap.waveWraps % 2 ^ 32 * 2 ^ 32 + s.waveCap * 2 ^ 64)
  else s.startClear k

/-! ## Hand-off (R253, R259, R262) -/

/-- Granted shots of tile `k` in a pixel. -/
def grantedShots (p : Pixel) (tile : Nat) : List Shot := p.shots.filter (fun h => bitOf h.granted.toNat tile)

/-- The pile-up level of a lane-pixel; none: no pile test. -/
def State.pileLevel (s : State) (k : Nat) (n : Nat) : Option Nat :=
  let l := s.fld (secOff Reg.KLN_SAT k) 9 0
  if l ≠ 0 then some l else if n < 2 then none else some n

/-- Ranges of 64 coarse bins of lane `j` in which some bin holds `l` counts or more. -/
def pileRanges (b : KBuf) (j l : Nat) : Nat :=
  b.coarse.foldl (fun m x => if x.1 / 2048 = j ∧ l ≤ x.2 then m ||| 2 ^ (x.1 % 2048 / 64) else m) 0

/-- The bins of lane `j`, keyed from 0. -/
def laneBins (m : FMap Nat) (size j : Nat) : FMap Nat :=
  (m.filter (fun x => decide (x.1 / size = j))).map (fun x => (x.1 % size, x.2))

/-- The final descriptor of lane `j` of sector `k` (R253, R262, R275). -/
def State.finalDesc (s : State) (k j : Nat) (b : KBuf) : Desc :=
  let d := b.dsc j
  let n := (grantedShots b.pix (4 * k + j / 16)).length
  let pile := match s.pileLevel k n with
    | some l => pileRanges b j l
    | none => 0
  { d with
    satC := d.satC ||| pile
    stackMiss := d.stackMiss || (b.hdr j).bad || (decide (s.stackCase k j b = 1) && !d.stacked) }

/-- The counts and flags that a final descriptor gives (R163, R253, R262, R276). -/
def State.handFlags (s : State) (k j : Nat) (p : Pixel) (d : Desc) (restart : Bool) : State :=
  let sat := decide (d.satC ≠ 0) || decide (d.satZ ≠ 0)
  let i : Info := { inst := k, detail := 64 * k + j }
  let s := s.modEm (4 * k + j / 16) (fun e => { e with lpAll := e.lpAll + 1, lpSat := e.lpSat + b2n sat })
  let s := if sat then (s.bump (Id.KLN_SAT_COUNT + k)).event (secOff Reg.KLN_STAT k) 4 i else s
  let s := if restart then (s.bump Id.SHF_RESTARTS).event Reg.SHF_STAT 2 i else s
  if d.stackMiss then
    ((s.bump (Id.KLN_STACK_MISS + k)).modFrame p.fid (fun q => { q with stackMiss := q.stackMiss + 1 })).event
      (secOff Reg.KLN_STAT k) 0 i
  else s

/-- Lane-pixel `j` enters stage 1 of Glaze. -/
def State.glazePush (s : State) (k : Nat) (q : GJob) : State := s.modGlaze k (fun g => { g with jobs := g.jobs ++ [q] })

/-- The next lane-pixel of sector `k` is handed off now. -/
def State.handOff (s : State) (k : Nat) : State :=
  match (s.kiln k).hands with
  | [] => s
  | h :: r =>
    let s := s.modKiln k (fun x => { x with hands := if h.j = 63 then r else { h with j := h.j + 1 } :: r })
    let void := voidOr h.void h.pix.void
    match h.buf with
    | none => s.glazePush k { j := h.j, at_ := s.now, pix := h.pix, void }
    | some i =>
      let b := s.kbuf k i
      if void ≠ 0 then s.glazePush k { j := h.j, at_ := s.now, pix := h.pix, void }
      else
        let d := s.finalDesc k h.j b
        let restart := decide (s.stackCase k h.j b = 2)
        let s := s.modBuf k i (fun b => b.modDsc h.j (fun _ => d))
        let q : GJob := {
          j := h.j, at_ := s.now, pix := b.pix, desc := d, width := b.width, codeSet := b.codeSet, amb := b.amb
          rain := b.rain, coarse := laneBins b.coarse 2048 h.j, zoom := laneBins b.zoom 384 h.j, hdr := b.hdr h.j }
        (s.handFlags k h.j b.pix d restart).glazePush k q

/-- The tick of the next hand-off of sector `k`. -/
def State.handTick (s : State) (k : Nat) : Option Nat := (s.kiln k).hands.head?.map (fun h => h.start + 625 * h.j)

/-- LANE_PIXEL_HANDOFF (R259): the next lane-pixel of the sector, when its lane is `j`; `uecc`: its hand-off meets an
uncorrectable word of the DRAIN buffer, if it has one (R492). -/
def execLanePixelHandoff (t : Nat) (k : Fin 8) (j : Fin 64) (uecc : Bool) (s : State) : Host.Outcome State Fault Refusal :=
  match (s.kiln k).hands with
  | [] => .next (s.at t)
  | h :: _ =>
    if h.j = j.val then
      let s := s.at (max t (h.start + 625 * j.val))
      .next ((if uecc && h.buf.isSome then s.kilnUecc k else s).handOff k)
    else .next (s.at t)

/-- Hand-offs of sector `k` that were due before now, at most `n`. -/
def State.handOverdue (s : State) (k : Nat) : Nat → State
  | 0 => s
  | n + 1 => match s.handTick k with
    | some a => if a < s.now then (s.handOff k).handOverdue k n else s
    | none => s

/-! ## The close of a pixel (R257, R260) -/

/-- What is still due of the SPARE buffer before the roles rotate: an unreported capture has written no lane. -/
def State.spareDue (s : State) (k : Nat) : State :=
  let s := if (s.kiln k).capState = 1 then s.waveEnd k 0 else s
  if (s.kiln k).capState = 2 then s.endClear k else s

/-- The FILL buffer of sector `k` takes the closed pixel and what it needs from the lanes and Glaze's selects. -/
def State.fillDone (s : State) (k : Nat) (p : Pixel) (miss : Bool) : State :=
  let g := s.glaze k
  s.modBuf k (s.kiln k).fill (fun b =>
    { forN 64 b (fun b j => b.modDsc j (fun d => { d with
        mixed := (s.lane (64 * k + j)).mixed, masked := s.laneOff (64 * k + j), stackMiss := d.stackMiss || miss })) with
      pix := { p with void := voidOr (s.kiln k).void p.void }, nth := (s.kiln k).decimN, codeSet := g.codeSet, amb := g.amb, rain := g.rain })

/-- The roles of sector `k` rotate and the closed pixel joins the hand-off queue. -/
def State.rotate (s : State) (k : Nat) (p : Pixel) : State :=
  let q := s.kiln k
  let s := s.pushHand k p (some q.fill) q.void
  let s := s.modKiln k (fun x => { x with
    fill := (x.fill + 1) % 3, void := 0, decimN := x.decimN + 1, cell := if p.eof then 0 else (x.cell + 1) % 8192
    capEn := if x.capAt / 2 = s.now / 2 then x.capEn else x.capNext })
  s.modGlaze k (fun g => { g with codeSet := g.codeNext, amb := g.ambNext, rain := g.rainNext })

/-- Sector `k` closes pixel `p`: events binned, overdue hand-offs and clears done, cell checked, roles rotated. -/
def State.kilnClose (s : State) (k : Nat) (p : Pixel) : State :=
  let s := (s.binWhile k (fun _ => true)).handOverdue k 128
  let s := s.spareDue k
  let miss := decide ((s.kiln k).cell ≠ p.az)
  let on := decide (p.az < s.shf.cells)
  let s := ((s.fillDone k p (miss && on)).bump (Id.KLN_PIX_COUNT + k)).rotate k p
  let s := if miss then s.event (secOff Reg.KLN_STAT k) 2 { inst := k, detail := p.az } else s
  let s := if (s.kbuf k (((s.kiln k).fill + 2) % 3)).pix.void ≠ 0 then s.event (secOff Reg.KLN_STAT k) 7 { inst := k } else s
  s.spareEntry k

/-- All sectors close pixel `p`; a pixel beyond the cells of the Shelf is counted (R272). -/
def State.kilnsClose (s : State) (p : Pixel) : State :=
  let s := forN 8 s (fun s k => s.kilnClose k p)
  if s.shelfOn && decide (s.shf.cells ≤ p.az) then (s.bump Id.SHF_OOR).event Reg.SHF_STAT 3 { detail := p.az } else s

end Sys2Proof.Machine
end

