-- ==== Sys2Proof/Machine/Glaze.lean ====
section
/-! DEFINITION. The Glaze pipelines: correlation, ambient floors, candidates, weather, selection, ranges, and the POINT,
MARK and VOID records (R289 to R309). -/

namespace Sys2Proof.Machine

/-! ## Code and gate (R290, R291) -/

/-- The tile of lane-pixel `q` of sector `k`. -/
def GJob.tile (q : GJob) (k : Nat) : Nat := 4 * k + q.j / 16

/-- Granted shots of a lane-pixel. -/
def GJob.shots (q : GJob) (k : Nat) : List Shot := grantedShots q.pix (q.tile k)

/-- Code offsets in coarse bins: ticks ÷ 4, halves up. -/
def codeBins (offs : List Nat) : List Nat := offs.map (fun o => (o + 2) / 4)

/-- The pulse offsets to correlate with, when all granted shots use one code id of the code set in force. -/
def GJob.code (q : GJob) (k : Nat) : Option (List Nat) :=
  match q.shots k with
  | [] => none
  | h :: r => if r.all (fun x => decide (x.code = h.code)) && bitOf q.codeSet.toNat h.code then some (codeBins h.offs) else none

/-- Is coarse bin `b` in gate: all four of its ticks inside the gate span? -/
def GJob.inGate (q : GJob) (b : Nat) : Bool :=
  decide (b ≤ 2047) && decide (q.desc.gOpen ≤ 4 * b) && decide (4 * b + 4 ≤ q.desc.gClose)

/-- Count of coarse bin `b`. -/
def GJob.h (q : GJob) (b : Nat) : Nat := fget 0 q.coarse b

/-! ## Ambient floor (R293, R294) -/

/-- Insert into a list in descending order. -/
def insDesc (x : Nat) : List Nat → List Nat
  | [] => [x]
  | a :: r => if a < x then x :: a :: r else a :: insDesc x r

/-- The in-gate bins of range `r`. -/
def GJob.range (q : GJob) (r : Nat) : List Nat := ((List.range 64).map (64 * r + ·)).filter q.inGate

/-- The estimate of a range with at least 16 in-gate bins. -/
def GJob.ambOne (q : GJob) (trim : Nat) (off : Int) (r : Nat) : Option Int :=
  let hs := (q.range r).map q.h
  if 16 ≤ hs.length then
    let top := (hs.foldl (fun l x => insDesc x l) []).take trim
    some (floorDiv (16 * ((hs.sum : Int) - top.sum)) ((hs.length - trim : Nat) : Int) + off)
  else none

/-- The estimate of the nearest range that has one, the lower index on a tie; else 0. -/
def nearestAmb (l : List (Option Int)) (r : Nat) : Int :=
  ((List.range 32).findSome? (fun d =>
    match (if d ≤ r then (l.getD (r - d) none) else none) with
    | some v => some v
    | none => l.getD (r + d) none)).getD 0

/-- A coarse ambient table entry (R316). -/
def ambOff (t i : Nat) : Nat := 0x2000000 + 256 * t + 4 * i

/-- A16_r of the 32 ranges with the ambient table in force. -/
def State.ambient (s : State) (q : GJob) : List Int :=
  let trim := min 15 (s.reg (ambOff q.amb 32)).toNat
  let est := (List.range 32).map (fun r => q.ambOne trim (s.regI (ambOff q.amb r)) r)
  let base := (List.range 32).map (fun r => max 0 (nearestAmb est r))
  if s.bit (ambOff q.amb 33) 0 then
    (List.range 32).map (fun r =>
      floorDiv (base.getD (r - 1) 0 + 2 * base.getD r 0 + base.getD (min 31 (r + 1)) 0) 4)
  else base

/-- The floor of one bin. -/
def GJob.amb16 (q : GJob) (a : List Int) (b : Nat) : Int := if q.inGate b then a.getD (b / 64) 0 else 0

/-- Count of bin `b` of zoom window `i`. -/
def GJob.z (q : GJob) (i b : Nat) : Nat := fget 0 q.zoom (128 * i + b)

/-- The largest of the bins `l` of window `i`, the first on a tie. -/
def GJob.zMax (q : GJob) (i : Nat) (l : List Nat) : Nat :=
  l.foldl (fun m b => if q.z i m < q.z i b then b else m) (l.headD 0)

/-- A16_z of window `i` (R294). -/
def GJob.zAmb (q : GJob) (i : Nat) : Int :=
  let m := q.zMax i (List.range 128)
  let l := (List.range 128).filter (fun b => decide (m + 8 < b ∨ b + 8 < m))
  floorDiv (16 * ((l.map (q.z i)).sum : Nat)) (l.length : Int)

/-! ## Correlation (R292) -/

/-- The positions of bin `b` that take part. -/
def GJob.poss (q : GJob) (d : List Nat) (b : Nat) : List Nat := (d.map (b + ·)).filter q.inGate

/-- Excess at one position. -/
def GJob.e1 (q : GJob) (a : List Int) (x : Nat) : Int := 16 * (q.h x : Int) - q.amb16 a x

/-- E16[b]. -/
def GJob.e16 (q : GJob) (a : List Int) (d : List Nat) (b : Nat) : Int := ((q.poss d b).map (q.e1 a)).sum

/-- σ16 of bin `b` (R295). -/
def GJob.sigma (q : GJob) (a : List Int) (d : List Nat) (b : Nat) : Nat :=
  isqrt (16 * ((q.poss d b).map (q.amb16 a)).sum).toNat

/-! ## Candidates (R295, R296) -/

/-- Thresholds of a sector: cthr, ck, coinc, sep. -/
structure Det where
  cthr : Nat
  ck : Nat
  coinc : Nat
  sep : Nat
deriving DecidableEq, Repr

/-- The thresholds of sector `k`. -/
def State.det (s : State) (k : Nat) : Det :=
  { cthr := s.fld (secOff Reg.GLZ_DET k) 7 0, ck := s.fld (secOff Reg.GLZ_DET k) 15 8
    coinc := s.fld (secOff Reg.GLZ_COINC k) 7 0, sep := s.fld (secOff Reg.GLZ_COINC k) 11 8 }

/-- Does coarse bin `b` pass the four tests? A neighbour outside the 2,048 bins asks nothing. -/
def GJob.passes (q : GJob) (a : List Int) (d : List Nat) (t : Det) (b : Nat) : Bool :=
  let e := q.e16 a d b
  let pos := q.poss d b
  q.inGate b && (decide (b = 0) || decide (q.e16 a d (b - 1) < e)) && (decide (b = 2047) || decide (q.e16 a d (b + 1) ≤ e)) &&
    decide (16 * (t.cthr : Int) ≤ e) && decide ((t.ck : Int) * q.sigma a d b ≤ 16 * e) &&
    pos.all (fun x => decide (e * t.coinc ≤ q.e1 a x * (256 * pos.length : Nat)))

/-- Insert a candidate by descending E16, ties to the lower bin. -/
def insCand (c : Cand) : List Cand → List Cand
  | [] => [c]
  | x :: r => if x.e < c.e then c :: x :: r else x :: insCand c r

/-- Candidates in descending E16, those within `sep` bins of one already taken discarded. -/
def takeSep (sep : Nat) (l : List Cand) : List Cand :=
  l.foldl (fun acc c => if acc.any (fun x => decide (x.b ≤ c.b + sep ∧ c.b ≤ x.b + sep)) then acc else acc ++ [c]) []

/-- Width of a coarse candidate: contiguous bins with E16 ≥ E16[b] ÷ 2 (R297). -/
def GJob.widthOf (q : GJob) (a : List Int) (d : List Nat) (b : Nat) : Nat :=
  let ok := fun (x : Nat) => decide (q.e16 a d b ≤ 2 * q.e16 a d x)
  let up := ((List.range (2047 - b)).map (b + 1 + ·)).takeWhile ok
  let down := ((List.range b).map (b - 1 - ·)).takeWhile ok
  1 + up.length + down.length

/-- The coarse candidates of a lane-pixel. -/
def GJob.coarseCands (q : GJob) (a : List Int) (d : List Nat) (t : Det) : List Cand :=
  let bs := (List.range 2048).filter (q.passes a d t)
  let cs := bs.map (fun b =>
    { b, e := q.e16 a d b, sigma := q.sigma a d b, np := (q.poss d b).length, width := q.widthOf a d b
      part := decide ((q.poss d b).length < d.length) : Cand })
  takeSep t.sep (cs.foldl (fun l c => insCand c l) [])

/-- The coarse bin of the centre of bin `m` of a window that starts at `st`. -/
def centreBin (st : Int) (w m : Nat) : Nat := (floorDiv (2 * st + w * (2 * m + 1)) (2 * 262144)).toNat

/-- The zoom-only candidate of window `i`, if there is one (R296). -/
def GJob.zoomCand (q : GJob) (zthr zk i : Nat) : Option Cand :=
  match fget none q.desc.win i with
  | none => none
  | some st =>
    let m := q.zMax i (List.range 128)
    let az := q.zAmb i
    let e := 16 * (q.z i m : Int) - az
    let sg := isqrt (16 * az).toNat
    if 16 * (zthr : Int) ≤ e ∧ (zk * sg : Nat) ≤ 16 * e then
      some { b := centreBin st (zoomW q.width) m, e, sigma := sg, np := 1, zoom := some i }
    else none

/-- All candidates: zoom-only ones within sep bins of a coarse one are discarded. -/
def State.cands (s : State) (k : Nat) (q : GJob) (a : List Int) (d : List Nat) : List Cand :=
  let t := s.det k
  let cs := q.coarseCands a d t
  let zs := if s.bit (secOff Reg.GLZ_CTL k) 3 && decide (2 ≤ q.desc.age) then
      (List.range 3).filterMap (q.zoomCand (s.fld (secOff Reg.GLZ_ZDET k) 7 0) (s.fld (secOff Reg.GLZ_ZDET k) 15 8))
    else []
  cs ++ zs.filter (fun z => !cs.any (fun c => decide (c.b ≤ z.b + t.sep ∧ z.b ≤ c.b + t.sep)))

/-! ## Time (R299) -/

/-- Σ E and Σ b·E over the bins with positive E. -/
def posSums (f : Nat → Int) (l : List Nat) : Int × Int :=
  l.foldl (fun x b => if 0 < f b then (x.1 + f b, x.2 + (b : Int) * f b) else x) (0, 0)

/-- The centroid in 1/256 bin, halves up; `sums` has a positive Σ E. -/
def centroid (sums : Int × Int) : Int := floorDiv (512 * sums.2 + sums.1) (2 * sums.1)

/-- The time of a centroid in a histogram with this start and bin width. -/
def centTime (st : Int) (w : Nat) (c : Int) : Int := st + floorDiv ((w : Int) * (2 * c + 256) + 256) 512

/-- Bins m − 2 to m + 2 inside a window. -/
def around (m : Nat) : List Nat := (List.range 5).filterMap (fun i => if 2 ≤ m + i ∧ m + i - 2 ≤ 127 then some (m + i - 2) else none)

/-- Bins of a window that meet ticks 4(b − 1) to 4(b + 2). -/
def meetBins (st : Int) (w b : Nat) : List Nat :=
  (List.range 128).filter (fun x =>
    decide (262144 * ((b : Int) - 1) < st + w * (x + 1)) && decide (st + (w : Int) * x < 262144 * ((b : Int) + 2)))

/-- Excess of bin `b` of window `i`. -/
def GJob.zExc (q : GJob) (i b : Nat) : Int := 16 * (q.z i b : Int) - q.zAmb i

/-- A time from bins around `m` of window `i`; none when the excess sums to 0 or less. -/
def GJob.zTime (q : GJob) (st : Int) (i m : Nat) : Option Int :=
  let l := around m
  if 0 < (l.map (q.zExc i)).sum then some (centTime st (zoomW q.width) (centroid (posSums (q.zExc i) l))) else none

/-- The window that refines coarse bin `b`, with its start and the bins that meet it. -/
def GJob.refWin (q : GJob) (b : Nat) : Option (Nat × Int × List Nat) :=
  (List.range 3).findSome? (fun i => match fget none q.desc.win i with
    | some st =>
      let l := meetBins st (zoomW q.width) b
      if l.isEmpty then none else some (i, st, l)
    | none => none)

/-- Coarse bins b − 1 to b + 1 that exist. -/
def near1 (b : Nat) : List Nat := ((if b = 0 then [] else [b - 1]) ++ [b, b + 1]).filter (fun x => decide (x ≤ 2047))

/-- Time, source (0 COARSE, 1 REFINED, 2 ZOOM_ONLY) and the window used. -/
def GJob.timeOf (q : GJob) (a : List Int) (d : List Nat) (c : Cand) : Int × Nat × Option Nat :=
  match c.zoom with
  | some i =>
    let st := (fget none q.desc.win i).getD 0
    ((q.zTime st i (q.zMax i (List.range 128))).getD st, 2, some i)
  | none =>
    let coarse := centTime 0 262144 (centroid (posSums (q.e16 a d) (near1 c.b)))
    match q.refWin c.b with
    | none => (coarse, 0, none)
    | some (i, st, l) =>
      match q.zTime st i (q.zMax i l) with
      | some t => (t, 1, some i)
      | none => (coarse, 0, none)

/-! ## Range and intensity (R300, R301) -/

/-- The emission reference: the mean of the reference times of the granted shots, rounded down. -/
def GJob.tref (q : GJob) (k : Nat) : Int :=
  let l := fget [] q.pix.refs (q.tile k)
  floorDiv (l.sum : Nat) (max 1 l.length : Nat)

/-- Range in 0.25 mm, not yet held at 0. -/
def State.rangeOf (s : State) (k : Nat) (q : GJob) (t : Int) : Int :=
  let kk : Nat := 191867000000 / (1000000 + s.pq.nair)
  min 4194303 (floorDiv ((t - q.tref k) * kk + 2 ^ 25) (2 ^ 26) + s.regI (0x2002000 + 4 * (64 * k + q.j)))

/-- E_sum of a candidate. -/
def GJob.eSum (q : GJob) (a : List Int) (d : List Nat) (c : Cand) : Int :=
  match c.zoom with
  | some i => (posSums (q.zExc i) (around (q.zMax i (List.range 128)))).1
  | none => (posSums (q.e16 a d) (near1 c.b)).1

/-- A candidate with its time, range, intensity, confidence and SAT (R299 to R302). -/
def State.measure (s : State) (k : Nat) (q : GJob) (a : List Int) (d : List Nat) (c : Cand) : Cand :=
  let x := q.timeOf a d c
  let satZ := match x.2.2 with
    | some i => bitOf q.desc.satZ i
    | none => false
  { c with
    time := x.1, src := x.2.1, range := s.rangeOf k q x.1
    inten := min 4095 (floorDiv (256 * q.eSum a d c) (c.np * (q.shots k).length : Nat)).toNat
    conf := min 15 (floorDiv (2 * c.e) (c.sigma + 16 : Nat)).toNat
    sat := bitOf q.desc.satC (c.b / 64) || satZ }

/-! ## Weather (R297) -/

/-- A weather table entry (R316): L[i], then step at 64, width_min at 65. -/
def rainOff (t i : Nat) : Nat := 0x2001000 + 512 * t + 4 * i

/-- Is a measured candidate WEATHER among those of its lane-pixel? -/
def State.isWeather (s : State) (q : GJob) (all : List Cand) (c : Cand) : Bool :=
  let step := (s.reg (rainOff q.rain 64)).toNat
  decide (step ≠ 0) && decide (0 ≤ c.range) && decide (c.range < 256 * (step : Int)) &&
    decide (c.inten ≤ (s.reg (rainOff q.rain (c.range.toNat / (4 * step)))).toNat) &&
    (decide ((s.reg (rainOff q.rain 65)).toNat ≤ c.width) ||
      all.any (fun x => decide (c.range < x.range) && decide (4 * c.inten ≤ x.inten)))

/-- The weather step: WEATHER candidates marked under FLAG, removed under DROP; how many. -/
def State.weather (s : State) (k : Nat) (q : GJob) (l : List Cand) : List Cand × Nat :=
  let w := s.fld (secOff Reg.GLZ_CTL k) 2 1
  if w = 0 then (l, 0)
  else
    let m := l.map (fun c => { c with weather := s.isWeather q l c })
    let n := (m.filter (·.weather)).length
    (if w = 1 then m else m.filter (fun c => !c.weather), n)

/-! ## Selection (R298) -/

/-- Does `a` go before `b` under STRONGEST (false) or NEAREST (true)? -/
def candBefore (nearest : Bool) (a b : Cand) : Bool :=
  if nearest then decide (a.time < b.time)
  else decide (b.inten < a.inten) || (decide (a.inten = b.inten) && decide (a.time < b.time))

/-- Insert by that order. -/
def insSel (nearest : Bool) (c : Cand) : List Cand → List Cand
  | [] => [c]
  | x :: r => if candBefore nearest c x then c :: x :: r else x :: insSel nearest c r

/-- Sort by that order. -/
def sortSel (nearest : Bool) (l : List Cand) : List Cand := l.foldl (fun a c => insSel nearest c a) []

/-- `n` events of one GLZ_STAT flag and counter. -/
def State.glzCount (s : State) (k n id bit : Nat) (lane : Nat) : State :=
  if n = 0 then s else (s.bump (id + k) n).event (secOff Reg.GLZ_STAT k) bit { inst := k, detail := lane }

/-- The kept returns of a correlated lane-pixel in ascending time, with the counts of stage 2. -/
def State.returns (s : State) (k : Nat) (q : GJob) (d : List Nat) : State × List Cand :=
  let a := s.ambient q
  let w := s.weather k q ((s.cands k q a d).map (s.measure k q a d))
  let pos := w.1.filter (fun c => decide (0 ≤ c.range))
  let kept := sortSel true ((sortSel (s.bit (secOff Reg.GLZ_CTL k) 0) pos).take 3)
  let l := 64 * k + q.j
  let s := s.glzCount k w.2 Id.GLZ_WEATHER 0 l
  let s := s.glzCount k (w.1.length - pos.length) Id.GLZ_NEG 4 l
  let s := s.glzCount k (pos.length - 3) Id.GLZ_EXCESS 3 l
  (if kept.any (·.part) then s.event (secOff Reg.GLZ_STAT k) 2 { inst := k, detail := l } else s, kept)

/-! ## Stages -/

/-- Stage 2 of a job (R289, R309): an uncorrectable error of its copy makes it VOID. -/
def State.stage2 (s : State) (k : Nat) (q : GJob) (bufErr : Bool) : State × GJob :=
  let q := { q with stage := 2 }
  if q.void ≠ 0 then (s, q)
  else if bufErr then
    (s.fault 0xA90 (secOff Reg.GLZ_STAT k) (flag16 6) { inst := k, detail := 64 * k + q.j }, { q with void := 6 })
  else if (q.shots k).isEmpty then (s, q)
  else match q.code k with
    | none => (s.glzCount k 1 Id.GLZ_CODE_REJ 1 (64 * k + q.j), q)
    | some d =>
      let r := s.returns k q d
      (r.1, { q with cands := r.2 })

/-- POINT record of return `i` (R305). -/
def GJob.pointRec (q : GJob) (k i : Nat) (c : Cand) : BitVec 128 :=
  let tile := q.tile k
  let deny := q.pix.shots.any (fun h => h.decided && !h.throttled && bitOf h.mask.toNat tile && !bitOf h.granted.toNat tile)
  mkRec [(4, 1), (2, i), (9, 64 * k + q.j), (1, 0), (22, c.range.toNat), (12, c.inten), (4, c.conf), (2, c.src),
    (1, b2n c.sat), (1, b2n q.desc.stackMiss), (1, b2n q.desc.mixed), (1, b2n deny), (1, b2n c.weather), (1, b2n c.part),
    (2, 0), (13, q.pix.az), (10, q.pix.el), (4, (q.shots k).length), (3, if c.src = 0 then 0 else q.desc.age), (2, 0),
    (32, satN 32 (q.pix.first.getD 0 - q.pix.frameAt))]

/-- Does the time field of a pixel saturate? -/
def Pixel.timeSat (p : Pixel) : Bool := decide (2 ^ 32 ≤ p.first.getD 0 - p.frameAt)

/-- VOID record of a run (R309): cause, first lane, count. -/
def voidRec (k : Nat) (r : Nat × Nat × Nat × Pixel) : BitVec 128 :=
  let p := r.2.2.2
  mkRec [(4, 0xC), (3, k), (3, r.1), (6, r.2.1), (7, r.2.2.1), (9, 0), (13, if p.hasPix then p.az else 0),
    (10, if p.hasPix then p.el else 0), (9, 0), (32, satN 32 (p.first.getD 0 - p.frameAt)), (32, p.seq)]

/-- Are the mask tests on (R358, R365)? -/
def State.fieldOn (s : State) : Bool := s.bit Reg.CAP_CTL 4 || decide (s.mode.active = .guard)

/-- A point or blind lane-pixel goes to the field tests; `t` is its time in 1/65,536 tick (R346). -/
def State.testPoint (s : State) (k : Nat) (q : GJob) (blind : Bool) (r : BitVec 128) (t : Int) : State :=
  if s.fieldOn then
    let lsb := (floorDiv t 64).toNat
    let p : Point := {
      rec_ := r, lane := 64 * k + q.j, az := q.pix.az, blind
      ut := (s.utimeAt (q.pix.first.getD 0) + lsb / 1024) % 2 ^ 64, fine := lsb % 1024 }
    { s with cap := { s.cap with tests := s.cap.tests ++ [p] } }
  else s

/-- The run of VOID lane-pixels in hand is written as one record. -/
def State.flushVoid (s : State) (k : Nat) : State :=
  match (s.glaze k).voidRun with
  | none => s
  | some r =>
    ((s.modGlaze k (fun g => { g with voidRun := none })).enqueue r.2.2.2.fid (voidRec k r)).event (secOff Reg.GLZ_STAT k) 5
      { inst := k, detail := r.1 }

/-- A VOID lane-pixel joins the run of its pixel and cause, or starts one. -/
def State.voidOut (s : State) (k : Nat) (q : GJob) : State :=
  let joins := match (s.glaze k).voidRun with
    | some r => decide (r.1 = q.void) && decide (r.2.2.2.seq = q.pix.seq) && decide (r.2.1 + r.2.2.1 = q.j)
    | none => false
  let s := if joins then s else s.flushVoid k
  let s := s.modGlaze k (fun g => { g with voidRun := match g.voidRun with
    | some r => some (r.1, r.2.1, r.2.2.1 + 1, r.2.2.2)
    | none => some (q.void, q.j, 1, q.pix) })
  let s := s.modFrame q.pix.fid (fun f => { f with void := f.void + 1, timeSat := f.timeSat || q.pix.timeSat })
  (if q.j = 63 then s.flushVoid k else s).testPoint k q true 0 0

/-- The returns of a lane-pixel as records, and to the Shelf and the field tests. -/
def State.pointsOut (s : State) (k : Nat) (q : GJob) : State :=
  let s := s.flushVoid k
  let n := q.cands.length
  let s := (s.bump (Id.GLZ_POINTS + k) n).modFrame q.pix.fid (fun f => { f with
    points := f.points + n, timeSat := f.timeSat || (decide (n ≠ 0) && q.pix.timeSat) })
  let s := q.cands.zipIdx.foldl (fun s c =>
    (s.enqueue q.pix.fid (q.pointRec k c.2 c.1)).testPoint k q false (q.pointRec k c.2 c.1) c.1.time) s
  let s := if (q.shots k).isEmpty || q.desc.masked then s.testPoint k q true 0 0 else s
  s.wbReturns k q.pix.seq q.j (q.cands.map (·.time))

/-- MARK copies of sector `k` whose place has come are written (R148, R308). -/
def State.marksOut (s : State) (k : Nat) : State :=
  let g := s.glaze k
  let go := g.marks.filter (fun m => decide (m.1 ≤ g.passed))
  go.foldl (fun s m => s.enqueue m.2.1 m.2.2)
    (s.modGlaze k (fun g => { g with marks := g.marks.filter (fun m => decide (g.passed < m.1)) }))

/-- Stage 3 of the oldest job of sector `k`: what was due of it before, then its records; it leaves the pipeline. -/
def State.stage3 (s : State) (k : Nat) : State :=
  match (s.glaze k).jobs with
  | [] => s
  | q0 :: _ =>
    let s := if q0.wb then s else s.doWb k q0.j
    let x := if q0.stage = 1 then s.stage2 k q0 false else (s, q0)
    let q := x.2
    let s := x.1.modGlaze k (fun g => { g with jobs := g.jobs.drop 1, passed := g.passed + 1 })
    (if q.void ≠ 0 then s.voidOut k q else s.pointsOut k q).marksOut k

/-- Stage 3 of the first `n` jobs of sector `k`. -/
def State.stage3s (s : State) (k n : Nat) : State := forN n s (fun s _ => s.stage3 k)

/-- The place of the first job of lane `j`. -/
def jobIdx (l : List GJob) (j : Nat) : Option Nat := l.findIdx? (fun q => decide (q.j = j))

/-- GLAZE_STAGE2 (R289): at H + 625. -/
def execGlazeStage2 (t : Nat) (k : Fin 8) (j : Fin 64) (bufErr : Bool) (s : State) : Host.Outcome State Fault Refusal :=
  match (s.glaze k).jobs.find? (fun q => decide (q.j = j.val) && decide (q.stage = 1)) with
  | none => .next (s.at t)
  | some q =>
    let x := (s.at (max t (q.at_ + 625))).stage2 k q bufErr
    .next (x.1.modGlaze k (fun g => { g with jobs := g.jobs.map (fun y =>
      if y.j = q.j ∧ y.at_ = q.at_ then { x.2 with wb := y.wb } else y) }))

/-- GLAZE_STAGE3 (R289): at H + 1,250; lane-pixels ahead of it in the pipeline have left it before (R13). -/
def execGlazeStage3 (t : Nat) (k : Fin 8) (j : Fin 64) (s : State) : Host.Outcome State Fault Refusal :=
  match jobIdx (s.glaze k).jobs j with
  | none => .next (s.at t)
  | some i =>
    let due := match (s.glaze k).jobs[i]? with
      | some q => q.at_ + 1250
      | none => t
    .next ((s.at (max t due)).stage3s k (i + 1))

/-- GLAZE_STALL (R492): a lane-pixel still in the pipeline at H + 2,500 stalls it: its output is VOID, the sector
recovers. -/
def execGlazeStall (t : Nat) (k : Fin 8) (j : Fin 64) (s : State) : Host.Outcome State Fault Refusal :=
  match (s.glaze k).jobs.find? (fun q => decide (q.j = j.val)) with
  | none => .next (s.at t)
  | some q =>
    let s := s.at (max t (q.at_ + 2500))
    let n := (s.glaze k).jobs.length
    let s := s.modGlaze k (fun g => { g with jobs := g.jobs.map (fun q => { q with void := voidOr 5 q.void, wb := true }) })
    .next (((s.faultEntry 0xC90 { inst := k, detail := k }).sectorFault k).stage3s k n)

/-! ## Selects (R116, R315) -/

/-- A code set, ambient table (0) or weather table (1) lands for the next pixel of a sector. -/
def State.landCodeSet (s : State) (k : Nat) (v : BitVec 16) : State := s.modGlaze k (fun g => { g with codeNext := v })

/-- An ambient table select lands. -/
def State.landAmb (s : State) (k v : Nat) : State := s.modGlaze k (fun g => { g with ambNext := v % 8 })

/-- A weather table select lands. -/
def State.landRain (s : State) (k v : Nat) : State := s.modGlaze k (fun g => { g with rainNext := v % 8 })

end Sys2Proof.Machine
end

