-- ==== Sys2Proof/Machine/Capture.lean ====
section
/-! DEFINITION. The trigger engine, the recorder ring and its freeze, the WAVE ring freeze, protective fields, and the
safety outputs (R345 to R366). -/

namespace Sys2Proof.Machine

/-- Change the capture block. -/
def State.modCap (s : State) (f : Capture → Capture) : State := { s with cap := f s.cap }

/-! ## Release (R349, R353) -/

/-- The extents are released: HOLDOFF or IDLE; the recorder resumes at the next frame, the WAVE ring at once. -/
def State.capRelease (s : State) : State :=
  let v := (s.reg Reg.CAP_HOLDOFF).toNat
  s.modCap (fun c => { c with
    st := if !s.bit Reg.CAP_CTL 0 then 0 else if v = 0 then 1 else 4
    holdAt := s.now + msT v, holdN := v, recResume := true, waveFrozen := false, waveAt := none, waveKept := []
    postAt := none, postFrame := none })

/-- CAP_CTL.en changes (R349). -/
def State.capEnable (s : State) (on : Bool) : State :=
  if on then (if s.cap.st = 0 then s.modCap (fun c => { c with st := 1 }) else s)
  else if s.cap.st = 3 then s
  else s.modCap (fun c => { c with st := 0, postAt := none, postFrame := none, waveAt := none })

/-! ## Freeze (R351, R354) -/

/-- Position of the write offset in records since the ring began. -/
def State.recPos (s : State) : Nat := s.cap.recWraps * s.recCap + s.cap.recOff

/-- FRAME records that the ring still holds, oldest first. -/
def State.recHeld (s : State) : List (Nat × Nat) := s.cap.recFrames.filter (fun f => decide (s.recPos ≤ f.2 + s.recCap))

/-- The FRAME record of the frame that holds UTIME `u`, or the oldest one held. -/
def State.frameAtUt (s : State) (u : Nat) : Option (Nat × Nat) :=
  match (s.recHeld.filter (fun f => decide (f.1 ≤ u))).getLast? with
  | some f => some f
  | none => s.recHeld.head?

/-- The recorder freezes and writes CAP_FRZ_REC (R351); with keep at 0 the extent is released at once (R353). -/
def State.recFreeze (s : State) : State :=
  let pre := (s.reg Reg.CAP_REC_PRE).toNat
  let st := s.frameAtUt (s.cap.trigUt - msT pre)
  let start := (st.map (·.2)).getD s.recPos
  let kept := match st with
    | some f => min pre ((s.cap.trigUt - f.1) / msT 1)
    | none => 0
  let cap := max 1 s.recCap
  let s := s.modCap (fun c => { c with
    st := 3, postAt := none, postFrame := none, frzStart := start, frzEnd := s.recPos, recLoss := {} })
  let s := (s.putWide Id.CAP_FRZ_REC (packFields [(32, start % cap), (32, s.cap.frzEnd % cap), (32, s.cap.trigPos % cap),
    (32, kept)])).event Reg.CAP_STAT 1 {}
  if s.bit Reg.CAP_CTL 1 then s else s.capRelease

/-- REC_POST_EXPIRY (R351): at T + post, with a frame open the freeze waits for its END record. -/
def execRecPostExpiry (t : Nat) (s : State) : Host.Outcome State Fault Refusal :=
  match s.cap.postAt with
  | none => .next (s.at t)
  | some a =>
    let s := s.at (max t a)
    if s.whl.frameOpen then
      .next (s.modCap (fun c => { c with postAt := none, postFrame := some (s.wideN Id.WHL_FRAME_COUNT) }))
    else .next s.recFreeze

/-- The WAVE ring freezes (R354): captures in progress stop without a header; the extent kept. -/
def State.waveFreeze (s : State) : State :=
  let u := s.cap.trigUt - msT (s.reg Reg.CAP_WAVE_PRE).toNat
  let kept := s.cap.waveUts.dropWhile (fun r => decide (r.2 < u))
  let ret := match kept with
    | r :: _ => (s.cap.trigUt - r.2) / msT 1
    | [] => 0
  let s := s.modCap (fun c => { c with waveFrozen := true, waveAt := none, waveKept := kept.map (·.1) })
  let s := forN 8 s (fun s k => if (s.kiln k).capState = 1 then s.startClear k else s)
  s.putWide Id.CAP_FRZ_WAVE (packFields [(32, (kept.head?.map (·.1)).getD 0), (32, (kept.getLast?.map (·.1)).getD 0),
    (32, ret)])

/-- WAVE_FREEZE (R354). -/
def execWaveFreeze (t : Nat) (s : State) : Host.Outcome State Fault Refusal :=
  match s.cap.waveAt with
  | none => .next (s.at t)
  | some a => .next (s.at (max t a)).waveFreeze

/-- Ticks until UTIME reads `u`, 0 when it has passed. -/
def State.ticksTo (s : State) (u : Nat) : Nat := u - s.utime

/-- CAP_TRIG_LAST of a trigger. -/
def trigWord (c : Cond) (mask : Nat) (fine : Nat) (interp : Bool) : Nat :=
  packFields [(64, c.ut), (10, fine), (6, mask), (3, c.src), (1, b2n interp), (12, 0), (32, c.detail)]

/-- A trigger is accepted (R347, R351, R354): the fine bits of TRIG_IN come with its stamp. -/
def State.accept (s : State) (c : Cond) (mask : Nat) : State :=
  let tin := decide (c.src = 3)
  let end_ := c.ut + msT (s.reg Reg.CAP_REC_POST).toNat
  let wav := c.ut + msT (s.reg Reg.CAP_WAVE_POST).toNat
  let s := { s with str := { s.str with capTrig := true } }
  let s := s.modCap (fun x => { x with
    st := 2, trigUt := c.ut, trigPos := s.recPos, postAt := some (s.now + s.ticksTo end_)
    trigInput := if tin then some (14 + c.detail) else none
    waveAt := if s.bit Reg.CAP_CTL 3 then some (s.now + s.ticksTo wav) else none })
  ((s.putWide Id.CAP_TRIG_LAST (trigWord c mask (if tin then 0 else c.fine) (c.interp && !tin))).bump
    Id.CAP_TRIG_COUNT).event Reg.CAP_STAT 0 { detail := mask } |>.mfpPulse 27 (usT 1)

/-! ## Evaluation (R347, R349) -/

/-- An ended hold-off under TIME re-arms before a condition (R366). -/
def State.holdoffDue (s : State) (at_ : Nat) : State :=
  if s.cap.st = 4 ∧ s.bit Reg.CAP_CTL 2 = false ∧ s.cap.holdAt ≤ at_ then s.modCap (fun c => { c with st := 1 }) else s

/-- Conditions that are not accepted (R349); under COUNT they shorten the hold-off. -/
def State.missed (s : State) (n mask : Nat) : State :=
  let s := (s.bump Id.CAP_TRIG_MISSED n).event Reg.CAP_STAT 2 { detail := mask }
  if s.cap.st = 4 ∧ s.bit Reg.CAP_CTL 2 then
    s.modCap (fun c => { c with holdN := c.holdN - n, st := if c.holdN ≤ n then 1 else 4 })
  else s

/-- The conditions of one ACLK cycle make one trigger, or are missed. -/
def State.evalCycle (s : State) (l : List Cond) : State :=
  match l with
  | [] => s
  | c0 :: _ =>
    let s := s.holdoffDue c0.at_
    let mask := l.foldl (fun m c => m ||| 2 ^ c.src) 0
    match s.cap.st with
    | 0 => s
    | 1 => match lowestBit 6 mask with
      | some p => match l.find? (fun c => decide (c.src = p)) with
        | some c => s.accept c mask
        | none => s
      | none => s
    | _ => s.missed l.length mask

/-- The waiting conditions, cycle by cycle (an ACLK cycle has 4 ticks), for at most `n` cycles. -/
def State.evalConds (s : State) : Nat → State
  | 0 => s
  | n + 1 =>
    match s.cap.conds with
    | [] => s
    | c :: _ =>
      let now := s.cap.conds.filter (fun x => decide (x.at_ / 4 = c.at_ / 4))
      let rest := s.cap.conds.filter (fun x => decide (x.at_ / 4 ≠ c.at_ / 4))
      ((s.modCap (fun q => { q with conds := rest })).evalCycle now).evalConds n

/-- TRIGGER_EVALUATION (R347). -/
def execTriggerEvaluation (t : Nat) (s : State) : Host.Outcome State Fault Refusal :=
  let s := s.at t
  .next (s.evalConds s.cap.conds.length)

/-- A HOST trigger condition (R345). -/
def State.capTrigger (s : State) : State := s.capCond 5 s.utime 0 false 0

/-- CAP_TRIGGER (R345): a HOST condition. -/
def execCapTrigger (t : Nat) (_path : Path) (s : State) : Host.Outcome State Fault Refusal :=
  .next ((s.at t).onBar State.capTrigger)

/-- CAP_CMD.release (R353): refused while an export runs; outside FROZEN there is nothing to release. -/
def State.capReleaseCmd (s : State) (path : Path) : State :=
  if s.cap.st ≠ 3 then s
  else if s.cap.export_ then s.event Reg.CAP_STAT 6 { path := pathCode path }
  else s.capRelease

/-- CAP_RELEASE (R353). -/
def execCapRelease (t : Nat) (path : Path) (s : State) : Host.Outcome State Fault Refusal :=
  .next ((s.at t).onBar (fun s => s.capReleaseCmd path))

/-- HOLDOFF_END (R349), under TIME. -/
def execHoldoffEnd (t : Nat) (s : State) : Host.Outcome State Fault Refusal :=
  if s.cap.st = 4 ∧ s.bit Reg.CAP_CTL 2 = false then .next ((s.at (max t s.cap.holdAt)).modCap (fun c => { c with st := 1 }))
  else .next (s.at t)

/-! ## The recorder (R350, R353) -/

/-- A record that the recorder discards is counted. -/
def State.recDiscard (s : State) (r : BitVec 128) (frame : Nat) : State :=
  (s.modCap (fun c => { c with recLoss := {
    n := c.recLoss.n + 1, frames := c.recLoss.frames + b2n (recType r = 9), points := c.recLoss.points + b2n (recType r = 1)
    sectors := if recType r = 1 ∨ recType r = 0xA ∨ recType r = 0xC then c.recLoss.sectors ||| BitVec.ofNat 8 (2 ^ recSector r)
               else c.recLoss.sectors
    first := c.recLoss.first.orElse (fun _ => some frame) } })).bump Id.CAP_REC_LOST

/-- The frame number that a FRAME or END record carries. -/
def recFrame (r : BitVec 128) : Nat := if recType r = 8 then bitsOf r.toNat 63 32 else bitsOf r.toNat 47 16

/-- The recorder resumes with a GAP record and the FRAME record that follows it (R353). -/
def State.recResumeAt (s : State) (r : BitVec 128) : State :=
  let l := s.cap.recLoss
  let s := s.modCap (fun c => { c with recResume := false, recLoss := {} })
  s.recWrite (gapRec 1 true l.sectors.toNat (l.first.getD (recFrame r)) l.n l.frames l.points)

/-- The recorder takes a record of its consumer. -/
def State.recTake (s : State) (r : BitVec 128) : State :=
  let frame := s.wideN Id.WHL_FRAME_COUNT
  let resumes := s.cap.recResume && decide (recType r = 8) && decide (s.cap.st ≠ 3)
  let s := if resumes then s.recResumeAt r else s
  if s.recWriting then
    let s := if recType r = 8 then
        s.modCap (fun c => { c with recFrames := s.recHeld ++ [(bitsOf r.toNat 127 64, s.recPos)] }) else s
    let s := s.recWrite r
    if recType r = 9 ∧ s.cap.postFrame = some (recFrame r) then s.recFreeze else s
  else s.recDiscard r frame

/-! ## Export (R355, R356) -/

/-- Does the mode let an export move? -/
def State.exportMoves (s : State) : Bool :=
  match s.mode.active with
  | .service | .ready | .scan | .guard => true
  | .reset | .boot | .standby | .safe => false

/-- 16-byte units of the selected extents. -/
def State.exportUnits (s : State) (what : Nat) : Nat :=
  (if bitOf what 0 then s.cap.frzEnd - s.cap.frzStart else 0) + (if bitOf what 1 then 10244 * s.cap.waveKept.length else 0)

/-- CAP_CMD.export_abort (R355). -/
def State.capExportAbort (s : State) : State :=
  if s.cap.export_ then s.modCap (fun c => { c with export_ := false, exProg := { c.exProg with st := 3 } }) else s

/-- CAP_EXPORT_ABORT (R356). -/
def execCapExportAbort (t : Nat) (_path : Path) (s : State) : Host.Outcome State Fault Refusal :=
  .next ((s.at t).onBar State.capExportAbort)

/-! ## Safety outputs (R361, R362) -/

/-- The fields of the active set. -/
def State.activeFields (s : State) : BitVec 16 := s.reg (Reg.CAP_FSET + 4 * s.cap.set)

/-- Every condition of R361 but the restart interlock. -/
def State.ossdOk (s : State) : Bool :=
  decide (s.mode.active = .guard) && s.sec.permit && s.crc.matched && !s.crc.driftInGuard && s.fieldValid &&
    decide (s.cap.viol &&& s.activeFields = 0) && !s.cap.fbFault

/-- A condition may have changed: the outputs drop, or the time from which all hold is kept. -/
def State.ossdCheck (s : State) : State :=
  if s.ossdOk then s.modCap (fun c => { c with okSince := c.okSince.orElse (fun _ => some s.now) })
  else s.dropOssd.modCap (fun c => { c with okSince := none })

/-- The outputs go high. -/
def State.ossdOn (s : State) : State :=
  if s.cap.ossd then s else (s.modCap (fun c => { c with ossd := true })).event Reg.CAP_STAT 10 {}

/-- GUARD is entered: it counts as a drop (R362); nothing has been violated in this stay. -/
def State.ossdGuard (s : State) : State :=
  (s.modCap (fun c => { c with ossd := false, okSince := none, guardAt := s.now, stale := false, cleanFrame := false })).ossdCheck

/-- CAP_CMD.ossd_restart (R362). -/
def State.ossdRestart (s : State) (path : Path) : State :=
  let s := s.ossdCheck
  if path ≠ .greenware ∧ s.bit Reg.CAP_GUARD_CTL 0 = false ∧ s.ossdOk ∧ s.cap.cleanFrame then s.ossdOn
  else s.event Reg.CAP_STAT 12 { path := pathCode path }

/-- OSSD_RESTART (R362): under MANUAL, from the Saggar or host path. -/
def execOssdRestart (t : Nat) (path : Path) (s : State) : Host.Outcome State Fault Refusal :=
  .next ((s.at t).onBar (fun s => s.ossdRestart path))

/-- OSSD_AUTO_RESTART (R362): once every condition has held for CAP_GUARD_RST.ms. -/
def execOssdAutoRestart (t : Nat) (s : State) : Host.Outcome State Fault Refusal :=
  let s := s.ossdCheck
  match s.cap.okSince with
  | some a =>
    if s.bit Reg.CAP_GUARD_CTL 0 ∧ s.cap.ossd = false then
      let s := s.at (max t (a + msT (s.reg Reg.CAP_GUARD_RST).toNat))
      .next (if s.ossdOk then s.ossdOn else s)
    else .next (s.at t)
  | none => .next (s.at t)

/-- OSSD_FEEDBACK_MISMATCH (R363): it has lasted 1 ms. -/
def execOssdFeedbackMismatch (t : Nat) (s : State) : Host.Outcome State Fault Refusal :=
  let s := s.at t
  if s.bit Reg.CAP_GUARD_CTL 1 then
    let s := (s.modCap (fun c => { c with fbFault := true })).ossdCheck
    .next ((s.raise Reg.CAP_STAT (flag16 13)).fatal 0xEB0 (some 0) 4 {})
  else .next s

/-- OSSD_FEEDBACK_AGREE (R363, R494): the fault and its cause end. -/
def execOssdFeedbackAgree (t : Nat) (s : State) : Host.Outcome State Fault Refusal :=
  let live := (s.at t).safeLive
  let s := (s.at t).modCap (fun c => { c with fbFault := false })
  .next ({ s with log := { s.log with fatal := s.log.fatal &&& 0xE } }.ossdCheck.coilLive live)

/-! ## Protective fields (R357 to R360) -/

/-- The minimum (false) or maximum (true) entry of field `f`, azimuth sector `z`, lane `l`. -/
def State.fieldEntry (s : State) (f z l : Nat) (mx : Bool) : Nat :=
  (s.reg ((if mx then 0x2D00000 else 0x2C00000) + 65536 * f + 2048 * z + 4 * l)).toNat

/-- Does a point violate field `f` (R358)? -/
def State.violates (s : State) (p : Point) (f : Nat) : Bool :=
  let ctl := Reg.CAP_FIELD_CTL + 4 * f
  let z := p.az / 256
  let hi := s.fieldEntry f z p.lane true
  let r := bitsOf p.rec_.toNat 37 16 / 32
  decide (hi ≠ 0) &&
    if p.blind then s.bit ctl 12
    else decide (s.fieldEntry f z p.lane false ≤ r) && decide (r < hi) && decide (s.fld ctl 11 8 ≤ bitsOf p.rec_.toNat 53 50) &&
      !(bitOf p.rec_.toNat 60 && s.bit ctl 13)

/-- Field `f` becomes violated (R359). -/
def State.fieldViolated (s : State) (f ut fine : Nat) : State :=
  if bitOf s.cap.viol.toNat f then s
  else
    let m := flag16 f
    let s := s.modCap (fun c => { c with viol := c.viol ||| m, violNew := c.violNew ||| m })
    (((s.bump Id.CAP_VIOL_COUNT).event Reg.CAP_STAT 7 { inst := f, detail := f }).capCond 0 ut fine true f).ossdCheck

/-- A point is counted in field `f`. -/
def State.fieldPoint (s : State) (p : Point) (f : Nat) : State :=
  if bitOf s.activeFields.toNat f && s.violates p f then
    let n := fget 0 s.cap.violN f + 1
    let s := s.modCap (fun c => { c with violN := fset 0 c.violN f n })
    if s.fld (Reg.CAP_FIELD_CTL + 4 * f) 7 0 < n then s.fieldViolated f p.ut p.fine else s
  else s

/-- The oldest point is tested against every field of the active set. -/
def State.fieldTest (s : State) : State :=
  match s.cap.tests with
  | [] => s
  | p :: r => forN 16 (s.modCap (fun c => { c with tests := r })) (fun s f => s.fieldPoint p f)

/-- FIELD_TEST (R358). -/
def execFieldTest (t : Nat) (s : State) : Host.Outcome State Fault Refusal := .next (s.at t).fieldTest

/-- A frame has passed its END: fields whose count stayed within tol clear, unless they became violated in it (R359). -/
def State.fieldFrameEnd (s : State) : State :=
  let s := forN s.cap.tests.length s (fun s _ => s.fieldTest)
  let above := fun (f : Nat) => decide (s.fld (Reg.CAP_FIELD_CTL + 4 * f) 7 0 < fget 0 s.cap.violN f)
  let keep := (List.range 16).foldl (fun m f => if above f then m ||| flag16 f else m) s.cap.violNew
  let s := s.modCap (fun c => { c with
    viol := c.viol &&& keep, violNew := 0, violN := [], cleanFrame := decide (keep = 0) })
  s.ossdCheck

/-- The selection of the active set applies at a frame boundary (R358, R366). -/
def State.fsetBoundary (s : State) : State :=
  if s.sameCycle s.cap.setAt s.now then s
  else (s.modCap (fun c => { c with set := s.fld Reg.CAP_FSET_SEL 1 0 })).ossdCheck

/-- PQ_FRAME_END (R312): the oldest frame that every sector has passed ends; the field counts of that frame end. -/
def execPqFrameEnd (t : Nat) (s : State) : Host.Outcome State Fault Refusal :=
  let s := s.at t
  match s.pq.frames with
  | [] => .next s
  | q :: _ =>
    if q.begun && s.frameDrained q then
      let s := s.endFrame.fieldFrameEnd
      .next (if s.cap.postFrame = some q.frame ∧ s.pq.rec_.en = false then s.recFreeze else s)
    else .next s

/-- GUARD_STALE (R360): a pixel open, or no pixel opening while the Wheel is halted, for longer than stale_us. -/
def execGuardStale (t : Nat) (s : State) : Host.Outcome State Fault Refusal :=
  let from_ := match s.pix.first with
    | some a => some a
    | none => if s.wheelRuns then none else some (max s.cap.guardAt s.cap.pixOpenAt)
  match from_ with
  | none => .next (s.at t)
  | some a =>
    let s := s.at (max t (a + usT (clampN 100 4000 (s.fld Reg.CAP_GUARD_TMO 12 0))))
    if s.mode.active = .guard ∧ s.cap.stale = false then
      let s := (s.modCap (fun c => { c with stale := true })).event Reg.CAP_STAT 8 {}
      .next (forN 16 s (fun s f => if bitOf s.activeFields.toNat f then s.fieldViolated f s.utime 0 else s))
    else .next s

/-! ## Field CRC (R364) -/

/-- CRC-32C, one byte (R41). -/
def crcByte (c b : Nat) : Nat :=
  forN 8 (c ^^^ b) (fun c _ => if c % 2 = 1 then (c >>> 1) ^^^ 0x82F63B78 else c >>> 1)

/-- CRC-32C of 8-byte members: offset and read value, little-endian (R41). -/
def crcMembersOf (l : List (Nat × Nat)) : Nat :=
  (l.foldl (fun c m => (natToBytes 4 m.1 ++ natToBytes 4 m.2).foldl crcByte c) 0xFFFFFFFF) ^^^ 0xFFFFFFFF

/-- The members of the field sweep in ascending offset order. -/
def State.fieldMembers (s : State) : List (Nat × Nat) :=
  (List.range 524288).map (fun i =>
    let off := 0x2C00000 + 0x100000 * (i / 262144) + 4 * (i % 262144)
    (off, (s.reg off).toNat))

/-- Does an entry in a field of some set have a minimum above a maximum that is not 0? -/
def State.rangesBad (s : State) : Bool :=
  let used := (List.range 4).foldl (fun m n => m ||| s.reg (Reg.CAP_FSET + 4 * n)) 0
  (List.range 16).any (fun f => bitOf used.toNat f && (List.range 16384).any (fun i =>
    let hi := (s.reg (0x2D00000 + 65536 * f + 4 * i)).toNat
    decide (hi ≠ 0) && decide (hi < (s.reg (0x2C00000 + 65536 * f + 4 * i)).toNat)))

/-- The field configuration has been judged anew. -/
def State.fieldJudged (s : State) (was : Bool) : State :=
  if was && !s.fieldValid then
    let s := s.event Reg.CAP_STAT 11 {}
    if s.mode.active = .guard then s.stopBurst.ossdCheck else s
  else s.ossdCheck

/-- FIELD_CRC_SWEEP (R364): a sweep completes, every 65,536 PCLK cycles; none in STANDBY (R97). -/
def execFieldCrcSweep (t : Nat) (s : State) : Host.Outcome State Fault Refusal :=
  if s.mode.active = .standby then .next (s.at t)
  else
    let s := s.at (max t (s.cap.fieldSweepAt + 65536 * s.pclk))
    let was := s.fieldValid
    let c := crcMembersOf s.fieldMembers
    let s := (s.putWide Id.CAP_FIELD_CRC_LAST c).modCap (fun x => { x with
      fieldSweepAt := s.now, sweepOk := x.refWritten && decide (c = s.wideN Id.CAP_FIELD_CRC_REF), rangesOk := !s.rangesBad })
    .next (s.fieldJudged was)

end Sys2Proof.Machine
end

