-- ==== Sys2Proof/Machine/HostIf.lean ====
section
/-! DEFINITION. The host interface: rings, write-backs, interrupts, BAR2, the copy engine, the export stream, endpoint
resets (R411 to R431). -/

namespace Sys2Proof.Machine

/-! ## Rings (R416 to R418) -/

/-- Ring `x`. -/
def State.ring (s : State) (x : Nat) : Ring := fget {} s.hif.rings x

/-- Change ring `x`. -/
def State.modRing (s : State) (x : Nat) (f : Ring → Ring) : State :=
  { s with hif := { s.hif with rings := fmod {} s.hif.rings x f } }

/-- Offset of HIF_x_CTL (R432). -/
def ringCtl (x : Nat) : Nat := if x < 4 then 0xE00100 + 0x20 * x else 0xE00200 + 0x20 * (x - 4)

/-- Identifiers of the base and write-back address of ring `x` (R433). -/
def ringBaseId (x : Nat) : Nat := if x < 4 then 0x7000 + 2 * x else 0x7010 + (x - 4)

/-- Identifier of the write-back address. -/
def ringWbaId (x : Nat) : Nat := if x < 4 then 0x7001 + 2 * x else 0x7020 + (x - 4)

/-- HIF_x_WR of a record ring (R416). -/
def Ring.wr (r : Ring) : Nat :=
  let page := r.written / 256
  packFields [(8, r.written % 256), (15, if r.pages = 0 then 0 else page % r.pages),
    (1, if r.pages = 0 then 0 else page / r.pages % 2), (1, b2n r.active), (1, b2n r.waiting)]

/-- HIF_CE_HEAD. -/
def State.ceWr (s : State) : Nat :=
  let r := s.ring 3
  packFields [(15, if r.pages = 0 then 0 else r.written % r.pages), (1, if r.pages = 0 then 0 else r.written / r.pages % 2),
    (8, 0), (1, b2n r.active), (1, b2n s.hif.ceHalted)]

/-- The vector of ring `x` (R425). -/
def ringVec (x : Nat) : Nat := if x < 3 then x else 46

/-- The write pointer is written back, then the interrupt that waits for it is signalled (R418, R426). -/
def State.writeback (s : State) (x : Nat) : State :=
  let r := s.ring x
  let s := (s.modRing x (fun r => { r with wbDue := none, irqDue := false })).post (.writeback x r.wba (BitVec.ofNat 32 r.wr))
  if r.irqDue then s.signal (ringVec x) else s

/-- A write-back whose 2 µs have passed. -/
def State.writebackDue (s : State) (x : Nat) : State :=
  match (s.ring x).wbDue with
  | some a => if a ≤ s.now then s.writeback x else s
  | none => s

/-- The page interrupt counter after one more page: the count, and whether the interrupt is due (R425). -/
def pageCount (every n : Nat) : Nat × Bool := if every ≠ 0 ∧ every ≤ n + 1 then (0, true) else (n + 1, false)

/-- One record is written to ring `x`, which has room. -/
def State.ringPut (s : State) (x : Nat) (r : BitVec 128) : State :=
  let s := s.writebackDue x
  let q := s.ring x
  let s := s.post (.record x (q.base + 16 * (q.written % (q.pages * 256))) r)
  let page := decide ((q.written + 1) % 256 = 0)
  let pc := if page then pageCount (s.fld (ringCtl x) 9 2) q.pageIrq else (q.pageIrq, false)
  let end_ := decide (recType r = 9)
  let irq := pc.2 || decide (x = 1) || (decide (x = 0) && end_ && s.bit (ringCtl 0) 1)
  let s := s.modRing x (fun q => { q with
    written := q.written + 1, pageIrq := pc.1, irqDue := q.irqDue || irq, wbDue := some (s.now + usT 2), waiting := false
    fullAt := if (q.written + 1) - q.returned * 256 = q.pages * 256 then some s.now else none })
  if page || (end_ && decide (x ≠ 2)) then s.writeback x else s

/-! ## Remote rings (R404, R422) -/

/-- The sink delivers what waits of origin `a` while its ring is active and has room for a whole packet. -/
def State.sinkPump (s : State) (a : Nat) : Nat → State
  | 0 => s
  | n + 1 =>
    match fget [] s.coil.sink a with
    | [] => s
    | p :: rest =>
      if p.length ≤ s.ringRoom (3 + a) then
        let s := { s with coil := { s.coil with sink := fset [] s.coil.sink a rest } }
        (p.foldl (fun s r => s.ringPut (3 + a) r) s).sinkPump a n
      else s.modRing (3 + a) (fun q => { q with waiting := q.active })

/-- All that waits of origin `a`. -/
def State.sinkRun (s : State) (a : Nat) : State := s.sinkPump a (fget [] s.coil.sink a).length

/-- RING_WRITEBACK (R418): 2 µs after the last record. -/
def execRingWriteback (t : Nat) (x : Fin 20) (s : State) : Host.Outcome State Fault Refusal :=
  match (s.ring x).wbDue with
  | some a => .next ((s.at (max t a)).writeback x)
  | none => .next (s.at t)

/-- A pointer or activation that is not valid (R417). -/
def State.ringCfgErr (s : State) (x path : Nat) : State :=
  s.event Reg.HIF_STAT 6 { inst := x, detail := x, addr := ringCtl x, path }

/-- The ring named by a HIF ring register at offset `off`. -/
def ringAt (off : Nat) : Nat := if off < 0xE00200 then (off - 0xE00100) / 0x20 else 4 + (off - 0xE00200) / 0x20

/-- Activation of ring `x` (R417): a size of 0 has no effect. -/
def State.ringOn (s : State) (x path : Nat) : State :=
  let pages := s.fld (ringCtl x + 4) 14 0
  if pages = 0 then s
  else
    let ok := decide (s.reg (ringCtl x + 8) = 0)
    let s := s.modRing x (fun _ => {
      active := ok, base := s.wideN (ringBaseId x) / 4096 * 4096, wba := s.wideN (ringWbaId x) / 4 * 4, pages })
    let s := if x = 3 then { s with hif := { s.hif with ceTail := 0, cePos := 0, ceHalted := false } } else s
    let s := if x = 0 then s.hostWaits else s
    if ok then s else s.ringCfgErr x path

/-- A ring is inactive. -/
def State.ringOff (s : State) (x : Nat) : State :=
  let s := s.modRing x (fun r => { r with active := false, wbDue := none, irqDue := false, fullAt := none })
  if x = 0 then s.hostWaits else s

/-- A write of HIF_x_CTL (R417). -/
def State.ringActivate (s : State) (path : Path) (off : Nat) (val : Word) : State :=
  let s := s.cWrite off val path
  let x := ringAt off
  if !bitOf val.toNat 16 then s
  else if !bitOf val.toNat 0 then s.ringOff x
  else if 4 ≤ x then (s.ringOn x (pathCode path)).sinkRun (x - 3)
  else s.ringOn x (pathCode path)

/-- RING_ACTIVATE (R417). -/
def execRingActivate (t : Nat) (path : Path) (off : Nat) (val : Word) (s : State) : Host.Outcome State Fault Refusal :=
  .next ((s.at t).onBar (fun s => s.ringActivate path off val))

/-- The page (descriptor) count that a pointer names: at or behind `top`, at most one ring's size behind it. -/
def pointsTo (size top page : Nat) (lap : Bool) : Option Nat :=
  (List.range (size + 1)).findSome? (fun d =>
    if d ≤ top ∧ (top - d) % size = page ∧ (decide ((top - d) / size % 2 = 1)) = lap then some (top - d) else none)

/-- The host returns pages of ring `x` (R417). -/
def State.ringReturn (s : State) (x path : Nat) : State :=
  let r := s.ring x
  if !r.active then s
  else match pointsTo r.pages (r.written / 256) (s.fld (ringCtl x + 8) 14 0) (s.bit (ringCtl x + 8) 15) with
    | some a =>
      let s := s.modRing x (fun r => { r with returned := a, fullAt := if r.returned < a then none else r.fullAt })
      if x = 0 then s.hostWaits else s
    | none => s.ringCfgErr x path

/-- The host posts descriptors: the tail lies at most one ring's size ahead of the head (R423). -/
def State.tailWrite (s : State) (path : Nat) : State :=
  let r := s.ring 3
  if !r.active then s
  else match pointsTo r.pages (r.written + r.pages) (s.fld (ringCtl 3 + 8) 14 0) (s.bit (ringCtl 3 + 8) 15) with
    | some a => if r.written ≤ a then { s with hif := { s.hif with ceTail := a } } else s.ringCfgErr 3 path
    | none => s.ringCfgErr 3 path

/-! ## The point and event rings (R419, R420) -/

/-- The HOST consumer takes its next record, if the point ring has room. -/
def State.hostTake (s : State) : State :=
  match s.pq.host.unread with
  | [] => s
  | r :: rest =>
    if s.ringRoom 0 = 0 then (s.modRing 0 (fun q => { q with waiting := q.active })).hostWaits
    else ((s.modCon 0 (fun x => { x with unread := rest })).ringPut 0 r).hostWaits

/-- PT_STALL (R419): a us of 0 disables the timer. -/
def execPtStall (t : Nat) (s : State) : Host.Outcome State Fault Refusal :=
  let us := (s.reg (ringCtl 0 + 0x10)).toNat
  match s.pq.host.stallAt with
  | some a =>
    if us ≠ 0 ∧ s.pq.host.stalled = false then
      let s := s.at (max t (a + usT us))
      let s := (s.event Reg.HIF_STAT 0 {}).bump Id.HIF_PT_STALLS
      let frame := match s.pq.frames with
        | q :: _ => q.frame
        | [] => s.wideN Id.WHL_FRAME_COUNT
      let loss := decide (s.pq.host.st = 0)
      let s := s.modCon 0 (fun x => { x with
        stalled := true, st := if loss then 1 else x.st, firstFrame := if loss then frame else x.firstFrame })
      .next (if loss then s.event Reg.GLZ_PQ_STAT 0 {} else s)
    else .next (s.at t)
  | none => .next (s.at t)

/-- EVENT_RING_DELIVER (R420). -/
def execEventRingDeliver (t : Nat) (s : State) : Host.Outcome State Fault Refusal :=
  let s := s.at t
  match s.hif.evBuf with
  | [] => .next s
  | r :: rest =>
    if s.ringRoom 1 = 0 then .next (s.modRing 1 (fun q => { q with waiting := q.active }))
    else .next (({ s with hif := { s.hif with evBuf := rest } }).ringPut 1 r)

/-- RR_STALL (R422): a remote ring has stayed full for HIF_PT_STALL.us. -/
def execRrStall (t : Nat) (a : Fin 17) (s : State) : Host.Outcome State Fault Refusal :=
  let us := (s.reg (ringCtl 0 + 0x10)).toNat
  match (s.ring (3 + a.val)).fullAt with
  | some f =>
    if us ≠ 0 ∧ a.val ≠ 0 then .next ((s.at (max t (f + usT us))).event Reg.HIF_STAT 9 { inst := a, detail := a })
    else .next (s.at t)
  | none => .next (s.at t)

/-! ## Export (R355, R356, R421) -/

/-- Logical address of unit `u` of the running export, and whether it lies in an abandoned recorder page. -/
def State.exportAddr (s : State) (u : Nat) : Nat × Bool :=
  let rec_ := if bitOf s.cap.exWhat 0 then s.cap.frzEnd - s.cap.frzStart else 0
  if u < rec_ then
    let a := regionStart s.mem.sizes 6 * pageBytes + 16 * ((s.cap.frzStart + u) % max 1 s.recCap)
    (a, (List.range 8).any (fun i => decide (bitsOf (s.wideN Id.CAP_REC_BAD) (16 * i + 15) (16 * i) = a / pageBytes) && decide (a / pageBytes ≠ 0)))
  else
    let v := u - rec_
    (s.waveAddr (s.cap.waveKept.getD (v / 10244) 0) + 16 * (v % 10244), false)

/-- One unit of the export: skipped, replaced by a GAP of its granule, or sent. -/
def State.exportUnit (s : State) : State :=
  let u := s.cap.exProg.pos
  let a := s.exportAddr u
  let s := s.modCap (fun c => { c with exProg := { c.exProg with pos := u + 1 } })
  let bad := s.cap.exBad.contains (a.1 / 64 * 64) || decide (s.accessClass 4 (a.1 / pageBytes) false ≠ 0)
  if a.2 then s
  else if bad then
    (if a.1 % 64 = 0 then s.ringPut 2 (gapRec 1 false 0 (s.wideN Id.WHL_FRAME_COUNT) 4 0 0) else s)
  else s.ringPut 2 (BitVec.ofNat 128 (s.memNat a.1 16))

/-- May the running export move now? A background rate of 0 moves nothing outside SERVICE (R355). -/
def State.exportRuns (s : State) : Bool :=
  s.cap.export_ && s.exportMoves && (decide (s.mode.active = .service) || decide (s.fld Reg.CAP_EXPORT_CTL 15 4 ≠ 0))

/-- The export moves on while the export ring has room, at most `n` units. -/
def State.exportPump (s : State) : Nat → State
  | 0 => s
  | n + 1 =>
    if s.exportRuns && decide (s.cap.exProg.pos < s.cap.exProg.total) && decide (s.ringRoom 2 ≠ 0) then
      s.exportUnit.exportPump n
    else s

/-- EXPORT_DONE (R355, R421): what has room is sent; the export ends when nothing is left. -/
def execExportDone (t : Nat) (s : State) : Host.Outcome State Fault Refusal :=
  let s := s.at t
  let s := s.exportPump (s.cap.exProg.total - s.cap.exProg.pos)
  if s.cap.export_ && s.exportMoves && decide (s.cap.exProg.total ≤ s.cap.exProg.pos) then
    let s := (s.modCap (fun c => { c with export_ := false, exProg := { c.exProg with st := 2 } })).event Reg.CAP_STAT 3 {}
    let s := s.signal 2
    .next (if s.bit Reg.CAP_EXPORT_CTL 3 then s.capRelease else s)
  else .next s

/-- CAP_CMD.export (R355, R421): WAVE needs an export ring of at least 41 pages. -/
def State.capExport (s : State) (path : Path) : State :=
  let m := s.mode.active
  let bg := s.bit Reg.CAP_EXPORT_CTL 2
  let what := s.fld Reg.CAP_EXPORT_CTL 1 0
  let small := bitOf what 1 && decide (s.fld (ringCtl 2 + 4) 14 0 < 41)
  if s.cap.st = 3 ∧ s.cap.export_ = false ∧ small = false ∧
      (m = .service ∨ (bg = true ∧ (m = .ready ∨ m = .scan ∨ m = .guard))) then
    s.modCap (fun c => { c with
      export_ := true, exWhat := what, exBad := []
      exProg := { run := c.exProg.run + 1, st := 1, pos := 0, total := s.exportUnits what } })
  else s.event Reg.CAP_STAT 5 { path := pathCode path }

/-- CAP_EXPORT (R355). -/
def execCapExport (t : Nat) (path : Path) (s : State) : Host.Outcome State Fault Refusal :=
  .next ((s.at t).onBar (fun s => s.capExport path))

/-- A write of HIF_x_RD or of HIF_CE_TAIL (R417, R423): what waited for the space goes on (R429). -/
def State.ringRdWrite (s : State) (path : Path) (off : Nat) (val : Word) : State :=
  let s := s.cWrite off val path
  let x := ringAt off
  if x = 3 then s.tailWrite (pathCode path)
  else
    let s := s.ringReturn x (pathCode path)
    if x = 0 ∧ (s.ring 0).waiting then s.hostTake
    else if x = 2 then s.exportPump (s.cap.exProg.total - s.cap.exProg.pos)
    else if 4 ≤ x then s.sinkRun (x - 3)
    else s

/-- RING_RD_WRITE (R417). -/
def execRingRdWrite (t : Nat) (path : Path) (off : Nat) (val : Word) (s : State) : Host.Outcome State Fault Refusal :=
  .next ((s.at t).onBar (fun s => s.ringRdWrite path off val))

/-! ## BAR2 (R415) -/

/-- A BAR2 access is refused or poisoned. -/
def State.bar2Err (s : State) (page : Nat) : State := (s.bump Id.HIF_BAR2_ERRS).event Reg.HIF_STAT 4 { addr := page }

/-- An uncorrectable granule outside any descriptor (R337). -/
def State.memUeBare (s : State) (a : Nat) : State :=
  ((s.bump Id.MEM_UE_COUNT).raise Reg.MEM_STAT (flag16 1)).retirePage (s.physOf a / pageBytes)

/-- The answer of a BAR2 read. -/
def State.bar2Answer (s : State) (v : BitVec 512) (poison : Bool) : State :=
  { s with hif := { s.hif with bar2 := v, bar2Poison := poison } }

/-- A BAR2 read of the granule at `a`. -/
def State.bar2Read (s : State) (a : Nat) (ecc : Ecc) : State :=
  if s.accessClass 5 (a / pageBytes) false ≠ 0 then (s.bar2Answer (BitVec.allOnes 512) false).bar2Err (a / pageBytes)
  else
    let v := BitVec.ofNat 512 (s.memNat a 64)
    match ecc with
    | .clean => s.bar2Answer v false
    | .corrected => (s.bar2Answer v false).memCe a (channelOf (s.physOf a))
    | .uncorrectable => ((s.memUeBare a).bar2Answer v true).bar2Err (a / pageBytes)

/-- Bytes of `new` where the mask is set, of `old` elsewhere. -/
def mergeBytes (old new mask : Nat) : Nat :=
  (List.range 64).foldl (fun v i => v + bitsOf (if bitOf mask i then new else old) (8 * i + 7) (8 * i) * 2 ^ (8 * i)) 0

/-- A BAR2 write of the granule at `a`: whole, or merged by a read. -/
def State.bar2Write (s : State) (a d mask : Nat) (ecc : Ecc) : State :=
  if s.accessClass 5 (a / pageBytes) true ≠ 0 then s.bar2Err (a / pageBytes)
  else if mask = 2 ^ 64 - 1 then s.memPut a 64 d
  else match ecc with
    | .clean => s.memPut a 64 (mergeBytes (s.memNat a 64) d mask)
    | .corrected => (s.memPut a 64 (mergeBytes (s.memNat a 64) d mask)).memCe a (channelOf (s.physOf a))
    | .uncorrectable => (s.memUeBare a).bar2Err (a / pageBytes)

/-- BAR2_ACCESS (R415): in self-refresh and STANDBY reads give 0 and writes are discarded (R97, R340); on BCLK without
self-refresh the access faults (R498). -/
def execBar2Access (t : Nat) (addr : Nat) (wdata : Option (BitVec 512 × BitVec 64)) (ecc : Ecc) (s : State) :
    Host.Outcome State Fault Refusal :=
  if 2 ^ 37 ≤ addr then .fault .outsideBar2
  else
    let s := s.at t
    let a := addr / 64 * 64
    if s.mem.selfRefresh || decide (s.mode.active = .standby) then
      .next (if wdata.isSome then s else s.bar2Answer 0 false)
    else if !s.onVco then
      .next ((if wdata.isSome then s else s.bar2Answer (BitVec.allOnes 512) false).bar2Err (a / pageBytes))
    else match wdata with
      | none => .next (s.bar2Read a ecc)
      | some w => .next (s.bar2Write a w.1.toNat w.2.toNat ecc)

/-! ## Copy engine (R423, R424) -/

/-- The status word of the descriptor at head is written back into it. -/
def State.cePost (s : State) (st : Nat) : State :=
  let r := s.ring 3
  s.post (.status (r.base + 32 * (r.written % max 1 r.pages) + 24) (BitVec.ofNat 32 st))

/-- The index of the descriptor at head. -/
def State.ceIdx (s : State) : Nat := (s.ring 3).written % max 1 (s.ring 3).pages

/-- The head moves past the descriptor. -/
def State.ceNext (s : State) : State := (s.modRing 3 (fun r => { r with written := r.written + 1 }))

/-- Granules [a, b) of a descriptor are moved. -/
def State.ceMove (s : State) (d : CeDesc) (a b : Nat) : State :=
  (List.range (b - a)).foldl (fun s i =>
    let n := 64 * (a + i)
    let dev := d.dev.toNat / 64 * 64 + n
    if d.toDevice then s.memPut dev 64 d.hostData.toNat
    else s.post (.data (d.host.toNat / 64 * 64 + n) (BitVec.ofNat 512 (s.memNat dev 64)))) s

/-- The access class at granule `i` of a descriptor. -/
def State.ceClass (s : State) (d : CeDesc) (i : Nat) : Nat :=
  s.accessClass 4 ((d.dev.toNat / 64 * 64 + 64 * i) / pageBytes) d.toDevice

/-- Where the transfer stops, if it does: position and class. 0 stands for a PCIe error. Of several at one granule the
first class of R336 counts. -/
def State.ceStop (s : State) (d : CeDesc) (len : Nat) : Option (Nat × Nat) :=
  ((List.range len).drop d.statusPos).findSome? (fun i =>
    let c := s.ceClass d i
    if c ≠ 0 then some (i, c)
    else match d.stop, d.pcieErr with
      | some (p, c), e => if p = i then some (i, max 1 (min 3 c)) else
          (match e with | some (q, _) => if q = i then some (i, 0) else none | none => none)
      | none, some (q, _) => if q = i then some (i, 0) else none
      | none, none => none)

/-- HIF_CE_LAST. -/
def State.ceLast (s : State) (st : Nat) : State := s.putWide Id.HIF_CE_LAST (st + s.ceIdx * 2 ^ 32)

/-- The descriptor at head completes. -/
def State.ceDone (s : State) (irq : Bool) (pos : Nat) : State :=
  let s := ((s.cePost (statusWord 0 pos)).ceNext).event Reg.HIF_STAT 2 {}
  if irq then s.signal 3 else s

/-- The engine stops at a fault of the descriptor at head (R424, R336). -/
def State.ceFault (s : State) (d : CeDesc) (pos cls : Nat) : State :=
  let a := d.dev.toNat / 64 * 64 + 64 * pos
  let s := if cls = 3 then s.memUe 4 a pos else s.portFault 4 (a / pageBytes) cls pos
  let s := ((s.cePost (statusWord cls pos)).ceLast (statusWord cls pos)).event Reg.HIF_STAT 3 { detail := s.ceIdx }
  { s with hif := { s.hif with ceHalted := true, cePos := pos } }.signal 3

/-- The descriptor at head ends as ABORTED for a PCIe error (R424). -/
def State.cePcie (s : State) (d : CeDesc) (pos : Nat) : State :=
  let w := match d.pcieErr with
    | some (_, w) => w.toNat
    | none => 0
  let s := ((s.cePost (statusWord 5 pos)).ceLast (statusWord 5 pos)).putWide Id.HIF_PCIE_ERR (w + s.ceIdx * 2 ^ 32)
  (s.event Reg.HIF_STAT 5 { detail := s.ceIdx }).ceNext

/-- The engine processes the descriptor at head. -/
def State.ceRun (s : State) (d : CeDesc) : State :=
  let len := d.len % 2 ^ 26
  if len = 0 ∨ len ≤ d.statusPos then s.ceDone d.irq d.statusPos
  else match s.ceStop d len with
    | none => (s.ceMove d d.statusPos len).ceDone d.irq len
    | some (p, c) =>
      let s := s.ceMove d d.statusPos p
      if c = 0 then s.cePcie d p else s.ceFault d p c

/-- Does a descriptor wait at head? -/
def State.ceWaits (s : State) : Bool := (s.ring 3).active && decide ((s.ring 3).written < s.hif.ceTail)

/-- CE_DESCRIPTOR (R424). -/
def execCeDescriptor (t : Nat) (d : CeDesc) (s : State) : Host.Outcome State Fault Refusal :=
  let s := s.at t
  .next (if s.ceWaits && !s.hif.ceHalted then s.ceRun d else s)

/-- HIF_CMD.ce_resume (R424): a halted engine goes on, with the descriptor at head where it is given. -/
def State.ceResume (s : State) (d : Option CeDesc) : State :=
  if s.hif.ceHalted then
    let s := { s with hif := { s.hif with ceHalted := false } }
    match d with
    | some d => if s.ceWaits then s.ceRun d else s
    | none => s
  else s

/-- CE_RESUME (R424): the descriptor at head is read again. -/
def execCeResume (t : Nat) (_path : Path) (d : CeDesc) (s : State) : Host.Outcome State Fault Refusal :=
  .next ((s.at t).onBar (fun s => s.ceResume (some d)))

/-- The descriptor at head ends as ABORTED at the position reached and the engine halts (R424, R431). -/
def State.ceAbort (s : State) : State :=
  if s.ceWaits then
    let st := statusWord 5 s.hif.cePos
    let s := ((s.cePost st).ceLast st).ceNext
    { s with hif := { s.hif with ceHalted := true, cePos := 0 } }
  else s

/-- CE_ABORT (R424). -/
def execCeAbort (t : Nat) (_path : Path) (s : State) : Host.Outcome State Fault Refusal :=
  .next ((s.at t).onBar State.ceAbort)

/-! ## Interrupts (R426) -/

/-- IRQ_HOLD_END (R426): merged causes send one message. -/
def execIrqHoldEnd (t : Nat) (v : Fin 64) (s : State) : Host.Outcome State Fault Refusal :=
  let ve := fget ({} : Vec) s.hif.vecs v
  match ve.sent, ve.held with
  | some a, true =>
    let s := s.at (max t (a + usT (s.reg Reg.HIF_IRQ_HOLD).toNat))
    if ve.masked then
      .next { s with hif := { s.hif with vecs := fset {} s.hif.vecs v { ve with held := false, pend := true } } }
    else .next (s.sendMsi v)
  | _, _ => .next (s.at t)

/-- MSIX_UNMASK (R426): a pending vector sends one message. -/
def execMsixUnmask (t : Nat) (v : Fin 64) (s : State) : Host.Outcome State Fault Refusal :=
  let s := s.at t
  let ve := fget ({} : Vec) s.hif.vecs v
  let s := { s with hif := { s.hif with vecs := fset {} s.hif.vecs v { ve with masked := false } } }
  .next (if ve.pend && s.hif.msixEn then s.sendMsi v else s)

/-! ## The endpoint (R411, R412, R431) -/

/-- PCIE_CONFIG_REQUEST (R412): answered with retry status until BOOT stage 0 has completed; one that is accepted stands
for the driver's configuration, which enables bus mastering and MSI-X (log 21). -/
def execPcieConfigRequest (t : Nat) (s : State) : Host.Outcome State Fault Refusal :=
  let s := s.at t
  let retry := decide (s.mode.active = .reset) || (decide (s.mode.active = .boot) && decide (s.mode.stage = 0))
  .next { s with hif := { s.hif with
    cfgRetry := retry, busMaster := s.hif.busMaster || !retry, msixEn := s.hif.msixEn || !retry } }

/-- PCIE_LINK_UP (R412): the SerDes PLL must have a reference. -/
def execPcieLinkUp (t : Nat) (speed width : Nat) (s : State) : Host.Outcome State Fault Refusal :=
  let s := s.at t
  .next (if s.clk.serdesRef then { s with hif := { s.hif with speed := speed % 6, width := width % 8 } } else s)

/-- The endpoint is reset; the rest runs on (R431). -/
def State.endpointReset (s : State) (flr : Bool) : State :=
  let s := forN 20 s.ceAbort (fun s x => s.ringOff x)
  let s := { s with hif := { s.hif with
    ceHalted := true, msixEn := false, busMaster := false, vecs := []
    speed := if flr then s.hif.speed else 0, width := if flr then s.hif.width else 0 } }
  s.event Reg.HIF_STAT (if flr then 8 else 7) {}

/-- ENDPOINT_RESET (R431). -/
def execEndpointReset (t : Nat) (e : EndpointEvent) (s : State) : Host.Outcome State Fault Refusal :=
  .next ((s.at t).endpointReset (match e with
    | .flr => true
    | .perst | .hotReset | .linkDown => false))

end Sys2Proof.Machine
end

