-- ==== Sys2Proof/Machine/Coil.lean ====
section
/-! DEFINITION. The Coil: links, packets, enumeration, Coil time, schedules, streams, management (R385 to R410). -/

namespace Sys2Proof.Machine

/-! ## Alignment states (R398) -/

/-- A new alignment state, with its event and the STATUS of the change. -/
def State.coilAlignSet (s : State) (st : Nat) : State :=
  if s.coil.align = st then s
  else
    let s := s.modCoil (fun c => { c with align := st, lostReason := if st = 4 then c.lostReason else 0 })
    let s := if st = 2 then s.event Reg.COIL_STAT 6 {}
      else if st = 4 then s.event Reg.COIL_STAT 7 { detail := s.coil.lostReason } else s
    s.coilStatus

/-- The filters start afresh. -/
def State.coilFilter (s : State) : State := s.modCoil (fun c => { c with offs := [], holdOffs := [], driftN := 0, stepPend := 0 })

/-- Entry into LOST with a reason: 1 DRIFT, 2 AHEAD, 3 HOLD_EXPIRED. -/
def State.coilLose (s : State) (reason : Nat) : State :=
  (s.modCoil (fun c => { c with lostReason := reason })).coilAlignSet 4

/-- Entry into ACQUIRE: the filter fills anew (DESIGN CHOICE, log 23). -/
def State.coilAcquire (s : State) : State := s.coilFilter.coilAlignSet 1

/-- The states that follow from enables, address and root (R398): OFF, ACQUIRE from OFF, and the root's own. On BCLK the
root waits in ACQUIRE (log 23). -/
def State.coilCheck (s : State) : State :=
  if !(s.bit Reg.COIL_CTL 0 && s.bit Reg.COIL_CTL 2 && decide (s.coil.addr ≠ 0) && s.coil.topo.contains 1) then
    (if s.coil.align = 0 then s else s.coilFilter.coilAlignSet 0)
  else if s.coilRoot then s.coilAlignSet (if s.onVco then 2 else 1)
  else if s.coil.align = 0 then s.coilAcquire
  else s

/-- A lock or a phase restore resets the trim; the Coil establishes it again (R397). -/
def State.coilTrimReset (s : State) : State :=
  let s := s.modCoil (fun c => { c with trim := 0 })
  if !s.coilRoot && decide (s.coil.align = 2 ∨ s.coil.align = 3 ∨ s.coil.align = 1) then s.coilAcquire else s.coilCheck

/-! ## Enumeration (R391 to R394) -/

/-- A TOKEN or TOKEN_END as it is sent: mask in word 0, positions of 5 bits in the next record. -/
def coilList (mask : BitVec 16) (l : List Nat) : List (BitVec 128) :=
  [BitVec.ofNat 128 mask.toNat, mkRec ((l.map (fun a => (5, a))) ++ [(5, 0)])]

/-- COIL_TOPO. -/
def coilTopoWord (l : List Nat) : Nat := packFields ((l.map (fun a => (5, a)))) % 2 ^ 120 + l.length % 32 * 2 ^ 120

/-- A new list and topology are in force: the address changes, events are raised, and a changed stream route ends the
frame in progress for the COIL consumer (R392, R394, R405). -/
def State.coilTake (s : State) (ring : Bool) (l : List Nat) (addr : Nat) : State :=
  let sink := s.fld Reg.COIL_SINK 4 0
  let before := s.coilRoute sink
  let changed := decide (s.coil.topo ≠ l) || decide (s.coil.ring ≠ ring)
  let s := (s.modCoil (fun c => { c with topo := l, ring, addr })).putWide Id.COIL_TOPO (coilTopoWord l)
  let s := s.event Reg.COIL_STAT 0 {}
  let s := if changed then s.event Reg.COIL_STAT 3 {} else s
  let s := if before.isSome && s.pq.coil.en && decide (s.coilRoute sink ≠ before) then
      let frame := match s.pq.frames with
        | q :: _ => q.frame
        | [] => s.wideN Id.WHL_FRAME_COUNT
      (s.modCon 2 (fun x => { x with
        st := if x.st = 0 then 1 else x.st, firstFrame := if x.st = 0 then frame else x.firstFrame })).event
        Reg.COIL_STAT 12 {}
    else s
  s.coilCheck

/-- The active schedule as a TABLE packet carries it (R403). -/
def coilTable (cycle act : Nat) (w : List (BitVec 64)) : List (BitVec 128) :=
  BitVec.ofNat 128 (act % 2 ^ 64 + cycle * 2 ^ 64) :: w.map (fun x => BitVec.ofNat 128 x.toNat)

/-- Enumeration fails (R392): addresses are kept; the retry is due after 100 ms. -/
def State.coilEnumFail (s : State) : State :=
  (s.modCoil (fun c => { c with enumPhase := 0, retryAt := some (s.now + msT 100) })).event Reg.COIL_STAT 1 {}

/-- Do further units follow the sixteenth address (R393)? A TOKEN does not tell an enabled unit without an address from
one with en clear (log 24). -/
def coilOver (l : List Nat) : Bool :=
  decide (16 ≤ (l.filter (fun a => decide (a ≠ 0))).length) && decide (l.getLastD 1 = 0)

/-- The root completes an enumeration: TOPO is broadcast, and units that join receive the active table. -/
def State.coilEnumDone (s : State) (ring : Bool) (mask : BitVec 16) (l : List Nat) : State :=
  if 24 < l.length then s.coilEnumFail
  else
    let old := s.coil.topo
    let l2 := if ring then l
      else (((l.drop 1).take s.coil.enumSplit).reverse ++ [1]) ++ l.drop (1 + s.coil.enumSplit)
    let s := (s.modCoil (fun c => { c with enumPhase := 0, retryAt := none, enumMask := mask, enumList := l, ring })).coilBcast
      0 2 (coilList (BitVec.ofNat 16 (b2n ring)) l2)
    let s := if coilOver l then s.event Reg.COIL_STAT 5 {} else s
    let s := s.coilTake ring l2 1
    let s := s.coilStatus
    (l2.filter (fun a => decide (2 ≤ a) && !old.contains a)).foldl (fun s a =>
      s.coilTo 2 0 a (coilTable s.coil.cycle s.coil.act s.coil.sched)) s

/-- The TOKEN leaves by port 0, or the LINE is complete (R392, step 5). -/
def State.coilPhase2 (s : State) (mask : BitVec 16) (l : List Nat) : State :=
  let s := s.modCoil (fun c => { c with enumSplit := l.length - 1 })
  if s.coilUp 0 then
    (s.modCoil (fun c => { c with enumPhase := 2 })).coilOut 0 0 0 0 (coilList mask l)
  else s.coilEnumDone false mask l

/-- The root runs enumeration (R392, R394); 10 ms count from here. -/
def State.coilEnum (s : State) : State :=
  if !s.coilRoot then s
  else
    let s := s.modCoil (fun c => { c with
      enumAt := s.now, enumPhase := 1, retryAt := none, enumMask := 1, enumList := [1], enumSplit := 0 })
    if s.coilUp 1 then s.coilOut 1 0 0 0 (coilList 1 [1]) else s.coilPhase2 1 [1]

/-- The lowest free address of a mask, 0 with none (R393). -/
def coilFree (mask : BitVec 16) : Nat :=
  match (List.range 16).find? (fun i => !bitOf mask.toNat i) with
  | some i => i + 1
  | none => 0

/-- An ordinary unit passes a TOKEN on (R392, steps 2 to 4). -/
def State.coilToken (s : State) (p : Nat) (mask : BitVec 16) (l : List Nat) : State :=
  let on := s.bit Reg.COIL_CTL 0
  let a := if !on then 0
    else if s.coil.addr ≠ 0 ∧ !bitOf mask.toNat (s.coil.addr - 1) then s.coil.addr else coilFree mask
  let m := if a = 0 then mask else mask ||| BitVec.ofNat 16 (2 ^ (a - 1))
  let s := s.modCoil (fun c => { c with addrNext := a, rootPort := p })
  if s.coilUp (1 - p) then s.coilOut (1 - p) 0 0 0 (coilList m (l ++ [a]))
  else s.coilOut p 0 1 1 (coilList m (l ++ [a]))

/-- COIL_LINK_CHANGE (R385): reported to the root; the root enumerates again (R394, R408). -/
def execCoilLinkChange (t : Nat) (p : Fin 2) (up : Bool) (s : State) : Host.Outcome State Fault Refusal :=
  let s := s.at t
  if bitOf s.coil.link.toNat p = up then .next s
  else
    let bit := BitVec.ofNat 2 (2 ^ p.val)
    let s := (s.modCoil (fun c => { c with link := if up then c.link ||| bit else c.link &&& ~~~bit })).event Reg.COIL_STAT 2
      { detail := p.val }
    .next (if s.coilRoot then s.coilEnum else s.coilTo 0 6 1 [])

/-- TOKEN (R391, R392): the root's own TOKEN closes a RING; one of another candidate is a contest. -/
def execToken (t : Nat) (p : Fin 2) (mask : BitVec 16) (list : List Nat) (strapped : Bool) (ident : BitVec 64) (s : State) :
    Host.Outcome State Fault Refusal :=
  let s := s.at t
  if !s.coilOn then .next s
  else if !s.coilRoot then .next (s.coilToken p mask list)
  else if ident = s.pins.unitId then
    .next (if s.coil.enumPhase = 1 ∧ p.val = 0 then s.coilEnumDone true mask list else s)
  else
    let mine := bitOf s.pins.straps.toNat 0
    let win := if mine = strapped then decide (s.pins.unitId.toNat < ident.toNat) else mine
    let s := s.event Reg.COIL_STAT 4 {}
    .next (if win then s.coilEnum else s.modCoil (fun c => { c with yielded := true, enumPhase := 0, retryAt := none }))

/-- TOKEN_END (R392): a unit forwards it; the root sends its second TOKEN or completes the LINE. -/
def execTokenEnd (t : Nat) (p : Fin 2) (mask : BitVec 16) (list : List Nat) (s : State) :
    Host.Outcome State Fault Refusal :=
  let s := s.at t
  if !s.coilOn then .next s
  else if !s.coilRoot then
    .next (s.coilSend { port := 1 - p.val, cls := 0, dst := 1, src := 0, typ := 1, payload := coilList mask list })
  else if s.coil.enumPhase = 1 then .next (s.coilPhase2 mask list)
  else if s.coil.enumPhase = 2 then .next (s.coilEnumDone false mask list)
  else .next s

/-- TOPO (R392): address and routes. -/
def execTopo (t : Nat) (ring : Bool) (list : List Nat) (s : State) : Host.Outcome State Fault Refusal :=
  let s := s.at t
  if s.coilRoot || !s.coilOn then .next s
  else
    let a := if s.bit Reg.COIL_CTL 0 then s.coil.addrNext else 0
    .next ((s.coilTake ring (list.take 24) a).coilStatus)

/-- LINK_EVENT (R394). -/
def execLinkEvent (t : Nat) (s : State) : Host.Outcome State Fault Refusal := .next (s.at t).coilEnum

/-- COIL_ENUMERATE (R394): COIL_CMD.enumerate, on the root. -/
def execCoilEnumerate (t : Nat) (_path : Path) (s : State) : Host.Outcome State Fault Refusal :=
  .next ((s.at t).onBar State.coilEnum)

/-- ENUM_TIMEOUT (R392): 10 ms. -/
def execEnumTimeout (t : Nat) (s : State) : Host.Outcome State Fault Refusal :=
  if s.coilRoot && decide (s.coil.enumPhase ≠ 0) then .next (s.at (max t (s.coil.enumAt + msT 10))).coilEnumFail
  else .next (s.at t)

/-- ENUM_RETRY (R392): 100 ms after enum_fail. -/
def execEnumRetry (t : Nat) (s : State) : Host.Outcome State Fault Refusal :=
  match s.coil.retryAt with
  | some a => .next (s.at (max t a)).coilEnum
  | none => .next (s.at t)

/-! ## Packets (R388 to R390) -/

/-- Class, destination, source, type, hops, sequence number and length of a header. -/
def hdrFld (h : BitVec 64) (hi lo : Nat) : Nat := bitsOf h.toNat hi lo

/-- Is the class or the type of a header reserved (R388)? -/
def hdrReserved (h : BitVec 64) : Bool :=
  let typ := hdrFld h 23 16
  match hdrFld h 2 0 with
  | 0 => decide (6 < typ)
  | 1 => decide (2 < typ)
  | 2 => decide (typ ≠ 0)
  | 3 => decide (typ ≠ 0)
  | _ => true

/-- A packet is discarded and counted on its port. -/
def State.coilDiscard (s : State) (p : Nat) : State := s.updWide Id.COIL_DISCARDS (.add (32 * p) 32 1)

/-- Forwarding, unless hops would reach 16. -/
def State.coilForward (s : State) (arrived port : Nat) (h : BitVec 64) : State :=
  if 15 ≤ hdrFld h 27 24 then s.coilDiscard arrived
  else s.coilSend { port, cls := hdrFld h 2 0, dst := hdrFld h 7 3, src := hdrFld h 12 8, typ := hdrFld h 23 16,
                    hops := hdrFld h 27 24 + 1, seq := hdrFld h 47 32 }

/-- A packet is consumed: its payload acts by the row of its type. -/
def State.coilConsume (s : State) (h : BitVec 64) : State := s.modCoil (fun c => { c with lastRx := some h })

/-- A broadcast arrives: the unit's own is dropped; another is consumed once and goes on. A pair of source and sequence
number counts within its class, as R388 counts them (DEDUCED, log 25). -/
def State.coilBroadcast (s : State) (p : Nat) (h : BitVec 64) : State :=
  let k := (hdrFld h 2 0, hdrFld h 12 8, hdrFld h 47 32)
  if s.coil.addr ≠ 0 ∧ hdrFld h 12 8 = s.coil.addr then s
  else
    let s := if s.coil.seen.contains k then s
      else (s.modCoil (fun c => { c with seen := k :: c.seen })).coilConsume h
    s.coilForward p (1 - p) h

/-- COIL_PACKET_RECEIVE (R388, R390): checked, then discarded, consumed or forwarded. TOKEN, TOKEN_END, TIME and STREAM
packets go on in their own rows, which carry their payload. -/
def execCoilPacketReceive (t : Nat) (p : Fin 2) (hdr : BitVec 64) (crcOk : Bool) (s : State) :
    Host.Outcome State Fault Refusal :=
  let s := s.at t
  let cls := hdrFld hdr 2 0
  let dst := hdrFld hdr 7 3
  if !s.coilOn then .next s
  else if !crcOk then .next ((s.coilDiscard p).event Reg.COIL_STAT 11 { detail := p })
  else if hdrReserved hdr || decide (128 < hdrFld hdr 55 48) then .next (s.coilDiscard p)
  else if cls = 1 ∨ cls = 3 ∨ (cls = 0 ∧ hdrFld hdr 23 16 ≤ 1) then
    .next (if dst ≠ s.coil.addr ∧ 15 ≤ hdrFld hdr 27 24 then s.coilDiscard p else s.coilConsume hdr)
  else if dst = 31 then .next (s.coilBroadcast p hdr)
  else if dst = 0 then .next s
  else if dst = s.coil.addr then .next (s.coilConsume hdr)
  else .next (match s.coilRoute dst with
    | some (q, _) => s.coilForward p q hdr
    | none => s)

/-! ## Coil time (R395 to R399) -/

/-- A quotient with its rounding left open (log 2). -/
def State.quot (s : State) (a b : Int) : State × Int := (if a % b = 0 then s else s.freeUsed, s.openQuot a b)

/-- The sum of a list of offsets. -/
def offSum (l : List Int) : Int := l.foldl (· + ·) 0

/-- The nearest whole number of ticks; at a tie either one (log 2). -/
def State.nearTick (s : State) (o : Int) : State × Int :=
  if (2 * o) % 2048 = 1024 then (s.freeUsed, floorDiv o 1024 + ((s.freeW.toNat % 2 : Nat) : Int))
  else (s, floorDiv (2 * o + 1024) 2048)

/-- Is every filter place filled (R397)? -/
def State.coilFull (s : State) : Bool := decide (1024 ≤ s.coil.offs.length)

/-- A UTIME step of `n` ticks by the Coil (R397, R399). -/
def State.coilStep (s : State) (n : Nat) : State :=
  ((s.utimeStep n).event Reg.COIL_STAT 8 {}).bump Id.COIL_UTIME_STEPS

/-- The largest lead that a node reports, in ticks (R399). -/
def State.coilLead (s : State) : Nat :=
  (List.range 16).foldl (fun m i =>
    let w := s.wideN (Id.COIL_NODE + i)
    let o := sgn 32 (bitsOf w 95 64)
    if bitsOf w 9 7 = 4 then max m (floorDiv (2 * o + 1024) 2048).toNat else m) 0

/-- Pending steps of UTIME take effect: at a frame boundary, or at once while no program runs (R397, R399). -/
def State.coilBoundary (s : State) : State :=
  let s := if s.coil.stepPend = 0 then s
    else
      let s := (s.coilStep s.coil.stepPend).coilFilter
      if s.coil.align = 2 ∨ s.coil.align = 3 then s.coilAcquire else s
  if s.coil.epochReq && s.coilRoot && s.tsu.utRun then
    (s.coilStep (64 * ((s.coilLead + 64 + 63) / 64))).modCoil (fun c => { c with epochReq := false })
  else s

/-- The whole ticks of the filtered offset (R397): behind, a step is pending; ahead, LOST. -/
def State.coilTicks (s : State) (n : Int) : State :=
  if n < 0 then s.modCoil (fun c => { c with stepPend := (-n).toNat })
  else s.coilLose 2

/-- What a filtered offset `o` does in ACQUIRE and LOCKED. -/
def State.coilJudge (s : State) (o : Int) : State :=
  let x := s.nearTick o
  let r := o - 1024 * x.2
  let s := x.1
  if s.coil.stepPend ≠ 0 then s
  else if x.2 ≠ 0 then s.coilTicks x.2
  else if s.coil.align = 1 then (if |r| ≤ 33 then s.coilAlignSet 2 else s)
  else if 328 < |o| then
    (let s := s.modCoil (fun c => { c with driftN := c.driftN + 1 })
     if 16 ≤ s.coil.driftN then s.coilLose 1 else s)
  else s.modCoil (fun c => { c with driftN := 0 })

/-- HOLD: the first 16 offsets after SYNC resumed decide (R398). -/
def State.coilHoldSync (s : State) (off : Int) : State :=
  if s.sameCycle s.coil.holdAt s.now then s.modCoil (fun c => { c with align := 2 })
  else
    let s := s.modCoil (fun c => { c with holdOffs := (c.holdOffs ++ [off]).take 16 })
    if s.coil.holdOffs.length = 16 ∧ |offSum s.coil.holdOffs| ≤ 66 * 16 then s.coilAlignSet 2 else s

/-- LOST: has the reason cleared, by the filtered offset `o` (DEDUCED, log 23)? -/
def State.coilCleared (s : State) (o : Int) : Bool :=
  match s.coil.lostReason with
  | 1 => decide (|o| ≤ 328)
  | 2 => decide (2 * o < 1024)
  | _ => true

/-- An offset enters the filter, and the state follows (R397, R398). -/
def State.coilOffset (s : State) (off : Int) : State :=
  let l := s.coil.offs ++ [off]
  let l := l.drop (l.length - 1024)
  let x := (s.modCoil (fun c => { c with offs := l, syncAt := s.now })).quot (offSum l) l.length
  let s := x.1.putWide Id.COIL_OFFSET (unsgn 32 x.2)
  let s := if s.coil.align = 3 then s.coilHoldSync off
    else if s.coil.align = 4 then (if s.coilCleared x.2 then s.coilAcquire else s)
    else if s.coilFull && decide (s.coil.align = 1 ∨ s.coil.align = 2) then s.coilJudge x.2 else s
  if s.wheelRuns then s else s.coilBoundary

/-- COIL_TIME_PERIOD (R396): the root sends SYNC with its departure stamp, whose fine part the converter gives (log 2);
every other aligned unit sends DELAY_REQ upstream. -/
def execCoilTimePeriod (t : Nat) (s : State) : Host.Outcome State Fault Refusal :=
  let s := s.at (max t (s.coil.periodAt + 65536))
  let s := s.modCoil (fun c => { c with periodAt := s.now })
  if s.coil.align = 0 ∨ s.onVco = false then .next s
  else if s.coilRoot then
    .next (s.freeUsed.coilBcast 1 0 [BitVec.ofNat 128 (1024 * s.utime + s.freeW.toNat % 1024)])
  else .next (s.coilOut s.coilUpstream 1 1 0 [])

/-- The link delay of port `p` as COIL_LINK_DELAY holds it. -/
def State.coilDelay (s : State) (p : Nat) : Int := sgn 32 (bitsOf (s.wideN Id.COIL_LINK_DELAY) (32 * p + 31) (32 * p))

/-- SYNC_PACKET (R396): offset, filter, and the SYNC forwarded with its correction. The root discards its own. -/
def execSyncPacket (t : Nat) (p : Fin 2) (ts corr tArr tDep : Int) (s : State) : Host.Outcome State Fault Refusal :=
  let s := s.at t
  if !s.coilOn || s.coilRoot then .next s
  else
    let x := s.quot (sgn 16 (s.reg (Reg.COIL_ASYM + 4 * p.val)).toNat) 2
    let dn := s.coilDelay p + x.2
    let fwd := corr + dn + (tDep - tArr)
    let s := x.1.coilSend { port := 1 - p.val, cls := 1, dst := 31, src := 1, typ := 0,
                            payload := [BitVec.ofInt 128 ts, BitVec.ofInt 128 fwd] }
    .next (if s.coil.align ≠ 0 ∧ s.onVco then s.coilOffset (tArr - (ts + corr + dn)) else s)

/-- DELAY_REQ (R396): stamped and answered by the port it arrived on. -/
def execDelayReq (t : Nat) (p : Fin 2) (src : Fin 17) (t2 t3 : Int) (s : State) : Host.Outcome State Fault Refusal :=
  let s := s.at t
  .next (if s.onVco then s.coilOut p 1 2 src [BitVec.ofInt 128 t2, BitVec.ofInt 128 t3] else s)

/-- DELAY_RESP (R396): d of the port. -/
def execDelayResp (t : Nat) (p : Fin 2) (t1 t2 t3 t4 : Int) (s : State) : Host.Outcome State Fault Refusal :=
  let s := s.at t
  let x := s.quot ((t4 - t1) - (t3 - t2)) 2
  let w := s.wideN Id.COIL_LINK_DELAY
  .next (x.1.putWide Id.COIL_LINK_DELAY (putBits w (32 * p.val) 32 (unsgn 32 x.2)))

/-- COIL_TRIM_STEP (R397): one step of 8 fine LSB towards r = 0, every 8,192 ticks while the Wheel runs, else every 64. A
unit ahead lowers the trim, and the offsets already filtered are restated for the moved phase (DESIGN CHOICE, log 26). -/
def execCoilTrimStep (t : Nat) (s : State) : Host.Outcome State Fault Refusal :=
  let s := s.at (max t (s.coil.trimAt + (if s.wheelRuns then 8192 else 64)))
  let s := s.modCoil (fun c => { c with trimAt := s.now })
  if s.coil.align = 0 ∨ s.coilRoot ∨ s.coilFull = false ∨ s.onVco = false then .next s
  else
    let o := sgn 32 (s.wideN Id.COIL_OFFSET)
    let x := s.nearTick o
    let r := o - 1024 * x.2
    let d : Int := if 4 < r then -1 else if r < -4 then 1 else 0
    let v := s.coil.trim + d
    if d = 0 ∨ v < -128 ∨ 128 < v then .next x.1
    else .next ((x.1.modCoil (fun c => { c with trim := v, offs := c.offs.map (fun q => q + 8 * d) })).putWide Id.COIL_OFFSET
      (unsgn 32 (o + 8 * d)))

/-- COIL_SYNC_TIMEOUT (R398): 1 ms without SYNC; a hold_ms of 0 goes LOST at once (R409). -/
def execCoilSyncTimeout (t : Nat) (s : State) : Host.Outcome State Fault Refusal :=
  if s.coil.align = 2 ∧ s.coilRoot = false then
    let s := s.at (max t (s.coil.syncAt + msT 1))
    let s := (s.modCoil (fun c => { c with holdAt := s.now, holdOffs := [] })).coilAlignSet 3
    .next (if s.reg Reg.COIL_HOLD = 0 then s.coilLose 3 else s)
  else .next (s.at t)

/-- COIL_HOLD_EXPIRY (R398). -/
def execCoilHoldExpiry (t : Nat) (s : State) : Host.Outcome State Fault Refusal :=
  if s.coil.align = 3 then .next ((s.at (max t (s.coil.holdAt + msT (s.reg Reg.COIL_HOLD).toNat))).coilLose 3)
  else .next (s.at t)

/-- COIL_CMD.epoch (R399), on the root. -/
def State.coilEpoch (s : State) : State :=
  if s.coilRoot then
    let s := s.modCoil (fun c => { c with epochReq := true })
    if s.wheelRuns then s else s.coilBoundary
  else s

/-- COIL_EPOCH (R399). -/
def execCoilEpoch (t : Nat) (_path : Path) (s : State) : Host.Outcome State Fault Refusal :=
  .next ((s.at t).onBar State.coilEpoch)

/-! ## Firing schedule (R401 to R403) -/

/-- COIL_WIN_ACTIVE_w and COIL_SCHED_ACTIVE show the schedule in force. -/
def State.coilSwitch (s : State) (cycle act : Nat) (w : List (BitVec 64)) : State :=
  let s := s.modCoil (fun c => { c with cycle, act, sched := w, nextSched := none })
  let s := forN 32 s (fun s i => s.putWide (Id.COIL_WIN_ACTIVE + i) (w.getD i 0).toNat)
  (s.putWide Id.COIL_SCHED_ACTIVE (act % 2 ^ 64 + cycle % 2 ^ 24 * 2 ^ 64)).event Reg.COIL_STAT 9 {}

/-- The length of a window at commit (R402). -/
def winLen (cycle start len : Nat) : Nat := if start + len ≤ cycle then len else cycle - start

/-- Window `i` as committed; a reduced length raises PARAM_CLAMP (R402). -/
def State.coilWindow (s : State) (cycle i path : Nat) : State × BitVec 64 :=
  let w := s.wideN (Id.COIL_WIN + i)
  let len := bitsOf w 47 32
  let l := winLen cycle (bitsOf w 23 0) len
  (if l = len then s else s.paramClamp (Id.COIL_WIN + i) l path, BitVec.ofNat 64 (putBits w 32 16 l))

/-- COIL_CMD.sched_commit (R402, R403), on the root. -/
def State.coilCommit (s : State) (path : Nat) : State :=
  if !s.coilRoot then s
  else
    let cycle := bitsOf (s.wideN Id.COIL_SCHED_CYCLE) 23 0
    let a := s.wideN Id.COIL_SCHED_ACT % 2 ^ 64
    let low := s.utime + 3200000
    let act := max a low
    let x := (List.range 32).foldl (fun (x : State × List (BitVec 64)) i =>
      let y := x.1.coilWindow cycle i path
      (y.1, x.2 ++ [y.2])) (s, [])
    let s := if a < low then x.1.paramClamp Id.COIL_SCHED_ACT act path else x.1
    (s.modCoil (fun c => { c with nextSched := some (act, cycle, x.2) })).coilBcast 2 0 (coilTable cycle act x.2)

/-- COIL_SCHED_COMMIT (R403). -/
def execCoilSchedCommit (t : Nat) (path : Path) (s : State) : Host.Outcome State Fault Refusal :=
  .next ((s.at t).onBar (fun s => s.coilCommit (pathCode path)))

/-- SCHED_TABLE (R403): held for its activation, or applied at once when it comes after it. -/
def execSchedTable (t : Nat) (cycle act : Nat) (wins : List (BitVec 64)) (s : State) : Host.Outcome State Fault Refusal :=
  let s := s.at t
  if s.coilRoot || !s.coilOn || !s.bit Reg.COIL_CTL 0 then .next s
  else if act ≤ s.utime then .next ((s.coilSwitch (cycle % 2 ^ 24) act (wins.take 32)).event Reg.COIL_STAT 10 {})
  else .next (s.modCoil (fun c => { c with nextSched := some (act, cycle % 2 ^ 24, wins.take 32) }))

/-- SCHED_ACTIVATE (R403): at local UTIME A. -/
def execSchedActivate (t : Nat) (s : State) : Host.Outcome State Fault Refusal :=
  match s.coil.nextSched with
  | some (a, c, w) =>
    let s := s.at (max t (max t s.now + (a - s.utimeAt (max t s.now))))
    .next (if a ≤ s.utime then s.coilSwitch c a w else s)
  | none => .next (s.at t)

/-- COIL_CYCLE_START (R401): SYNC_IO pulses for 32 ticks and TSI_3 stamps the start. -/
def execCoilCycleStart (t : Nat) (s : State) : Host.Outcome State Fault Refusal :=
  let c := s.coilSched.1
  if s.coilEn && decide (s.coil.align = 2 ∨ s.coil.align = 3) && decide (c ≠ 0) && s.tsu.utRun then
    let d := s.utimeAt (max t s.now) % c
    let s := s.at (max t s.now + (if d = 0 then 0 else c - d))
    .next ({ s with pins := { s.pins with mfpTo := fset 0 s.pins.mfpTo 0 (s.now + 32) } }.tsuInternal 3)
  else .next (s.at t)

/-! ## Streams (R404, R405) -/

/-- The GAP record of a hole: what the spec does not state of it is open (log 2). -/
def State.coilGap (s : State) (missing : Nat) : State × BitVec 128 :=
  (s.freeUsed, gapRec 2 false (s.freeW.toNat % 256) (Sys2Proof.Config.freeWord (s.freeNext + 1)).toNat (128 * missing) 0
    (s.freeW.toNat / 256))

/-- The sink takes a packet of origin `a` in the order of its numbers. -/
def State.coilSink (s : State) (a seq : Nat) (recs : List (BitVec 128)) : State :=
  let missing := match fget none s.coil.rxSeq a with
    | some e => (seq + 65536 - e) % 65536
    | none => 0
  let x := if missing = 0 then (s, recs)
    else
      let y := s.coilGap missing
      ((y.1.freeUsed.bump Id.COIL_SEQ_GAPS), y.2 :: recs)
  (x.1.modCoil (fun c => { c with
    rxSeq := fset none c.rxSeq a (some ((seq + 1) % 65536)), sink := fmod [] c.sink a (fun l => l ++ [x.2]) })).sinkRun a

/-- STREAM_RECORDS (R404): forwarded, or delivered at the sink. -/
def execStreamRecords (t : Nat) (_p : Fin 2) (origin : Fin 17) (dst : Fin 32) (seq : BitVec 16) (recs : List (BitVec 128))
    (s : State) : Host.Outcome State Fault Refusal :=
  let s := s.at t
  if !s.coilOn then .next s
  else if dst.val ≠ 0 ∧ dst.val = s.coil.addr then .next (if origin.val = 0 then s else s.coilSink origin seq.toNat recs)
  else .next (match s.coilRoute dst with
    | some (q, _) => s.coilSend { port := q, cls := 3, dst, src := origin, typ := 0, seq := seq.toNat, payload := recs }
    | none => s)

/-- The COIL consumer's next packet of up to 128 records leaves for the sink (R404); a unit that is its own sink delivers
to its own remote ring. -/
def State.coilTakeRecs (s : State) : State :=
  let recs := s.pq.coil.unread.take 128
  let dst := s.fld Reg.COIL_SINK 4 0
  if s.coilEn && decide (s.coil.addr ≠ 0) && s.coilOn && !recs.isEmpty then
    let gone := fun (s : State) => s.modCon 2 (fun x => { x with unread := x.unread.drop 128 })
    if dst = s.coil.addr then (gone s).coilSeqUsed 3 |>.coilSink dst (s.coilSeq 3) recs
    else match s.coilRoute dst with
      | some (p, _) => if s.coilUp p then (gone s).coilOut p 3 0 dst recs else s
      | none => s
  else s

/-! ## Management (R406, R407) -/

/-- A RESP to `src`. -/
def State.coilAnswer (s : State) (src status detail : Nat) (v : BitVec 128) : State :=
  s.coilTo 0 4 src [ofWords status detail 0 0, v]

/-- RESP (R406): the requester has its answer. -/
def execResp (t : Nat) (src : Fin 17) (status : Nat) (detail : Nat) (s : State) : Host.Outcome State Fault Refusal :=
  .next ((s.at t).modCoil (fun c => { c with lastResp := some (src.val, status, detail) }))

/-- COIL_NO_AGENT (R406): Greenware has not answered the oldest REQ for 1 ms. -/
def execCoilNoAgent (t : Nat) (s : State) : Host.Outcome State Fault Refusal :=
  match s.coil.mgmt with
  | (src, a) :: rest =>
    let s := s.at (max t (a + msT 1))
    .next ((s.modCoil (fun c => { c with mgmt := rest })).coilAnswer src 3 0 0)
  | [] => .next (s.at t)

/-- COIL_MGMT_TIMEOUT (R406): no RESP within 2 ms. -/
def execCoilMgmtTimeout (t : Nat) (s : State) : Host.Outcome State Fault Refusal :=
  .next ((s.at t).event Reg.COIL_STAT 15 {})

/-- STATUS (R407): the root's entry is replaced; a node that reports AHEAD steps the Coil time (R399). -/
def execStatus (t : Nat) (src : Fin 17) (w0 frames offset : Word) (s : State) : Host.Outcome State Fault Refusal :=
  let s := s.at t
  if s.coilRoot && decide (src.val ≠ 0) then
    let s := s.coilReport src w0.toNat frames.toNat offset.toNat
    let ahead := decide (bitsOf w0.toNat 9 7 = 4) && decide (1024 ≤ 2 * sgn 32 offset.toNat)
    .next (if ahead && s.bit Reg.COIL_CTL 4 then s.coilEpoch else s)
  else .next s

/-- COIL_STATUS_TIMER (R407): at least every 10 ms. -/
def execCoilStatusTimer (t : Nat) (s : State) : Host.Outcome State Fault Refusal :=
  .next (s.at (max t (s.coil.statusAt + msT 10))).coilStatus

/-- COIL_NODE_STALE (R407): 100 ms without a report. -/
def execCoilNodeStale (t : Nat) (a : Fin 17) (s : State) : Host.Outcome State Fault Refusal :=
  match fget none s.coil.nodeAt a with
  | some r =>
    let id := Id.COIL_NODE + (a.val - 1)
    if s.coilRoot && !bitOf (s.wideN id) 18 then
      let s := s.at (max t (r + msT 100))
      .next ((s.putWide id (s.wideN id + 2 ^ 18)).event Reg.COIL_STAT 14 { inst := a, detail := a })
    else .next (s.at t)
  | none => .next (s.at t)

end Sys2Proof.Machine
end

