-- ==== Sys2Proof/Machine/Thermal.lean ====
section
/-! DEFINITION. Thermal management: diode conversions, Cone levels, the throttle, cool-down (R434 to R445). -/

namespace Sys2Proof.Machine

/-- Change the thermal block. -/
def State.modThm (s : State) (f : Thermal → Thermal) : State := { s with thm := f s.thm }

/-- The applied levels L_1 to L_3 and the hysteresis values, °C (R436). -/
def State.thmLevels (s : State) : List Nat :=
  let l3 := min (s.fld Reg.THM_CONE3 7 0) 128
  let l2 := min (s.fld Reg.THM_CONE12 15 8) l3
  [min (s.fld Reg.THM_CONE12 7 0) l2, l2, l3, s.fld Reg.THM_HYST 3 0, s.fld Reg.THM_HYST 7 4, s.fld Reg.THM_HYST 11 8]

/-- Each level reduced at this write raises PARAM_CLAMP (R436). -/
def State.thmClamps (s : State) (path : Nat) : State :=
  let l := s.thmLevels
  let s := if l.getD 2 0 < s.fld Reg.THM_CONE3 7 0 then s.paramClamp Reg.THM_CONE3 (l.getD 2 0) path else s
  let s := if l.getD 1 0 < s.fld Reg.THM_CONE12 15 8 then s.paramClamp Reg.THM_CONE12 (l.getD 1 0) path else s
  if l.getD 0 0 < s.fld Reg.THM_CONE12 7 0 then s.paramClamp Reg.THM_CONE12 (l.getD 0 0) path else s

/-- The end of an HCLK timer: on BCLK, which is ±3 %, its tick is the command's own (R434). -/
def State.hclkDue (s : State) (t a : Nat) : Nat := if s.onVco then max t a else t

/-- The time of enforcement so far is counted in whole ms (R445). -/
def State.thmAccount (s : State) : State :=
  if s.thm.enforced then
    let n := s.thm.enfMs + (s.now - s.thm.enfAt)
    (s.modThm (fun x => { x with enfAt := s.now, enfMs := n % msT 1 })).bump 0x7802 (n / msT 1)
  else s

/-- Is the die in Cone `n`? -/
def Thermal.inC (x : Thermal) (n : Nat) : Bool := bitOf x.inCone.toNat (n - 1)

/-- The highest Cone the die is in; before the first conversion it counts as at Cone 3 (R434). -/
def Thermal.cone (x : Thermal) : Nat :=
  if !x.converted then 3 else if x.inC 3 then 3 else if x.inC 2 then 2 else if x.inC 1 then 1 else 0

/-- Enter or leave Cone `n`. -/
def State.setCone (s : State) (n : Nat) (b : Bool) : State :=
  let m := BitVec.ofNat 3 (2 ^ (n - 1))
  s.modThm (fun x => { x with inCone := if b then x.inCone ||| m else x.inCone &&& ~~~m })

/-- Lane front ends and pulse monitor go off with Cone 3 (R441). -/
def State.thmOff (s : State) : State :=
  (s.modThm (fun x => { x with c3 := true, coolAt := none })).refbufStart

/-- Entry to Cone 3, or the first reading of a break there: counted, logged, SAFE (R435, R441). -/
def State.cone3Enter (s : State) (code : Nat) : State :=
  (s.bump 0x7801).thmOff.fatal code none 1 { detail := unsgn 16 s.thm.temp }

/-- Entry to or exit from Cone 1 or 2 at this reading (R438 to R440). -/
def State.coneStep (s : State) (n : Nat) (v lv hy : Int) : State :=
  let was := s.thm.inC n
  if !was && decide (16 * lv ≤ v) then
    let s := (s.setCone n true).event Reg.THM_STAT (n - 1) {}
    if n = 2 then
      s.modThm (fun x => { x with graceAt := some (s.now + msT (clampN 10 10000 (s.fld Reg.THM_GRACE 13 0))) })
    else s
  else if was && decide (v < 16 * (lv - hy)) then
    let s := s.setCone n false
    if n = 2 then
      let on := s.thm.enforced
      let s := s.modThm (fun x => { x with graceAt := none, enforced := false })
      if on then s.event Reg.THM_STAT 3 {} else s
    else s
  else s

/-- The cool-down ends (R442): front ends and monitor return, the lanes settle. -/
def State.coolDone (s : State) : State :=
  let s := (s.modThm (fun x => { x with c3 := false, coolAt := none, cone3Live := false })).event Reg.THM_STAT 7 {}
  let s := forN 8 s (fun s k =>
    if bitOf s.lan.secOn.toNat k then
      { s with lan := { s.lan with settleAt := fset 0 s.lan.settleAt k (s.now + usT 20) } }
    else s)
  s.refbufStart

/-- The cool-down timer after a reading `v` (R442). -/
def State.coolStep (s : State) (v limit : Int) (broken : Bool) : State :=
  if !s.thm.c3 then s
  else if broken || decide (limit ≤ v) then s.modThm (fun x => { x with coolAt := none })
  else if s.thm.coolAt = none ∧ s.thm.okRun = 16 then
    let ms := (s.reg Reg.THM_COOL).toNat
    if ms = 0 then s.coolDone else s.modThm (fun x => { x with coolAt := some (s.now + msT ms) })
  else s

/-- A reading beyond a limit: `bit` 0 open, 1 short (R435). -/
def State.diodeBad (s : State) (bit : Nat) : State :=
  let first := decide (s.thm.okRun = 16)
  let brk := if first then 0 else s.thm.brk
  let s := if bitOf brk.toNat bit then s else s.raise Reg.THM_STAT (flag16 (5 + bit))
  let entry := !s.thm.inC 3
  let s := (s.modThm (fun x => { x with okRun := 0, brk := brk ||| BitVec.ofNat 2 (2 ^ bit) })).setCone 3 true
  if first then (if entry then s.raise Reg.THM_STAT (flag16 4) else s).cone3Enter 0xEF1 else s.thmOff

/-- A reading within the limits. -/
def State.diodeGood (s : State) (v : Int) (l3 h3 : Nat) : State :=
  let s := s.modThm (fun x => { x with okRun := min 16 (x.okRun + 1), temp := v })
  let s := if sgn 16 (s.wideN 0x7800) < v then s.putWide 0x7800 (unsgn 16 v) else s
  if !s.thm.inC 3 && decide (16 * (l3 : Int) ≤ v) then
    ((s.setCone 3 true).raise Reg.THM_STAT (flag16 4)).cone3Enter 0xEF0
  else if s.thm.inC 3 && decide (v < 16 * ((l3 : Int) - h3)) then s.setCone 3 false
  else s

/-- One conversion (R434 to R442). The cause CONE3 is live from an entry to Cone 3 to cool_done, and while the diode is
broken (R94, R442; log 29). -/
def State.convert (s : State) (d : DiodeReading) : State :=
  let s := s.thmAccount
  let l := if s.sameCycle s.thm.lvAt s.now ∧ s.thm.lvOld ≠ [] then s.thm.lvOld else s.thmLevels
  let g := fun i => ((l.getD i 0 : Nat) : Int)
  let s := match d with
    | .celsius16 v => s.diodeGood v (l.getD 2 0) (l.getD 5 0)
    | .openWire => s.diodeBad 0
    | .short => s.diodeBad 1
  let s := s.modThm (fun x => { x with converted := true, convAt := s.now })
  let broken := decide (s.thm.okRun = 0)
  let v := if broken then 16 * g 2 else s.thm.temp
  let s := (s.coneStep 2 v (g 1) (g 4)).coneStep 1 v (g 0) (g 3)
  let s := s.coolStep v (16 * (g 2 - g 5)) broken
  s.modThm (fun x => { x with cone3Live := x.c3 || decide (x.okRun < 16) })

/-- THM_CONVERSION (R434): every 100 µs, in every mode except RESET. -/
def execThmConversion (t : Nat) (d : DiodeReading) (s : State) : Host.Outcome State Fault Refusal :=
  let s := s.at (s.hclkDue t (s.thm.convAt + usT 100))
  .next (if s.mode.active = .reset then s else (s.convert d).coilLive s.safeLive)

/-- THROTTLE_GRACE_EXPIRY (R439, R440). -/
def execThrottleGraceExpiry (t : Nat) (s : State) : Host.Outcome State Fault Refusal :=
  match s.thm.graceAt with
  | some a =>
    let s := s.at (s.hclkDue t a)
    if s.thm.inC 2 then
      .next ((s.modThm (fun x => { x with graceAt := none, enforced := true, onSince := s.now, enfAt := s.now })).event
        Reg.THM_STAT 2 {})
    else .next (s.modThm (fun x => { x with graceAt := none }))
  | none => .next (s.at t)

/-- COOL_DOWN_DONE (R442). -/
def execCoolDownDone (t : Nat) (s : State) : Host.Outcome State Fault Refusal :=
  match s.thm.coolAt with
  | some a =>
    let s := s.at (s.hclkDue t a)
    .next (s.coolDone.coilLive s.safeLive)
  | none => .next (s.at t)

end Sys2Proof.Machine
end

