-- ==== Sys2Proof/Machine/SensorFe.lean ====
section
/-! DEFINITION. The sensor front end: scan list, filter chain, injected conversions, self-calibration, loop output
(R446 to R464). An output's response code, as corrected by the calibration coefficients, comes with its command (log 27). -/

namespace Sys2Proof.Machine

/-- Change the sensor front end. -/
def State.modSfe (s : State) (f : Sfe → Sfe) : State := { s with sfe := f s.sfe }

/-- Offset of register A of entry `i`. -/
def sfeCh (i : Nat) : Nat := Reg.SFE_CH_A + 0x20 * i

/-- The registers A to G of entry `i`. -/
def State.sfeEntry (s : State) (i : Nat) : List Nat := (List.range 7).map (fun r => (s.reg (sfeCh i + 4 * r)).toNat)

/-- The latched register `r` (0: A) of the entry that converts. -/
def Sfe.c (x : Sfe) (r : Nat) : Nat := x.cfg.getD r 0

/-- Is entry `i` visited (R450)? -/
def State.sfeOn (s : State) (i : Nat) : Bool := s.bit (sfeCh i) 15 && decide (s.fld (sfeCh i + 8) 14 11 ≠ 0)

/-- The entries visited, ascending. -/
def State.sfeList (s : State) : List Nat := if s.bit Reg.SFE_CTL 0 then (List.range 16).filter s.sfeOn else []

/-- The moving average length of a latched entry (R448, R462). -/
def Sfe.len (x : Sfe) : Nat := clampN 1 1024 (bitsOf (x.c 2) 10 0)

/-- Ticks of one output of the latched entry: N samples of 800 ticks, twice as many under chopping (R446, R448). -/
def Sfe.period (x : Sfe) : Nat :=
  let n := max 250 (x.c 1)
  match bitsOf (x.c 0) 14 12 with
  | 3 => 1600 * n
  | 4 => 800 * 80000
  | 5 => 800 * 66667
  | 6 => 800 * 400000
  | _ => 800 * n

/-- A chain starts with entry `i`'s configuration; its first L + 3 outputs are invalid (R449, R451). -/
def State.sfeChain (s : State) (st i : Nat) : State :=
  let s := s.modSfe (fun x => { x with
    st, slot := i, cfg := s.sfeEntry i, avg := [], outN := 0, tripped := false, startAt := s.now })
  s.modSfe (fun x => { x with wait := x.len + 3 })

/-- The scan list goes on behind entry `i`, or the converter idles. -/
def State.sfeAfter (s : State) (i : Nat) : State :=
  let l := s.sfeList
  match (l.filter (fun j => decide (i < j))) ++ l with
  | j :: _ => s.sfeChain 1 j
  | [] => s.modSfe (fun x => { x with st := 0 })

/-- Configuration of the scan list changed: an idle converter starts, a scan that was switched off stops. -/
def State.sfeCheck (s : State) : State :=
  if s.sfe.st = 0 then (if s.sfeList.isEmpty then s else s.sfeAfter 16)
  else if s.sfe.st = 1 ∧ s.bit Reg.SFE_CTL 0 = false then s.modSfe (fun x => { x with st := 0 })
  else s

/-- The self-calibration starts (R456): 80 ms. -/
def State.sfeCalRun (s : State) : State :=
  s.modSfe (fun x => { x with st := 3, calPend := false, calAt := s.now + msT 80 })

/-- The injected conversion starts (R455). -/
def State.sfeInjRun (s : State) : State := (s.modSfe (fun x => { x with injPend := false })).sfeChain 2 (s.fld Reg.SFE_INJ_CTL 3 0)

/-- What follows an injected conversion or a calibration: what waits, then the abandoned entry anew. -/
def State.sfeResume (s : State) : State :=
  if s.sfe.injPend then s.sfeInjRun
  else if s.sfe.calPend then s.sfeCalRun
  else
    let s1 := s.modSfe (fun x => { x with resume := none })
    match s.sfe.resume with
    | some i => if s.bit Reg.SFE_CTL 0 then s1.sfeChain 1 i else s1.sfeAfter 16
    | none => s1.sfeAfter 16

/-- The visit in progress is abandoned for an injected conversion or a calibration. -/
def State.sfePreempt (s : State) : State :=
  if s.sfe.st = 1 then s.modSfe (fun x => { x with resume := some x.slot, st := 0 }) else s

/-- SFE_CMD.inject (R455, R456): waits for a calibration; a second one starts nothing. -/
def State.sfeInject (s : State) : State :=
  if s.sfe.injPend || decide (s.sfe.st = 2) then s
  else if s.sfe.st = 3 then s.modSfe (fun x => { x with injPend := true })
  else s.sfePreempt.sfeInjRun

/-- SFE_CMD.cal (R456): waits for an injected conversion. -/
def State.sfeCal (s : State) : State :=
  if s.sfe.calPend || decide (s.sfe.st = 3) then s
  else if s.sfe.st = 2 ∨ s.sfe.injPend then s.modSfe (fun x => { x with calPend := true })
  else s.sfePreempt.sfeCalRun

/-- SFE_INJECT (R455). -/
def execSfeInject (t : Nat) (_path : Path) (s : State) : Host.Outcome State Fault Refusal :=
  .next ((s.at t).onGlb State.sfeInject)

/-- SFE_CAL (R456). -/
def execSfeCal (t : Nat) (_path : Path) (s : State) : Host.Outcome State Fault Refusal :=
  .next ((s.at t).onGlb State.sfeCal)

/-- Are the coefficients of one gain within limits: offset ±1 % of full scale, gain error ±2 % (R456)? -/
def calOk (c : Int × Nat) : Bool :=
  decide (100 * c.1.natAbs ≤ 8388608) && decide (100 * ((c.2 : Int) - 2 ^ 30).natAbs ≤ 2 * 2 ^ 30)

/-- SFE_CAL_DONE (R456). -/
def execSfeCalDone (t : Nat) (coeffs : List (Int × Nat)) (s : State) : Host.Outcome State Fault Refusal :=
  if s.sfe.st = 3 then
    let s := s.at (s.hclkDue t s.sfe.calAt)
    let s := if coeffs.all calOk then
        (forN 8 s (fun s g =>
          let c := coeffs.getD g (0, 2 ^ 30)
          s.putWide (Id.SFE_CAL + g) (ofWords (unsgn 32 c.1) c.2 0 0).toNat)).event Reg.SFE_STAT 4 {}
      else s.event Reg.SFE_STAT 5 {}
    .next s.sfeResume
  else .next (s.at t)

/-- The HCLK source changed (R457): the conversion in progress starts anew. -/
def State.sfeClkSwitch (s : State) : State :=
  let s := if s.sfe.st = 1 ∨ s.sfe.st = 2 then s.sfeChain s.sfe.st s.sfe.slot else s
  s.event Reg.SFE_STAT 8 {}

/-! ## Results (R448, R452 to R454) -/

/-- Entry `i` of temperature table `t`. -/
def State.sfeTab (s : State) (t i : Nat) : Int := sgn 16 (s.reg (Reg.SFE_TABLE + 512 * t + 4 * i)).toNat

/-- A code through its table (R454). -/
def State.sfeTemp (s : State) (t : Nat) (code : Int) : Int :=
  let u := (code + 8388608).toNat
  let e := s.sfeTab t (u / 262144)
  e + floorDiv ((s.sfeTab t (u / 262144 + 1) - e) * ((u % 262144 : Nat) : Int)) 262144

/-- The phase stage (R448). -/
def phaseRef (prev y : Int) (p : Nat) : Int := prev + floorDiv ((y - prev) * ((256 - p : Nat) : Int)) 256

/-- SFE_RES_i or SFE_INJ_RES: value, flags, outputs. -/
def resWord (v : Int) (valid opn short hi bclk : Bool) (n : Nat) : Nat :=
  unsgn 32 v + (b2n valid + 2 * b2n opn + 4 * b2n short + 8 * b2n hi + 16 * b2n bclk + n % 65536 * 65536) * 2 ^ 32

/-- Set or clear bit `i`. -/
def putBit (m : BitVec 16) (i : Nat) (b : Bool) : BitVec 16 := if b then m ||| flag16 i else m &&& ~~~flag16 i

/-- What one output found. -/
structure SfeOut where
  opn : Bool
  short : Bool
  hi : Bool
  val : Option Int
deriving DecidableEq, Repr

/-- The verdict on a chain output `y` (R452, R453): open, short or over, else past the first L + 3 its value; none where
the phase stage has no earlier result. -/
def State.sfeJudge (s : State) (y : Int) (trip : Bool) : SfeOut :=
  let x := s.sfe
  let mag := if bitOf (x.c 3) 1 then s.fld Reg.SFE_IEXC 5 3 else s.fld Reg.SFE_IEXC 2 0
  let opn := trip && bitOf (x.c 3) 0 && decide (mag ≠ 0)
  let q := floorDiv y 256
  let short := decide (q ≤ sgn 16 (x.c 5))
  let hi := decide (sgn 16 (x.c 6) ≤ q)
  let p := bitsOf (x.c 4) 7 0
  let v := if bitOf (x.c 4) 8 then s.sfeTemp (bitsOf (x.c 4) 10 9) y else y
  { opn, short, hi
    val := if opn || short || hi || decide (x.outN ≤ x.wait) then none
      else if p = 0 then some v
      else (fget none x.prev x.slot).map (fun o => phaseRef o v p) }

/-- The flags of an output that is open, short or over; open counts once a visit (DEDUCED, log 28). -/
def State.sfeFlags (s : State) (o : SfeOut) : State :=
  let i := s.sfe.slot
  let first := o.opn && !s.sfe.tripped
  let s := s.modSfe (fun x => { x with
    tripped := x.tripped || o.opn, open_ := if o.opn then x.open_ ||| flag16 i else x.open_
    bad := putBit x.bad i (o.opn || o.short || o.hi) })
  let s := if first then (s.bump Id.SFE_OPEN_COUNT).event Reg.SFE_STAT 0 { inst := i, detail := i } else s
  let s := if o.short then s.event Reg.SFE_STAT 1 { inst := i, detail := i } else s
  if o.hi then s.event Reg.SFE_STAT 2 { inst := i, detail := i } else s

/-- A valid result is the temperature of the boards that name the channel (R162). -/
def State.sfeBoards (s : State) (i : Nat) (v : Int) : State :=
  forN 8 s (fun s b =>
    let r := Reg.EMT_BOARD_SFE + 4 * b
    if s.bit r 4 && decide (s.fld r 3 0 = i) then s.putWide (Id.EMT_BOARD_TEMP + b) (unsgn 16 v) else s)

/-- An output of a visit updates SFE_RES_i (R450, R453). The first output of a phased entry gives no valid result, but it
is the earlier result of the next cycle (DEDUCED, log 28). -/
def State.sfeResult (s : State) (o : SfeOut) (y : Int) (single : Bool) : State :=
  let i := s.sfe.slot
  let s := s.sfeFlags o
  let bad := o.opn || o.short || o.hi
  let past := decide (s.sfe.wait < s.sfe.outN)
  let v := o.val.getD (fget 0 s.sfe.res i)
  let n := fget 0 s.sfe.count i + b2n o.val.isSome
  let raw := if bitOf (s.sfe.c 4) 8 then s.sfeTemp (bitsOf (s.sfe.c 4) 10 9) y else y
  let ends := single || decide (s.sfe.wait + bitsOf (s.sfe.c 2) 14 11 ≤ s.sfe.outN)
  if !bad && !past then s
  else
    let s := s.modSfe (fun x => { x with
      res := fset 0 x.res i v, valid := putBit x.valid i o.val.isSome, count := fset 0 x.count i n
      lastAt := if o.val.isSome then fset 0 x.lastAt i s.now else x.lastAt
      prev := if bad then fset none x.prev i none else if ends then fset none x.prev i (some (o.val.getD raw)) else x.prev })
    let s := s.putWide (Id.SFE_RES + i) (resWord v o.val.isSome o.opn o.short o.hi (!s.onVco) n)
    match o.val with
    | some v => s.sfeBoards i v
    | none => s

/-- The end of a visit after L + 3 + keep outputs (R450, R452); a single entry is not left. -/
def State.sfeVisitEnd (s : State) (single : Bool) : State :=
  let i := s.sfe.slot
  if s.sfe.wait + bitsOf (s.sfe.c 2) 14 11 ≤ s.sfe.outN then
    let s := if s.sfe.tripped then s else s.modSfe (fun x => { x with open_ := putBit x.open_ i false })
    if single then s.modSfe (fun x => { x with tripped := false }) else s.sfeAfter i
  else s

/-- An output of a scan visit; in single-entry operation a write applies here and starts a new count (R451). -/
def State.sfeScan (s : State) (y mean : Int) (trip : Bool) : State :=
  let single := decide (s.sfeList = [s.sfe.slot])
  if single && decide (s.sfe.cfg ≠ s.sfeEntry s.sfe.slot) then
    let s := s.sfeChain 1 s.sfe.slot
    let s := s.modSfe (fun x => { x with outN := 1, avg := [y] })
    s.sfeResult (s.sfeJudge y trip) y true
  else if s.sfeList.isEmpty then s.modSfe (fun x => { x with st := 0 })
  else (s.sfeResult (s.sfeJudge mean trip) mean single).sfeVisitEnd single

/-- An output of the injected conversion; the last goes to SFE_INJ_RES (R455). -/
def State.sfeInjOut (s : State) (mean : Int) (trip : Bool) : State :=
  if s.sfe.wait < s.sfe.outN then
    let o := s.sfeJudge mean trip
    let s := (s.putWide Id.SFE_INJ_RES (resWord (o.val.getD 0) o.val.isSome o.opn o.short o.hi (!s.onVco) s.sfe.outN)).event
      Reg.SFE_STAT 3 {}
    (s.modSfe (fun x => { x with st := 0 })).sfeResume
  else s

/-- SFE_OUTPUT (R446 to R455): one response output `y`, with the state of the compliance comparator; the rounding of the
moving average is open (log 2). -/
def execSfeOutput (t : Nat) (y : Int) (trip : Bool) (s : State) : Host.Outcome State Fault Refusal :=
  if s.sfe.st = 1 ∨ s.sfe.st = 2 then
    let s := s.at (s.hclkDue t (s.sfe.startAt + s.sfe.period))
    let y := clampI (-8388608) 8388607 y
    let l := s.sfe.avg ++ [y]
    let l := l.drop (l.length - s.sfe.len)
    let q := s.quot (offSum l) l.length
    let s := q.1.modSfe (fun x => { x with avg := l, outN := x.outN + 1, startAt := s.now })
    .next ((if s.sfe.st = 1 then s.sfeScan y q.2 trip else s.sfeInjOut q.2 trip).updBoards)
  else .next (s.at t)

/-! ## Loop output (R458 to R460) -/

/-- The newest value of the selected source and whether it may be used (R458, R459); 3 applies DIE. -/
def State.loopValue (s : State) : Int × Bool :=
  match s.fld Reg.SFE_LOOP_CTL 2 1 with
  | 0 =>
    (sgn 16 (s.regBefore Reg.SFE_LOOP_HOST).toNat, s.sfe.loopHost)
  | 1 =>
    let i := s.fld Reg.SFE_LOOP_CTL 6 3
    let r := fget 0 s.sfe.res i
    (if s.bit (sfeCh i + 16) 8 then r else floorDiv r 256,
      bitOf s.sfe.valid.toNat i && decide (s.now ≤ fget 0 s.sfe.lastAt i + msT 1000))
  | _ => (s.thm.temp, s.thm.converted && decide (16 ≤ s.thm.okRun))

/-- The commanded current, µA (R458). -/
def loopCurrent (v lo hi : Int) : Nat := (clampI 3800 20500 (4000 + Int.fdiv (16000 * (v - lo)) (hi - lo))).toNat

/-- The command of one update: 0 while off, the fault level, or the scaled value (R458, R459). -/
def State.loopStep (s : State) : State :=
  if !s.bit Reg.SFE_LOOP_CTL 0 then s.modSfe (fun x => { x with loopCmd := 0, loopSrcBad := false })
  else
    let lo := sgn 16 (s.reg Reg.SFE_LOOP_LO).toNat
    let hi := sgn 16 (s.reg Reg.SFE_LOOP_HI).toNat
    let x := s.loopValue
    let bad := decide (lo = hi) || !x.2 || (s.bit Reg.SFE_LOOP_CTL 8 && decide (s.mode.active = .safe))
    let was := s.sfe.loopSrcBad
    let cmd := if bad then (if s.bit Reg.SFE_LOOP_CTL 7 then 21500 else 3500) else loopCurrent x.1 lo hi
    let s := s.modSfe (fun y => { y with loopCmd := cmd, loopSrcBad := bad })
    if bad && !was then s.event Reg.SFE_STAT 7 {} else s

/-- The monitor compares the measured current with the command it was driven by (R460). -/
def State.loopWatch (s : State) (measured : Nat) : State :=
  let off := decide (200 < ((measured : Int) - s.sfe.loopCmd).natAbs)
  s.modSfe (fun x => { x with
    loopCur := measured % 65536
    loopBadAt := if off then x.loopBadAt.orElse (fun _ => some s.now) else none
    loopOkAt := if off then none else x.loopOkAt.orElse (fun _ => some s.now) })

/-- LOOP_UPDATE (R458): every 100 µs. -/
def execLoopUpdate (t : Nat) (measured : Nat) (s : State) : Host.Outcome State Fault Refusal :=
  let s := s.at (s.hclkDue t (s.sfe.loopAt + usT 100))
  let s := s.modSfe (fun x => { x with loopAt := s.now })
  .next (if s.mode.active = .reset then s else (s.loopWatch measured).loopStep)

/-- LOOP_FAULT_TIMER (R460): 10 ms of mismatch, or 10 ms of agreement that clears it. -/
def execLoopFaultTimer (t : Nat) (s : State) : Host.Outcome State Fault Refusal :=
  match s.sfe.loopBadAt, s.sfe.loopOkAt with
  | some a, _ =>
    let s := s.at (s.hclkDue t (a + msT 10))
    .next (if s.sfe.loopFault then s else (s.modSfe (fun x => { x with loopFault := true })).event Reg.SFE_STAT 6 {})
  | none, some a => .next ((s.at (s.hclkDue t (a + msT 10))).modSfe (fun x => { x with loopFault := false }))
  | none, none => .next (s.at t)

end Sys2Proof.Machine
end

