-- ==== Sys2Proof/Machine/Journal.lean ====
section
/-! DEFINITION. The MRAM journal: records, appends, checkpoints, replay (R474 to R478). The payload layouts are the model's
(log 30); their lengths decide only the space a record takes. -/

namespace Sys2Proof.Machine

/-- Change Saggar's state. -/
def State.modSec (s : State) (f : Sec → Sec) : State := { s with sec := f s.sec }

/-- Bytes of the journal ring. -/
def ringBytes : Nat := 8388608

/-- Bytes that a record takes: header, payload padded to 16. -/
def JRec.size (r : JRec) : Nat := 16 + (r.payload.length + 15) / 16 * 16

/-- The base checkpoint: of the valid slots the one that covers more (R477). -/
def Sec.base (x : Sec) : Option Ckpt :=
  match x.ckptA, x.ckptB with
  | some a, some b => some (if a.cov < b.cov then b else a)
  | some a, none => some a
  | none, b => b

/-- All records that replay applies, oldest first. -/
def Sec.recs (x : Sec) : List JRec :=
  (match x.base with
   | some b => b.recs
   | none => []) ++ x.ring

/-- The newest payload of a type (R477). -/
def Sec.newest (x : Sec) (typ : Nat) : Option (List Nat) :=
  (x.recs.reverse.find? (fun r => decide (r.typ = typ))).map (fun r => r.payload)

/-- `n` payload bytes from `a`, as a number. -/
def payNat (p : List Nat) (a n : Nat) : Nat := bytesToNat ((p.drop a).take n)

/-- The pages of a RETIRED record. -/
def JRec.pages (r : JRec) : List Nat := (List.range (r.payload.length / 2)).map (fun i => payNat r.payload (2 * i) 2)

/-- The retired pages that the journal lists: RETIRED records add to the list (R477), one without a page empties it (R89,
log 30). -/
def Sec.retiredPages (x : Sec) : List Nat :=
  (x.recs.filter (fun r => decide (r.typ = 3))).foldl (fun l r => if r.payload = [] then [] else l ++ r.pages) []

/-- Does record `q` take the place of an older record `r`? SLOT records count by slot; RETIRED records all stay until the
list is emptied. -/
def JRec.replaces (q r : JRec) : Bool :=
  if r.typ = 3 then decide (q.typ = 3) && decide (q.payload = [])
  else if r.typ = 5 ∨ r.typ = 6 then decide (q.typ = 5) || decide (q.typ = 6)
  else decide (q.typ = r.typ) && (decide (r.typ ≠ 4) || decide (q.payload.headD 0 = r.payload.headD 0))

/-- Is a record superseded by one after it? -/
def superseded (r : JRec) (later : List JRec) : Bool := later.any (fun q => q.replaces r)

/-- The live records of a list: no PAD, none superseded (R478). -/
def liveRecs : List JRec → List JRec
  | [] => []
  | r :: rest => if r.typ = 0xFF ∨ superseded r rest then liveRecs rest else r :: liveRecs rest

/-- Compaction starts (R478): it covers every record appended so far. -/
def State.jCompact (s : State) : State :=
  let live := liveRecs s.sec.recs
  s.modSec (fun x => { x with
    compacting := some { cov := x.jseq - 1, off := x.head, recs := live }
    jProg := { run := x.jProg.run + 1, st := 1, pos := 0, total := live.length } })

/-- Does a record of this size fit, with the PAD record before it (R475, R478)? -/
def Sec.room (x : Sec) (size : Nat) : Bool :=
  let pad := if x.head + size ≤ ringBytes then 0 else ringBytes - x.head
  decide (x.occupied + pad + size ≤ ringBytes)

/-- A record at the head. -/
def Sec.put (x : Sec) (typ : Nat) (payload : List Nat) (size now : Nat) : Sec :=
  { x with
    ring := x.ring ++ [{ typ, seq := x.jseq, payload }], head := (x.head + size) % ringBytes
    occupied := x.occupied + size, jseq := (x.jseq + 1) % 2 ^ 32, jAt := now }

/-- Saggar appends a record (R475, R476, R478). None starts while a brown-out comparator is tripped or after a full
ring; the second part says whether it was written. -/
def State.jAppend (s : State) (typ : Nat) (payload : List Nat) : State × Bool :=
  let size := JRec.size { typ, seq := 0, payload }
  if s.sec.tripped ≠ 0 then (s, false)
  else if !s.sec.room size then (s.event Reg.SEC_STAT 8 {}, false)
  else
    let s := if s.sec.head + size ≤ ringBytes then s
      else s.modSec (fun x => x.put 0xFF [] (ringBytes - x.head) s.now)
    let s := s.modSec (fun x => x.put typ payload size s.now)
    (if 6291456 ≤ s.sec.occupied ∧ s.sec.compacting = none then s.jCompact else s, true)

/-- The checkpoint is written and reads back well: it replaces the slot that covers less, and older records are free. -/
def State.jCheckpoint (s : State) (c : Ckpt) : State :=
  s.modSec (fun x =>
    let intoB := match x.ckptA, x.ckptB with
      | some a, some b => decide (b.cov ≤ a.cov)
      | some _, none => true
      | none, _ => false
    let ring := x.ring.filter (fun r => decide (c.cov < r.seq))
    { x with
      ckptA := if intoB then x.ckptA else some c, ckptB := if intoB then some c else x.ckptB, ring
      occupied := (x.head + ringBytes - c.off) % ringBytes, compacting := none
      jProg := { x.jProg with st := 2, pos := x.jProg.total } })

/-- Compaction ends without a valid checkpoint: its slot is lost, the journal stands (R478). -/
def State.jCompactLost (s : State) : State :=
  if s.sec.compacting.isNone then s
  else s.modSec (fun x =>
    let lowB := match x.ckptA, x.ckptB with
      | some a, some b => decide (b.cov ≤ a.cov)
      | _, _ => x.ckptA.isSome
    { x with ckptA := if lowB then x.ckptA else none, ckptB := if lowB then none else x.ckptB, compacting := none
             jProg := { x.jProg with st := 3 } })

/-- Replay drops a torn record (R476). -/
def State.jTorn (s : State) (torn : Bool) : State :=
  if torn || s.sec.torn then
    let s := if s.sec.torn then s.modSec (fun x =>
        let z := (x.ring.getLast?.map JRec.size).getD 0
        { x with torn := false, ring := x.ring.dropLast, head := (x.head + ringBytes - z) % ringBytes
                 occupied := x.occupied - z, jseq := x.jseq - 1 })
      else s
    (s.bump 0x880F).event Reg.SEC_STAT 7 {}
  else s

/-- The attestation key index resumes at the newest reserved limit (R480). -/
def State.attReplay (s : State) : State :=
  let l := match s.sec.recs.reverse.find? (fun r => decide (r.typ = 5) || decide (r.typ = 6)) with
    | some r => payNat r.payload 0 4
    | none => 0
  s.modSec (fun x => { x with attNext := l, attLimit := l })

/-! ## Records -/

/-- BOOT_CFG: memory test level, active slot, region sizes. -/
def State.jBootCfg (s : State) (level slot : Nat) (sizes : List Nat) : State × Bool :=
  s.jAppend 1 ([level, slot] ++ sizes.flatMap (natToBytes 2))

/-- Memory test level, active slot and region sizes that the journal holds; without a record the factory's (R87, R321). -/
def Sec.bootCfg (x : Sec) : Nat × Nat × List Nat :=
  match x.newest 1 with
  | some p => (payNat p 0 1, payNat p 1 1, (List.range 6).map (fun i => payNat p (2 + 2 * i) 2))
  | none => (1, 0, [16, 512, 64, 1280, 3072, 32])

/-- CONE: the levels and hysteresis values in force (R437). -/
def State.jCone (s : State) : State :=
  (s.jAppend 8 ((natToBytes 2 (s.reg Reg.THM_CONE12).toNat) ++ natToBytes 2 (s.reg Reg.THM_CONE3).toNat ++
    natToBytes 2 (s.reg Reg.THM_HYST).toNat)).1

/-- VCO_BAND: the 32 entries of CLK_VCO_BAND (R54). -/
def State.jBands (s : State) : State :=
  (s.jAppend 2 ((List.range 32).flatMap (fun k => natToBytes 4 (s.wideN (Id.CLK_VCO_BAND + k))))).1

/-- SEC_JRNL_INFO. -/
def State.jInfo (s : State) : BitVec 128 :=
  let b := (s.sec.base.map (fun c => c.cov)).getD 0
  ofWords s.sec.head s.sec.occupied s.sec.jseq b

end Sys2Proof.Machine
end

