-- ==== Sys2Proof/Machine/Secure.lean ====
section
/-! DEFINITION. Saggar: images and updates, attestation, OTP, limits, the staged configuration, the master emission permit,
the watchdog, brown-outs (R465 to R483, R533). -/

namespace Sys2Proof.Machine

/-! ## Refusals (R465) -/

/-- A SEC command is refused: 1 MODE, 2 PATH, 3 STATE. -/
def State.secRefuse (s : State) (reason path : Nat) : State :=
  (s.modSec (fun x => { x with refuse := reason })).event Reg.SEC_STAT 11 { detail := reason, path }

/-- BOOT ended with no image (R88). -/
def State.imageFail (s : State) : Bool :=
  decide (s.mode.active = .safe) && s.mode.bootFault && decide (s.mode.failCode = 1)

/-- A command of the update: from Greenware or the host, in SERVICE or after an image failure; `f` runs in its states. -/
def State.updCmd (s : State) (path : Path) (ok : Bool) (f : State → State) : State :=
  if path = .saggar then s.secRefuse 2 (pathCode path)
  else if !(decide (s.mode.active = .service) || s.imageFail) then s.secRefuse 1 (pathCode path)
  else if !ok || s.sec.restarting then s.secRefuse 3 (pathCode path)
  else f s

/-- A command of the host in SERVICE. -/
def State.hostCmd (s : State) (path : Path) (ok : Bool) (f : State → State) : State :=
  if path ≠ .host then s.secRefuse 2 (pathCode path)
  else if s.mode.active ≠ .service then s.secRefuse 1 (pathCode path)
  else if !ok || s.sec.restarting then s.secRefuse 3 (pathCode path)
  else f s

/-- A command of any path, in any mode but RESET, BOOT and STANDBY. -/
def State.anyCmd (s : State) (path : Path) (ok : Bool) (f : State → State) : State :=
  if s.mode.active = .reset ∨ s.mode.active = .boot ∨ s.mode.active = .standby then s.secRefuse 1 (pathCode path)
  else if !ok || s.sec.restarting then s.secRefuse 3 (pathCode path)
  else f s

/-- A command that needs a journal record goes on behind it, or is refused (R478). -/
def State.withRecord (s : State) (path : Path) (r : State × Bool) (f : State → State) : State :=
  if r.2 then f r.1 else (if s.sec.tripped ≠ 0 then s else r.1).secRefuse 3 (pathCode path)

/-! ## Images (R468, R469) -/

/-- Bytes of MRAM from offset `a`. -/
def State.mramBytes (s : State) (a n : Nat) : List Nat := (List.range n).map (fun i => (fget 0 s.sec.mram (a + i)).toNat)

/-- The first byte of an image slot. -/
def slotBase (k : Nat) : Nat := 8388608 * k

/-- A little-endian field of slot `k`'s header. -/
def State.hdrNat (s : State) (k a n : Nat) : Nat := bytesToNat (s.mramBytes (slotBase k + a) n)

/-- Bytes of slot `k`'s image. -/
def State.imageSize (s : State) (k : Nat) : Nat := 512 + s.hdrNat k 16 4 + 2668

/-- A big-endian word of the signature. -/
def State.sigWord (s : State) (k a : Nat) : Nat :=
  bytesToNat (s.mramBytes (slotBase k + 512 + s.hdrNat k 16 4 + a) 4).reverse

/-- Is the format of slot `k`'s image in range? -/
def State.imageFormat (s : State) (k : Nat) : Bool :=
  let len := s.hdrNat k 16 4
  decide (s.hdrNat k 0 4 = 0x5A414C32) && decide (s.hdrNat k 4 4 = 1) && decide (len % 64 = 0) && decide (64 ≤ len) &&
    decide (len ≤ 8385408) && decide (s.hdrNat k 8 4 ≤ 64) && decide (s.sigWord k 4 = 3) && decide (s.sigWord k 2184 = 7)

/-- Does the signature verify under the manifest key that the header names? -/
def State.imageSigned (s : State) (k : Nat) : Bool :=
  let key := s.hdrNat k 20 1
  decide (key ≤ 3) && Sys2Proof.Config.lmsVerify (s.mramBytes (slotBase k + 56 + 56 * key) 56) (s.mramBytes (slotBase k) 512)
    (s.mramBytes (slotBase k + 512 + s.hdrNat k 16 4) 2668)

/-- The first check of R469 that slot `k` fails; 0 with none. -/
def State.imageReason (s : State) (k : Nat) (readErr : Bool) : Nat :=
  let b := slotBase k
  if !s.imageFormat k then 1
  else if Sys2Proof.Config.sha256 (s.mramBytes (b + 56) 224) ≠ Sys2Proof.Config.otpKeyHash then 2
  else if bitOf s.sec.revoked.toNat (s.hdrNat k 20 1) then 3
  else if (Sys2Proof.Config.sha256 (s.mramBytes (b + 512) (s.hdrNat k 16 4))).toNat ≠ s.hdrNat k 24 32 then 4
  else if !s.imageSigned k then 5
  else if s.hdrNat k 8 4 < s.sec.otpCounter then 6
  else if readErr then 7
  else 0

/-- The SHA-256 of slot `k`'s header. -/
def State.hdrHash (s : State) (k : Nat) : Nat := (Sys2Proof.Config.sha256 (s.mramBytes (slotBase k) 512)).toNat

/-- The state of a slot: 0 EMPTY, 1 VALID, 2 INVALID. -/
def State.setSlot (s : State) (k v : Nat) : State :=
  s.modSec (fun x => if k = 0 then { x with slot0 := v } else { x with slot1 := v })

/-- A SLOT record: slot, state, sec_ver, header hash (R475). -/
def State.jSlot (s : State) (k v : Nat) : State × Bool :=
  s.jAppend 4 ([k, v] ++ natToBytes 4 (s.hdrNat k 8 4) ++ natToBytes 32 (s.hdrHash k))

/-! ## Updates (R471, R472) -/

/-- The slot that an update writes. -/
def State.updTarget (s : State) : Nat := if s.imageFail then s.fld Reg.SEC_ARG 2 2 else 1 - s.sec.booted

/-- The update state. -/
def State.setUpd (s : State) (st : Nat) : State := s.modSec (fun x => { x with upd := st })

/-- upd_open. -/
def State.updOpen (s : State) (path : Path) : State :=
  s.updCmd path (decide (s.sec.upd = 0 ∨ s.sec.upd = 3)) (fun s =>
    let k := s.updTarget
    s.withRecord path (s.jSlot k 2) (fun s =>
      (((s.setSlot k 2).setUpd 1).modSec (fun x => { x with updSlot := k })).putWide 0x8803 0))

/-- upd_verify. -/
def State.updVerify (s : State) (path : Path) : State :=
  s.updCmd path (decide (s.sec.upd = 1)) (fun s =>
    (s.setUpd 2).modSec (fun x => { x with
      vProg := { run := x.vProg.run + 1, st := 1, pos := 0, total := s.imageSize s.sec.updSlot } }))

/-- The verification ends with the reason of R469, 0 for a pass. -/
def State.updVerified (s : State) (reason : Nat) : State :=
  let k := s.sec.updSlot
  let s := if reason = 0 then s else s.modSec (fun x => { x with verifyReason := reason })
  let r := if reason = 0 then s.jSlot k 1 else (s, false)
  if r.2 then
    let s := ((r.1.setSlot k 1).setUpd 3).modSec (fun x => { x with vProg := { x.vProg with st := 2, pos := x.vProg.total } })
    let s := if s.imageFail then { s with mode := { s.mode with bootFault := false, retryStage := some 2 } } else s
    s.event Reg.SEC_STAT 0 {}
  else ((r.1.setUpd 0).modSec (fun x => { x with vProg := { x.vProg with st := 3 } })).event Reg.SEC_STAT 1 { detail := reason }

/-- upd_activate: ROLLBACK is checked again (R481). -/
def State.updActivate (s : State) (path : Path) : State :=
  s.updCmd path (decide (s.sec.upd = 3)) (fun s =>
    let k := s.sec.updSlot
    if s.hdrNat k 8 4 < s.sec.otpCounter then (s.modSec (fun x => { x with verifyReason := 6 })).secRefuse 3 (pathCode path)
    else
      let c := s.sec.bootCfg
      s.withRecord path (s.jBootCfg c.1 k c.2.2) (fun s => (s.setUpd 0).modSec (fun x => { x with active := k })))

/-- upd_abort: a slot that was not activated stays INVALID. -/
def State.updAbort (s : State) (path : Path) : State :=
  s.updCmd path (decide (s.sec.upd ≠ 0)) (fun s =>
    let k := s.sec.updSlot
    let s := if s.sec.upd = 2 then s.modSec (fun x => { x with vProg := { x.vProg with st := 3 } }) else s
    if s.sec.upd = 3 then s.withRecord path (s.jSlot k 2) (fun s => (s.setSlot k 2).setUpd 0) else s.setUpd 0)

/-- A write of SEC_UPD_DATA (R471): the mailbox error, 2 outside OPEN. -/
def State.updData (s : State) (v : BitVec 128) : State × Nat :=
  if s.sec.upd ≠ 1 then (s, 2)
  else
    let pos := s.wideN 0x8803
    if 8388608 < pos + 16 ∨ s.sec.tripped ≠ 0 then (s.event Reg.SEC_STAT 1 {}, 0)
    else
      let b := slotBase s.sec.updSlot + pos
      let s := forN 16 s (fun s i => s.modSec (fun x => { x with
        mram := fset 0 x.mram (b + i) (BitVec.ofNat 8 (v.toNat / 256 ^ i)) }))
      (s.putWide 0x8803 (pos + 16), 0)

/-- UPD_OPEN (R471). -/
def execUpdOpen (t : Nat) (path : Path) (s : State) : Host.Outcome State Fault Refusal :=
  .next ((s.at t).onBar (fun s => s.updOpen path))

/-- UPD_VERIFY (R471). -/
def execUpdVerify (t : Nat) (path : Path) (s : State) : Host.Outcome State Fault Refusal :=
  .next ((s.at t).onBar (fun s => s.updVerify path))

/-- UPD_VERIFY_DONE (R469, R471, R474): `ecc` is the worst that the words of the image in MRAM showed (R490). -/
def execUpdVerifyDone (t : Nat) (ecc : Ecc) (s : State) : Host.Outcome State Fault Refusal :=
  let s := s.at t
  if s.sec.upd = 2 then
    let s1 := match ecc with
      | .clean => s
      | .corrected => s.faultCe 0x910 {}
      | .uncorrectable => s.fault 0xB10 Reg.SEC_STAT (flag16 13) {}
    .next ((s1.updVerified (s.imageReason s.sec.updSlot (decide (ecc = .uncorrectable)))).coilLive s.safeLive)
  else .next s

/-- UPD_ACTIVATE (R471). -/
def execUpdActivate (t : Nat) (path : Path) (s : State) : Host.Outcome State Fault Refusal :=
  .next ((s.at t).onBar (fun s => s.updActivate path))

/-- UPD_ABORT (R471). -/
def execUpdAbort (t : Nat) (path : Path) (s : State) : Host.Outcome State Fault Refusal :=
  .next ((s.at t).onBar (fun s => s.updAbort path))

/-! ## Attestation (R479, R480) -/

/-- The 128-byte report with key index `q`, as a number. -/
def State.attReport (s : State) (q : Nat) : Nat :=
  packFields [(128, (s.wideRaw 0x8804).toNat), (128, (s.wideRaw 0x8805).toNat), (256, s.hdrHash s.sec.booted),
    (32, s.sec.bootVer), (32, s.sec.otpCounter), (32, s.wideN Id.GLB_CFG_CRC_REF), (32, s.wideN Id.CAP_FIELD_CRC_REF),
    (8, s.mode.active.code), (1, s.sec.booted), (1, b2n s.sec.permit), (1, b2n s.sec.sealed), (21, 0), (32, q),
    (64, s.utime), (64, s.pins.unitId.toNat)]

/-- The report as eight words of 16 bytes. -/
def reportWords (r : Nat) : List (BitVec 128) := (List.range 8).map (fun i => BitVec.ofNat 128 (r / 2 ^ (128 * i)))

/-- Signing starts with the next key index, which is reserved. -/
def State.attSign (s : State) : State :=
  let q := s.sec.attNext
  s.modSec (fun x => { x with attBusy := true, attNext := q + 1, attRep := reportWords (s.attReport q) })

/-- attest: att_refused while a signature runs, for an exhausted or lost key and for a full journal. -/
def State.attest (s : State) (path : Path) : State :=
  s.anyCmd path true (fun s =>
    let q := s.sec.attNext
    if s.sec.attBusy || s.sec.attDead || decide (33554432 ≤ q) then s.event Reg.SEC_STAT 3 { path := pathCode path }
    else if q < s.sec.attLimit then s.attSign
    else
      let r := s.jAppend 5 (natToBytes 4 (q + 64))
      if r.2 then (r.1.modSec (fun x => { x with attLimit := q + 64 })).attSign
      else (r.1.event Reg.SEC_STAT 3 { path := pathCode path }).secRefuse 3 (pathCode path))

/-- park: the exact next index is journaled and is the limit (R480). -/
def State.parkKey (s : State) : State × Bool :=
  let r := s.jAppend 6 (natToBytes 4 s.sec.attNext)
  (if r.2 then r.1.modSec (fun x => { x with attLimit := x.attNext }) else r.1, r.2)

/-- The signed output: report, signature, 12 zero bytes (R479). -/
def State.attOutput (s : State) : List (BitVec 128) :=
  let sig := (List.range 328).map (fun n =>
    Sys2Proof.Config.hssSign (bytesToNat (natToBytes 4 (s.sec.attNext - 1))) s.sec.attRep n)
  s.sec.attRep ++ (sig.take 327) ++ [BitVec.ofNat 128 ((sig.getD 327 0).toNat % 2 ^ 32)]

/-- SEC_ATT_STATE (R483): after a JOURNAL retry no key remains (R89). -/
def State.attState (s : State) : BitVec 128 :=
  ofWords s.sec.attNext s.sec.attLimit (if s.sec.attDead then 0 else 33554432 - s.sec.attNext) 0

/-- A read of SEC_ATT_OUT: the next 16 bytes, none after the end. -/
def State.attRead (s : State) : State × Option (BitVec 128) :=
  match s.sec.attOut[s.sec.attRead]? with
  | some v => (s.modSec (fun x => { x with attRead := x.attRead + 1 }), some v)
  | none => (s, none)

/-- ATTEST (R479). -/
def execAttest (t : Nat) (path : Path) (s : State) : Host.Outcome State Fault Refusal :=
  .next ((s.at t).onBar (fun s => s.attest path))

/-- ATTEST_DONE (R479). -/
def execAttestDone (t : Nat) (s : State) : Host.Outcome State Fault Refusal :=
  let s := s.at t
  .next (if s.sec.attBusy then
      (s.modSec (fun x => { x with attBusy := false, attOut := s.attOutput, attRead := 0 })).event Reg.SEC_STAT 2 {}
    else s)

/-- SEC_CMD.park. -/
def State.parkCmd (s : State) (path : Path) : State := s.anyCmd path true (fun s => s.withRecord path s.parkKey id)

/-- PARK (R480). -/
def execPark (t : Nat) (path : Path) (s : State) : Host.Outcome State Fault Refusal :=
  .next ((s.at t).onBar (fun s => s.parkCmd path))

/-! ## Compaction (R478) -/

/-- SEC_CMD.compact; one that already runs goes on (log 30). -/
def State.compactCmd (s : State) (path : Path) : State :=
  s.anyCmd path true (fun s => if s.sec.compacting.isSome then s else s.jCompact)

/-- COMPACT (R478). -/
def execCompact (t : Nat) (path : Path) (s : State) : Host.Outcome State Fault Refusal :=
  .next ((s.at t).onBar (fun s => s.compactCmd path))

/-- COMPACT_DONE (R478): only a checkpoint that reads back well counts. -/
def execCompactDone (t : Nat) (checkOk : Bool) (s : State) : Host.Outcome State Fault Refusal :=
  let s := s.at t
  match s.sec.compacting with
  | some c => .next (if checkOk then (s.jCheckpoint c).event Reg.SEC_STAT 9 {} else s.jCompactLost)
  | none => .next s

/-! ## OTP (R470) and limits (R475) -/

/-- A burn starts. -/
def State.startBurn (s : State) (b : Burn) : State := s.modSec (fun x => { x with burn := some b })

/-- rollback_commit. -/
def State.rollbackCommit (s : State) (path : Path) : State :=
  s.hostCmd path (s.sec.burn.isNone && decide (s.sec.otpCounter < s.sec.bootVer)) (fun s => s.startBurn (.counter s.sec.bootVer))

/-- revoke: not the key of the booted image, not the last one. -/
def State.revoke (s : State) (path : Path) : State :=
  let k := s.fld Reg.SEC_ARG 1 0
  let last := decide (popCount 4 (s.sec.revoked.toNat ||| 2 ^ k) = 4)
  s.hostCmd path (s.sec.burn.isNone && decide (k ≠ s.sec.bootKey) && !last) (fun s => s.startBurn (.revoke k))

/-- The four EBM values in force, as SEC_LIMITS holds them. -/
def State.ebmLimits (s : State) : BitVec 128 :=
  ofWords (s.wideN Id.EMT_EBM_FAST_CAP) (s.wideN (Id.EMT_EBM_FAST_CAP + 1)) (s.wideN (Id.EMT_EBM_FAST_CAP + 2))
    (s.wideN (Id.EMT_EBM_FAST_CAP + 3))

/-- seal: only with the EBM values equal to the journaled LIMITS. -/
def State.sealCmd (s : State) (path : Path) : State :=
  let same := match s.sec.newest 7 with
    | some p => decide (payNat p 0 16 = s.ebmLimits.toNat)
    | none => false
  s.hostCmd path (s.sec.burn.isNone && same) (fun s => s.startBurn .seal)

/-- Saggar writes the EBM values and commits the lock (R167, R475). -/
def State.loadLimits (s : State) (v : Nat) : State :=
  let s := forN 4 s (fun s i => s.putWide (Id.EMT_EBM_FAST_CAP + i) (bitsOf v (32 * i + 31) (32 * i)))
  ({ s with locks := fset 0 s.locks Reg.EMT_EBM_LOCK 1 }).ebmCommit

/-- limits_store. -/
def State.limitsStore (s : State) (path : Path) : State :=
  s.hostCmd path (!s.sec.sealed) (fun s =>
    let v := s.wideN 0x880D
    s.withRecord path (s.jAppend 7 (natToBytes 16 v)) (fun s =>
      if s.committed Reg.EMT_EBM_LOCK then s else s.loadLimits v))

/-- The fuses are burned. -/
def State.burned (s : State) (b : Burn) : State :=
  (s.modSec (fun x => { x with
    burn := none
    otpCounter := match b with
      | .counter v => max x.otpCounter v
      | .revoke _ => x.otpCounter
      | .seal => x.otpCounter
    revoked := match b with
      | .revoke k => x.revoked ||| BitVec.ofNat 4 (2 ^ k)
      | .counter _ => x.revoked
      | .seal => x.revoked
    sealed := x.sealed || decide (b = .seal) })).event Reg.SEC_STAT 10 {}

/-- ROLLBACK_COMMIT (R470). -/
def execRollbackCommit (t : Nat) (path : Path) (s : State) : Host.Outcome State Fault Refusal :=
  .next ((s.at t).onBar (fun s => s.rollbackCommit path))

/-- REVOKE (R470). -/
def execRevoke (t : Nat) (path : Path) (s : State) : Host.Outcome State Fault Refusal :=
  .next ((s.at t).onBar (fun s => s.revoke path))

/-- OTP_DONE (R470). -/
def execOtpDone (t : Nat) (s : State) : Host.Outcome State Fault Refusal :=
  let s := s.at t
  match s.sec.burn with
  | some b => .next (s.burned b)
  | none => .next s

/-- LIMITS_STORE (R475). -/
def execLimitsStore (t : Nat) (path : Path) (s : State) : Host.Outcome State Fault Refusal :=
  .next ((s.at t).onBar (fun s => s.limitsStore path))

/-- SEAL (R475). -/
def execSeal (t : Nat) (path : Path) (s : State) : Host.Outcome State Fault Refusal :=
  .next ((s.at t).onBar (fun s => s.sealCmd path))

/-! ## Saggar-held configuration (R473) -/

/-- Staged value SEC_SCFG_n. -/
def State.scfgVal (s : State) (n : Nat) : Nat := s.wideN (0x8820 + n)

/-- The mode rule of the groups selected: 0 accepted, 1 MODE, 3 STATE. -/
def State.scfgMode (s : State) : Nat :=
  let g := s.fld Reg.SEC_ARG 5 3
  let rs := decide (s.mode.active = .ready) || decide (s.mode.active = .service)
  let safe := decide (s.mode.active = .safe) && decide (s.mode.failCode = 5)
  if (bitOf g 0 && !rs && !safe) || ((bitOf g 1 || bitOf g 2) && !rs) then 1
  else if bitOf g 0 && rs && s.wheelRuns then 3
  else 0

/-- Are the staged values of the selected groups in range? -/
def State.scfgOk (s : State) : Bool :=
  let g := s.fld Reg.SEC_ARG 5 3
  let rgn := (s.recPages ((List.range 6).map s.scfgVal)).isSome &&
    (List.range 14).all (fun i => bitOf (s.scfgVal (6 + i)) 9)
  let grd := decide (s.scfgVal 20 ≤ 3) && decide (s.scfgVal 21 ≤ 65535) && decide (100 ≤ s.scfgVal 22) &&
    decide (s.scfgVal 22 ≤ 4000)
  (!bitOf g 0 || rgn) && (!bitOf g 1 || grd)

/-- Region masks in force. -/
def State.putMasks (s : State) (m : Nat → Nat) : State :=
  forN 7 s (fun s r => ((s.setReg (Reg.MEM_RGN_RD + 4 * r) (BitVec.ofNat 16 (m r % 1024))).setReg (Reg.MEM_RGN_WR + 4 * r)
    (BitVec.ofNat 16 (m (7 + r) % 1024))))

/-- The guard registers. -/
def State.putGuard (s : State) (m : Nat → Nat) : State :=
  ((s.setReg Reg.CAP_GUARD_CTL (BitVec.ofNat 16 (m 0))).setReg Reg.CAP_GUARD_RST (BitVec.ofNat 16 (m 1))).setReg
    Reg.CAP_GUARD_TMO (BitVec.ofNat 16 (m 2))

/-- A new field CRC reference: valid at the next sweep that matches it (R364, R473). -/
def State.fieldRef (s : State) (v : Nat) : State :=
  let s := s.putWide Id.CAP_FIELD_CRC_REF v
  { s with cap := { s.cap with refWritten := true, sweepOk := false } }

/-- The groups that the newest SCFG record restores. -/
def Sec.scfgGroups (x : Sec) : Nat := match x.newest 10 with
  | some p => payNat p 0 1
  | none => 0

/-- An SCFG record: groups ever applied, masks, guard registers, reference (R475). -/
def State.jScfg (s : State) (groups : Nat) : State × Bool :=
  s.jAppend 10 ([groups] ++ ((List.range 7).flatMap (fun r => natToBytes 2 (s.reg (Reg.MEM_RGN_RD + 4 * r)).toNat)) ++
    ((List.range 7).flatMap (fun r => natToBytes 2 (s.reg (Reg.MEM_RGN_WR + 4 * r)).toNat)) ++
    natToBytes 2 (s.reg Reg.CAP_GUARD_CTL).toNat ++ natToBytes 2 (s.reg Reg.CAP_GUARD_RST).toNat ++
    natToBytes 2 (s.reg Reg.CAP_GUARD_TMO).toNat ++ natToBytes 4 (s.wideN Id.CAP_FIELD_CRC_REF))

/-- The selected groups are applied in one step (sizes wait for the next build) and journaled. -/
def State.scfgRun (s : State) : State :=
  let g := s.fld Reg.SEC_ARG 5 3
  let s := if bitOf g 0 then
      forN 6 (s.putMasks (fun i => s.scfgVal (6 + i))) (fun s r =>
        s.setReg (Reg.MEM_RGN_SIZE + 4 * r) (BitVec.ofNat 16 (s.scfgVal r)))
    else s
  let s := if bitOf g 1 then s.putGuard (fun i => s.scfgVal (20 + i)) else s
  let s := if bitOf g 2 then s.fieldRef (s.scfgVal 23) else s
  let c := s.sec.bootCfg
  let s := if bitOf g 0 then (s.jBootCfg c.1 c.2.1 ((List.range 6).map s.scfgVal)).1 else s
  (s.jScfg (s.sec.scfgGroups ||| g)).1.event Reg.SEC_STAT 15 {}

/-- SEC_CMD.scfg_apply. -/
def State.scfgApply (s : State) (path : Path) : State :=
  if path ≠ .host then s.secRefuse 2 (pathCode path)
  else if s.fld Reg.SEC_ARG 5 3 = 0 then s.event Reg.SEC_STAT 15 {}
  else if s.scfgMode ≠ 0 then s.secRefuse s.scfgMode (pathCode path)
  else if !s.scfgOk || s.sec.restarting || decide (s.sec.tripped ≠ 0) then s.secRefuse 3 (pathCode path)
  else if !s.sec.room 128 then (s.event Reg.SEC_STAT 8 {}).secRefuse 3 (pathCode path)
  else s.scfgRun

/-- SCFG_APPLY (R473). -/
def execScfgApply (t : Nat) (path : Path) (s : State) : Host.Outcome State Fault Refusal :=
  .next ((s.at t).onBar (fun s => s.scfgApply path))

/-! ## Permit, watchdog, supplies (R466, R467, R533) -/

/-- The conditions of the master emission permit (R466). -/
def State.permitOk (s : State) : Bool :=
  s.mode.bootDone && s.committed Reg.EMT_EBM_LOCK && decide (s.safeLive = 0) && decide (s.mode.active ≠ .safe) &&
    !s.sec.restarting

/-- PERMIT_SET (R466). -/
def execPermitSet (t : Nat) (s : State) : Host.Outcome State Fault Refusal :=
  let s := s.at t
  .next (if s.permitOk && !s.sec.permit then (s.modSec (fun x => { x with permit := true })).event Reg.SEC_STAT 4 {} else s)

/-- SAGGAR_WATCHDOG (R467): what Saggar was doing besides a record in flight is lost with its restart (log 31). -/
def execSaggarWatchdog (t : Nat) (s : State) : Host.Outcome State Fault Refusal :=
  let s := s.at t
  let live := s.safeLive
  let s := (s.permitOff.raise Reg.SEC_STAT (flag16 12)).modSec (fun x => { x with
    restarting := true, attBusy := false, upd := if x.upd = 2 then 0 else x.upd
    vProg := if x.upd = 2 then { x.vProg with st := 3 } else x.vProg })
  .next ((s.jCompactLost.fatal 0xF10 none 6 {}).coilLive live)

/-- SAGGAR_RESTART_DONE (R467): the journal is replayed; `torn`: its end was found torn (R476). -/
def execSaggarRestartDone (t : Nat) (torn : Bool) (s : State) : Host.Outcome State Fault Refusal :=
  let s := s.at t
  if s.sec.restarting then
    let s1 := (s.jTorn torn).attReplay.modSec (fun x => { x with restarting := false })
    .next (s1.coilLive s.safeLive)
  else .next s

/-- BROWN_OUT (R533): SAFE with cause SUPPLY, and no new journal record. -/
def execBrownOut (t : Nat) (rail : Fin 10) (s : State) : Host.Outcome State Fault Refusal :=
  let s := s.at t
  if s.mode.active = .reset then .next s
  else
    let live := s.safeLive
    let s := s.modSec (fun x => { x with tripped := x.tripped ||| BitVec.ofNat 10 (2 ^ rail.val) })
    .next ((s.fatal 0xE00 none 5 { detail := rail }).coilLive live)

/-- BROWN_OUT_RELEASE (R533). -/
def execBrownOutRelease (t : Nat) (rail : Fin 10) (s : State) : Host.Outcome State Fault Refusal :=
  let s := s.at t
  let s1 := s.modSec (fun x => { x with tripped := x.tripped &&& ~~~BitVec.ofNat 10 (2 ^ rail.val) })
  .next (s1.coilLive s.safeLive)

/-! ## Cone levels (R437) -/

/-- A write of a thermal C register that its path may make: clamps, and the CONE record of a host write. A conversion in the
same cycle still uses the old levels (R443). -/
def State.coneWrite (s : State) (path : Path) (off : Nat) (val : Word) : State :=
  let old := if s.sameCycle s.thm.lvAt s.now ∧ s.thm.lvOld ≠ [] then s.thm.lvOld else s.thmLevels
  let s := s.cWrite off val path
  if off = Reg.THM_GRACE then
    let ms := s.fld off 13 0
    if ms = clampN 10 10000 ms then s else s.paramClamp off (clampN 10 10000 ms) (pathCode path)
  else if off = Reg.THM_COOL then s
  else
    let s := (s.modThm (fun x => { x with lvOld := old, lvAt := s.now })).thmClamps (pathCode path)
    if path = .host then s.jCone else s

/-- CONE_WRITE (R437): from Greenware it is discarded. -/
def execConeWrite (t : Nat) (path : Path) (off : Nat) (val : Word) (s : State) : Host.Outcome State Fault Refusal :=
  .next ((s.at t).onGlb (fun s =>
    if path = .greenware then s.accessErr off (pathCode path) else s.coneWrite path off val))

end Sys2Proof.Machine
end

