-- ==== Sys2Proof/Machine/Clock.lean ====
section
/-! DEFINITION. Clock synthesis: lock sequence, band sweep, holdover, the switch to BCLK, reference return, clock outputs
(R51 to R74). -/

namespace Sys2Proof.Machine

/-- Change the clock system. -/
def State.modClk (s : State) (f : Clock → Clock) : State := { s with clk := f s.clk }

/-! ## Paths and bands (R51, R54) -/

/-- The PFD period in ticks of a REFIN code and path; none for an illegal combination (R51). -/
def pfdTicks (refin path : Nat) : Option Nat :=
  match refin, path with
  | 0, 2 => some 64
  | 1, 1 => some 64
  | 1, 2 => some 32
  | 2, 0 => some 64
  | 2, 1 => some 32
  | 2, 2 => some 16
  | 3, 0 => some 32
  | 3, 1 => some 16
  | _, _ => none

/-- The non-empty band nearest 6,400 MHz, the lower index on a tie (R54). -/
def State.bandPick (s : State) : Option Nat :=
  let d := fun k => ((bitsOf (s.wideN (Id.CLK_VCO_BAND + k)) 31 16 : Nat) : Int) - 6400
  (List.range 32).foldl (fun best k =>
    if bitsOf (s.wideN (Id.CLK_VCO_BAND + k)) 31 16 = 0 then best
    else match best with
      | none => some k
      | some b => if (d k).natAbs < (d b).natAbs then some k else some b) none

/-! ## Clock outputs (R60, R61) -/

/-- The next alignment edge at or after tick `t`: every 64 ticks from the edge of the lock. -/
def State.nextAlign (s : State) (t : Nat) : Nat := s.clk.alignAt + (t - s.clk.alignAt + 63) / 64 * 64

/-- The divider applied: 0 stops, above 1,024 applies 1,024. -/
def State.outDiv (s : State) (n : Nat) : Nat := min 1024 (s.fld (Reg.CLK_OUT_CTL + 4 * n) 10 0)

/-- Is output `n` enabled with a divider? -/
def State.outOn (s : State) (n : Nat) : Bool := s.bit (Reg.CLK_OUT_CTL + 4 * n) 11 && decide (s.outDiv n ≠ 0)

/-- Half-ticks (VCO periods) of the output, and its delay at tick `t`: one step per output period towards the new one. -/
def ClkOut.delayAt (o : ClkOut) (t : Nat) : Nat :=
  let k := 2 * (t - o.dlyAt) / max 1 o.div
  if o.dly ≤ o.dlyTo then min o.dlyTo (o.dly + k) else max o.dlyTo (o.dly - k)

/-- Is the output running at tick `t`? -/
def ClkOut.runs (o : ClkOut) (t : Nat) : Bool := o.on && decide (o.from_ ≤ t)

/-- A write of CLK_OUT_CTL_n (R61): a start on the next alignment edge, a stop, or a new divider after one low period. -/
def State.outCtl (s : State) (n path : Nat) : State :=
  let o := fget ({} : ClkOut) s.clk.outs n
  let div := s.outDiv n
  let s := if 1024 < s.fld (Reg.CLK_OUT_CTL + 4 * n) 10 0 then s.paramClamp (Reg.CLK_OUT_CTL + 4 * n) 1024 path else s
  let new : ClkOut :=
    if !s.outOn n || !s.onVco then { o with on := false, div }
    else if !o.on then { o with on := true, div, from_ := s.nextAlign s.now, dly := o.dlyTo }
    else if o.div = div then o
    else { o with div, from_ := s.nextAlign (s.now + (div + 1) / 2), dly := o.dlyTo }
  s.modClk (fun c => { c with outs := fset {} c.outs n new })

/-- A write of CLK_OUT_DLY_n (R61). -/
def State.outDly (s : State) (n : Nat) : State :=
  let o := fget ({} : ClkOut) s.clk.outs n
  let to_ := (s.reg (Reg.CLK_OUT_DLY + 4 * n)).toNat
  let new := { o with dly := if o.runs s.now then o.delayAt s.now else to_, dlyAt := s.now, dlyTo := to_ }
  s.modClk (fun c => { c with outs := fset {} c.outs n new })

/-- All enabled outputs rise together at the alignment edge of a lock (R55, R58). -/
def State.outsStart (s : State) : State :=
  forN 8 s (fun s n =>
    let o := fget ({} : ClkOut) s.clk.outs n
    let dly := (s.reg (Reg.CLK_OUT_DLY + 4 * n)).toNat
    let new : ClkOut := { o with on := s.outOn n, div := s.outDiv n, from_ := s.now, dly, dlyTo := dly }
    s.modClk (fun c => { c with outs := fset {} c.outs n new }))

/-! ## The switch to BCLK (R12, R64, R71, R72) -/

/-- The SerDes PLLs have lost their reference: both links go down (R71). -/
def State.serdesOff (s : State) : State :=
  let s := s.modClk (fun c => { c with serdesRef := false })
  let s := forN 2 s (fun s p => if bitOf s.coil.link.toNat p then s.event Reg.COIL_STAT 2 { detail := p } else s)
  let s := s.modCoil (fun c => { c with link := 0 })
  if s.hif.width = 0 then s else s.endpointReset false

/-- On BCLK the SerDes PLLs take REFIN if it qualifies (R71). -/
def State.serdesBclk (s : State) : State :=
  if s.clk.refPresent then s.modClk (fun c => { c with serdesRef := true })
  else if s.clk.serdesRef then s.serdesOff else s

/-- The tree leaves the VCO; the FCLK-domain blocks are held in reset (R12). -/
def State.treeToBclk (s : State) (st : ClkState) : State :=
  let s := s.modClk (fun c => { c with
    state := st, memRetained := s.mem.selfRefresh, switchAt := s.now, requalAt := none, realignFire := false, sweeping := false
    outs := fmapAll {} c.outs (fun o => { o with on := false }) })
  s.tsuClockLost.lanClockLost.emtClockLost.serdesBclk.sfeClkSwitch.coilCheck

/-- The actions of R64: control word frozen, self-refresh commanded, switch to BCLK, SAFE with cause CLOCK; `flag` of
CLK_STAT and the fault's code say which cause it was. -/
def State.clkLost (s : State) (flag code : Nat) : State :=
  let u := s.raise Reg.CLK_STAT (flag16 flag)
  let u := { u with mem := { u.mem with enteringSr := !u.mem.selfRefresh } }
  (((u.treeToBclk .bclk).event Reg.CLK_STAT 8 {}).strClockLost.fatal code none 0).coilLiveFrom s

/-! ## BOOT failure (R82, R95) -/

/-- BOOT ends in SAFE with a fail_code: 2 CLOCK has cause CLOCK, every other cause BOOT. -/
def State.bootFail (s : State) (code : Nat) : State :=
  let clock := decide (code = 2)
  let s := (({ s with mode := { s.mode with
    running := false, failed := true, failCode := code, bootFault := !clock, retryStage := none } }).bootRunsFail).event
    Reg.GLB_MODE_STAT 7 { detail := code }
  s.safeEnter (if clock then 1 else 8)

/-! ## Lock (R55, R56) -/

/-- The lock sequence fails: the tree stays on BCLK; BOOT stage 3 and the exit from STANDBY end in SAFE (R82, R97). -/
def State.lockFailed (s : State) (reason : Nat) : State :=
  let waking := s.mode.waking
  let s := (s.modClk (fun c => { c with state := .bclk, failReason := reason })).event Reg.CLK_STAT 1 { detail := reason }
  if s.mode.running ∧ s.mode.stage = 3 then s.bootFail 2
  else if waking then s.safeEnter 1
  else s

/-- CLK_CMD.lock (R51, R55): starts nothing while a lock is in force or a sequence runs. -/
def State.lockStart (s : State) : State :=
  if (s.clk.state = .bclk ∨ s.clk.state = .powerDown) ∧ s.clk.sweeping = false then
    let live := s.safeLive
    let refin := s.fld Reg.CLK_REF_CTL 1 0
    let path := s.fld Reg.CLK_REF_CTL 3 2
    let s := s.modClk (fun c => { c with state := .qualify, seqAt := s.now, lockStarted := true, seqRefin := refin, seqPath := path })
    (if (pfdTicks refin path).isNone then s.lockFailed 1 else s).coilLive live
  else s

/-- LOCK (R55). -/
def execLock (t : Nat) (_path : Path) (s : State) : Host.Outcome State Fault Refusal :=
  .next ((s.at t).onBar State.lockStart)

/-- Does a lock sequence run? -/
def State.locking (s : State) : Bool := decide (s.clk.state = .qualify) || decide (s.clk.state = .acquire)

/-- LOCK_FAIL (R56): NO_REF at the end of step 1, TIMEOUT at 2 ms. -/
def execLockFail (t : Nat) (reason : LockFailure) (s : State) : Host.Outcome State Fault Refusal :=
  if s.locking then
    match reason with
    | .noRef => .next ((s.at (max t (s.clk.seqAt + usT 97))).lockFailed 4)
    | .noBand => .next ((s.at (max t (s.clk.seqAt + usT 97))).lockFailed 2)
    | .timeout => .next ((s.at (max t (s.clk.seqAt + usT 1940))).lockFailed 3)
  else .next (s.at t)

/-- The content of the memories is lost (R340). -/
def State.memLose (s : State) : State :=
  let s := s.memOpen 0
  { s with mem := { s.mem with lost := true } }

/-- The Kilns' clear after a lock: three buffers in 3,200 ticks (R268). -/
def State.kilnsLock (s : State) : State :=
  forN 8 s (fun s k => s.modKiln k (fun x => { x with bufs := [], queue := [], capState := 0, clearAt := some (s.now + 3200) }))

/-- The FCLK domain is released (R12, R55 step 5): UTIME, lanes, Kilns, buckets, pulse monitor, memories, outputs. A switch
to BCLK that came before self-refresh lost the memories' content (R340). -/
def State.treeToVco (s : State) (band : Nat) : State :=
  let first := decide (s.wideN Id.CLK_LOCK_COUNT = 0)
  let kept := s.clk.memRetained
  let s := s.modClk (fun c => { c with
    state := .locked, band, failReason := 0, refPresent := true, serdesRef := true, alignAt := s.now })
  let s := if first then s.utimeStart else s.utimeResume
  let s := forN 512 s (fun s l => s.modLane l (fun x => { x with used := 0, tokenAt := s.now }))
  let s := if first || kept then s else s.memLose
  let s := { s with
    emt := { s.emt with refillAt := s.now }, mem := { s.mem with selfRefresh := false, enteringSr := false }
    cap := { s.cap with fieldSweepAt := if s.mode.standbyStep = 5 then s.now else s.cap.fieldSweepAt }
    mode := { s.mode with standbyStep := if s.mode.standbyStep = 5 then 0 else s.mode.standbyStep } }
  s.kilnsLock.outsStart.refbufStart.sfeClkSwitch.coilTrimReset

/-- Lock is reached on a band: the tree switches, CLK_PHASE is measured, locked is raised (R55, R58, R59). -/
def State.lockReached (s : State) (band : Nat) (phase : Word) (hclkPhase : Bool) : State :=
  let live := s.safeLive
  let s := s.treeToVco band
  let s := s.modClk (fun c => { c with hclkPhase := hclkPhase && decide (c.seqRefin = 3) })
  (((s.putWide Id.CLK_PHASE phase.toNat).event Reg.CLK_STAT 0 {}).bump Id.CLK_LOCK_COUNT).coilLive live

/-- LOCK_COMPLETE (R55): without a band the sequence fails with NO_BAND, after 2 ms with TIMEOUT (R56). CLK_INFO.band shows
the band that R54 selects (log 33). -/
def execLockComplete (t : Nat) (phase : Word) (hclkPhase : Bool) (s : State) : Host.Outcome State Fault Refusal :=
  if s.locking then
    let late := s.clk.seqAt + usT 2060
    if late < t then .next ((s.at late).lockFailed 3)
    else
      let s := s.at (max t (s.clk.seqAt + usT 97))
      match s.bandPick with
      | none => .next (s.lockFailed 2)
      | some b => .next (s.lockReached b phase hclkPhase)
  else .next (s.at t)

/-! ## Band sweep and phase (R54, R59) -/

/-- CLK_CMD.band_sweep: from BCLK, with no lock sequence running. -/
def State.sweepStart (s : State) : State :=
  if s.clk.state = .bclk then s.modClk (fun c => { c with sweeping := true, seqAt := s.now }) else s

/-- BAND_SWEEP (R54). -/
def execBandSweep (t : Nat) (_path : Path) (s : State) : Host.Outcome State Fault Refusal :=
  .next ((s.at t).onBar State.sweepStart)

/-- BAND_SWEEP_DONE (R54): all 32 entries together, which Saggar journals (R475), or NO_REF. -/
def execBandSweepDone (t : Nat) (refOk : Bool) (bands : List Word) (s : State) : Host.Outcome State Fault Refusal :=
  let s := s.at t
  if s.clk.sweeping then
    let s := s.modClk (fun c => { c with sweeping := false, failReason := if refOk then 0 else 4 })
    let s := if refOk then
        (forN 32 s (fun s k => s.putWide (Id.CLK_VCO_BAND + k) (bands.getD k 0).toNat)).jBands
      else s
    .next (s.event Reg.CLK_STAT 7 {})
  else .next s

/-- CLK_CMD.measure: starts nothing on BCLK. -/
def State.phaseMeasure (s : State) (phase : Word) : State := if s.onVco then s.putWide Id.CLK_PHASE phase.toNat else s

/-- PHASE_MEASURE (R59). -/
def execPhaseMeasure (t : Nat) (_path : Path) (phase : Word) (s : State) : Host.Outcome State Fault Refusal :=
  .next ((s.at t).onBar (fun s => s.phaseMeasure phase))

/-! ## Holdover (R62 to R64) -/

/-- HOLDOVER_MAX in ticks: at most 1,000 ms (R63). -/
def State.holdMax (s : State) : Nat := msT (min 1000 (s.reg Reg.CLK_HOLD_CTL).toNat)

/-- The PFD period in force, in ticks. -/
def State.pfd (s : State) : Nat := (pfdTicks s.clk.seqRefin s.clk.seqPath).getD 32

/-- Holdover ran out (R64): its duration is recorded. -/
def State.holdExpire (s : State) : State :=
  (s.putWide Id.CLK_HOLD_TIME ((s.now - s.clk.holdAt) / 3200)).clkLost 3 0xE10

/-- Holdover occurs in the frame in progress (R307). -/
def State.holdMark (s : State) : State :=
  if s.whl.frameOpen then s.modFrame s.whl.fid (fun q => { q with holdSeen := true }) else s

/-- REF_LOST (R62, R63, R70): holdover, from SLEW and REALIGN too; a band sweep ends (R54); max_ms 0 expires at once. -/
def execRefLost (t : Nat) (s : State) : Host.Outcome State Fault Refusal :=
  let s := s.at t
  match s.clk.state with
  | .locked | .slewing | .realign =>
    let s := (s.holdMark.modClk (fun c => { c with
      state := .holdover, refPresent := false, holdAt := s.now, requalAt := none, realignFire := false })).event
      Reg.CLK_STAT 2 {}
    .next (if s.holdMax = 0 then s.holdExpire else s)
  | .bclk =>
    if s.clk.sweeping then
      .next ((s.modClk (fun c => { c with sweeping := false, failReason := 4, refPresent := false })).event Reg.CLK_STAT 7 {})
    else .next s
  | .qualify | .acquire => .next (s.modClk (fun c => { c with refPresent := false }))
  | .holdover => .next (s.modClk (fun c => { c with refPresent := false, requalAt := none }))
  | .powerDown => .next s

/-- HOLDOVER_EXPIRY (R64). -/
def execHoldoverExpiry (t : Nat) (s : State) : Host.Outcome State Fault Refusal :=
  if s.clk.state = .holdover then .next (s.at (max t (s.clk.holdAt + s.holdMax))).holdExpire else .next (s.at t)

/-- LOCK_LOST (R64): with the reference present. -/
def execLockLost (t : Nat) (s : State) : Host.Outcome State Fault Refusal :=
  let s := s.at t
  .next (if s.clk.state = .locked ∨ s.clk.state = .slewing ∨ s.clk.state = .realign then s.clkLost 4 0xE11 else s)

/-! ## Reference return (R66 to R69) -/

/-- REF_RETURN (R66): requalification against the coasting VCO begins. -/
def execRefReturn (t : Nat) (s : State) : Host.Outcome State Fault Refusal :=
  let s := s.at t
  .next (if s.clk.state = .holdover then s.modClk (fun c => { c with requalAt := some s.now }) else s)

/-- REQUALIFY_FAIL (R66): holdover and its timer go on. -/
def execRequalifyFail (t : Nat) (s : State) : Host.Outcome State Fault Refusal :=
  match s.clk.requalAt with
  | some a => .next ((s.at (max t (a + msT 1))).modClk (fun c => { c with requalAt := none }))
  | none => .next (s.at t)

/-- A jump reduced to ±½ PFD period of `n` ticks, in fine LSB (R66); exactly ½ stays positive, so it is removed by
retarding (R67). -/
def jumpMod (n : Nat) (j : Int) : Int :=
  let p : Int := 1024 * n
  (j + p / 2 - 1) % p - p / 2 + 1

/-- Does the Coil align UTIME? -/
def State.coilTime (s : State) : Bool := s.coilEn && s.bit Reg.COIL_CTL 2

/-- Does REALIGN apply (R69)? -/
def State.realigns (s : State) : Bool :=
  s.bit Reg.CLK_REF_CTL 6 || decide (s.mode.active = .guard) || s.coilTime

/-- The REALIGN steps begin (R68): at once without a program, or with a held frame; the trim of the Coil starts afresh. -/
def State.realignBegin (s : State) : State := (s.modClk (fun c => { c with realignFire := true })).coilTrimReset

/-- The reference is requalified (R66): the jump is measured, SLEW or REALIGN begins. -/
def State.requalified (s : State) (jump freqErr : Int) : State :=
  let j := jumpMod s.pfd jump
  let us := (s.now - s.clk.holdAt) / 3200
  let s := ((s.putWide Id.CLK_JUMP (unsgn 32 j)).putWide Id.CLK_HOLD_TIME us).putWide Id.CLK_FREQ_ERR (unsgn 32 freqErr)
  let s := s.modClk (fun c => { c with requalAt := none, refPresent := true, jump := j, slewAt := s.now })
  let s := s.event Reg.CLK_STAT 5 { addr := us, value := unsgn 32 j, detail := unsgn 16 freqErr }
  if s.realigns then
    let s := s.modClk (fun c => { c with state := .realign })
    if s.wheelRuns then s else s.realignBegin
  else s.modClk (fun c => { c with state := .slewing })

/-- REF_REQUALIFIED (R66): holdover expiry in the same PFD cycle wins (R70). -/
def execRefRequalified (t : Nat) (jump freqErr : Int) (s : State) : Host.Outcome State Fault Refusal :=
  match s.clk.state, s.clk.requalAt with
  | .holdover, some a =>
    let t := max t (a + msT 1)
    let due := s.clk.holdAt + s.holdMax
    if due / s.pfd ≤ t / s.pfd then .next (s.at (min t due)).holdExpire
    else .next ((s.at t).requalified jump freqErr)
  | _, _ => .next (s.at t)

/-- Ticks of a slew of `j` fine LSB at `slew` × 0.1 ppm (R67). -/
def slewTicks (j : Int) (slew : Nat) : Nat := (j.natAbs * 10000000 + 1024 * slew - 1) / (1024 * slew)

/-- SLEW_DONE (R67). -/
def execSlewDone (t : Nat) (s : State) : Host.Outcome State Fault Refusal :=
  if s.clk.state = .slewing then
    let s := s.at (max t (s.clk.slewAt + slewTicks s.clk.jump (clampN 1 10 (s.fld Reg.CLK_REF_CTL 10 7))))
    .next ((s.modClk (fun c => { c with state := .locked })).event Reg.CLK_STAT 0 {})
  else .next (s.at t)

/-- BCLK_REFIN_CHANGE (R71). -/
def execBclkRefinChange (t : Nat) (qualifies : Bool) (s : State) : Host.Outcome State Fault Refusal :=
  let s := s.at t
  .next (if s.onVco then s else (s.modClk (fun c => { c with refPresent := qualifies })).serdesBclk)

/-- Is the frame that begins now in holdover: coasting, or before the held frame of a REALIGN (R63, R68)? -/
def State.inHoldover (s : State) : Bool :=
  decide (s.clk.state = .holdover) || (decide (s.clk.state = .realign) && !s.clk.realignFire)

end Sys2Proof.Machine
end

