-- ==== Sys2Proof/Machine/Operands.lean ====
section
/-! DEFINITION. The Wheel's instruction words: operand forms, reserved fields, decoding (R124 to R151). -/

namespace Sys2Proof.Machine

/-- A second operand or a value: from a register, or immediate. -/
inductive Src where
  | reg (i : Nat)
  | imm (v : Nat)
deriving DecidableEq, Repr

/-- The arithmetic operations of R135 that write a register, and CMP. -/
inductive AluOp where
  | add | sub | and | or | shl | shr | cmp
deriving DecidableEq, Repr

/-- A decoded Wheel instruction (R126). -/
inductive Wop where
  | jmp (tgt : Src)
  | br (cond target : Nat)
  | loop (count : Src) (end_ : Nat)
  | call (tgt : Src)
  | ret
  | waitev (wd timeout mask : Nat)
  | halt
  | sync (wd src timeout n offset : Nat)
  | ldi (wd imm : Nat)
  | mov (wd wa : Nat)
  | alu (op : AluOp) (wd wa : Nat) (b : Src)
  | shot (mask : Src) (prof stag code : Nat)
  | gate (ta lanes close open_ : Nat)
  | zoom (src win ta lanes start : Nat)
  | pix (eof : Bool) (az el : Src)
  | step (ax : Nat) (val : Src) (offset : Nat)
  | mark (wa tag offset : Nat)
  | setp (val : Src) (all : Bool) (index : Src) (param : Nat)
  | budget (wd : Nat) (emt : Src) (prof code : Nat)
deriving DecidableEq, Repr

/-- Bits [hi:lo] set. -/
def bitMask (hi lo : Nat) : Nat := (2 ^ (hi + 1 - lo) - 1) * 2 ^ lo

/-- Are all bits of [55:0] outside these fields 0 (R125)? -/
def onlyFields (w : Nat) (fields : List (Nat × Nat)) : Bool :=
  decide (w % 2 ^ 56 &&& ((2 ^ 56 - 1) ^^^ (fields.foldl (fun m f => m ||| bitMask f.1 f.2) 0)) = 0)

/-- `op` when only these fields are used, else an illegal instruction. -/
def useOnly (w : Nat) (fields : List (Nat × Nat)) (op : Wop) : Option Wop := if onlyFields w fields then some op else none

/-- The register select at [55:52], [51:48], [47:44]. -/
def fieldWd (w : Nat) : Nat := bitsOf w 55 52

/-- The field wa. -/
def fieldWa (w : Nat) : Nat := bitsOf w 51 48

/-- The field wb. -/
def fieldWb (w : Nat) : Nat := bitsOf w 47 44

/-- The target of JMP and CALL (R129). -/
def decodeTarget (w : Nat) (f : Src → Wop) : Option Wop :=
  if bitOf w 55 then useOnly w [(55, 55), (51, 48)] (f (.reg (fieldWa w)))
  else useOnly w [(13, 0)] (f (.imm (bitsOf w 13 0)))

/-- BR (R129, R130). -/
def decodeBr (w : Nat) : Option Wop :=
  if bitsOf w 51 48 ≤ 8 then useOnly w [(51, 48), (13, 0)] (.br (bitsOf w 51 48) (bitsOf w 13 0)) else none

/-- LOOP (R132). -/
def decodeLoop (w : Nat) : Option Wop :=
  if bitOf w 55 then useOnly w [(55, 55), (51, 48), (13, 0)] (.loop (.reg (fieldWa w)) (bitsOf w 13 0))
  else useOnly w [(47, 32), (13, 0)] (.loop (.imm (bitsOf w 47 32)) (bitsOf w 13 0))

/-- SYNC (R138): facets 0 to 7 or 15, inputs 0 to 15, 0 for COIL. -/
def decodeSync (w : Nat) : Option Wop :=
  let src := bitsOf w 51 48
  let n := bitsOf w 31 28
  if src = 2 ∨ (src = 0 ∧ (n < 8 ∨ n = 15)) ∨ (src = 1 ∧ n = 0) then
    useOnly w [(55, 52), (51, 48), (47, 32), (31, 28), (15, 0)] (.sync (fieldWd w) src (bitsOf w 47 32) n (bitsOf w 15 0))
  else none

/-- An arithmetic instruction of two operands (R135). -/
def decodeAlu (w : Nat) (op : AluOp) : Option Wop :=
  let wd := if op = .cmp then [] else [(55, 52)]
  let d := if op = .cmp then 0 else fieldWd w
  if bitOf w 43 then useOnly w (wd ++ [(51, 48), (43, 43), (15, 0)]) (.alu op d (fieldWa w) (.imm (bitsOf w 15 0)))
  else useOnly w (wd ++ [(51, 48), (47, 44)]) (.alu op d (fieldWa w) (.reg (fieldWb w)))

/-- SHOT (R141). -/
def decodeShot (w : Nat) : Option Wop :=
  let f := fun m => Wop.shot m (bitsOf w 46 44) (bitsOf w 43 40) (bitsOf w 39 36)
  if bitOf w 55 then useOnly w [(55, 55), (51, 48), (46, 44), (43, 40), (39, 36)] (f (.reg (fieldWa w)))
  else useOnly w [(46, 44), (43, 40), (39, 36), (31, 0)] (f (.imm (bitsOf w 31 0)))

/-- PIX (R146). -/
def decodePix (w : Nat) : Option Wop :=
  let az := if bitOf w 54 then (Src.reg (fieldWa w), (51, 48)) else (Src.imm (bitsOf w 12 0), (12, 0))
  let el := if bitOf w 53 then (Src.reg (fieldWb w), (47, 44)) else (Src.imm (bitsOf w 41 32), (41, 32))
  useOnly w [(55, 53), az.2, el.2] (.pix (bitOf w 55) az.1 el.1)

/-- STEP (R147). -/
def decodeStep (w : Nat) : Option Wop :=
  let f := fun v => Wop.step (b2n (bitOf w 55)) v (bitsOf w 47 32)
  if bitOf w 54 then useOnly w [(55, 54), (51, 48), (47, 32)] (f (.reg (fieldWa w)))
  else useOnly w [(55, 54), (47, 32), (23, 0)] (f (.imm (bitsOf w 23 0)))

/-- SETP (R149). -/
def decodeSetp (w : Nat) : Option Wop :=
  let v := if bitOf w 55 then (Src.reg (fieldWa w), (51, 48)) else (Src.imm (bitsOf w 15 0), (15, 0))
  let p := bitsOf w 43 32
  if bitOf w 54 then useOnly w [(55, 54), v.2, (43, 32)] (.setp v.1 true (.imm 0) p)
  else if bitOf w 53 then useOnly w [(55, 53), v.2, (47, 44), (43, 32)] (.setp v.1 false (.reg (fieldWb w)) p)
  else useOnly w [(55, 53), v.2, (43, 32), (25, 16)] (.setp v.1 false (.imm (bitsOf w 25 16)) p)

/-- BUDGET (R151). -/
def decodeBudget (w : Nat) : Option Wop :=
  let f := fun e => Wop.budget (fieldWd w) e (bitsOf w 42 40) (bitsOf w 39 36)
  if bitOf w 47 then useOnly w [(55, 52), (51, 48), (47, 47), (42, 40), (39, 36)] (f (.reg (fieldWa w)))
  else useOnly w [(55, 52), (42, 40), (39, 36), (4, 0)] (f (.imm (bitsOf w 4 0)))

/-- The instruction of a 64-bit word; none faults with ILLEGAL_OP at issue (R125, R126). What depends on the program
counter or on a register, the end of a LOOP, the parameter and index of SETP, the emitter of BUDGET, is checked by the
instruction itself. -/
def decodeWop (w : Nat) : Option Wop :=
  match bitsOf w 63 56 with
  | 0x01 => decodeTarget w .jmp
  | 0x02 => decodeBr w
  | 0x03 => decodeLoop w
  | 0x04 => decodeTarget w .call
  | 0x05 => useOnly w [] .ret
  | 0x06 => useOnly w [(55, 52), (47, 32), (7, 0)] (.waitev (fieldWd w) (bitsOf w 47 32) (bitsOf w 7 0))
  | 0x07 => useOnly w [] .halt
  | 0x08 => decodeSync w
  | 0x10 => useOnly w [(55, 52), (31, 0)] (.ldi (fieldWd w) (bitsOf w 31 0))
  | 0x11 => useOnly w [(55, 52), (51, 48)] (.mov (fieldWd w) (fieldWa w))
  | 0x12 => decodeAlu w .add
  | 0x13 => decodeAlu w .sub
  | 0x14 => decodeAlu w .and
  | 0x15 => decodeAlu w .or
  | 0x16 => decodeAlu w .shl
  | 0x17 => decodeAlu w .shr
  | 0x18 => decodeAlu w .cmp
  | 0x20 => decodeShot w
  | 0x21 => useOnly w [(55, 52), (47, 32), (29, 16), (13, 0)]
      (.gate (fieldWd w) (bitsOf w 47 32) (bitsOf w 29 16) (bitsOf w 13 0))
  | 0x22 => useOnly w [(55, 54), (53, 52), (51, 48), (47, 32), (13, 0)]
      (.zoom (bitsOf w 55 54) (bitsOf w 53 52) (fieldWa w) (bitsOf w 47 32) (bitsOf w 13 0))
  | 0x23 => decodePix w
  | 0x24 => decodeStep w
  | 0x25 => useOnly w [(51, 48), (47, 32), (15, 0)] (.mark (fieldWa w) (bitsOf w 47 32) (bitsOf w 15 0))
  | 0x26 => decodeSetp w
  | 0x30 => decodeBudget w
  | _ => none

/-! ## The words of the instructions (R124 to R151) -/

/-- Does an operand fit its fields: a register of 16, or an immediate of `n` bits? -/
def Src.wf (n : Nat) : Src → Bool
  | .reg i => decide (i < 16)
  | .imm v => decide (v < 2 ^ n)

/-- Does an instruction name nothing that its fields do not hold? -/
def Wop.wf : Wop → Bool
  | .jmp tgt => tgt.wf 14
  | .br cond target => decide (cond ≤ 8) && decide (target < 2 ^ 14)
  | .loop count end_ => count.wf 16 && decide (end_ < 2 ^ 14)
  | .call tgt => tgt.wf 14
  | .ret => true
  | .waitev wd timeout mask => decide (wd < 16) && decide (timeout < 2 ^ 16) && decide (mask < 2 ^ 8)
  | .halt => true
  | .sync wd src timeout n offset =>
    decide (wd < 16) && decide (timeout < 2 ^ 16) && decide (n < 16) && decide (offset < 2 ^ 16) &&
      decide (src = 2 ∨ (src = 0 ∧ (n < 8 ∨ n = 15)) ∨ (src = 1 ∧ n = 0))
  | .ldi wd imm => decide (wd < 16) && decide (imm < 2 ^ 32)
  | .mov wd wa => decide (wd < 16) && decide (wa < 16)
  | .alu op wd wa b => decide (wd < (if op = .cmp then 1 else 16)) && decide (wa < 16) && b.wf 16
  | .shot mask prof stag code => mask.wf 32 && decide (prof < 8) && decide (stag < 16) && decide (code < 16)
  | .gate ta lanes close open_ =>
    decide (ta < 16) && decide (lanes < 2 ^ 16) && decide (close < 2 ^ 14) && decide (open_ < 2 ^ 14)
  | .zoom src win ta lanes start =>
    decide (src < 4) && decide (win < 4) && decide (ta < 16) && decide (lanes < 2 ^ 16) && decide (start < 2 ^ 14)
  | .pix _ az el => az.wf 13 && el.wf 10
  | .step ax val offset => decide (ax < 2) && val.wf 24 && decide (offset < 2 ^ 16)
  | .mark wa tag offset => decide (wa < 16) && decide (tag < 2 ^ 16) && decide (offset < 2 ^ 16)
  | .setp val all index param =>
    val.wf 16 && decide (param < 2 ^ 12) && (if all then decide (index = .imm 0) else index.wf 10)
  | .budget wd emt prof code => decide (wd < 16) && emt.wf 5 && decide (prof < 8) && decide (code < 16)

/-- The word of opcode `op` with these values at these lowest bits. -/
def packWop (op : Nat) (fields : List (Nat × Nat)) : Nat := op * 2 ^ 56 + (fields.map (fun f => f.1 * 2 ^ f.2)).sum

/-- An operand's fields: the bit `sel` that selects the register and its number at bit `at_`, or the immediate at `lo`. -/
def Src.fields (sel at_ lo : Nat) : Src → List (Nat × Nat)
  | .reg i => [(1, sel), (i, at_)]
  | .imm v => [(v, lo)]

/-- The opcode of an arithmetic instruction (R135). -/
def AluOp.opcode : AluOp → Nat
  | .add => 0x12 | .sub => 0x13 | .and => 0x14 | .or => 0x15 | .shl => 0x16 | .shr => 0x17 | .cmp => 0x18

/-- The 64-bit word of an instruction, from the field tables of R126 to R151. -/
def encodeWop : Wop → Nat
  | .jmp tgt => packWop 0x01 (tgt.fields 55 48 0)
  | .br cond target => packWop 0x02 [(cond, 48), (target, 0)]
  | .loop count end_ => packWop 0x03 (count.fields 55 48 32 ++ [(end_, 0)])
  | .call tgt => packWop 0x04 (tgt.fields 55 48 0)
  | .ret => packWop 0x05 []
  | .waitev wd timeout mask => packWop 0x06 [(wd, 52), (timeout, 32), (mask, 0)]
  | .halt => packWop 0x07 []
  | .sync wd src timeout n offset => packWop 0x08 [(wd, 52), (src, 48), (timeout, 32), (n, 28), (offset, 0)]
  | .ldi wd imm => packWop 0x10 [(wd, 52), (imm, 0)]
  | .mov wd wa => packWop 0x11 [(wd, 52), (wa, 48)]
  | .alu op wd wa (.reg i) => packWop op.opcode [(wd, 52), (wa, 48), (i, 44)]
  | .alu op wd wa (.imm v) => packWop op.opcode [(wd, 52), (wa, 48), (1, 43), (v, 0)]
  | .shot mask prof stag code => packWop 0x20 (mask.fields 55 48 0 ++ [(prof, 44), (stag, 40), (code, 36)])
  | .gate ta lanes close open_ => packWop 0x21 [(ta, 52), (lanes, 32), (close, 16), (open_, 0)]
  | .zoom src win ta lanes start => packWop 0x22 [(src, 54), (win, 52), (ta, 48), (lanes, 32), (start, 0)]
  | .pix eof az el => packWop 0x23 ([(b2n eof, 55)] ++ az.fields 54 48 0 ++ el.fields 53 44 32)
  | .step ax val offset => packWop 0x24 ([(ax, 55)] ++ val.fields 54 48 0 ++ [(offset, 32)])
  | .mark wa tag offset => packWop 0x25 [(wa, 48), (tag, 32), (offset, 0)]
  | .setp val true _ param => packWop 0x26 (val.fields 55 48 0 ++ [(1, 54), (param, 32)])
  | .setp val false index param => packWop 0x26 (val.fields 55 48 0 ++ index.fields 53 44 16 ++ [(param, 32)])
  | .budget wd emt prof code => packWop 0x30 ([(wd, 52)] ++ emt.fields 47 48 0 ++ [(prof, 40), (code, 36)])

/-- The parameters of SETP (R150): instances, least and largest value; none for an identifier not listed. -/
def setpParam (p : Nat) : Option (Nat × Nat × Nat) :=
  match p with
  | 0x001 | 0x002 | 0x003 => some (512, 0, 255)
  | 0x004 | 0x005 => some (512, 0, 2)
  | 0x101 => some (8, 0, 3)
  | 0x102 => some (8, 0, 1)
  | 0x201 => some (8, 0, 65535)
  | 0x202 | 0x203 => some (8, 0, 7)
  | 0x301 => some (1, 0, 4)
  | 0x302 => some (1, 1, 3)
  | 0x401 => some (1, 10000, 65535)
  | _ => none

end Sys2Proof.Machine
end

