-- ==== Sys2Proof/Machine/Flags.lean ====
section
/-! DEFINITION. The results and the flags Z, N and C of the Wheel's arithmetic, and the branch conditions (R128, R130,
R136). -/

namespace Sys2Proof.Machine

/-- The result of an arithmetic instruction (R136): modulo 2^32; a shift by 32 or more gives 0. -/
def aluResult (op : AluOp) (a b : Word) : Word :=
  match op with
  | .add => a + b
  | .sub | .cmp => a - b
  | .and => a &&& b
  | .or => a ||| b
  | .shl => if b.toNat < 32 then a <<< b.toNat else 0
  | .shr => if b.toNat < 32 then a >>> b.toNat else 0

/-- The carry flag (R128): carry out of bit 31, borrow, the last bit shifted out. -/
def aluCarry (op : AluOp) (a b : Word) : Bool :=
  match op with
  | .add => decide (2 ^ 32 ≤ a.toNat + b.toNat)
  | .sub | .cmp => decide (a.toNat < b.toNat)
  | .and | .or => false
  | .shl => decide (0 < b.toNat) && decide (b.toNat < 32) && bitOf a.toNat (32 - b.toNat)
  | .shr => decide (0 < b.toNat) && decide (b.toNat < 32) && bitOf a.toNat (b.toNat - 1)

/-- Is a branch with this condition taken (R130)? -/
def condTaken (cond : Nat) (z n c : Bool) : Bool :=
  match cond with
  | 0 => true
  | 1 => z
  | 2 => !z
  | 3 => n
  | 4 => !n
  | 5 => c
  | 6 => !c
  | 7 => !c && !z
  | _ => c || z

end Sys2Proof.Machine
end

