-- ==== Sys2Proof/Machine/WheelCore.lean ====
section
/-! DEFINITION. The Wheel's banks, faults, starts and halts, and the places of its timeline queue (R99 to R120). -/

namespace Sys2Proof.Machine

/-- Change the Wheel. -/
def State.modWhl (s : State) (f : Wheel → Wheel) : State := { s with whl := f s.whl }

/-- Register w_i. -/
def State.wreg (s : State) (i : Nat) : Word := fget 0 s.whl.regs i

/-- Write register w_i. -/
def State.setW (s : State) (i : Nat) (v : Word) : State := s.modWhl (fun w => { w with regs := fset 0 w.regs i v })

/-! ## Program banks (R99) -/

/-- The key of the 32-bit word at a BAR0 offset in the banks. -/
def bankKey (off : Nat) : Nat := (off - 0x208000) / 4

/-- The instruction at index `pc` of the active bank: bits [31:0] at the lower word. -/
def State.instrAt (s : State) (pc : Nat) : Nat :=
  let k := 32768 * s.whl.bank + 2 * pc
  (fget 0 s.whl.mem k).toNat + 2 ^ 32 * (fget 0 s.whl.mem (k + 1)).toNat

/-- The next instruction, decoded. -/
def State.fetchOp (s : State) : Option Wop := decodeWop (s.instrAt s.whl.pc)

/-! ## Halts and faults (R118 to R120) -/

/-- No program runs any more: a REALIGN that waits for a frame boundary begins its steps (R68), and lane boundaries recur
from now (R226). -/
def State.wheelIdle (s : State) : State :=
  let s := { s with lan := { s.lan with idleAt := s.now } }
  if s.clk.state = .realign ∧ s.clk.realignFire = false then s.realignBegin else s

/-- A Wheel fault (R119, R120): the open pixel is VOID, the Wheel FAULTED, program counter and instruction logged. -/
def State.wheelFault (s : State) (code : Nat) : State :=
  let pc := s.whl.pc
  let w := s.instrAt pc
  let s := (s.modWhl (fun x => { x with faultCode := code })).putWide Id.WHL_FAULT_INFO (pc + code * 2 ^ 16 + w * 2 ^ 32)
  let s := s.fault 0xA20 Reg.WHL_STAT (flag16 2) { detail := code, addr := pc, value := w % 2 ^ 32 }
  ((s.cutFrame { cause := 2, mode := s.mode.active.code, wheelFault := code }).haltWheel true).wheelIdle

/-- WHL_CMD.abort (R120): END carries 15 in wheel_fault. -/
def State.wheelAbort (s : State) : State :=
  if s.wheelRuns then
    ((s.cutFrame { cause := 2, mode := s.mode.active.code, wheelFault := 15 }).haltWheel false).wheelIdle
  else s

/-! ## Bank swap (R100) -/

/-- Was a swap armed before the writes of the present cycle? -/
def State.armSeen (s : State) : Bool := if s.sameCycle s.whl.armAt s.now then s.whl.armOld else s.whl.armed

/-- WHL_CMD.arm_swap or disarm: an arm or a disarm of the sample's own cycle waits for the following boundary. -/
def State.armWrite (s : State) (v : Bool) : State :=
  let old := s.armSeen
  s.modWhl (fun w => { w with armed := v, armAt := s.now, armOld := old })

/-- The sample performs an armed swap: instruction 0 of the new active bank is next (R100, R102). -/
def State.bankSwap (s : State) : State :=
  if s.armSeen then
    (s.modWhl (fun w => { w with
      bank := 1 - w.bank, armed := false, armAt := 0, armOld := false, pc := 0, rets := [], loops := []
      swapped := s.wheelRuns })).event Reg.WHL_STAT 0 {}
  else s

/-- While no program runs, an armed swap takes place within 1 µs (R76, R100). -/
def State.idleSwap (s : State) : State :=
  if !s.wheelRuns && s.whl.armed && decide (s.whl.armAt + usT 1 ≤ s.now) then s.bankSwap else s

/-! ## Start (R118, R102, R140) -/

/-- A start waits for the Kilns' clear after a lock, and for realign_done (R68, R268). -/
def State.startWaits (s : State) : Bool :=
  (List.range 8).any (fun k => match (s.kiln k).capState, (s.kiln k).clearAt with
    | 0, some a => decide (s.now < a)
    | _, _ => false) || decide (s.clk.state = .realign)

/-- Every gate is empty and every zoom window OFF (R140). -/
def State.gatesOff (s : State) : State :=
  forN 512 s (fun s l => s.modLane l (fun x => { x with gOpen := 0, gClose := 0, zooms := [] }))

/-- The program starts now: the grid is anchored 1,024 ticks later, where the first frame begins; the tick of the start is
the sample of that boundary. The close of the pixel before the first counts as lying at the anchor. DESIGN CHOICE
(log 34). -/
def State.wheelRun (s : State) : State :=
  let a := s.now + 1024
  let s := s.bankSwap.shfSample.gatesOff.kilnStart
  s.modWhl (fun w => { w with
    state := .running, pc := 0, z := false, n := false, c := false, rets := [], loops := [], readyAt := s.now, wait := none
    anchor := a, period := w.periodNext, queue := [], shots := [], cur := none, lastSlot := none, lastEnd := a
    afterPix := true, issShots := 0, prevClose := a, anyPix := false, lastEof := false, eofAt := some a, eofNext := none
    sampled := true, firstFrame := true, haltReq := false, stopReq := false, startHeld := false, frameOpen := false
    held := false, voidRest := 0, setps := [] })

/-- A start, held while it must wait. -/
def State.wheelBegin (s : State) : State :=
  let s := s.idleSwap
  if s.startWaits then s.modWhl (fun w => { w with state := .running, startHeld := true, pc := 0, eofAt := none, queue := [] })
  else s.wheelRun

/-- A held start proceeds once nothing holds it. -/
def State.heldStart (s : State) : State := if s.whl.startHeld && !s.startWaits then s.wheelRun else s

/-! ## The timeline queue (R107, R108) -/

/-- The tick at which a queued action completes; none while it waits for the next SHOT. -/
def QEntry.doneAt (e : QEntry) : Option Nat :=
  match e.act, e.slot with
  | .pix close _ _ _ _, _ => some close
  | _, none => none
  | .shot, some a => some (a + 320)
  | .gate _ _ o c, some a => some (a + max o c)
  | .zoom _ _ _ _ _, some a => some a
  | .step _ _ ofs, some a => some (a + ofs)
  | .mark _ _ ofs, some a => some (a + ofs)
  | .setp _ _ _, some a => some a

/-- The entries that still take a place in the queue of 64. -/
def State.queueUsed (s : State) : List QEntry :=
  s.whl.queue.filter (fun e => match e.doneAt with
    | some a => decide (s.now < a)
    | none => true)

/-- Has the SHOT of the slot at `a` started? -/
def State.slotStarted (s : State) (a : Nat) : Bool := !s.whl.shots.any (fun h => decide (h.slot = a))

/-- Entries that are done for: a SHOT or GATE of a slot that has started, once its last effect has passed. -/
def State.purge (s : State) : State :=
  s.modWhl (fun w => { w with queue := w.queue.filter (fun e => match e.act, e.slot with
    | .shot, some a => !s.slotStarted a || decide (s.now < a + 320)
    | .gate _ _ o c, some a => !s.slotStarted a || decide (s.now < a + max o c)
    | _, _ => true) })

end Sys2Proof.Machine
end

