-- ==== Sys2Proof/Machine/ModeCore.lean ====
section
/-! DEFINITION. The rules of mode targets: legal transitions, checks, the sample, and the transition with what follows it
at once (R76 to R80, R96, R97). -/

namespace Sys2Proof.Machine

/-- Change the mode exchange. -/
def State.modMode (s : State) (f : Modes → Modes) : State := { s with mode := f s.mode }

/-! ## Checks (R77, R78) -/

/-- The transitions that a target asks for at a boundary (the cells B of R77). -/
def modeLegal (a m : Mode) : Bool :=
  match a, m with
  | .ready, .standby | .ready, .scan | .ready, .guard | .ready, .service => true
  | .scan, .ready | .scan, .service => true
  | .guard, .ready => true
  | .service, .ready | .service, .scan => true
  | _, _ => false

/-- The first check of R78 that fails: refuse_reason, 0 for none. SAFE is never refused. -/
def State.modeRefusal (s : State) (m : Mode) : Nat :=
  let a := s.mode.active
  if m = .safe then 0
  else if a = .safe then 6
  else if !modeLegal a m then 1
  else if (m.scanning || decide (m = .ready)) && !s.onVco then 2
  else if m.scanning && !s.mem.valid then 5
  else if m = .guard ∧ s.crc.refValid = false then 3
  else if m = .guard ∧ s.fieldValid = false then 4
  else 0

/-- A target is refused: the mode stays, pending clears. -/
def State.modeRefuse (s : State) (reason : Nat) (path : Nat := 3) : State :=
  (s.modMode (fun m => { m with pending := false, refuse := reason, pendNew := false })).event Reg.GLB_MODE_STAT 1
    { detail := reason, path }

/-- The target as written. -/
def State.target (s : State) : Mode := Mode.ofCode (s.fld Reg.GLB_MODE_TARGET 2 0)

/-- The pending target. -/
def State.pendTarget (s : State) : Option Mode := if s.mode.pending then some s.target else none

/-- The pending target before the writes of this PCLK cycle. -/
def State.pendBefore (s : State) : Option Mode := if s.sameCycle s.mode.wasAt s.now then s.mode.was else s.pendTarget

/-- A target becomes pending; the skew timer starts unless it runs (R80). -/
def State.modePend (s : State) : State :=
  s.modMode (fun m => { m with
    pending := true, pendNew := m.decided.isSome, skewAt := if m.pending then m.skewAt else s.now })

/-! ## The exit from STANDBY (R97) -/

/-- The exit from STANDBY starts once its entry is complete. -/
def State.wakeStart (s : State) : State :=
  if s.mode.waking then s
  else
    let s := s.modMode (fun m => { m with waking := true })
    if s.mode.standbyStep = 5 then s.lockStart else s

/-! ## The sample (R76) -/

/-- The data path samples the target: what was pending before the present cycle is checked again and decided. -/
def State.modeSample (s : State) : State :=
  match s.pendBefore with
  | none => s
  | some m =>
    if s.mode.active = .standby then s
    else
      let r := s.modeRefusal m
      if r = 0 then s.modMode (fun x => { x with decided := some m, pendNew := s.sameCycle x.wasAt s.now && x.pending })
      else s.modeRefuse r

/-! ## The transition -/

/-- STANDBY is entered (R96): the axes go to zero torque, the key index is parked (R480), calibration ends (R239), the
memories are told to enter self-refresh. -/
def State.standbyBegin (s : State) : State :=
  let s := (s.strStandby.parkKey.1).calAbort
  { s with
    mode := { s.mode with standbyStep := 1, waking := false }
    mem := { s.mem with enteringSr := !s.mem.selfRefresh } }

/-- GUARD is entered: an arm is withdrawn (R365), the safety outputs start low (R362), drift is judged afresh (R43). -/
def State.guardBegin (s : State) : State :=
  ({ (s.modWhl (fun w => { w with armed := false, armOld := false })) with
    crc := { s.crc with driftInGuard := false } }).ossdGuard

/-- MODE_ACTIVE becomes `m` at a boundary (R76, R118): a target accepted after the sample stays pending. The Wheel starts
on entry to a scanning mode from another, and does not run outside them; its halt is the boundary's. -/
def State.modeEnter (s : State) (m : Mode) : State :=
  let old := s.mode.active
  let again := s.mode.pendNew
  let t := s.mode.skewAt
  let s := (s.setMode m).modMode (fun x => { x with pending := again, pendNew := false, skewAt := if again then s.now else t })
  let s := if m = .standby then s.standbyBegin else if m = .guard then s.guardBegin else s.ossdCheck
  if m.scanning && !old.scanning && s.bit Reg.WHL_CTL 0 && !s.wheelRuns then s.wheelBegin else s

/-- The decided transition takes effect. -/
def State.modeApply (s : State) : State :=
  match s.mode.decided with
  | some m => s.modeEnter m
  | none => s

end Sys2Proof.Machine
end

