-- ==== Sys2Proof/Machine/Timeline.lean ====
section
/-! DEFINITION. The shot timeline: decisions, slots, queued actions, pixel closes, frame boundaries and their samples (R104 to
R116, R139 to R150, R306). -/

namespace Sys2Proof.Machine

/-! ## Parameters of SETP (R116, R150) -/

/-- A parameter lands for one instance; a SETP wins over a host write of its CCLK cycle (R117). -/
def State.landOne (s : State) (param i v pc : Nat) : State :=
  match param with
  | 0x001 => s.landNom i v pc 3
  | 0x002 => s.landFloor i v
  | 0x003 => s.landCeil i v
  | 0x004 => s.landGain i v false pc 3
  | 0x005 => s.landGain i v true pc 3
  | 0x101 => s.landWidth i v
  | 0x102 => s.landCap i (decide (v ≠ 0))
  | 0x201 => s.landCodeSet i (BitVec.ofNat 16 v)
  | 0x202 => s.landAmb i v
  | 0x203 => s.landRain i v
  | 0x301 => s.landDepth v pc 3
  | 0x302 => s.landDecay v pc 3
  | _ => s.modWhl (fun w => { w with periodNext := v })

/-- The landing is noted for its CCLK cycle. -/
def State.noteSetp (s : State) (param i : Nat) : State :=
  s.modWhl (fun w => { w with setps := (param, i, s.now) :: w.setps.filter (fun x => decide (x.2.2 / 2 = s.now / 2)) })

/-- A SETP lands, for one instance or for all. -/
def State.landSetp (s : State) (param : Nat) (idx : Option Nat) (v pc : Nat) : State :=
  let one := fun (s : State) (i : Nat) => (s.landOne param i v pc).noteSetp param i
  match idx with
  | some i => one s i
  | none => forN ((setpParam param).getD (0, 0, 0)).1 s one

/-! ## Gates and zooms (R140, R143, R144) -/

/-- Change the lanes that a tile mask and a lane mask select. -/
def State.selLanes (s : State) (tiles : BitVec 32) (lanes : BitVec 16) (f : Lane → Lane) : State :=
  forN 512 s (fun s l => if bitOf tiles.toNat (l / 16) && bitOf lanes.toNat (l % 16) then s.modLane l f else s)

/-- One zoom setting, for window `win` or for all three. -/
def zoomSet (src win start : Nat) (x : Lane) : Lane :=
  let z := fun (x : Lane) (i : Nat) => { x with zooms := fset {} x.zooms i { src, start, all := decide (win = 3) } }
  if win = 3 then forN 3 x z else z x win

/-- A queued setting applies at the start of its slot. -/
def State.applyEntry (s : State) (e : QEntry) : State :=
  match e.act with
  | .gate tiles lanes o c => s.selLanes tiles lanes (fun x => { x with gOpen := o, gClose := c })
  | .zoom src win tiles lanes start => s.selLanes tiles lanes (zoomSet src win start)
  | .setp param idx v => s.landSetp param idx v e.pc
  | .shot | .step _ _ _ | .mark _ _ _ | .pix _ _ _ _ _ => s

/-- Does entry `e` apply at the start of the slot at `a`, the pixel's first or not? A ZOOM of an earlier slot waits for a
pixel's first slot (R145). -/
def appliesAt (a : Nat) (first : Bool) (e : QEntry) : Bool :=
  match e.act, e.slot with
  | .gate _ _ _ _, some b => decide (b = a)
  | .setp _ _ _, some b => decide (b = a)
  | .zoom _ _ _ _ _, some b => first && decide (b ≤ a)
  | _, _ => false

/-- Does an entry leave the queue when it applies? A gate stays until it has closed. -/
def leavesAt (a : Nat) (first : Bool) (e : QEntry) : Bool :=
  appliesAt a first e && match e.act with
    | .gate _ _ _ _ => false
    | _ => true

/-- The settings of the slot at `a` apply in program order. -/
def State.applySlot (s : State) (a : Nat) (first : Bool) : State :=
  let go := s.whl.queue.filter (appliesAt a first)
  go.foldl State.applyEntry (s.modWhl (fun w => { w with queue := w.queue.filter (fun e => !leavesAt a first e) }))

/-! ## STEP and MARK (R107, R147, R148) -/

/-- The tick of a queued STEP (`mark` false) or MARK. -/
def QEntry.timed (mark : Bool) (e : QEntry) : Option Nat :=
  match e.act with
  | .step _ _ _ => if mark then none else e.doneAt
  | .mark _ _ _ => if mark then e.doneAt else none
  | _ => none

/-- The first of two queued actions in timeline order. -/
def earlier (best : Option (Nat × QEntry)) (x : Nat × QEntry) : Option (Nat × QEntry) :=
  match best with
  | none => some x
  | some b => if x.1 < b.1 then some x else some b

/-- The next STEP, MARK or either in timeline order. -/
def State.nextTimed (s : State) (tick : QEntry → Option Nat) : Option (Nat × QEntry) :=
  (s.whl.queue.filterMap (fun e => (tick e).map (fun a => (a, e)))).foldl earlier none

/-- An entry leaves the queue. -/
def State.unqueue (s : State) (e : QEntry) : State := s.modWhl (fun w => { w with queue := w.queue.erase e })

/-- The MARK record of sector `k` (R308). -/
def markRec (k tag : Nat) (val : Word) (ut : Nat) : BitVec 128 :=
  mkRec [(4, 0xA), (3, k), (9, 0), (16, tag), (32, val.toNat), (64, ut)]

/-- A MARK places its record in every sector, behind the lane-pixels of every pixel closed so far. -/
def State.placeMark (s : State) (tag : Nat) (val : Word) (tick : Nat) : State :=
  let n := 64 * s.whl.pixTotal
  forN 8 s (fun s k =>
    (s.modGlaze k (fun g => { g with marks := g.marks ++ [(n, s.whl.fid, markRec k tag val (s.utimeAt tick))] })).marksOut k)

/-- A STEP or MARK acts. -/
def State.timedAct (s : State) (a : Nat) (e : QEntry) : State :=
  let s := s.unqueue e
  match e.act with
  | .step ax v _ => s.landSp ax v true e.pc 3
  | .mark tag v _ => s.placeMark tag v a
  | _ => s

/-- STEPs and MARKs whose tick lies before `t` act, at most `n` of them. -/
def State.dueTimed (s : State) (t : Nat) : Nat → State
  | 0 => s
  | n + 1 =>
    match s.nextTimed (fun e => (e.timed false).orElse (fun _ => e.timed true)) with
    | some (a, e) => if a < t then (s.timedAct a e).dueTimed t n else s
    | none => s

/-- STEP_ACTION (R107, R147): the next STEP in timeline order. -/
def execStepAction (t : Nat) (s : State) : Host.Outcome State Fault Refusal :=
  match s.nextTimed (QEntry.timed false) with
  | some (a, e) => .next ((s.at (max t a)).timedAct a e)
  | none => .next (s.at t)

/-- MARK_ACTION (R148, R308): the next MARK in timeline order. -/
def execMarkAction (t : Nat) (s : State) : Host.Outcome State Fault Refusal :=
  match s.nextTimed (QEntry.timed true) with
  | some (a, e) => .next ((s.at (max t a)).timedAct a e)
  | none => .next (s.at t)

/-! ## Decisions (R111 to R113) -/

/-- Does the slot at `a` lie in a held frame (R68)? At the boundary to come a REALIGN holds its frame. -/
def State.heldAt (s : State) (a : Nat) : Bool :=
  match s.whl.eofAt with
  | some b => if b ≤ a then decide (s.clk.state = .realign) else s.whl.held
  | none => s.whl.held

/-- The emission part of a boundary comes before the first decision for a slot behind it. -/
def State.decideBoundary (s : State) (a : Nat) : State :=
  match s.whl.eofAt with
  | some b => if b ≤ a then s.emtBoundary b (decide (s.mode.decided.getD s.mode.active = .guard)) else s
  | none => s

/-- Is the pixel of this shot one whose odd shots the Cone 2 throttle suppresses (R112, R439)? -/
def State.throttles (s : State) (sh : Shot) : Bool := decide (sh.pix = s.pix.seq) && s.pix.first.isSome && s.pix.throttled

/-- The decision on a shot, 32 ticks before its slot; nothing is granted for a held frame. -/
def State.decide_ (s : State) (sh : Shot) : State × Shot :=
  let s := s.decideBoundary sh.slot
  if s.heldAt sh.slot then (s, { s.fixShot sh with granted := 0 })
  else
    let was := s.whl.held
    let x := (s.modWhl (fun w => { w with held := false })).decideShot sh (s.throttles sh)
    (x.1.modWhl (fun w => { w with held := was }), x.2)

/-- The first undecided shot is decided. -/
def State.decideNext (s : State) : State :=
  match s.whl.shots.find? (fun h => !h.decided) with
  | none => s
  | some sh =>
    let x := s.decide_ sh
    x.1.modWhl (fun w => { w with shots := w.shots.map (fun h => if h.slot = sh.slot then x.2 else h) })

/-- BUDGET_DECISION (R111). -/
def execBudgetDecision (t : Nat) (s : State) : Host.Outcome State Fault Refusal :=
  match s.whl.shots.find? (fun h => !h.decided) with
  | some sh => .next (s.at (max t (sh.slot - 32))).decideNext
  | none => .next (s.at t)

/-! ## Pixel close (R109, R116, R224, R257) -/

/-- The slot in progress ends: references and calibration live time. -/
def State.endSlot (s : State) : State := (s.finishRefs.calSlotEnd).modWhl (fun w => { w with cur := none })

/-- A pixel without a shot opens where the pixel before it closed, or at its frame's start (log 35). -/
def State.openEmpty (s : State) (seq : Nat) : State :=
  let a := max s.whl.frameAt s.cap.pixOpenAt
  let s := { s with pix := { ({} : Pixel) with
    seq, frame := s.wideN Id.WHL_FRAME_COUNT, fid := s.whl.fid, frameAt := s.whl.frameAt, first := some a
    calGen := s.wideN Id.CAL_COUNT % 65536 } }
  forN 8 s (fun s k => s.kilnOpen k a)

/-- The VOID cause that the frame gives its pixels: a held frame, or the rest of a frame cut by STATE_SKEW. -/
def State.frameVoid (s : State) : Nat := voidOr s.whl.voidRest (if s.whl.held then 4 else 0)

/-- The pixel with its indices, at its close. -/
def State.closedPixel (s : State) (close : Nat) (eof : Bool) (az el : Nat) : Pixel :=
  { s.pix with
    az, el, eof, close, hasPix := true, utClose := s.utime, void := voidOr s.pix.void s.frameVoid
    holdover := s.inHoldover, refs := s.lan.refTimes }

/-- A pixel closes now: buffers rotate, then the lanes and calibration take the boundary. -/
def State.pixClose (s : State) (close : Nat) (eof : Bool) (az el seq : Nat) : State :=
  let s := (s.dueTimed close 64).endSlot
  let s := if s.pix.first.isSome then s else s.openEmpty seq
  let p := s.closedPixel close eof az el
  let d := close - p.first.getD close
  let s := (s.kilnsClose p).lanesBoundary d
  let s := { s with
    pix := {}, lan := { s.lan with refTimes := [] }, cap := { s.cap with pixOpenAt := max s.cap.pixOpenAt close }
    whl := { s.whl with pixTotal := s.whl.pixTotal + 1 } }
  s.calBoundary eof

/-- The next PIX in the queue. -/
def State.nextPix (s : State) : Option (Nat × QEntry) :=
  s.whl.queue.findSome? (fun e => match e.act with
    | .pix c _ _ _ _ => some (c, e)
    | _ => none)

/-- The next PIX takes effect. -/
def State.closeNext (s : State) : State :=
  match s.nextPix with
  | some (_, e) => match e.act with
    | .pix c eof az el seq => ((s.unqueue e).pixClose c eof az el seq).purge
    | _ => s
  | none => s

/-- PIXEL_CLOSE (R109). -/
def execPixelClose (t : Nat) (s : State) : Host.Outcome State Fault Refusal :=
  match s.nextPix with
  | some (c, _) => .next (s.at (max t c)).closeNext
  | none => .next (s.at t)

/-! ## The boundary sample (R76, R100, R110, R278) -/

/-- A changed period re-anchors the grid at the boundary `b` (R104). -/
def State.periodAt (s : State) (b : Nat) : State :=
  if s.whl.periodNext = s.whl.period then s
  else s.modWhl (fun w => { w with period := w.periodNext, anchor := b })

/-- The sample of the boundary at `b`: mode target, bank swap, ego-motion, period; issue resumes. -/
def State.boundarySample (s : State) (b : Nat) : State :=
  let s := (s.modeSample.bankSwap.shfSample.periodAt b)
  s.modWhl (fun w => { w with sampled := true, readyAt := max w.readyAt s.now })

/-- FRAME_BOUNDARY_SAMPLE (R110): 1,024 ticks before the boundary. -/
def execFrameBoundarySample (t : Nat) (s : State) : Host.Outcome State Fault Refusal :=
  match s.whl.eofAt with
  | some b => if s.whl.sampled then .next (s.at t) else .next ((s.at (max t (b - 1024))).boundarySample b)
  | none => .next (s.at t)

/-! ## Frame boundary (R110, R118, R134, R306, R307) -/

/-- The frame in progress ends here; its END record is due once its pixels have passed. A frame cut by STATE_SKEW keeps
the mode then entered. -/
def State.frameEnds (s : State) : State :=
  if s.whl.frameOpen then
    let hold := s.inHoldover
    let s := s.modFrame s.whl.fid (fun q => { q with
      endPix := some s.whl.pixTotal, mode := if q.skew then q.mode else s.mode.active.code, utEnd := s.utime
      holdSeen := q.holdSeen || hold })
    (s.modMode (fun m => { m with lastFrame := some (s.now - s.whl.frameAt) })).modWhl (fun w => { w with
      frameOpen := false, voidRest := 0 })
  else s

/-- REALIGN at a boundary of a running program (R68): the frame that begins is held. -/
def State.realignBoundary (s : State) : State :=
  let r := decide (s.clk.state = .realign)
  let s := s.modWhl (fun w => { w with held := r })
  if r && !s.clk.realignFire then s.realignBegin else s

/-- What every frame boundary does in the blocks: count, emission, UTIME, Coil, calibration, Shelf, fields, refractivity
(R76, R159, R241, R273, R300, R371, R397). -/
def State.boundaryBlocks (s : State) (b : Nat) (start : Bool) : State :=
  let tf := if start then 0 else s.now - s.whl.frameAt
  let s := (s.bump Id.WHL_FRAME_COUNT).mfpPulse 31 32
  let s := s.emtBoundary b (decide (s.mode.active = .guard))
  let s := (s.utimeSetBoundary.coilBoundary.coilStatus).calBoundary true
  let s := s.shfBoundary (s.wideN Id.WHL_FRAME_COUNT) tf start
  let s := { s with pq := { s.pq with nair := min 1000 (s.reg Reg.GLZ_NAIR).toNat } }
  s.fsetBoundary

/-- The FRAME record (R306). -/
def State.frameRec (s : State) : BitVec 128 :=
  mkRec [(4, 8), (3, s.mode.active.code), (1, b2n s.inHoldover), (1, b2n (s.bit Reg.SHF_CTL 6 && !s.shf.egoFrame)),
    (1, b2n (decide (s.clk.state = .slewing))), (1, b2n s.whl.held), (1, b2n s.thm.enforced), (1, b2n s.coilTime),
    (1, b2n s.whl.swapped), (1, s.whl.bank), (1, 0), (16, s.wideN Id.CAL_COUNT), (32, s.wideN Id.WHL_FRAME_COUNT),
    (64, s.utime)]

/-- A new frame begins. -/
def State.frameBegins (s : State) : State :=
  let s := s.modWhl (fun w => { w with fid := w.fid + 1, frameOpen := true, frameAt := s.now, firstFrame := false })
  let q : FrameQ := {
    fid := s.whl.fid, frame := s.wideN Id.WHL_FRAME_COUNT, head := s.frameRec, holdSeen := s.inHoldover
    ens := BitVec.ofNat 3 ((s.regBefore Reg.GLZ_PQ_CTL).toNat % 8) }
  (s.pushFrame q).modWhl (fun w => { w with swapped := false })

/-- Does the program end at this boundary: stop, a HALT whose last PIX has closed, a mode in which it does not run? -/
def State.haltsHere (s : State) : Bool :=
  s.whl.stopReq || (s.whl.haltReq && s.whl.eofNext.isNone) || !s.mode.active.scanning

/-- The program ends at a boundary: actions issued since the sample are cancelled. -/
def State.endProgram (s : State) : State :=
  ((s.modWhl (fun w => { w with
    queue := [], shots := [], eofAt := none, eofNext := none, sampled := false, lastSlot := none, afterPix := true
    issShots := 0 })).haltWheel false).wheelIdle

/-- The boundary that was due is past; a second end of frame may already be issued. -/
def State.nextEof (s : State) : State :=
  s.modWhl (fun w => { w with eofAt := w.eofNext, eofNext := none, sampled := false })

/-- The pixels that close by now close, at most `n`. -/
def State.closeDue (s : State) : Nat → State
  | 0 => s
  | n + 1 =>
    match s.nextPix with
    | some (c, _) => if c ≤ s.now then s.closeNext.closeDue n else s
    | none => s

/-- The frame boundary at `b`, now: last closes, sample if it is still due, END, transition, blocks, FRAME. -/
def State.frameBoundary (s : State) (b : Nat) : State :=
  let s := if s.whl.sampled then s else s.boundarySample b
  let s := ((s.closeDue 64).dueTimed b 64).frameEnds.modeApply.realignBoundary
  let s := (s.periodAt b).boundaryBlocks b s.whl.firstFrame
  if s.haltsHere then s.endProgram else s.nextEof.frameBegins

/-- FRAME_BOUNDARY (R76, R110). -/
def execFrameBoundary (t : Nat) (s : State) : Host.Outcome State Fault Refusal :=
  match s.whl.eofAt with
  | some b => if s.wheelRuns then .next ((s.at (max t b)).frameBoundary b) else .next (s.at t)
  | none => .next (s.at t)

/-! ## Slot start (R104, R140, R154, R217, R218) -/

/-- What was due before the slot at `a`: pixel closes and the frame boundary. -/
def State.dueBefore (s : State) (a : Nat) : State :=
  let s := s.closeDue 64
  match s.whl.eofAt with
  | some b => if b ≤ a && s.wheelRuns then s.frameBoundary b else s
  | none => s

/-- The pixel of a first shot opens (R112, R305). -/
def State.openPixel (s : State) (sh : Shot) : State :=
  { s with
    pix := { ({} : Pixel) with
      seq := sh.pix, frame := s.wideN Id.WHL_FRAME_COUNT, fid := s.whl.fid, frameAt := s.whl.frameAt, first := some sh.slot
      throttled := s.thm.enforced && decide (s.thm.onSince < sh.slot), calGen := s.wideN Id.CAL_COUNT % 65536 }
    cap := { s.cap with pixOpenAt := sh.slot, stale := false } }

/-- The slot of `sh` becomes the one in progress. -/
def State.enterSlot (s : State) (sh : Shot) : State :=
  { s with
    whl := { s.whl with cur := some sh, shots := s.whl.shots.drop 1 }
    pix := { s.pix with shots := s.pix.shots ++ [sh] } }

/-- Blanking of the tiles whose emitter fires, from its first pulse (R218). -/
def State.blankFired (s : State) (sh : Shot) : State :=
  (maskList sh.granted).foldl (fun s k =>
    if s.fired sh k then s.blankTile k (sh.slot + maskRank sh.mask k * sh.stag) else s) s

/-- The slot of the next shot starts now. -/
def State.slotStart (s : State) (sh : Shot) : State :=
  let first := decide (sh.idx = 0)
  let x := if sh.decided then (s, sh) else s.decide_ sh
  let s := x.1.endSlot
  let s := if first then s.openPixel x.2 else s
  let s := ((s.enterSlot x.2).applySlot sh.slot first).forcedGains first
  let s := if first then forN 8 s (fun s k => s.kilnOpen k sh.slot) else s
  ((s.joinGates.fireShot x.2).blankFired x.2).purge

/-- SLOT_START (R104): the next slot with a SHOT bound; the boundary before it may have cancelled it. `uecc`: its words
in the timeline queue are uncorrectable (R494). -/
def execSlotStart (t : Nat) (uecc : Bool) (s : State) : Host.Outcome State Fault Refusal :=
  match s.whl.shots with
  | [] => .next (s.at t)
  | sh :: _ =>
    let s := (s.at (max t sh.slot)).dueBefore sh.slot
    match s.whl.shots with
    | [] => .next s
    | sh :: _ => .next (if uecc then s.wheelUecc else s.slotStart sh)

end Sys2Proof.Machine
end

