-- ==== Sys2Proof/Machine/WheelIsa.lean ====
section
/-! DEFINITION. The Wheel's instructions: issue, completion, and one meaning each (R103, R105 to R109, R114, R115, R126 to
R151). A command issues the word at the program counter at the Wheel's next issue tick, or at its own tick if that is
later; it has no effect where that word is another instruction, or where issue stalls. -/

namespace Sys2Proof.Machine

/-! ## Issue and completion -/

/-- Does the Wheel issue: RUNNING, not held at its start, no end of frame waiting for its sample, no HALT (R110, R134)? -/
def State.canIssue (s : State) : Bool :=
  decide (s.whl.state = .running) && !s.whl.startHeld && !s.whl.haltReq && s.whl.eofNext.isNone &&
    (s.whl.eofAt.isNone || s.whl.sampled)

/-- The state at the issue tick. -/
def State.issueAt (s : State) (t : Nat) : State := if s.canIssue then s.at (max t s.whl.readyAt) else s.at t

/-- Issue the word at the program counter by `f`. -/
def State.issue (s : State) (t : Nat) (f : State → Wop → State) : State :=
  let s := s.issueAt t
  if s.canIssue then
    match s.fetchOp with
    | some op => f s op
    | none => s
  else s

/-- The check of the loop counters at the completion of instruction `pc` (R133): innermost first. -/
def loopEnd (pc : Nat) : List LoopCtr → Nat × List LoopCtr
  | [] => (pc + 1, [])
  | c :: r =>
    if c.last = pc then
      if c.left ≤ 1 then loopEnd pc r else (c.first, { c with left := c.left - 1 } :: r)
    else (pc + 1, c :: r)

/-- The counters that a branch to `target` leaves active. -/
def loopLeave (target : Nat) (l : List LoopCtr) : List LoopCtr :=
  l.dropWhile (fun c => !(decide (c.first ≤ target) && decide (target ≤ c.last)))

/-- Execution continues at `pc` after `cycles` CCLK cycles; beyond 16,383 the Wheel faults (R119). -/
def State.goto (s : State) (pc cycles : Nat) (loops : List LoopCtr) : State :=
  if pc < 16384 then s.modWhl (fun w => { w with pc, loops, readyAt := s.now + 2 * cycles }) else s.wheelFault 2

/-- Completion without a taken branch. -/
def State.retire (s : State) (cycles : Nat) : State :=
  let x := loopEnd s.whl.pc s.whl.loops
  s.goto x.1 cycles x.2

/-- The value of a source operand. -/
def State.src (s : State) : Src → Word
  | .reg i => s.wreg i
  | .imm v => BitVec.ofNat 32 v

/-! ## Flow control (R129 to R134) -/

/-- A jump: counters of bodies that it leaves are popped. -/
def State.branch (s : State) (target cycles : Nat) : State := s.goto target cycles (loopLeave target s.whl.loops)

/-- JMP. -/
def State.jump (s : State) (tgt : Src) : State := s.branch (s.src tgt).toNat 2

/-- CALL: the depth and the target are checked before the stack changes. -/
def State.callTo (s : State) (tgt : Src) : State :=
  let t := (s.src tgt).toNat
  if 16384 ≤ t then s.wheelFault 2
  else if 8 ≤ s.whl.rets.length then s.wheelFault 3
  else (s.modWhl (fun w => { w with rets := (w.pc + 1) :: w.rets })).goto t 2 s.whl.loops

/-- RET. -/
def State.retFrom (s : State) : State :=
  match s.whl.rets with
  | [] => s.wheelFault 4
  | a :: r => (s.modWhl (fun w => { w with rets := r })).goto a 2 s.whl.loops

/-- LOOP: a count of 0 continues after the end. -/
def State.loopStart (s : State) (count : Src) (end_ : Nat) : State :=
  let n := (s.src count).toNat
  if end_ ≤ s.whl.pc then s.wheelFault 1
  else if n = 0 then s.goto (end_ + 1) 1 s.whl.loops
  else if 4 ≤ s.whl.loops.length then s.wheelFault 5
  else s.goto (s.whl.pc + 1) 1 ({ left := n, first := s.whl.pc + 1, last := end_ } :: s.whl.loops)

/-- JMP (R129, R131, R133). -/
def execJmp (t : Nat) (s : State) : Host.Outcome State Fault Refusal :=
  .next (s.issue t (fun s op => match op with
    | .jmp tgt => s.jump tgt
    | _ => s))

/-- BR (R130, R133). -/
def execBr (t : Nat) (s : State) : Host.Outcome State Fault Refusal :=
  .next (s.issue t (fun s op => match op with
    | .br cond target => if condTaken cond s.whl.z s.whl.n s.whl.c then s.branch target 2 else s.retire 1
    | _ => s))

/-- LOOP (R132). -/
def execLoop (t : Nat) (s : State) : Host.Outcome State Fault Refusal :=
  .next (s.issue t (fun s op => match op with
    | .loop count end_ => s.loopStart count end_
    | _ => s))

/-- CALL (R131). -/
def execCall (t : Nat) (s : State) : Host.Outcome State Fault Refusal :=
  .next (s.issue t (fun s op => match op with
    | .call tgt => s.callTo tgt
    | _ => s))

/-- RET (R131). -/
def execRet (t : Nat) (s : State) : Host.Outcome State Fault Refusal :=
  .next (s.issue t (fun s op => match op with
    | .ret => s.retFrom
    | _ => s))

/-- ILLEGAL_INSTRUCTION (R125, R126): the word at the program counter is no instruction; `uecc`: it is uncorrectable
(R494). -/
def execIllegalInstruction (t : Nat) (uecc : Bool) (s : State) : Host.Outcome State Fault Refusal :=
  let s := s.issueAt t
  .next (if s.canIssue && uecc then s.wheelUecc
    else if s.canIssue && s.fetchOp.isNone then s.wheelFault 1 else s)

/-! ## Arithmetic (R135, R136) -/

/-- An arithmetic instruction: flags, and the destination unless it is CMP. -/
def State.arith (s : State) (op : AluOp) (wd wa : Nat) (b : Src) : State :=
  let x := s.wreg wa
  let y := s.src b
  let r := aluResult op x y
  let s := s.modWhl (fun w => { w with z := decide (r = 0), n := r.msb, c := aluCarry op x y })
  (if op = .cmp then s else s.setW wd r).retire 1

/-- An arithmetic command takes effect when the word is its own operation. -/
def State.arithIf (s : State) (op : AluOp) : Wop → State
  | .alu o wd wa b => if o = op then s.arith o wd wa b else s
  | _ => s

/-- LDI (R135). -/
def execLdi (t : Nat) (s : State) : Host.Outcome State Fault Refusal :=
  .next (s.issue t (fun s op => match op with
    | .ldi wd v => (s.setW wd (BitVec.ofNat 32 v)).retire 1
    | _ => s))

/-- MOV (R135). -/
def execMov (t : Nat) (s : State) : Host.Outcome State Fault Refusal :=
  .next (s.issue t (fun s op => match op with
    | .mov wd wa => (s.setW wd (s.wreg wa)).retire 1
    | _ => s))

/-- ADD (R128, R136). -/
def execAdd (t : Nat) (s : State) : Host.Outcome State Fault Refusal := .next (s.issue t (fun s op => s.arithIf .add op))

/-- SUB (R128, R136). -/
def execSub (t : Nat) (s : State) : Host.Outcome State Fault Refusal := .next (s.issue t (fun s op => s.arithIf .sub op))

/-- AND (R128, R136). -/
def execAnd (t : Nat) (s : State) : Host.Outcome State Fault Refusal := .next (s.issue t (fun s op => s.arithIf .and op))

/-- OR (R128, R136). -/
def execOr (t : Nat) (s : State) : Host.Outcome State Fault Refusal := .next (s.issue t (fun s op => s.arithIf .or op))

/-- SHL (R128, R136). -/
def execShl (t : Nat) (s : State) : Host.Outcome State Fault Refusal := .next (s.issue t (fun s op => s.arithIf .shl op))

/-- SHR (R128, R136). -/
def execShr (t : Nat) (s : State) : Host.Outcome State Fault Refusal := .next (s.issue t (fun s op => s.arithIf .shr op))

/-- CMP (R128, R136). -/
def execCmp (t : Nat) (s : State) : Host.Outcome State Fault Refusal := .next (s.issue t (fun s op => s.arithIf .cmp op))

/-! ## Waiting (R114, R115, R137, R138) -/

/-- A wait ends: the register and Z are written, and the instruction completes. -/
def State.waitDone (s : State) (wd : Nat) (v : Word) (z : Bool) : State :=
  ((s.setW wd v).modWhl (fun w => { w with state := .running, wait := none, z })).retire 1

/-- The pending events of a mask are consumed at once. -/
def State.consume (s : State) (wd mask : Nat) : State :=
  let bits := s.whl.hostev &&& BitVec.ofNat 8 mask
  let s := s.modWhl (fun w => { w with hostev := w.hostev &&& ~~~bits, evAt := s.now, evUsed := bits })
  s.waitDone wd (BitVec.ofNat 32 bits.toNat) false

/-- Is an event of the mask pending? -/
def State.evPending (s : State) (mask : Nat) : Bool := decide (s.whl.hostev &&& BitVec.ofNat 8 mask ≠ 0)

/-- WAITEV at its issue. -/
def State.waitEv (s : State) (wd timeout mask : Nat) : State :=
  if s.evPending mask then s.consume wd mask
  else if timeout = 0 then s.waitDone wd 0 true
  else s.modWhl (fun w => { w with state := .waiting, wait := some (.hostEv wd mask (s.now + 1024 * timeout)) })

/-- WAITEV (R137). -/
def execWaitev (t : Nat) (s : State) : Host.Outcome State Fault Refusal :=
  .next (s.issue t (fun s op => match op with
    | .waitev wd timeout mask => s.waitEv wd timeout mask
    | _ => s))

/-- WAITEV_EVENT (R137): a masked event is pending by the end of the timeout. -/
def execWaitevEvent (t : Nat) (s : State) : Host.Outcome State Fault Refusal :=
  let s := s.at t
  match s.whl.wait with
  | some (.hostEv wd mask until_) => if s.evPending mask && decide (s.now ≤ until_) then .next (s.consume wd mask) else .next s
  | _ => .next s

/-- WAITEV_TIMEOUT (R137). -/
def execWaitevTimeout (t : Nat) (s : State) : Host.Outcome State Fault Refusal :=
  match s.whl.wait with
  | some (.hostEv wd mask until_) =>
    let s := s.at (max t until_)
    .next (if s.evPending mask then s.consume wd mask else s.waitDone wd 0 true)
  | _ => .next (s.at t)

/-- SYNC falls through: sync_timeout, its count, wd 0, Z 1 (R114, R138). -/
def State.syncOut (s : State) (wd : Nat) : State :=
  ((s.event Reg.WHL_STAT 4 {}).bump Id.WHL_SYNC_TIMEOUTS).waitDone wd 0 true

/-- SYNC's event: the grid is re-anchored, and proofs of slots without a SHOT are placed again (R114, R178). -/
def State.syncHit (s : State) (wd ofs detail : Nat) : State :=
  let s := (s.modWhl (fun w => { w with anchor := s.now + ofs })).replaceProofs
  s.waitDone wd (BitVec.ofNat 32 detail) false

/-- The window of the schedule in force that starts at this tick and that the unit holds (R402). -/
def State.coilWindowNow (s : State) : Option Nat :=
  let c := s.coilSched
  if c.1 = 0 ∨ s.emt.derivedFor = 0 then none
  else c.2.findIdx? (fun w => decide (bitsOf w.toNat 23 0 = s.utime % c.1) && decide (bitsOf w.toNat 47 32 ≠ 0) &&
    bitOf w.toNat (48 + (s.emt.derivedFor - 1)))

/-- An event of SYNC's source at this very tick: its detail (R138). -/
def State.syncNow (s : State) (src n : Nat) : Option Nat :=
  match src with
  | 0 => match s.str.facet with
    | some (f, a) => if a = s.now ∧ (n = 15 ∨ n = f) then some f else none
    | none => none
  | 1 => s.coilWindowNow
  | _ => if (s.tsin n).conv.any (fun e => decide (e.at_ = s.now)) then some 0 else none

/-- SYNC at its issue: an event at that tick counts; COIL without firing slots and a timeout of 0 fall through. -/
def State.syncStart (s : State) (wd src timeout n ofs : Nat) : State :=
  if src = 1 ∧ s.bit Reg.COIL_CTL 3 = false then s.syncOut wd
  else
    match s.syncNow src n with
    | some d => s.syncHit wd ofs d
    | none =>
      if timeout = 0 then s.syncOut wd
      else s.modWhl (fun w => { w with state := .waiting, wait := some (.sync wd src n ofs (s.now + 1024 * timeout)) })

/-- SYNC (R138). -/
def execSync (t : Nat) (s : State) : Host.Outcome State Fault Refusal :=
  .next (s.issue t (fun s op => match op with
    | .sync wd src timeout n ofs => s.syncStart wd src timeout n ofs
    | _ => s))

/-- Is this the event that SYNC waits for: facet or any, any window, the input? -/
def syncMatches (src want : Nat) (esrc : Fin 3) (n : Fin 32) : Bool :=
  decide (src = esrc.val) && (decide (src = 1) || decide (want = n.val) || (decide (src = 0) && decide (want = 15)))

/-- SYNC_EVENT (R114): facet, window or input `n`; at the tick of the timeout the event wins (R121). -/
def execSyncEvent (t : Nat) (src : Fin 3) (n : Fin 32) (s : State) : Host.Outcome State Fault Refusal :=
  let s := s.at t
  match s.whl.wait with
  | some (.sync wd wsrc want ofs until_) =>
    if syncMatches wsrc want src n && decide (s.now ≤ until_) then .next (s.syncHit wd ofs (if wsrc = 2 then 0 else n.val))
    else .next s
  | _ => .next s

/-- SYNC_TIMEOUT (R114). -/
def execSyncTimeout (t : Nat) (s : State) : Host.Outcome State Fault Refusal :=
  match s.whl.wait with
  | some (.sync wd _ _ _ until_) => .next ((s.at (max t until_)).syncOut wd)
  | _ => .next (s.at t)

/-! ## HALT (R134) -/

/-- The program ends at once, with an END record when a frame is open. -/
def State.haltNow (s : State) : State := s.frameEnds.endProgram

/-- The close of the last PIX becomes a frame boundary, unless it is one. -/
def State.haltBoundary (s : State) : State :=
  let c := s.whl.prevClose
  let s := s.modWhl (fun w => { w with
    haltReq := true
    queue := w.queue.map (fun e => match e.act with
      | .pix cl _ az el seq => if cl = c then { e with act := .pix cl true az el seq } else e
      | _ => e) })
  if s.whl.lastEof then s
  else
    let s := s.kilnEof (s.whl.issSeq - 1)
    s.modWhl (fun w => match w.eofAt with
      | none => { w with eofAt := some c, sampled := false }
      | some _ => { w with eofNext := some c })

/-- HALT: OPEN_PIX with a SHOT since the last PIX; at once before any PIX; else at the close of the last PIX. -/
def State.haltOp (s : State) : State :=
  if s.whl.issShots ≠ 0 then s.wheelFault 7
  else if !s.whl.anyPix then s.haltNow
  else if s.now < s.whl.prevClose then s.haltBoundary
  else
    let s := s.dueBefore s.now
    if !s.wheelRuns then s
    else if s.whl.lastEof then s.haltNow
    else (s.modWhl (fun w => { w with haltReq := true, sampled := false })).frameBoundary s.now

/-- HALT (R134). -/
def execHalt (t : Nat) (s : State) : Host.Outcome State Fault Refusal :=
  .next (s.issue t (fun s op => match op with
    | .halt => s.haltOp
    | _ => s))

/-! ## Timeline instructions (R139 to R150) -/

/-- A timeline instruction finds room, stalls, or faults with QUEUE_DEADLOCK (R108). -/
def State.queued (s : State) (f : State → State) : State :=
  let q := s.queueUsed
  if q.length < 64 then f s
  else if q.all (fun e => e.slot.isNone) then s.wheelFault 8
  else s

/-- The slot that an action attaches to: that of the most recent SHOT, none after a PIX until the next SHOT (R107). -/
def State.attachSlot (s : State) : Option Nat := if s.whl.afterPix then none else s.whl.lastSlot

/-- An entry joins the queue. -/
def State.enqueueAct (s : State) (act : Action) (slot : Option Nat) : State :=
  s.modWhl (fun w => { w with queue := w.queue ++ [{ act, slot, pc := w.pc }] })

/-- A gate or a parameter that attaches to a slot already started applies at once. -/
def State.attach (s : State) (act : Action) : State :=
  match s.attachSlot with
  | none => s.enqueueAct act none
  | some a =>
    if s.slotStarted a then
      let e : QEntry := { act, slot := some a, pc := s.whl.pc }
      match act with
      | .gate _ _ _ _ => ((s.enqueueAct act (some a)).applyEntry e).joinGates
      | .setp _ _ _ => s.applyEntry e
      | _ => s.enqueueAct act (some a)
    else s.enqueueAct act (some a)

/-- An operand held at a bound (R22): PARAM_CLAMP with the program counter and the value applied. -/
def State.bounded (s : State) (v lo hi : Nat) : State × Nat :=
  let a := clampN lo hi v
  (if a = v then s else s.paramClamp s.whl.pc a, a)

/-- The first grid slot that a SHOT issued now may take (R105). -/
def State.shotSlot (s : State) : Nat := s.gridFrom (max (s.now + 256) (max s.whl.lastEnd s.whl.prevClose))

/-- Does a slot lie at most two slots after the slot in progress (R105)? -/
def State.inReach (s : State) (slot : Nat) : Bool :=
  let p : Int := s.whl.period
  decide ((slot : Int) ≤ s.whl.anchor + (floorDiv ((s.now : Int) - s.whl.anchor) p + 2) * p)

/-- A SHOT binds to a slot; the actions that waited for it attach. A later slot than the one after its predecessor's is a
skip (R106). -/
def State.bindShot (s : State) (slot : Nat) (mask : BitVec 32) (prof stag code : Nat) : State :=
  let skip := decide (s.whl.issShots ≠ 0) && decide (s.gridFrom s.whl.lastEnd < slot)
  let s := if skip then (s.bump Id.WHL_SKIP_COUNT).event Reg.WHL_STAT 3 {} else s
  let s := (s.enqueueAct .shot (some slot)).bump Id.WHL_SHOT_COUNT
  s.modWhl (fun w =>
    let sh : Shot := { slot, mask, prof, stag, code, pc := w.pc, idx := w.issShots, pix := w.issSeq }
    { w with
      queue := w.queue.map (fun e => if e.slot = none then { e with slot := some slot } else e)
      shots := w.shots ++ [sh], lastSlot := some slot, lastEnd := slot + w.period
      issShots := w.issShots + 1, afterPix := false })

/-- SHOT at its issue: SHOT_OVER at a ninth; beyond reach it stalls. -/
def State.shotOp (s : State) (mask : BitVec 32) (prof stag code : Nat) : State :=
  if 8 ≤ s.whl.issShots then s.wheelFault 6
  else if s.inReach s.shotSlot then (s.bindShot s.shotSlot mask prof stag code).retire 1
  else s

/-- SHOT (R141). -/
def execShot (t : Nat) (s : State) : Host.Outcome State Fault Refusal :=
  .next (s.issue t (fun s op => match op with
    | .shot mask prof stag code => s.queued (fun s => s.shotOp (s.src mask) prof stag code)
    | _ => s))

/-- GATE at its issue (R143). -/
def State.gateOp (s : State) (ta lanes close open_ : Nat) : State :=
  let x := s.bounded open_ 0 8192
  let y := x.1.bounded close 0 8192
  (y.1.attach (.gate (s.wreg ta) (BitVec.ofNat 16 lanes) x.2 y.2)).retire 1

/-- GATE (R143). -/
def execGate (t : Nat) (s : State) : Host.Outcome State Fault Refusal :=
  .next (s.issue t (fun s op => match op with
    | .gate ta lanes close open_ => s.queued (fun s => s.gateOp ta lanes close open_)
    | _ => s))

/-- The slot of a ZOOM: the first of its pixel; none before the pixel's first SHOT (R107, R145). -/
def State.zoomSlot (s : State) : Option Nat :=
  if s.whl.afterPix then none
  else (s.whl.shots.find? (fun h => decide (h.idx = 0) && decide (h.pix = s.whl.issSeq))).map (·.slot)

/-- ZOOM at its issue (R144, R145): ZOOM_LATE for a pixel whose first slot has started. -/
def State.zoomOp (s : State) (src win ta lanes start : Nat) : State :=
  let x := s.bounded start 0 8191
  let act := Action.zoom src win (s.wreg ta) (BitVec.ofNat 16 lanes) x.2
  let late := !s.whl.afterPix && s.zoomSlot.isNone
  let s := if late then (x.1.eventNoFlag 2 48 { addr := s.whl.pc }).enqueueAct act s.whl.lastSlot
    else x.1.enqueueAct act s.zoomSlot
  s.retire 1

/-- ZOOM (R144). -/
def execZoom (t : Nat) (s : State) : Host.Outcome State Fault Refusal :=
  .next (s.issue t (fun s op => match op with
    | .zoom src win ta lanes start => s.queued (fun s => s.zoomOp src win ta lanes start)
    | _ => s))

/-- The close of the pixel being issued (R109); a PIX that issues after it closes the pixel at its issue (log 36). -/
def State.pixCloseTick (s : State) : Nat :=
  let min_ := max s.now (s.whl.prevClose + 40000)
  if s.whl.issShots = 0 then min_ else max min_ s.whl.lastEnd

/-- An end of frame waits for its sample (R110). -/
def State.setEof (s : State) (close : Nat) : State :=
  s.modWhl (fun w => match w.eofAt with
    | none => { w with eofAt := some close, sampled := false }
    | some _ => { w with eofNext := some close })

/-- PIX at its issue (R146). -/
def State.pixOp (s : State) (eof : Bool) (az el : Src) : State :=
  let x := s.bounded (s.src az).toNat 0 8191
  let y := x.1.bounded (s.src el).toNat 0 1023
  let c := s.pixCloseTick
  let seq := s.whl.issSeq
  let s := (y.1.enqueueAct (.pix c eof x.2 y.2 seq) (some c)).modWhl (fun w => { w with
    issSeq := w.issSeq + 1, issShots := 0, afterPix := true, prevClose := c, anyPix := true, lastEof := eof })
  (if eof then (s.kilnEof seq).setEof c else s).retire 1

/-- PIX (R146). -/
def execPix (t : Nat) (s : State) : Host.Outcome State Fault Refusal :=
  .next (s.issue t (fun s op => match op with
    | .pix eof az el => s.queued (fun s => s.pixOp eof az el)
    | _ => s))

/-- The set-point of a STEP: 32 bits signed from a register, 24 from the word (R147). -/
def State.stepValue (s : State) : Src → Int
  | .reg i => (s.wreg i).toInt
  | .imm v => sgn 24 v

/-- STEP at its issue (R107, R147). -/
def State.stepOp (s : State) (ax : Nat) (val : Src) (ofs : Nat) : State :=
  let x := s.bounded ofs 0 (s.whl.period - 1)
  (x.1.attach (.step ax (s.stepValue val) x.2)).retire 1

/-- STEP (R147). -/
def execStep (t : Nat) (s : State) : Host.Outcome State Fault Refusal :=
  .next (s.issue t (fun s op => match op with
    | .step ax val ofs => s.queued (fun s => s.stepOp ax val ofs)
    | _ => s))

/-- MARK at its issue (R107, R148): the record carries the register's value of now. -/
def State.markOp (s : State) (wa tag ofs : Nat) : State :=
  let x := s.bounded ofs 0 (s.whl.period - 1)
  (x.1.attach (.mark tag (s.wreg wa) x.2)).retire 1

/-- MARK (R148). -/
def execMark (t : Nat) (s : State) : Host.Outcome State Fault Refusal :=
  .next (s.issue t (fun s op => match op with
    | .mark wa tag ofs => s.queued (fun s => s.markOp wa tag ofs)
    | _ => s))

/-- SETP at its issue (R149, R150): an identifier not listed or an index out of range is illegal; a value is held in its
range, a depth above 4 with LEN_CLAMP. -/
def State.setpOp (s : State) (val : Src) (all : Bool) (index : Src) (param : Nat) : State :=
  match setpParam param with
  | none => s.wheelFault 1
  | some (n, lo, hi) =>
    let i := (s.src index).toNat
    if !all && decide (n ≤ i) then s.wheelFault 1
    else
      let v := (s.src val).toNat % 65536
      let a := clampN lo hi v
      let s := if a = v then s else if param = 0x301 then s.lenClamp s.whl.pc a else s.paramClamp s.whl.pc a
      (s.attach (.setp param (if all then none else some i) a)).retire 1

/-- SETP (R149). -/
def execSetp (t : Nat) (s : State) : Host.Outcome State Fault Refusal :=
  .next (s.issue t (fun s op => match op with
    | .setp val all index param => s.queued (fun s => s.setpOp val all index param)
    | _ => s))

/-! ## BUDGET (R151) -/

/-- BUDGET at its issue: the snapshot, written for the next instruction, which issues 8 cycles later (R127). -/
def State.budgetOp (s : State) (wd : Nat) (emt : Src) (prof code : Nat) : State :=
  let k := (s.src emt).toNat
  if 31 < k then s.wheelFault 1
  else
    let q := s.budgetQuery k prof code
    ((s.setW wd (BitVec.ofNat 32 (min (2 ^ 32 - 1) q.1))).modWhl (fun w => { w with z := decide (q.1 < q.2) })).retire 8

/-- BUDGET (R151). -/
def execBudget (t : Nat) (s : State) : Host.Outcome State Fault Refusal :=
  .next (s.issue t (fun s op => match op with
    | .budget wd emt prof code => s.budgetOp wd emt prof code
    | _ => s))

end Sys2Proof.Machine
end

