-- ==== Sys2Proof/Machine/WheelCtl.lean ====
section
/-! DEFINITION. Control of the Wheel from outside: program banks, WHL_CMD, host events; lane boundaries without a program, and
the events that end a held start (R68, R99, R100, R115, R118, R120, R226, R268, R527). -/

namespace Sys2Proof.Machine

/-! ## Program banks -/

/-- A write inside the banks (R99): the active bank, and the other one while a swap is armed, discard it. -/
def State.bankWrite (s : State) (path : Path) (off size : Nat) (val : Word) : State :=
  let s := s.idleSwap
  let bank := bankKey off / 32768
  if size < 4 || decide (off % 4 ≠ 0) || decide (bank = s.whl.bank) || s.whl.armed then s.accessErr off (pathCode path)
  else s.modWhl (fun w => { w with mem := fset 0 w.mem (bankKey off) val })

/-- PROGRAM_BANK_WRITE (R99, R100). -/
def execProgramBankWrite (t : Nat) (path : Path) (off size : Nat) (val : Word) (s : State) : Host.Outcome State Fault Refusal :=
  let s := s.at t
  if 0x4000000 ≤ off then .fault .outsideBar0
  else if s.gated then .next s
  else if off < 0x208000 ∨ 0x248000 ≤ off then .next (s.accessErr off (pathCode path))
  else .next (s.bankWrite path off size val)

/-! ## WHL_CMD (R118 to R122) -/

/-- WHL_CMD.start: only IDLE or FAULTED, in a scanning mode; else nothing. -/
def State.wheelStart (s : State) : State := if s.mode.active.scanning && !s.wheelRuns then s.wheelBegin else s

/-- WHL_CMD.stop. -/
def State.wheelStop (s : State) : State := if s.wheelRuns then s.modWhl (fun w => { w with stopReq := true }) else s

/-- WHL_CMD.arm_swap: discarded in GUARD (R365). -/
def State.wheelArm (s : State) (path : Path) : State :=
  if s.mode.active = .guard then s.accessErr Reg.WHL_CMD (pathCode path) else s.armWrite true

/-- WHL_CMD.disarm: a swap that the idle machine has taken is past. -/
def State.wheelDisarm (s : State) : State := s.idleSwap.armWrite false

/-- WHEEL_START (R118). -/
def execWheelStart (t : Nat) (_path : Path) (s : State) : Host.Outcome State Fault Refusal :=
  let s := s.at t
  .next (if s.gated then s else s.wheelStart)

/-- WHEEL_STOP (R118). -/
def execWheelStop (t : Nat) (_path : Path) (s : State) : Host.Outcome State Fault Refusal :=
  let s := s.at t
  .next (if s.gated then s else s.wheelStop)

/-- ARM_SWAP (R100). -/
def execArmSwap (t : Nat) (path : Path) (s : State) : Host.Outcome State Fault Refusal :=
  let s := s.at t
  .next (if s.gated then s else s.wheelArm path)

/-- DISARM (R100). -/
def execDisarm (t : Nat) (_path : Path) (s : State) : Host.Outcome State Fault Refusal :=
  let s := s.at t
  .next (if s.gated then s else s.wheelDisarm)

/-- WHEEL_ABORT (R120). -/
def execWheelAbort (t : Nat) (_path : Path) (s : State) : Host.Outcome State Fault Refusal :=
  let s := s.at t
  .next (if s.gated then s else s.wheelAbort)

/-! ## Host events (R115, R527) -/

/-- Host events are posted; a bit that a WAITEV consumes in this PCLK cycle starts no new event (R44, R121). -/
def State.hostEvent (s : State) (ev : BitVec 8) : State :=
  let lost := if s.sameCycle s.whl.evAt s.now then s.whl.evUsed else 0
  s.modWhl (fun w => { w with hostev := w.hostev ||| (ev &&& ~~~lost) })

/-- HOST_EVENT_POST (R115). -/
def execHostEventPost (t : Nat) (_path : Path) (ev : BitVec 8) (s : State) : Host.Outcome State Fault Refusal :=
  let s := s.at t
  .next (if s.gated then s else s.hostEvent ev)

/-- WEV_EDGE (R527): on a pin that the Wheel owns. -/
def execWevEdge (t : Nat) (n : Fin 8) (s : State) : Host.Outcome State Fault Refusal :=
  let s := s.at t
  .next (if s.mfpCode (15 + n) = 7 && !s.gated then s.hostEvent (BitVec.ofNat 8 (2 ^ n.val)) else s)

/-! ## No program (R226) -/

/-- IDLE_LANE_BOUNDARY (R226): every 1,024 ticks while no program runs and the lanes are clocked. -/
def execIdleLaneBoundary (t : Nat) (s : State) : Host.Outcome State Fault Refusal :=
  if s.wheelRuns || !s.onVco then .next (s.at t)
  else
    let s := s.at (max t (s.lan.idleAt + 1024))
    let s := { s with lan := { s.lan with idleAt := s.now } }
    .next ((s.lanesBoundary 1024).calBoundary true)

/-! ## The ends of what holds a start (R68, R268) -/

/-- KILN_CLEAR_DONE (R268). -/
def execKilnClearDone (t : Nat) (k : Fin 8) (s : State) : Host.Outcome State Fault Refusal :=
  match (s.kiln k).capState, (s.kiln k).clearAt with
  | 0, some a => .next ((s.at (max t a)).modKiln k (fun x => { x with clearAt := none })).heldStart
  | _, _ => .next (s.at t)

/-- The REALIGN steps are complete: the phase is measured again, and a held start proceeds. -/
def State.realigned (s : State) (phase : Word) : State :=
  (((s.modClk (fun c => { c with state := .locked, realignFire := false })).putWide Id.CLK_PHASE phase.toNat).event
    Reg.CLK_STAT 6 {}).heldStart

/-- REALIGN_DONE (R68): with Coil time alignment only once UTIME is aligned again (R398). -/
def execRealignDone (t : Nat) (phase : Word) (s : State) : Host.Outcome State Fault Refusal :=
  let s := s.at t
  .next (if s.clk.state = .realign && s.clk.realignFire && (!s.coilTime || decide (s.coil.align = 2)) then s.realigned phase
    else s)

end Sys2Proof.Machine
end

