-- ==== Sys2Proof/Machine/Modes.lean ====
section
/-! DEFINITION. Mode targets, STATE_SKEW, RESET, BOOT with its stages and retries, release from SAFE, STANDBY (R75 to R98). -/

namespace Sys2Proof.Machine

/-! ## Targets (R76 to R78) -/

/-- A target as written is judged: SAFE at once; READY is handled apart in BOOT and in STANDBY. -/
def State.targetWritten (s : State) (path : Nat) : State :=
  match s.target, s.mode.active with
  | .safe, _ => let live := s.safeLive; (s.safeEnter 0x80).coilLive live
  | .ready, .boot => s
  | .ready, .standby => s.modePend.wakeStart
  | m, _ => if s.modeRefusal m = 0 then s.modePend else s.modeRefuse (s.modeRefusal m) path

/-- A write of GLB_MODE_TARGET. -/
def State.targetWrite (s : State) (path : Path) (val : Word) : State :=
  if bitsOf val.toNat 18 16 = 0 then s
  else
    let was := s.pendBefore
    let s := (s.cWrite Reg.GLB_MODE_TARGET val path).modMode (fun m => { m with was, wasAt := s.now })
    (s.targetWritten (pathCode path)).coilStatus

/-- MODE_TARGET_WRITE (R78). -/
def execModeTargetWrite (t : Nat) (path : Path) (val : Word) (s : State) : Host.Outcome State Fault Refusal :=
  let s := s.at t
  .next (if s.pins.inReset then s else s.targetWrite path val)

/-- IDLE_MODE_SAMPLE (R76): with no program, sample, transition and armed swap together. -/
def execIdleModeSample (t : Nat) (s : State) : Host.Outcome State Fault Refusal :=
  let s := s.at t
  .next (if s.wheelRuns then s else s.idleSwap.modeSample.modeApply)

/-! ## STATE_SKEW (R80) -/

/-- Emission rank. -/
def emissionRank (m : Mode) : Nat :=
  match m with
  | .guard => 1 | .service => 2 | .scan => 3
  | .reset | .boot | .standby | .ready | .safe => 0

/-- The tick at which the skew timer expires. -/
def State.skewDue (s : State) : Nat :=
  s.mode.skewAt + match s.mode.lastFrame with
    | some d => min (2 * d) (msT 2000)
    | none => msT 2000

/-- The target `m` of lower rank is entered at once: the rest of the frame is VOID, its END shows STATE_SKEW and the mode
now entered. Between scanning modes the Wheel runs on. -/
def State.skewEnter (s : State) (m : Mode) : State :=
  if m.scanning then
    let s := if s.whl.frameOpen then
        (s.modFrame s.whl.fid (fun q => { q with skew := true, mode := m.code })).modWhl (fun w => { w with voidRest := 3 })
      else s
    s.modeEnter m
  else
    let s := s.cutFrame { cause := 3, mode := m.code, skew := true }
    ((s.modeEnter m).haltWheel false).wheelIdle

/-- The skew timer expires. -/
def State.stateSkew (s : State) (m : Mode) : State :=
  let s := s.event Reg.GLB_MODE_STAT 2 {}
  if emissionRank m < emissionRank s.mode.active then s.skewEnter m else s.modeRefuse 1

/-- Does the decided transition of a boundary in this cycle apply instead (R98)? -/
def State.skewLoses (s : State) : Bool :=
  match s.whl.eofAt with
  | some b => s.wheelRuns && s.mode.decided.isSome && s.sameCycle b s.now
  | none => false

/-- STATE_SKEW (R80). -/
def execStateSkew (t : Nat) (s : State) : Host.Outcome State Fault Refusal :=
  match s.pendTarget with
  | some m =>
    let s := s.at (max t s.skewDue)
    .next (if s.skewLoses then s else s.stateSkew m)
  | none => .next (s.at t)

/-! ## BOOT stages (R82 to R88) -/

/-- The weight of a stage. -/
def stageWeight (k : Nat) : Nat :=
  match k with
  | 0 => 100 | 1 => 200 | 2 => 400 | 3 => 100 | 4 => 400 | 5 => 8000 | 6 => 500 | _ => 300

/-- The fail_code of a stage. -/
def stageCode (k : Nat) : Nat :=
  match k with
  | 1 => 6 | 3 => 2 | 4 => 3 | 5 => 4 | 6 => 5 | _ => 1

/-- Passes of a memory test level (R85). -/
def testPasses (level : Nat) : Nat := if level = 0 then 1 else if level = 1 then 2 else 4

/-- The memory test level of this BOOT (R82, R89, R525). -/
def State.testLevel (s : State) : Nat :=
  if s.mode.forceMarch || bitOf s.pins.straps.toNat 2 then 2 else min 2 s.sec.bootCfg.1

/-- A stage starts. -/
def State.stageStart (s : State) (k : Nat) : State :=
  let s := s.modMode (fun m => { m with stage := k })
  if k = 3 then (if s.onVco then s else s.lockStart)
  else if k = 4 then s.modMode (fun m => { m with train := { run := m.train.run + 1, st := 1, pos := 0, total := 16 } })
  else if k = 5 then
    let lv := s.testLevel
    s.modMode (fun m => { m with
      memTest := lv, forceMarch := false
      mtest := { run := m.mtest.run + 1, st := 1, pos := 0, total := 61440 * testPasses lv } })
  else if k = 6 then s.rgnStart
  else s

/-- BOOT runs from a stage on; one after stage 3 needs the VCO (R95). The region table is built again from stage 6 on. -/
def State.bootBegin (s : State) (stage : Nat) : State :=
  let k := if 3 < stage && !s.onVco then 3 else stage
  let s := if s.mode.active = .boot then s else s.setMode .boot
  let pos := ((List.range k).map stageWeight).sum
  let s := s.modMode (fun m => { m with
    running := true, failed := false, failCode := 0, retryStage := none
    boot := { run := m.boot.run + 1, st := 1, pos, total := 10000 } })
  let s := if k ≤ 6 then { s with mem := { s.mem with valid := false, mapped := [], sizes := [] } } else s
  s.stageStart k

/-- Stage 1 (R82, R477): the journal is replayed. -/
def State.bootReplay (s : State) : State :=
  let s := (s.jTorn false).attReplay
  let bands := s.sec.newest 2
  let s := forN 32 s (fun s k => s.putWide (Id.CLK_VCO_BAND + k) (match bands with
    | some p => payNat p (4 * k) 4
    | none => 0))
  let pages := s.sec.retiredPages
  let s := ({ s with mem := { s.mem with retired := pages } }).putWide Id.GLB_RETIRED_PAGES pages.length
  let s := match s.sec.newest 8 with
    | some p => ((s.setReg Reg.THM_CONE12 (BitVec.ofNat 16 (payNat p 0 2))).setReg Reg.THM_CONE3
        (BitVec.ofNat 16 (payNat p 2 2))).setReg Reg.THM_HYST (BitVec.ofNat 16 (payNat p 4 2))
    | none => s
  let cfg := s.sec.bootCfg
  let s := forN 6 s (fun s r => s.setReg (Reg.MEM_RGN_SIZE + 4 * r) (BitVec.ofNat 16 (cfg.2.2.getD r 0)))
  let slot := fun (k : Nat) => match s.sec.recs.reverse.find? (fun r => decide (r.typ = 4) && decide (r.payload.headD 0 = k)) with
    | some r => payNat r.payload 1 1
    | none => 0
  s.modSec (fun x => { x with active := cfg.2.1, slot0 := slot 0, slot1 := slot 1 })

/-- The BOOT record that ends stage 1 (R475, R477): the boot count; the outcome of the previous BOOT is left open. -/
def State.bootRecord (s : State) : State :=
  let n := (match s.sec.newest 9 with
    | some p => payNat p 0 4
    | none => 0) + 1
  let r := (s.jAppend 9 (natToBytes 4 n ++ [s.freeW.toNat % 256])).1.freeUsed
  r.putWide Id.SEC_BOOT_COUNT n

/-- One slot is verified: a run of its own, with the reason of R469 if it fails. -/
def State.bootVerify (s : State) (k reason : Nat) : State :=
  let total := s.imageSize k
  let s := if reason = 7 then s.fault 0xB10 Reg.SEC_STAT (flag16 13) {} else s
  s.modSec (fun x => { x with
    verifyReason := if reason = 0 then x.verifyReason else reason
    vProg := { run := x.vProg.run + 1, st := if reason = 0 then 2 else 3, pos := if reason = 0 then total else 0, total } })

/-- The image of slot `k` boots. The security version and key of an image that the factory programmed are left open within
what R469 lets pass. -/
def State.bootFrom (s : State) (k : Nat) : State :=
  let own := decide (s.hdrNat k 0 4 = 0x5A414C32)
  let f := s.freeW.toNat
  let s := if own then s else s.freeUsed
  s.modSec (fun x => { x with
    booted := k
    bootVer := if own then s.hdrNat k 8 4 else max x.otpCounter (f % 65)
    bootKey := if own then s.hdrNat k 20 1 else f / 65 % 4 })

/-- Stage 2 (R82, R469): the active slot, then the other one. -/
def State.bootImages (s : State) (a b : Nat) : State × Bool :=
  let k := s.sec.active
  let s := s.bootVerify k a
  if a = 0 then (s.bootFrom k, true)
  else
    let s := s.bootVerify (1 - k) b
    if b = 0 then ((s.bootFrom (1 - k)).event Reg.SEC_STAT 6 {}, true) else (s, false)

/-- RETIRED records of up to 120 pages each, at most `n` of them. -/
def State.jRetired (s : State) (l : List Nat) : Nat → State
  | 0 => s
  | n + 1 => if l = [] then s else ((s.jAppend 3 ((l.take 120).flatMap (natToBytes 2))).1).jRetired (l.drop 120) n

/-- Stage 5 ends (R86, R87): its pages, and those that waited for a BOOT, join the journaled list. -/
def State.bootTested (s : State) (pages : List Nat) : State × Bool :=
  let new := ((s.mem.retirePend ++ pages).eraseDups).filter (fun p => !s.mem.retired.contains p)
  let s := s.jRetired new 1024
  let s := s.memOpen 0
  let s := { s with mem := { s.mem with
    retired := s.mem.retired ++ new, retirePend := [], ceCount := [], lost := false } }
  let s := (s.putWide Id.GLB_RETIRED_PAGES s.mem.retired.length).putWide Id.MEM_RETIRE_PENDING 0
  (s, decide (s.mem.retired.length ≤ 1024))

/-- The region masks that the journal holds (R82 stage 6). -/
def State.bootMasks (s : State) : State :=
  match s.sec.newest 10 with
  | some p => if bitOf (payNat p 0 1) 0 then s.putMasks (fun i => payNat p (1 + 2 * i) 2) else s
  | none => s

/-- Stage 6 (R82, R87, R325): what the table does not keep of the test's pages is REC, whose content is open (R350). -/
def State.bootRegions (s : State) : State × Bool :=
  let s := s.bootMasks
  if (s.recPages s.rgnSizes).isSome then (s.rgnBuild, true) else (s, false)

/-- Stage 7 (R82, R326): LIMITS, guard registers and field reference of the journal; FW pages become READ. -/
def State.bootHandover (s : State) : State :=
  let s := match s.sec.newest 7 with
    | some p => if s.committed Reg.EMT_EBM_LOCK then s else s.loadLimits (payNat p 0 16)
    | none => s.event Reg.SEC_STAT 14 {}
  let s := match s.sec.newest 10 with
    | some p =>
      let g := payNat p 0 1
      let s := if bitOf g 1 then s.putGuard (fun i => payNat p (29 + 2 * i) 2) else s
      if bitOf g 2 then s.fieldRef (payNat p 35 4) else s
    | none => s
  { s with mem := { s.mem with fwRead := true } }

/-- What a passed stage does; false when it turns out to fail. -/
def State.stagePass (s : State) (r : BootResult) : State × Bool :=
  match s.mode.stage with
  | 1 => (s.bootReplay.bootRecord, true)
  | 2 => match r with
    | .verified a b => s.bootImages a b
    | .pass | .failed | .tested _ => s.bootImages 0 0
  | 4 => (s.modMode (fun m => { m with train := { m.train with st := 2, pos := 16 } }), true)
  | 5 => match r with
    | .tested pages =>
      (s.modMode (fun m => { m with mtest := { m.mtest with st := 2, pos := m.mtest.total } })).bootTested pages
    | .pass | .failed | .verified _ _ =>
      (s.modMode (fun m => { m with mtest := { m.mtest with st := 2, pos := m.mtest.total } })).bootTested []
  | 6 => s.bootRegions
  | 7 => (s.bootHandover, true)
  | _ => (s, true)

/-- BOOT is complete (R82): READY, and enabled axes start (R204). -/
def State.bootComplete (s : State) : State :=
  let s := s.modMode (fun m => { m with running := false, bootDone := true, boot := { m.boot with st := 2, pos := 10000 } })
  ((s.setMode .ready).event Reg.GLB_MODE_STAT 6 {}).strWake

/-- The next stage starts, or BOOT is complete. -/
def State.stageNext (s : State) : State :=
  let k := s.mode.stage
  if 7 ≤ k then s.bootComplete
  else (s.modMode (fun m => { m with boot := { m.boot with pos := m.boot.pos + stageWeight k } })).stageStart (k + 1)

/-- A stage has failed. A failure of stage 3 that names no reason is its time-out; stage 2 leaves the reason open. -/
def State.stageFail (s : State) : State :=
  if s.mode.stage = 3 ∧ s.locking then s.lockFailed 3
  else if s.mode.stage = 2 then
    ((s.bootVerify s.sec.active (1 + s.freeW.toNat % 7)).freeUsed).bootFail 1
  else s.bootFail (stageCode s.mode.stage)

/-- The running stage ends. Stage 3 ends when the tree is locked; stage 1 fails without a valid checkpoint (R477). -/
def State.stageEnd (s : State) (r : BootResult) : State :=
  if r = .failed ∨ (s.mode.stage = 1 ∧ s.sec.base = none) then s.stageFail
  else if s.mode.stage = 3 && !s.onVco then s
  else
    let x := s.stagePass r
    if x.2 then x.1.stageNext else x.1.bootFail (stageCode s.mode.stage)

/-- BOOT_STAGE_COMPLETE (R82). -/
def execBootStageComplete (t : Nat) (r : BootResult) (s : State) : Host.Outcome State Fault Refusal :=
  let s := s.at t
  if s.mode.active = .boot then
    let live := s.safeLive
    let s := if s.mode.running then s else s.bootBegin s.mode.stage
    .next ((s.stageEnd r).coilLive live)
  else .next s

/-! ## Retry and release (R89, R95) -/

/-- The action of an accepted boot_retry. -/
def State.retryAct (s : State) : State :=
  if s.mode.failCode = 4 then
    let s := (s.jAppend 3 []).1
    (({ s with mem := { s.mem with retired := [] } }).putWide Id.GLB_RETIRED_PAGES 0).modMode (fun m => { m with
      forceMarch := true })
  else if s.mode.failCode = 5 then
    let staged := (List.range 6).map s.scfgVal
    let sizes := if (s.recPages staged).isSome then staged else [16, 512, 64, 1280, 3072, 32]
    let c := s.sec.bootCfg
    let s := (s.jBootCfg c.1 c.2.1 sizes).1
    forN 6 s (fun s r => s.setReg (Reg.MEM_RGN_SIZE + 4 * r) (BitVec.ofNat 16 (sizes.getD r 0)))
  else if s.mode.failCode = 6 then
    (s.modSec (fun x => { x with
      ckptA := some {}, ckptB := some {}, ring := [], head := 0, occupied := 0, jseq := 1, torn := false
      compacting := none, attDead := true })).modMode (fun m => { m with forceMarch := true })
  else s

/-- The stage at which BOOT restarts after a retry. -/
def retryStageOf (code : Nat) : Nat := if code = 5 then 6 else if code = 6 then 1 else 4

/-- GLB_MODE_CMD.boot_retry. -/
def State.bootRetry (s : State) (path : Path) : State :=
  let code := s.mode.failCode
  if path ≠ .greenware ∧ s.mode.active = .safe ∧ 3 ≤ code ∧ code ≤ 6 then
    let live := s.safeLive
    (s.retryAct.modMode (fun m => { m with bootFault := false, retryStage := some (retryStageOf code) })).coilLive live
  else s.event Reg.GLB_MODE_STAT 5 { path := pathCode path }

/-- BOOT_RETRY (R89). -/
def execBootRetry (t : Nat) (path : Path) (s : State) : Host.Outcome State Fault Refusal :=
  let s := s.at t
  .next (if s.pins.inReset then s else s.bootRetry path)

/-- The stage at which a release restarts BOOT. -/
def State.restartStage (s : State) : Nat :=
  match s.mode.retryStage with
  | some k => k
  | none =>
    if s.mode.failed && decide (s.mode.failCode = 1) then 2
    else if s.mode.failed && decide (s.mode.failCode = 0) then min s.mode.stage 4
    else 4

/-- Did a SAFE cause come in this very cycle (R98)? -/
def State.causeNow (s : State) : Bool :=
  s.log.pend.any (fun e => s.sameCycle e.tick s.now && decide (infoCode Reg.GLB_SAFE_CAUSE 0 ≤ e.code) &&
    decide (e.code ≤ infoCode Reg.GLB_SAFE_CAUSE 7))

/-- GLB_MODE_CMD.safe_release. -/
def State.safeRelease (s : State) (path : Path) : State :=
  if s.mode.active ≠ .safe || decide (s.safeLive ≠ 0) || s.causeNow then
    s.event Reg.GLB_MODE_STAT 5 { path := pathCode path }
  else
    let s := s.event Reg.GLB_MODE_STAT 4 { path := pathCode path }
    if s.mode.bootDone && s.onVco && s.mem.valid && !s.mem.lost then (s.setMode .ready).strWake
    else s.bootBegin s.restartStage

/-- SAFE_RELEASE (R95). -/
def execSafeRelease (t : Nat) (path : Path) (s : State) : Host.Outcome State Fault Refusal :=
  let s := s.at t
  .next (if s.pins.inReset then s else s.safeRelease path)

/-! ## RESET (R81, R533) -/

/-- What of Saggar's state lies in MRAM and OTP, or in the comparators. -/
def Sec.kept (x : Sec) : Sec :=
  { ({} : Sec) with
    mram := x.mram, ring := x.ring, ckptA := x.ckptA, ckptB := x.ckptB, head := x.head, occupied := x.occupied
    jseq := x.jseq, jAt := x.jAt, torn := x.torn, attDead := x.attDead, otpCounter := x.otpCounter
    revoked := x.revoked, sealed := x.sealed, tripped := x.tripped }

/-- Does this reset tear the record in flight (R476)? -/
def State.tears (s : State) (cause : ResetCause) : Bool :=
  match cause with
  | .rail true => decide (s.sec.ring ≠ []) && decide (s.now < s.sec.jAt + 5120)
  | .rail false | .pin => false

/-- Every block is in RESET. What is kept: persistent stores, the pins' identity, the pages that wait for the next BOOT
(R337), what has left the unit, and the commands that wait. -/
def State.resetEnter (s : State) (cause : ResetCause) : State :=
  let torn := s.tears cause
  let s := s.jCompactLost
  { ({} : State) with
    now := s.now, freeNext := s.freeNext, pending := s.pending
    mode := { ({} : Modes) with active := .reset, previous := s.mode.active }
    mem := { ({} : Mem) with openEpoch := s.mem.openEpoch, retirePend := s.mem.retirePend }
    hif := { ({} : Hif) with posted := s.hif.posted }
    coil := { ({} : Coil) with sent := s.coil.sent }
    sec := { s.sec.kept with torn := s.sec.torn || torn }
    pins := { s.pins with inReset := true, mfpTo := [] } }

/-- RESET_ASSERT (R81, R533). -/
def execResetAssert (t : Nat) (cause : ResetCause) (s : State) : Host.Outcome State Fault Refusal :=
  .next ((s.at t).resetEnter cause)

/-- RESET_RELEASE (R81, R525): straps are latched, BOOT starts on BCLK. -/
def execResetRelease (t : Nat) (straps : BitVec 8) (s : State) : Host.Outcome State Fault Refusal :=
  let s := s.at t
  if s.pins.inReset then
    let s := s.resetEnter .pin
    let s := { s with
      mode := {}, pins := { s.pins with inReset := false, straps }
      lan := { s.lan with idleAt := s.now }, cap := { s.cap with fieldSweepAt := s.now } }
    .next (s.bootBegin 0)
  else .next s

/-! ## STANDBY (R96, R97) -/

/-- The last steps of the entry: self-refresh, VCO down, clock gates; sweeps are abandoned, the emission permit ends (R94, R466). -/
def State.standbyGate (s : State) : State :=
  let live := s.safeLive
  let s := { s with
    mem := { s.mem with selfRefresh := true, enteringSr := false }
    crc := { s.crc with sweep := none, startAt := 0, cmd := none } }
  let s := ((s.treeToBclk .powerDown).permitOff).modMode (fun m => { m with standbyStep := 5 })
  let s := (s.event Reg.GLB_MODE_STAT 8 {}).coilLive live
  if s.mode.waking then s.lockStart else s

/-- STANDBY_ENTERED (R96). -/
def execStandbyEntered (t : Nat) (s : State) : Host.Outcome State Fault Refusal :=
  let s := s.at t
  .next (if s.mode.active = .standby ∧ s.mode.standbyStep ≠ 0 ∧ s.mode.standbyStep ≠ 5 then s.standbyGate else s)

/-- WAKE (R97). -/
def execWake (t : Nat) (s : State) : Host.Outcome State Fault Refusal :=
  let s := s.at t
  .next (if s.mode.active = .standby then s.wakeStart else s)

/-- STANDBY_EXITED (R97, R204): the lock has released the domains. -/
def execStandbyExited (t : Nat) (s : State) : Host.Outcome State Fault Refusal :=
  let s := s.at t
  .next (if s.mode.active = .standby && s.mode.waking && s.onVco && decide (s.mode.standbyStep = 0) then
      (((s.modMode (fun m => { m with waking := false })).setMode .ready).event Reg.GLB_MODE_STAT 9 {}).strWake
    else s)

end Sys2Proof.Machine
end

