-- ==== Sys2Proof/Machine/FaultRec.lean ====
section
/-! DEFINITION. Recovery of sectors, latched fatal reasons, held S register events, delivery by the Point Queue, and what takes
effect without a program (R28, R76, R313, R371, R492, R494). -/

namespace Sys2Proof.Machine

/-! ## Sectors and fatal reasons (R492, R494) -/

/-- SECTOR_RESUME (R492): with the first pixel whose first slot starts at or after the end of the recovery. -/
def execSectorResume (t : Nat) (k : Fin 8) (s : State) : Host.Outcome State Fault Refusal :=
  let s := s.at t
  let r := fget 0 s.log.recovering k
  .next (match s.pix.first with
    | some a => if r ≤ a then { s with log := { s.log with recovering := fset 0 s.log.recovering k 0 } } else s
    | none => s)

/-- Was fault `code` detected in this cycle (R500)? -/
def State.faultNow (s : State) (code : Nat) : Bool :=
  s.log.pend.any (fun e => s.sameCycle e.tick s.now && decide (e.code = code))

/-- FLT_CMD.clear_fatal: bit 0 clears itself; a fault of the same cycle keeps its bit. -/
def State.clearFatal (s : State) (path : Path) : State :=
  if path ≠ .greenware ∧ s.mode.active = .safe then
    let live := s.safeLive
    let keep : BitVec 4 := BitVec.ofNat 4
      (1 + 2 * b2n (s.faultNow 0xE90) + 4 * b2n (s.faultNow 0xE20) + 8 * b2n (s.faultNow 0xF20))
    ({ s with log := { s.log with fatal := s.log.fatal &&& keep } }).coilLive live
  else s.event Reg.FLT_STAT 5 { path := pathCode path }

/-- CLEAR_FATAL (R494). -/
def execClearFatal (t : Nat) (path : Path) (s : State) : Host.Outcome State Fault Refusal :=
  let s := s.at t
  .next (if s.gated then s else s.clearFatal path)

/-! ## Held events (R28) -/

/-- The held events of an S register are recorded, if they are due. -/
def State.settleS (s : State) (off : Nat) : State :=
  let r := s.sreg off
  if r = fget {} s.stat off then s
  else
    let s := { s with stat := fset {} s.stat off r }
    match vecOf off with
    | some v => s.signal v
    | none => s

/-- HELD_EVENTS_RECORDED (R28): 16 PCLK cycles after the last recorded event. -/
def execHeldEventsRecorded (t : Nat) (off : Nat) (s : State) : Host.Outcome State Fault Refusal :=
  let r := fget ({} : SReg) s.stat off
  match r.last with
  | some l => if r.held = 0 then .next (s.at t) else .next ((s.at (max t (l + 16 * s.pclk))).settleS off)
  | none => .next (s.at t)

/-! ## The Point Queue's consumers (R313) -/

/-- Consumer `c` takes its next records. -/
def State.deliver (s : State) (c : Nat) : State :=
  match c with
  | 0 => s.hostTake
  | 1 => match s.pq.rec_.unread with
    | r :: rest => (s.modCon 1 (fun x => { x with unread := rest })).recTake r
    | [] => s
  | _ => s.coilTakeRecs

/-- PQ_DELIVER (R313); `uecc`: the record it would deliver is uncorrectable, and stays (R494). -/
def execPqDeliver (t : Nat) (c : Fin 3) (uecc : Bool) (s : State) : Host.Outcome State Fault Refusal :=
  let s := s.at t
  .next (if uecc && !(s.pq.con c).unread.isEmpty then s.pqUecc else s.deliver c)

/-! ## Without a program (R76, R100, R371, R397) -/

/-- What waits for a frame boundary takes effect. -/
def State.idleApply (s : State) : State :=
  let s := s.bankSwap.utimeSetBoundary.coilBoundary.shfIdleBoundary
  let s := { s with pq := { s.pq with nair := min 1000 (s.reg Reg.GLZ_NAIR).toNat } }
  s.fsetBoundary

/-- IDLE_BOUNDARY_APPLY (R371). -/
def execIdleBoundaryApply (t : Nat) (s : State) : Host.Outcome State Fault Refusal :=
  let s := s.at t
  .next (if s.wheelRuns || s.gated then s else s.idleApply)

end Sys2Proof.Machine
end

