-- ==== Sys2Proof/Machine/Views.lean ====
section
/-! DEFINITION. What a read of a register or of a wide value answers: the stored C, L and S registers, and the views (type V)
that show live machine state (R26, R28, R31, R38, R90, R91 and each chapter's register table). -/

namespace Sys2Proof.Machine

/-! ## Progress (R90, R91) -/

/-- The progress register of a long operation. -/
def Progress.word (p : Progress) : Nat :=
  let v := if p.st = 2 then 10000 else if p.total = 0 then 0 else min 9999 (10000 * p.pos / p.total)
  packFields [(14, v), (2, p.st), (16, p.run.toNat)]

/-- Its wide value: position and total. -/
def Progress.pos2 (p : Progress) : Nat := p.pos % 2 ^ 32 + p.total % 2 ^ 32 * 2 ^ 32

/-! ## Views by block -/

/-- A sector register's sector, and its offset in sector 0. -/
def secOf (off : Nat) : Nat × Nat := (off % 0x100000 / 0x10000, off - off % 0x100000 / 0x10000 * 0x10000)

/-- CLK_INFO.state (R73): ACQUIRE from 100 µs after the lock began (R56). -/
def State.clkCode (s : State) : Nat :=
  match s.clk.state with
  | .bclk => 0
  | .qualify => if s.clk.seqAt + usT 100 ≤ s.now then 2 else 1
  | .acquire => 2
  | .locked => 3
  | .holdover => 4
  | .slewing => 5
  | .realign => 6
  | .powerDown => 7

/-- WHL_INFO.state. -/
def WState.code : WState → Nat
  | .idle => 0 | .running => 1 | .waiting => 2 | .faulted => 3

/-- Width of a value in 32-bit words (R33). -/
def idWords (id : Nat) : Nat := (idBits id + 31) / 32

/-- The mailbox of a path (R33). -/
def State.mbx (s : State) : Path → Mailbox
  | .saggar => s.mbxS | .greenware => s.mbxG | .host => s.mbxH

/-- Replace the mailbox of a path. -/
def State.setMbx (s : State) (p : Path) (m : Mailbox) : State :=
  match p with
  | .saggar => { s with mbxS := m }
  | .greenware => { s with mbxG := m }
  | .host => { s with mbxH := m }

/-- GLB_MBX_VALID of a path: a command takes one cycle, so busy reads 0. -/
def Mailbox.word (m : Mailbox) : Nat := packFields [(1, b2n m.valid), (1, 0), (3, m.err), (3, idWords m.sel.toNat)]

/-- Does a comparison of sweeps run (R42)? -/
def State.crcCompares (s : State) : Bool :=
  s.crc.refValid && (s.bit Reg.GLB_CRC_CTL 0 || decide (s.mode.active = .guard))

/-- The views of GLB. -/
def State.glbView (s : State) (path : Path) (off : Nat) : Nat :=
  let m := s.mode
  if off = Reg.GLB_ID_DEV then 0x5120
  else if off = Reg.GLB_ID_VEN then s.pins.ven.toNat
  else if off = Reg.GLB_ID_STEP then s.pins.step.toNat + 256 * b2n s.pins.grade
  else if off = Reg.GLB_STRAPS then s.pins.straps.toNat
  else if off = Reg.GLB_MODE_ACTIVE then
    packFields [(3, m.active.code), (1, b2n m.pending), (3, m.previous.code), (4, m.refuse)]
  else if off = Reg.GLB_BOOT_INFO then
    packFields [(4, m.stage), (1, b2n m.running), (1, b2n m.failed), (2, m.memTest), (8, m.failCode)]
  else if off = Reg.GLB_BOOT_PROG then m.boot.word
  else if off = Reg.GLB_SAFE_LIVE then s.safeLive
  else if off = Reg.GLB_MBX_VALID then (s.mbx path).word
  else if off = Reg.GLB_CRC_INFO then packFields [(1, b2n s.crc.refValid), (1, b2n (s.crc.matched && s.crcCompares))]
  else 0

/-- The views of CLK and WHL. -/
def State.clkView (s : State) (off : Nat) : Nat :=
  if off = Reg.CLK_INFO then
    packFields [(3, s.clkCode), (5, s.clk.band), (1, b2n s.clk.refPresent), (1, b2n s.realigns), (1, b2n s.clk.memRetained),
      (1, b2n s.clk.hclkPhase), (3, s.clk.failReason)]
  else 0

/-- The views of WHL; WHL_HOSTEV reads the events posted and not consumed. -/
def State.whlView (s : State) (off : Nat) : Nat :=
  let w := s.idleSwap.whl
  if off = Reg.WHL_INFO then
    packFields [(2, w.state.code), (1, w.bank), (1, b2n w.armed), (4, w.faultCode), (1, b2n (s.bit Reg.COIL_CTL 3)),
      (1, b2n s.thm.enforced)]
  else if off = Reg.WHL_PC then w.pc % 16384
  else if off = Reg.WHL_HOSTEV then w.hostev.toNat
  else 0

/-- Bits of the emitters 16n to 16n + 15 in a state. -/
def State.emtBits (s : State) (n st : Nat) : Nat :=
  ((List.range 16).map (fun i => if (s.em (16 * n + i)).st = st then 2 ^ i else 0)).sum

/-- The views of EMT. -/
def State.emtView (s : State) (off : Nat) : Nat :=
  if off = Reg.EMT_INFO then
    packFields [(1, b2n s.emt.refbufReady), (1, b2n s.monRuns), (1, b2n s.emt.policy), (1, b2n (s.committed Reg.EMT_EBM_LOCK)),
      (1, b2n s.str.stall), (1, b2n s.emt.committed), (3, s.emt.failClass), (5, s.emt.failEmt)]
  else if off = Reg.EMT_FAIL ∨ off = Reg.EMT_FAIL + 4 then s.emtBits ((off - Reg.EMT_FAIL) / 4) 5
  else if off = Reg.EMT_UNVER ∨ off = Reg.EMT_UNVER + 4 then s.emtBits ((off - Reg.EMT_UNVER) / 4) 3
  else 0

/-- The views of STR. -/
def State.strView (s : State) (off : Nat) : Nat :=
  if off = Reg.STR_INFO then
    packFields [(3, (s.ax 0).st), (3, (s.ax 1).st), (4, (s.ax 0).reason), (4, (s.ax 1).reason), (1, b2n s.str.stall),
      (1, b2n s.str.indexSeen)]
  else if off = Reg.STR_AX1_SP_APPLIED then unsgn 16 (s.ax 1).sp
  else if off = Reg.STR_AX1_POS then unsgn 16 (s.ax 1).rx
  else if off = Reg.STR_TRC_INFO ∨ off = Reg.STR_TRC_INFO + 0x20 then
    let t := s.tr ((off - Reg.STR_TRC_INFO) / 0x20)
    packFields [(2, t.st), (14, t.count)]
  else 0

/-- How many lanes of sector `k` satisfy `f`. -/
def laneCount (k : Nat) (f : Nat → Bool) : Nat := ((List.range 64).map (fun j => b2n (f (64 * k + j)))).sum

/-- The views of LAN. -/
def State.lanView (s : State) (off : Nat) : Nat :=
  let k := (secOf off).1
  let o := (secOf off).2
  if o = Reg.LAN_INFO then
    packFields [(7, laneCount k s.laneOff), (7, laneCount k (fun l => (s.lane l).pinned)),
      (1, b2n (decide (fget 0 s.lan.settleAt k ≠ 0)))]
  else if Reg.LAN_APPL ≤ o then
    let l := 64 * k + (o - Reg.LAN_APPL) / 4
    let x := s.lane l
    let c := s.calSet l
    packFields [(8, x.thr), (2, x.gain), (1, b2n x.atBound), (1, b2n (s.laneOff l)), (6, c.skew), (5, unsgn 5 c.trim), (1, 0),
      (8, unsgn 8 x.tOff)]
  else 0

/-- The views of CAL. -/
def State.calView (s : State) (off : Nat) : Nat :=
  if off = Reg.CAL_INFO then
    packFields [(2, s.cal.st), (1, b2n s.cal.commanded), (3, s.cal.failReason), (1, s.cal.bank)]
  else if off = Reg.CAL_PROG then s.cal.prog.word
  else if Reg.CAL_LANE ≤ off then
    let l := (off - Reg.CAL_LANE) / 4
    let x := fget ({} : CalLane) s.cal.lanes l
    packFields [(3, x.status), (1, b2n x.bound), (8, x.stale), (4, 0), (16, unsgn 16 (s.calSet l).o)]
  else 0

/-- The views of KLN (R254: fifo_hwm reads the high-water mark). -/
def State.klnView (s : State) (off : Nat) : Nat :=
  let x := s.kiln (secOf off).1
  if (secOf off).2 = Reg.KLN_INFO then
    packFields [(2, x.fill), (2, x.capState), (2, x.width), (1, b2n x.capEn), (11, x.hwm), (13, x.cell)]
  else 0

/-- The views of SHF. -/
def State.shfView (s : State) (off : Nat) : Nat :=
  if off = Reg.SHF_INFO then
    packFields [(3, s.shf.depth), (2, s.shf.decay), (1, b2n s.shf.egoFresh.isSome), (1, b2n s.shf.egoFrame)]
  else if off = Reg.SHF_CELLS_APPLIED then s.shf.cells
  else 0

/-- A consumer's level: its unread count in 1/256 of the queue's 131,072 records. -/
def Consumer.level (c : Consumer) : Nat := min 255 (c.unread.length / 512)

/-- The views of GLZ. -/
def State.glzView (s : State) (off : Nat) : Nat :=
  let g := s.glaze (secOf off).1
  if off = Reg.GLZ_PQ_INFO then
    packFields [(8, s.pq.host.level), (8, s.pq.rec_.level), (8, s.pq.coil.level), (2, s.pq.host.st), (2, s.pq.rec_.st),
      (2, s.pq.coil.st)]
  else if (secOf off).2 = Reg.GLZ_INFO then packFields [(3, g.amb), (3, g.rain), (10, 0), (16, g.codeSet.toNat)]
  else 0

/-- The views of MEM. -/
def State.memView (s : State) (off : Nat) : Nat :=
  if off = Reg.MEM_INFO then
    packFields [(1, b2n s.mem.valid), (1, b2n s.mem.selfRefresh), (1, b2n s.mem.scrub), (1, b2n s.mem.busy),
      (1, b2n (decide (s.mem.hot ≠ 0)))]
  else if off = Reg.MEM_TRAIN_PROG then s.mode.train.word
  else if off = Reg.MEM_TEST_PROG then s.mode.mtest.word
  else if off = Reg.MEM_RGN_PROG then s.mem.prog.word
  else 0

/-- The views of CAP. -/
def State.capView (s : State) (off : Nat) : Nat :=
  if off = Reg.CAP_INFO then
    packFields [(3, s.cap.st), (2, if s.cap.export_ then (if s.exportMoves then 1 else 2) else 0), (1, b2n s.cap.ossd),
      (1, b2n s.fieldValid), (1, b2n s.cap.waveFrozen)]
  else if off = Reg.CAP_VIOL then s.cap.viol.toNat
  else if off = Reg.CAP_EXPORT_PROG then s.cap.exProg.word
  else 0

/-- The views of TSU. -/
def State.tsuView (s : State) (off : Nat) : Nat :=
  if off = Reg.TSU_INFO then packFields [(1, b2n s.tsu.ppsPresent), (1, b2n s.tsu.freqPresent), (1, b2n s.tsu.setPend)]
  else if Reg.TSU_QLVL ≤ off then (s.tsin ((off - Reg.TSU_QLVL) / 4)).queue.length
  else 0

/-- The views of COIL. -/
def State.coilView (s : State) (off : Nat) : Nat :=
  if off = Reg.COIL_INFO then
    packFields [(5, s.coil.addr), (1, b2n s.coilRoot), (1, s.pins.straps.toNat % 2), (1, b2n s.coil.ring),
      (5, (s.coil.topo.filter (fun a => decide (a ≠ 0))).length), (3, s.coil.align), (2, s.coil.link.toNat), (1, s.coilUpstream),
      (2, s.coil.lostReason)]
  else if off = Reg.COIL_TRIM then unsgn 9 s.coil.trim
  else 0

/-- The views of HIF. -/
def State.hifView (s : State) (off : Nat) : Nat :=
  if off = Reg.HIF_INFO then
    packFields [(3, s.hif.speed), (3, s.hif.width), (1, b2n s.hif.busMaster), (1, b2n s.hif.msixEn)]
  else if off = Reg.HIF_WR + 0x60 then s.ceWr
  else if Reg.HIF_PT_CTL ≤ off then (s.ring (ringAt off)).wr
  else 0

/-- The views of THM. -/
def State.thmView (s : State) (off : Nat) : Nat :=
  if off = Reg.THM_INFO then
    packFields [(2, s.thm.cone), (1, b2n s.thm.enforced), (1, b2n s.thm.graceAt.isSome), (1, b2n s.thm.coolAt.isSome),
      (1, b2n (s.thm.converted && decide (16 ≤ s.thm.okRun))), (1, b2n s.thm.converted)]
  else if off = Reg.THM_TEMP then unsgn 16 s.thm.temp
  else 0

/-- The views of SFE; SFE_CMD reads the actions that wait (R39). -/
def State.sfeView (s : State) (off : Nat) : Nat :=
  if off = Reg.SFE_INFO then
    packFields [(2, s.sfe.st), (4, s.sfe.slot), (1, b2n s.sfe.injPend), (1, b2n s.sfe.calPend), (1, b2n (!s.onVco)),
      (1, b2n s.sfe.loopFault)]
  else if off = Reg.SFE_CMD then packFields [(1, b2n s.sfe.injPend), (1, b2n s.sfe.calPend)]
  else if off = Reg.SFE_OPEN then s.sfe.open_.toNat
  else if off = Reg.SFE_LOOP_CUR then s.sfe.loopCur
  else if off = Reg.SFE_LOOP_APPLIED then s.sfe.loopCmd
  else 0

/-- The views of SEC. -/
def State.secView (s : State) (off : Nat) : Nat :=
  let x := s.sec
  if off = Reg.SEC_INFO then
    packFields [(1, b2n x.permit), (1, x.booted), (1, x.active), (2, x.slot0), (2, x.slot1), (2, x.upd), (1, b2n x.attBusy),
      (3, x.verifyReason), (2, x.refuse)]
  else if off = Reg.SEC_VERIFY_PROG then x.vProg.word
  else if off = Reg.SEC_JRNL_PROG then x.jProg.word
  else 0

/-- Sectors in recovery. -/
def State.recovBits (s : State) : Nat :=
  ((List.range 8).map (fun k => if fget 0 s.log.recovering k ≠ 0 then 2 ^ k else 0)).sum

/-- The views of FLT. -/
def State.fltView (s : State) (off : Nat) : Nat :=
  if off = Reg.FLT_INFO then packFields [(4, s.log.fatal.toNat), (8, s.recovBits)] else 0

/-- The V windows (R513): trace buffers, T[f] in force, h[f] of the last run (free while a run collects, log 2), the region
table. -/
def State.windowView (s : State) (off : Nat) : Nat :=
  if off < Reg.CAL_TABLE then
    let d := off - Reg.STR_TRACE
    unsgn 16 ((fget [] (s.tr (d / 0x20000)).bufs (d % 0x20000 / 0x8000)).getD (d % 0x8000 / 4) 0)
  else if off < Reg.CAL_HIST then
    let d := off - Reg.CAL_TABLE
    (s.calSet (d / 4096)).tab (d % 4096 / 4)
  else if off < Reg.SHF_KV then
    let d := off - Reg.CAL_HIST
    if s.cal.st = 1 ∧ s.calIn (d / 4096) then s.freeW.toNat else fget 0 (s.calRun (d / 4096)).h (d % 4096 / 4)
  else s.pageEntry ((off - Reg.MEM_RGN_TABLE) / 4)

/-- What a V or X register reads. -/
def State.liveView (s : State) (path : Path) (off : Nat) : Nat :=
  match off / 0x100000 with
  | 0 => s.glbView path off
  | 1 => s.clkView off
  | 2 => s.whlView off
  | 3 => s.emtView off
  | 4 => s.strView off
  | 5 => s.lanView off
  | 6 => s.calView off
  | 7 => s.klnView off
  | 8 => s.shfView off
  | 9 => s.glzView off
  | 10 => s.memView off
  | 11 => s.capView off
  | 12 => s.tsuView off
  | 13 => s.coilView off
  | 14 => s.hifView off
  | 15 => s.thmView off
  | 16 => s.sfeView off
  | 17 => s.secView off
  | 18 => s.fltView off
  | _ => s.windowView off

/-! ## Register reads (R24, R26, R28, R31, R38, R39) -/

/-- Is the block of a register in reach (R97)? -/
def State.reaches (s : State) (off : Nat) : Bool :=
  let b := off / 0x100000
  !s.pins.inReset && (!s.gated || decide (b = 0) || decide (b = 15) || decide (b = 16))

/-- The word that a read of a word offset answers; an unmapped offset and a block out of reach read 0. -/
def State.readReg (s : State) (path : Path) (off : Nat) : Word :=
  if !s.reaches off then 0
  else
    match rowAt off with
    | none => 0
    | some r =>
      match r.typ with
      | .c => if off = Reg.GLB_MBX_SEL then (s.mbx path).sel.setWidth 32 else (s.reg off).setWidth 32
      | .l => BitVec.ofNat 32 (s.regWord off)
      | .s => let x := s.sreg off; x.seq ++ x.flags
      | .m => BitVec.ofNat 32 (wordOf (s.mbx path).data ((off - Reg.GLB_MBX_D) / 4))
      | .v | .x => BitVec.ofNat 32 (s.liveView path off)

/-! ## Wide values (R34, R37, R91) -/

/-- The log entry that FLT_LOG_SEL names, while it is held (R489). -/
def State.logEntry (s : State) : Option LogRec :=
  s.log.ring.find? (fun r => decide (r.seq = s.wideN Id.FLT_LOG_SEL))

/-- Oldest and newest sequence number held. -/
def State.logRange (s : State) : Nat :=
  ((s.log.ring.head?.map (·.seq)).getD 0) + ((s.log.ring.getLast?.map (·.seq)).getD 0) * 2 ^ 32

/-- COIL_NODE_a with its age in ms. -/
def State.nodeView (s : State) (id : Nat) : Nat :=
  let age := match fget none s.coil.nodeAt (id - Id.COIL_NODE + 1) with
    | some a => (s.now - a) / msT 1
    | none => 0
  (s.wideRaw id).toNat % 2 ^ 96 + age % 2 ^ 32 * 2 ^ 96

/-- SEC_OTP (R470). -/
def State.otpView (s : State) : Nat :=
  packFields [(7, s.sec.otpCounter), (1, 0), (4, s.sec.revoked.toNat), (1, b2n s.sec.sealed)]

/-- What a wide value shows that is computed from live state; none: it is stored. -/
def State.wideLive (s : State) (id : Nat) : Option Nat :=
  if id = Id.GLB_BOOT_POS then some s.mode.boot.pos2
  else if id = Id.GLB_UNIT_ID then some s.pins.unitId.toNat
  else if Id.WHL_W ≤ id ∧ id < Id.WHL_W + 16 then some (s.wreg (id - Id.WHL_W)).toNat
  else if id = Id.EMT_STATE then some (((List.range 32).map (fun k => (s.em k).st % 16 * 2 ^ (4 * k))).sum)
  else if Id.EMT_APPLIED ≤ id ∧ id < Id.EMT_APPLIED + 32 then some (fget 0 s.emt.active (id - Id.EMT_APPLIED)).toNat
  else if Id.EMT_BOARD_TEMP ≤ id ∧ id < Id.EMT_BOARD_TEMP + 8 then
    some ((s.wideRaw id).toNat % 65536 + 65536 * b2n (s.boardReads (id - Id.EMT_BOARD_TEMP)))
  else if id = Id.STR_AX0_SP_APPLIED then some (unsgn 24 (s.ax 0).sp)
  else if id = Id.STR_AX0_SPEED then some (unsgn 32 (s.ax 0).meas)
  else if id = Id.STR_AX0_POS then some (s.str.count % 65536 + s.str.revs % 65536 * 65536)
  else if id = Id.CAL_POS then some s.cal.prog.pos2
  else if id = Id.MEM_TRAIN_POS then some s.mode.train.pos2
  else if id = Id.MEM_TEST_POS then some s.mode.mtest.pos2
  else if id = Id.MEM_RGN_POS then some s.mem.prog.pos2
  else if id = Id.CAP_EXPORT_POS then some s.cap.exProg.pos2
  else if id = Id.TSU_UTIME then some s.utime
  else if Id.COIL_NODE ≤ id ∧ id < Id.COIL_NODE + 16 then some (s.nodeView id)
  else if id = Id.SEC_VERIFY_POS then some s.sec.vProg.pos2
  else if id = Id.SEC_JRNL_POS then some s.sec.jProg.pos2
  else if id = Id.SEC_ATT_STATE then some s.attState.toNat
  else if Id.SEC_ATT_PUB ≤ id ∧ id < Id.SEC_ATT_PUB + 4 then some (Sys2Proof.Config.attPub (id - Id.SEC_ATT_PUB)).toNat
  else if id = Id.SEC_OTP then some s.otpView
  else if id = Id.SEC_JRNL_INFO then some s.jInfo.toNat
  else if id = Id.FLT_LOG_RANGE then some s.logRange
  else none

/-- The copy that some mailbox holds frozen of a value (R34). -/
def State.frozenCopy (s : State) (id : Nat) : Option (BitVec 128) :=
  [s.mbxS, s.mbxG, s.mbxH].findSome? (fun m => match m.frozen with
    | some (k, v) => if k = id then some v else none
    | none => none)

/-- The value that a mailbox read copies: a live value that another path holds frozen shows the frozen one. -/
def State.wideView (s : State) (id : Nat) : BitVec 128 :=
  match s.wideLive id with
  | some v => (s.frozenCopy id).getD (BitVec.ofNat 128 v)
  | none => s.wideRaw id

end Sys2Proof.Machine
end

