-- ==== Sys2Proof/Machine/Engines.lean ====
section
/-! DEFINITION. The shared timers (R46, R47) and the configuration CRC engine (R41 to R43). -/

namespace Sys2Proof.Machine

/-! ## Shared timers (R47) -/

/-- Timer `n`. -/
def State.timer (s : State) (n : Nat) : Timer := fget {} s.timers n

/-- Replace timer `n`. -/
def State.setTimer (s : State) (n : Nat) (x : Timer) : State := { s with timers := fset {} s.timers n x }

/-- Ticks of the period of timer `n`: 32 ticks for each HCLK cycle. -/
def State.timerTicks (s : State) (n : Nat) : Nat := 32 * s.wideN (Id.GLB_TIM_PERIOD + n)

/-- May timer `n` count: is en 1, and its owner one that R47 offers? -/
def State.timerOn (s : State) (n : Nat) : Bool :=
  let c := s.timCode n
  s.bit (Reg.GLB_TIM_CTL + 4 * n) 0 && (decide (c = 2) || decide (c = 6) || decide (c = 7))

/-- Timer `n` loads its period and counts; a period of 0 gives no expiry (R45). -/
def State.timerLoad (s : State) (n : Nat) : State :=
  let p := s.timerTicks n
  s.setTimer n { run := true, next := if p = 0 then none else some (s.now + p) }

/-- After a write that may start or stop timer `n`; `was`: it could count before. -/
def State.timerCheck (s : State) (n : Nat) (was : Bool) : State :=
  if !s.timerOn n then s.setTimer n {}
  else if was then s
  else s.timerLoad n

/-- What an expiry of timer `n` does for its owner. -/
def State.timerAct (s : State) (n : Nat) : State :=
  let c := s.timCode n
  if c = 2 then s.onBar State.capTrigger
  else if c = 6 then s.sfeInject
  else s.onBar (fun s => s.hostEvent (BitVec.ofNat 8 (2 ^ s.fld (Reg.GLB_TIM_CTL + 4 * n) 4 2)))

/-- TIMER_EXPIRY (R47): under BCLK the count carries its tolerance, so that the command's tick is the expiry's. -/
def execTimerExpiry (t : Nat) (n : Fin 8) (s : State) : Host.Outcome State Fault Refusal :=
  match (s.timer n).next with
  | some a =>
    let s := s.at (s.hclkDue t a)
    let s := if s.bit (Reg.GLB_TIM_CTL + 4 * n.val) 1 then s.setTimer n {} else s.timerLoad n
    .next (s.timerAct n)
  | none => .next (s.at t)

/-! ## Configuration CRC (R41 to R43) -/

/-- Number of members, one read in each PCLK cycle (R514). -/
def crcCount : Nat := 25886

/-- The value of a sweep: each member's word as the sweep read it. -/
def State.sweepCrc (s : State) (x : Sweep) : Nat :=
  crcMembersOf (crcMembers.map (fun off => (off, match fget none x.old off with
    | some w => w.toNat
    | none => s.regWord off)))

/-- CRC_SWEEP_START (R41): 65,536 PCLK cycles after the sweep before it; in STANDBY no sweep runs (R97). -/
def execCrcSweepStart (t : Nat) (s : State) : Host.Outcome State Fault Refusal :=
  if s.gated then .next (s.at t)
  else
    let s := s.at (if s.crc.startAt = 0 then t else max t (s.crc.startAt + 65536 * s.pclk))
    .next { s with crc := { s.crc with sweep := some { start := s.now }, startAt := s.now, compares := s.crc.refValid } }

/-- A completed sweep is compared; a difference in GUARD drops the safety outputs and stops emission (R43). -/
def State.crcJudge (s : State) (c : Nat) : State :=
  let on := s.crc.compares && s.crcCompares
  let same := decide (c = s.wideN Id.GLB_CFG_CRC_REF)
  let guard := decide (s.mode.active = .guard)
  let s := { s with crc := { s.crc with
    matched := on && same, driftInGuard := s.crc.driftInGuard || (on && !same && guard) } }
  let s := if on && !same then s.event Reg.GLB_CRC_STAT 0 {} else s
  if guard then (if on && same then s.ossdCheck else s.stopBurst.ossdCheck) else s

/-- CRC_SWEEP_DONE (R43). -/
def execCrcSweepDone (t : Nat) (s : State) : Host.Outcome State Fault Refusal :=
  match s.crc.sweep with
  | some x =>
    let s := s.at (max t (x.start + crcCount * s.pclk))
    let c := s.sweepCrc x
    let s := s.putWide Id.GLB_CFG_CRC_LAST c
    .next ({ s with crc := { s.crc with sweep := none } }.crcJudge c)
  | none => .next (s.at t)

/-- GLB_CRC_CMD.compute: one that runs goes on. -/
def State.crcCompute (s : State) : State :=
  if s.crc.cmd.isSome || s.gated then s else { s with crc := { s.crc with cmd := some { start := s.now } } }

/-- CRC_COMPUTE (R41). -/
def execCrcCompute (t : Nat) (_path : Path) (s : State) : Host.Outcome State Fault Refusal :=
  .next (s.at t).crcCompute

/-- CRC_COMPUTE_DONE (R41). -/
def execCrcComputeDone (t : Nat) (s : State) : Host.Outcome State Fault Refusal :=
  match s.crc.cmd with
  | some x =>
    let s := s.at (max t (x.start + crcCount * s.pclk))
    let s := s.putWide Id.GLB_CFG_CRC_CUR (s.sweepCrc x)
    .next ({ s with crc := { s.crc with cmd := none } }.event Reg.GLB_CRC_STAT 1 {})
  | none => .next (s.at t)

end Sys2Proof.Machine
end

