-- ==== Sys2Proof/Machine/Mailbox.lean ====
section
/-! DEFINITION. The mailbox of each path: read with its freeze, write, release, expiry (R33 to R37). -/

namespace Sys2Proof.Machine

/-- valid clears: the freeze ends, and the updates it deferred apply (R34). -/
def State.thaw (s : State) (p : Path) : State :=
  (s.setMbx p { s.mbx p with frozen := none, valid := false }).applyDeferred

/-- Set err of a path's mailbox. -/
def State.mbxErr (s : State) (p : Path) (e : Nat) : State := s.setMbx p { s.mbx p with err := e }

/-! ## Read (R34) -/

/-- The value that a read takes, with the read's own effect: a stamp leaves its queue (R377), the attestation output moves on
(R479); none where the value is not there (R479, R489). -/
def State.mbxTake (s : State) (id : Nat) : State × Option (BitVec 128) :=
  if Id.TSU_Q ≤ id ∧ id < Id.TSU_Q + 16 then
    let r := s.tsuPop (id - Id.TSU_Q)
    (r.1, some r.2)
  else if id = Id.SEC_ATT_OUT then s.attRead
  else if id = Id.FLT_LOG_REC then (s, s.logEntry.map (fun r => eventRec r.seq r.e))
  else if id = Id.FLT_LOG_EXT then (s, s.logEntry.map (fun r => eventExt r.seq r.e))
  else (s, some (s.wideView id))

/-- GLB_MBX_CMD.read; a freeze of this path's mailbox ends first. Words above the value's width read 0 (R35). -/
def State.mbxRead (s : State) (p : Path) : State :=
  let s := s.thaw p
  let id := (s.mbx p).sel.toNat
  if (idAt id).isNone then s.mbxErr p 1
  else
    let r := s.mbxTake id
    match r.2 with
    | some v =>
      let v := BitVec.ofNat 128 (v.toNat % 2 ^ idBits id)
      r.1.setMbx p { r.1.mbx p with data := v, valid := true, err := 0, frozen := some (id, v), readAt := s.now }
    | none => r.1.mbxErr p 0

/-! ## Write (R36, R37, R504) -/

/-- Software puts a value; the hardware updates of the same PCLK cycle apply on top (R36, R44). -/
def State.swPut (s : State) (id v : Nat) : State :=
  let now := s.recent.filter (fun r => decide (r.1 = id) && s.sameCycle r.2.1 s.now)
  let v := if s.isFrozen id then BitVec.ofNat 128 v
    else now.foldl (fun v r => r.2.2.apply (idBits id) v) (BitVec.ofNat 128 v)
  { s with wide := fset (wideReset id) s.wide id v }

/-- A frozen copy of a live value takes the value that software writes. -/
def Mailbox.follow (m : Mailbox) (id : Nat) (v : BitVec 128) : Mailbox :=
  match m.frozen with
  | some (k, _) => if k = id then { m with frozen := some (id, v) } else m
  | none => m

/-- Every mailbox's frozen copy of `id` follows. -/
def State.followAll (s : State) (id v : Nat) : State :=
  let w := BitVec.ofNat 128 v
  { s with mbxS := s.mbxS.follow id w, mbxG := s.mbxG.follow id w, mbxH := s.mbxH.follow id w }

/-- The path part of a write: 0 permitted, 2 read-only, 4 path not permitted. -/
def writeErr (acc : WAcc) (id : Nat) (p : Path) : Nat :=
  match acc with
  | .ro => 2
  | .sag => if p = .saggar then 0 else 4
  | .sagGreen => if p = .host then 4 else 0
  | .rw => if Id.SEC_SCFG ≤ id ∧ id < Id.SEC_SCFG + 24 ∧ p ≠ .host then 4 else 0

/-- The state's part of a write's error: 3 locked (R42, R167, R365), 2 where a chapter's condition does not hold (R131,
R407, R410). -/
def State.stateErr (s : State) (id : Nat) : Nat :=
  let guard := decide (s.mode.active = .guard)
  if id = Id.GLB_CFG_CRC_REF ∨ id = Id.CAP_FIELD_CRC_REF then (if guard then 3 else 0)
  else if Id.EMT_EBM_FAST_CAP ≤ id ∧ id < Id.EMT_EBM_FAST_CAP + 4 then (if s.committed Reg.EMT_EBM_LOCK then 3 else 0)
  else if Id.WHL_W ≤ id ∧ id < Id.WHL_W + 16 then (if s.wheelRuns then 2 else 0)
  else if Id.COIL_SCHED_CYCLE ≤ id ∧ id < Id.COIL_WIN_ACTIVE then (if s.coilRoot then 0 else 2)
  else if Id.COIL_NODE ≤ id ∧ id < Id.COIL_NODE + 16 then (if s.coilRoot then 0 else 2)
  else 0

/-- A new reference of the configuration CRC: it applies from the next sweep that starts (R42). -/
def State.crcRef (s : State) (v : Nat) : State :=
  let s := s.swPut Id.GLB_CFG_CRC_REF v
  { s with crc := { s.crc with refValid := true, matched := false, compares := false } }

/-- A permitted write of `v` to `id`, and its err. -/
def State.wideWrite (s : State) (p : Path) (id v : Nat) : State × Nat :=
  if id = Id.GLB_CFG_CRC_REF then (s.crcRef v, 0)
  else if id = Id.CAP_FIELD_CRC_REF then (s.fieldRef v, 0)
  else if id = Id.SEC_UPD_DATA then s.updData (BitVec.ofNat 128 v)
  else if Id.WHL_W ≤ id ∧ id < Id.WHL_W + 16 then ((s.setW (id - Id.WHL_W) (BitVec.ofNat 32 v)).followAll id v, 0)
  else if Id.COIL_NODE ≤ id ∧ id < Id.COIL_NODE + 16 then
    let old := (s.wideRaw id).toNat
    let w := putBits old 20 3 (bitsOf v 22 20)
    ((s.swPut id w).followAll id (putBits (s.wideView id).toNat 20 3 (bitsOf v 22 20)), 0)
  else
    let s := s.swPut id v
    if Id.GLB_TIM_PERIOD ≤ id ∧ id < Id.GLB_TIM_PERIOD + 8 then
      (if (s.timer (id - Id.GLB_TIM_PERIOD)).run then s.timerLoad (id - Id.GLB_TIM_PERIOD) else s, 0)
    else if id = Id.STR_AX0_SP then (s.landSp 0 v false id (pathCode p), 0)
    else if id = Id.SHF_EGO then ({ s with shf := { s.shf with egoFresh := some s.now } }, 0)
    else if id = Id.TSU_UTIME_SET then (s.modTsu (fun x => { x with setPend := true }), 0)
    else (s, 0)

/-- A write of `v` to `id` from a path: unknown identifiers, paths and locks first. -/
def State.wideCommit (s : State) (p : Path) (id v : Nat) : State × Nat :=
  match idAt id with
  | none => (s, 1)
  | some r =>
    let e := writeErr r.acc id p
    if e ≠ 0 then (s, e)
    else if s.stateErr id ≠ 0 then (s, s.stateErr id)
    else s.wideWrite p id (v % 2 ^ r.bits)

/-- GLB_MBX_CMD.write: the data words are committed first, then the freeze ends and what it deferred applies on top (R36). -/
def State.mbxWrite (s : State) (p : Path) : State :=
  let r := s.wideCommit p (s.mbx p).sel.toNat (s.mbx p).data.toNat
  (r.1.mbxErr p r.2).thaw p

/-- GLB_MBX_CMD.release. -/
def State.mbxRelease (s : State) (p : Path) : State := s.thaw p

/-! ## Commands -/

/-- MBX_READ (R34). -/
def execMbxRead (t : Nat) (path : Path) (s : State) : Host.Outcome State Fault Refusal :=
  .next ((s.at t).onGlb (fun s => s.mbxRead path))

/-- MBX_WRITE (R36). -/
def execMbxWrite (t : Nat) (path : Path) (s : State) : Host.Outcome State Fault Refusal :=
  .next ((s.at t).onGlb (fun s => s.mbxWrite path))

/-- MBX_RELEASE (R35). -/
def execMbxRelease (t : Nat) (path : Path) (s : State) : Host.Outcome State Fault Refusal :=
  .next ((s.at t).onGlb (fun s => s.mbxRelease path))

/-- MBX_FREEZE_EXPIRY (R35): 65,536 PCLK cycles after the read; err is 5, and the data words keep the copy. -/
def execMbxFreezeExpiry (t : Nat) (path : Path) (s : State) : Host.Outcome State Fault Refusal :=
  let m := s.mbx path
  if m.valid then
    let s := s.at (max t (m.readAt + 65536 * s.pclk))
    .next ((s.thaw path).mbxErr path 5)
  else .next (s.at t)

end Sys2Proof.Machine
end

