-- ==== Sys2Proof/Machine/Fabric.lean ====
section
/-! DEFINITION. The register fabric: what a write of each register does (R24 to R32, R38, R39, R45 to R49), reads with their
side effects, and management requests (R406). -/

namespace Sys2Proof.Machine

/-! ## Helpers -/

/-- Run `f` when bit `i` of `b` is set. -/
def State.onBit (s : State) (b i : Nat) (f : State → State) : State := if bitOf b i then f s else s

/-- Does a write with mask `m` touch field [hi:lo]? -/
def touch (m hi lo : Nat) : Bool := decide (bitsOf m hi lo ≠ 0)

/-- A value is reported when it was clamped (R22). -/
def State.clampTo (s : State) (off v a : Nat) (path : Path) : State :=
  if a = v then s else s.paramClamp off a (pathCode path)

/-- A length is reported when it was clamped (R45). -/
def State.lenTo (s : State) (off v a : Nat) (path : Path) : State :=
  if a = v then s else s.lenClamp off a (pathCode path)

/-! ## Effects of C writes, block by block

Each takes the state after the write, the value before it and the write's mask. -/

/-- GLB: the shared timers (R47) and the comparison of sweeps (R42). -/
def State.glbWritten (s : State) (off : Nat) (old : BitVec 16) : State :=
  if Reg.GLB_TIM_CTL ≤ off ∧ off < Reg.GLB_TIM_CTL + 32 then
    let n := (off - Reg.GLB_TIM_CTL) / 4
    let c := s.timCode n
    s.timerCheck n (bitOf old.toNat 0 && (decide (c = 2) || decide (c = 6) || decide (c = 7)))
  else if off = Reg.GLB_CRC_CTL then
    (if s.mode.active ≠ .guard ∧ (bitOf old.toNat 0 = false ∨ s.bit off 0 = false) then
      { s with crc := { s.crc with matched := false } } else s)
  else s

/-- CLK (R60, R61, R63, R67). -/
def State.clkWritten (s : State) (path : Path) (off m : Nat) : State :=
  if off = Reg.CLK_REF_CTL then
    (if touch m 10 7 then s.clampTo off (s.fld off 10 7) (clampN 1 10 (s.fld off 10 7)) path else s)
  else if off = Reg.CLK_HOLD_CTL then s.clampTo off (s.reg off).toNat (min 1000 (s.reg off).toNat) path
  else if Reg.CLK_OUT_CTL ≤ off ∧ off < Reg.CLK_OUT_CTL + 32 then s.outCtl ((off - Reg.CLK_OUT_CTL) / 4) (pathCode path)
  else if Reg.CLK_OUT_DLY ≤ off ∧ off < Reg.CLK_OUT_DLY + 32 then s.outDly ((off - Reg.CLK_OUT_DLY) / 4)
  else s

/-- WHL_PERIOD (R104, R117): a SETP of the same CCLK cycle wins. -/
def State.whlWritten (s : State) (path : Path) (off : Nat) : State :=
  if off = Reg.WHL_PERIOD ∧ s.setpNow 0x401 0 = false then
    let v := (s.reg off).toNat
    (s.modWhl (fun w => { w with periodNext := max 10000 v })).clampTo off v (max 10000 v) path
  else s

/-- EMT (R153, R156, R160, R170, R171). -/
def State.emtWritten (s : State) (path : Path) (off : Nat) (old : BitVec 16) (m : Nat) : State :=
  if off = Reg.EMT_MON_CTL then
    let s := if touch m 0 0 ∧ bitOf old.toNat 0 ≠ s.bit off 0 then s.refbufStart else s
    if bitOf old.toNat 1 = false ∧ s.bit off 1 then { s with emt := { s.emt with early := false } } else s
  else if Reg.EMT_PROF_WIDTH ≤ off ∧ off < Reg.EMT_PROF_WIDTH + 32 then
    (s.clampTo off (s.fld off 6 0) (widthApplied (s.fld off 6 0)) path).emtDirty
  else if off = Reg.EMT_PROOF_CODE ∨ Reg.EMT_PROF_CODE ≤ off ∨ (off = Reg.EMT_CTL ∧ touch m 2 2) then s.emtDirty
  else if Reg.EMT_CODE_A ≤ off ∧ (off - Reg.EMT_CODE_A) % 16 = 0 then s.lenTo off (s.fld off 2 0) (min 4 (s.fld off 2 0)) path
  else s

/-- STR (R191, R194, R197, R206). -/
def State.strWritten (s : State) (path : Path) (off m : Nat) : State :=
  if off = Reg.STR_CTL then
    let s := if touch m 0 0 then s.axEnable 0 (s.bit off 0) else s
    if touch m 1 1 then s.axEnable 1 (s.bit off 1) else s
  else if off = Reg.STR_AX1_SP then s.landSp 1 (s.regI off) false off (pathCode path)
  else if off = Reg.STR_AX0_GEOM then s.lenTo off (s.fld off 3 0) (min 8 (s.fld off 3 0)) path
  else if off = Reg.STR_AX0_TMO then
    (if touch m 3 0 then s.clampTo off (s.fld off 3 0) (clampN 1 8 (s.fld off 3 0)) path else s)
  else if off = Reg.STR_TRC_POST ∨ off = Reg.STR_TRC_POST + 0x20 then
    s.lenTo off (s.fld off 13 0) (min 8192 (s.fld off 13 0)) path
  else s

/-- LAN (R117, R221 to R224). -/
def State.lanWritten (s : State) (path : Path) (off m : Nat) : State :=
  let k := (secOf off).1
  let o := (secOf off).2
  let p := pathCode path
  if o = Reg.LAN_RATE then
    let s := if touch m 7 0 then s.clampTo off (s.fld off 7 0) (max 32 (s.fld off 7 0)) path else s
    if touch m 12 8 then s.lenTo off (s.fld off 12 8) (clampN 1 16 (s.fld off 12 8)) path else s
  else if Reg.LAN_THR ≤ o ∧ o < Reg.LAN_BND then
    let l := 64 * k + (o - Reg.LAN_THR) / 4
    let forced := s.bit off 10
    let s := if touch m 7 0 && !s.setpNow 1 l then s.landNom l (s.fld off 7 0) off p else s
    if touch m 9 8 && !s.setpNow 4 l && !s.setpNow 5 l then s.landGain l (s.fld off 9 8) forced off p else s
  else if Reg.LAN_BND ≤ o then
    let l := 64 * k + (o - Reg.LAN_BND) / 4
    let s := if touch m 7 0 && !s.setpNow 2 l then s.landFloor l (s.fld off 7 0) else s
    if touch m 15 8 && !s.setpNow 3 l then s.landCeil l (s.fld off 15 8) else s
  else s

/-- KLN (R116, R248, R264). -/
def State.klnWritten (s : State) (off m : Nat) : State :=
  let k := (secOf off).1
  let o := (secOf off).2
  if o = Reg.KLN_ZOOM_CTL ∧ s.setpNow 0x101 k = false then s.landWidth k (s.fld off 1 0)
  else if o = Reg.KLN_CAP_CTL ∧ touch m 0 0 ∧ s.setpNow 0x102 k = false then s.landCap k (s.bit off 0)
  else s

/-- SHF (R284). -/
def State.shfWritten (s : State) (path : Path) (off m : Nat) : State :=
  if off = Reg.SHF_CTL then
    let s := if touch m 2 0 && !s.setpNow 0x301 0 then s.landDepth (s.fld off 2 0) off (pathCode path) else s
    if touch m 4 3 && !s.setpNow 0x302 0 then s.landDecay (s.fld off 4 3) off (pathCode path) else s
  else s

/-- GLZ (R300, R301, R315). -/
def State.glzWritten (s : State) (path : Path) (off m : Nat) : State :=
  let k := (secOf off).1
  let o := (secOf off).2
  if off = Reg.GLZ_NAIR then s.clampTo off (s.reg off).toNat (min 1000 (s.reg off).toNat) path
  else if o = Reg.GLZ_CTL then
    let s := if touch m 2 1 then s.clampTo off (s.fld off 2 1) (min 2 (s.fld off 2 1)) path else s
    let s := if touch m 6 4 && !s.setpNow 0x202 k then s.landAmb k (s.fld off 6 4) else s
    if touch m 9 7 && !s.setpNow 0x203 k then s.landRain k (s.fld off 9 7) else s
  else if o = Reg.GLZ_CODE_SET ∧ s.setpNow 0x201 k = false then s.landCodeSet k (s.reg off)
  else s

/-- CAP (R349, R358, R361). -/
def State.capWritten (s : State) (path : Path) (off m : Nat) : State :=
  if off = Reg.CAP_CTL then (if touch m 0 0 then s.capEnable (s.bit off 0) else s)
  else if off = Reg.CAP_FSET_SEL then s.modCap (fun c => { c with setAt := s.now })
  else if off = Reg.CAP_GUARD_TMO then s.clampTo off (s.fld off 12 0) (clampN 100 4000 (s.fld off 12 0)) path
  else s

/-- Is timestamp input `n` enabled on a pin that it does not own (R48, R373)? -/
def State.tsuDenied (s : State) (n : Nat) : Bool :=
  let pin := !s.bit (Reg.TSU_IN_CTL + 4 * n) 3
  s.bit (Reg.TSU_IN_CTL + 4 * n) 0 && ((decide (n = 3) && s.coilEn && pin) || !s.tsuOwns n)

/-- TSU (R374, R379 to R381, R48). -/
def State.tsuWritten (s : State) (path : Path) (off : Nat) (old : BitVec 16) (m : Nat) : State :=
  let p := pathCode path
  if off = Reg.TSU_EXT_CTL then
    let s := if touch m 2 1 then s.clampTo off (s.fld off 2 1) (min 2 (s.fld off 2 1)) path else s
    let s := if touch m 6 3 then s.clampTo off (s.fld off 6 3) (max 1 (s.fld off 6 3)) path else s
    let pps := bitOf old.toNat 0 ≠ s.bit off 0
    let s := if pps then s.modTsu (fun x => { x with ppsAt := none, ppsRow := 0, ppsMiss := 0, ppsPresent := false, ppsAcc := 0 })
      else s
    let s := if pps ∧ s.bit off 0 ∧ s.mfpInput 1 = false then s.resDenied off 1 p else s
    let freq := bitsOf old.toNat 2 1 = 0 ∧ s.fld off 2 1 ≠ 0
    if freq ∧ s.mfpInput 2 = false then s.resDenied off 2 p else s
  else if off = Reg.TSU_PPS_WIN then s.clampTo off (s.reg off).toNat (clampN 1 1000 (s.reg off).toNat) path
  else if off = Reg.TSU_FREQ_SEL then (s.clampTo off (s.reg off).toNat (min 16 (s.reg off).toNat) path).freqRestart
  else if off = Reg.TSU_FREQ_GATE then (s.clampTo off (s.reg off).toNat (min 10000 (s.reg off).toNat) path).freqRestart
  else if Reg.TSU_IN_CTL ≤ off ∧ off < Reg.TSU_IN_CTL + 64 then
    let n := (off - Reg.TSU_IN_CTL) / 4
    let s := if touch m 2 1 then s.clampTo off (s.fld off 2 1) (min 2 (s.fld off 2 1)) path else s
    let fresh := bitOf old.toNat 0 = false ∨ (n = 3 ∧ bitOf old.toNat 3)
    if s.tsuDenied n ∧ fresh then s.resDenied off ((tsuPin n).getD 0) p else s
  else s

/-- COIL (R49, R391, R394, R398): a rise of en runs enumeration on a root; SYNC_IO is the Coil's from then on. -/
def State.coilWritten (s : State) (path : Path) (off : Nat) (old : BitVec 16) : State :=
  if off = Reg.COIL_CTL then
    let up := bitOf old.toNat 0 = false ∧ s.bit off 0
    let s := if up then s.modCoil (fun c => { c with yielded := false }) else s
    let s := s.coilCheck
    let s := if up ∧ s.tsuDenied 3 then s.resDenied (Reg.TSU_IN_CTL + 12) 0 (pathCode path) else s
    if up then s.coilEnum else s
  else s

/-- SFE (R446, R458, R461, R462). -/
def State.sfeWritten (s : State) (path : Path) (off m : Nat) : State :=
  let o := (off - Reg.SFE_CH_A) % 0x20
  if off = Reg.SFE_LOOP_HOST then s.modSfe (fun x => { x with loopHost := true })
  else if off = Reg.SFE_LOOP_CTL then
    (if touch m 2 1 then s.clampTo off (s.fld off 2 1) (min 2 (s.fld off 2 1)) path else s)
  else if off < Reg.SFE_CH_A then s.sfeCheck
  else if o = 0 then (if touch m 8 4 then s.clampTo off (s.fld off 8 4) (min 16 (s.fld off 8 4)) path else s).sfeCheck
  else if o = 4 then s.clampTo off (s.reg off).toNat (max 250 (s.reg off).toNat) path
  else if o = 8 then
    (if touch m 10 0 then s.lenTo off (s.fld off 10 0) (clampN 1 1024 (s.fld off 10 0)) path else s).sfeCheck
  else s

/-- Table windows: an ambient trim (R293), the derating tables (R160). -/
def State.windowWritten (s : State) (path : Path) (off : Nat) : State :=
  if off < Reg.GLZ_WX_L ∧ off % 256 = 0x80 then s.clampTo off (s.reg off).toNat (min 15 (s.reg off).toNat) path
  else if Reg.EMT_DERATE ≤ off ∧ off < Reg.STR_COG then s.emtDirty
  else s

/-- What a C write does beyond the register itself. -/
def State.cWritten (s : State) (path : Path) (off : Nat) (old : BitVec 16) (m : Nat) : State :=
  match off / 0x100000 with
  | 0 => s.glbWritten off old
  | 1 => s.clkWritten path off m
  | 2 => s.whlWritten path off
  | 3 => s.emtWritten path off old m
  | 4 => s.strWritten path off m
  | 5 => s.lanWritten path off m
  | 7 => s.klnWritten off m
  | 8 => s.shfWritten path off m
  | 9 => s.glzWritten path off m
  | 11 => s.capWritten path off m
  | 12 => s.tsuWritten path off old m
  | 13 => s.coilWritten path off old
  | 16 => s.sfeWritten path off m
  | 6 => s
  | 10 => s
  | 14 => s
  | 15 => s
  | 17 => s
  | 18 => s
  | _ => s.windowWritten path off

/-- Is this the offset of a ring's CTL (0) or RD (8) register? -/
def isRingReg (off o : Nat) : Bool :=
  (decide (Reg.HIF_PT_CTL ≤ off) && decide (off < Reg.HIF_PT_CTL + 0x80) ||
    (decide (Reg.HIF_RR_CTL ≤ off) && decide (off < Reg.HIF_RR_CTL + 0x200))) && decide (off % 0x20 = o)

/-- A write of a C register (R26): a zero mask changes nothing. GLB_MBX_SEL is each path's own (R33). -/
def State.cRegWrite (s : State) (path : Path) (off : Nat) (r : Row) (val : Word) : State :=
  let m := bitsOf val.toNat 31 16 &&& r.mask
  if m = 0 then s
  else if off = Reg.GLB_MBX_SEL then s.setMbx path { s.mbx path with sel := cMerge (s.mbx path).sel r.mask val }
  else if off = Reg.GLB_MODE_TARGET then s.targetWrite path val
  else if off / 0x100000 = 15 then s.coneWrite path off val
  else if isRingReg off 0 then s.ringActivate path off val
  else if isRingReg off 8 then s.ringRdWrite path off val
  else
    let old := s.reg off
    let s := if Reg.SHF_KV ≤ off ∧ off < Reg.MEM_RGN_TABLE then s.egoKeep off else s
    (s.cWrite off val path).cWritten path off old m

/-! ## S and L registers -/

/-- A write of an S register (R29, R30): whether it is accepted. -/
def State.statusClear (s : State) (off : Nat) (val : Word) : State × Bool :=
  match (s.sreg off).clear s.pclk s.now val with
  | some r => ({ s with stat := fset {} s.stat off r }, true)
  | none => (s, false)

/-- The first write commits all of [15:0]; later ones raise LOCK_HIT (R31, R32). A mux commit starts the timers whose owner
it names (R46, R47). -/
def State.lockWrite (s : State) (path : Path) (off : Nat) (r : Row) (val : Word) : State :=
  if s.committed off then s.event Reg.GLB_REG_STAT 0 { addr := off, path := pathCode path }
  else
    let s := s.setReg off (val.extractLsb' 0 16 &&& BitVec.ofNat 16 r.mask)
    let s := { s with locks := fset 0 s.locks off 1 }
    if off = Reg.EMT_EBM_LOCK then s.ebmCommit
    else if Reg.GLB_TIMMUX ≤ off ∧ off < Reg.GLB_TIM_CTL then
      forN 4 s (fun s i => s.timerCheck (off - Reg.GLB_TIMMUX + i) false)
    else s

/-! ## X registers (R39) -/

/-- Several bits of SEC_CMD (R481): the lowest runs, the others are refused with reason STATE. -/
def State.secCmd (s : State) (path : Path) (b : Nat) : State :=
  let run := fun (s : State) (i : Nat) => match i with
    | 0 => s.updOpen path
    | 1 => s.updVerify path
    | 2 => s.updActivate path
    | 3 => s.updAbort path
    | 4 => s.attest path
    | 5 => s.parkCmd path
    | 6 => s.compactCmd path
    | 7 => s.rollbackCommit path
    | 8 => s.revoke path
    | 9 => s.limitsStore path
    | 10 => s.sealCmd path
    | _ => s.scfgApply path
  match lowestBit 12 b with
  | none => s
  | some i =>
    let was := s.sec.refuse
    let s := run (s.modSec (fun x => { x with refuse := 0 })) i
    let own := s.sec.refuse
    if b = 2 ^ i then (if own = 0 then s.modSec (fun x => { x with refuse := was }) else s)
    else s.secRefuse (if own = 0 then 3 else own) (pathCode path)

/-- CAP_CMD in ascending order, but an export that starts in the same write refuses the release (R366). -/
def State.capCmd (s : State) (path : Path) (b : Nat) : State :=
  let s := s.onBit b 0 State.capTrigger
  let s := s.onBit b 2 (fun s => s.capExport path)
  let s := s.onBit b 1 (fun s => s.capReleaseCmd path)
  let s := s.onBit b 3 State.capExportAbort
  s.onBit b 4 (fun s => s.ossdRestart path)

/-- WHL_CMD. -/
def State.whlCmd (s : State) (path : Path) (b : Nat) : State :=
  let s := s.onBit b 0 State.wheelStart
  let s := s.onBit b 1 State.wheelStop
  let s := s.onBit b 2 (fun s => s.wheelArm path)
  let s := s.onBit b 3 State.wheelDisarm
  s.onBit b 4 State.wheelAbort

/-- STR_CMD. -/
def State.strCmd (s : State) (b : Nat) : State :=
  let s := forN 2 s (fun s a => s.onBit b a (fun s => s.axRestart a))
  let s := forN 2 s (fun s a => s.onBit b (2 + a) (fun s => s.traceArm a))
  forN 2 s (fun s a => s.onBit b (4 + a) (fun s => s.traceForce a))

/-- CLK_CMD; the phase that a measure command of this form finds is free (log 2). -/
def State.clkCmd (s : State) (b : Nat) : State :=
  let s := s.onBit b 0 State.lockStart
  let s := s.onBit b 1 State.sweepStart
  s.onBit b 2 (fun s => (s.phaseMeasure s.freeW).freeUsed)

/-- GLB_MBX_CMD acts in the order write, read, release (R36); GLB_MODE_CMD in the order retry, release (R95). -/
def State.glbCmd (s : State) (path : Path) (off b : Nat) : State :=
  if off = Reg.GLB_MBX_CMD then
    let s := s.onBit b 1 (fun s => s.mbxWrite path)
    let s := s.onBit b 0 (fun s => s.mbxRead path)
    s.onBit b 2 (fun s => s.mbxRelease path)
  else if off = Reg.GLB_MODE_CMD then (s.onBit b 1 (fun s => s.bootRetry path)).onBit b 0 (fun s => s.safeRelease path)
  else s.onBit b 0 State.crcCompute

/-- A write of an X register: bits act in ascending order unless the chapter says otherwise. -/
def State.xWrite (s : State) (path : Path) (off b : Nat) : State :=
  match off / 0x100000 with
  | 0 => s.glbCmd path off b
  | 1 => s.clkCmd b
  | 2 => if off = Reg.WHL_CMD then s.whlCmd path b else s.hostEvent (BitVec.ofNat 8 b)
  | 3 => ((s.onBit b 0 (fun s => s.clearFailed path)).onBit b 1 State.drvResend).onBit b 2 State.proveAll
  | 4 => s.strCmd b
  | 6 => (s.onBit b 0 (fun s => s.calStartCmd path)).onBit b 1 State.calAbort
  | 8 => s.onBit b 0 State.shfFlushCmd
  | 10 => (s.onBit b 0 (fun s => s.rgnRebuild path)).onBit b 1 State.scrubPass
  | 11 => s.capCmd path b
  | 12 => s.tsuFlush (BitVec.ofNat 16 b)
  | 13 => ((s.onBit b 0 State.coilEnum).onBit b 1 State.coilEpoch).onBit b 2 (fun s => s.coilCommit (pathCode path))
  | 14 => (s.onBit b 0 (fun s => s.ceResume none)).onBit b 1 State.ceAbort
  | 16 => (s.onBit b 0 State.sfeInject).onBit b 1 State.sfeCal
  | 17 => s.secCmd path b
  | 18 => s.onBit b 0 (fun s => s.clearFatal path)
  | _ => s

/-! ## Writes -/

/-- Is a write from this path permitted by the register's path rule (R25, R465)? -/
def PathRule.ok : PathRule → Path → Bool
  | .any, _ => true
  | .saggar, p => decide (p = .saggar)
  | .cone, p => decide (p ≠ .greenware)

/-- The registers that GUARD locks (R365): the field windows and the guard registers. -/
def State.guardLocks (s : State) (off : Nat) (r : Row) : Bool :=
  decide (s.mode.active = .guard) &&
    (decide (r.crc = 2) || (decide (Reg.CAP_GUARD_CTL ≤ off) && decide (off ≤ Reg.CAP_GUARD_TMO)))

/-- A permitted write of a mapped register. -/
def State.typeWrite (s : State) (path : Path) (off : Nat) (r : Row) (val : Word) : State × Bool :=
  match r.typ with
  | .c => (s.cRegWrite path off r val, true)
  | .s => s.statusClear off val
  | .l => (s.lockWrite path off r val, true)
  | .m =>
    let m := s.mbx path
    let i := (off - Reg.GLB_MBX_D) / 4
    (s.setMbx path { m with data := BitVec.ofNat 128 (putBits m.data.toNat (32 * i) 32 val.toNat) }, true)
  | .v => (s, true)
  | .x => (s.xWrite path off (bitsOf val.toNat 15 0 &&& r.mask), true)

/-- A register write (R24, R25), and whether it was neither discarded nor refused. -/
def State.regWrite (s : State) (path : Path) (off size : Nat) (val : Word) : State × Bool :=
  let bad := (s.accessErr off (pathCode path), false)
  if !s.reaches off then (s, false)
  else if size < 4 ∨ off % 4 ≠ 0 then bad
  else if 0x208000 ≤ off ∧ off < 0x248000 then
    (s.bankWrite path off size val, decide (bankKey off / 32768 ≠ s.idleSwap.whl.bank) && !s.idleSwap.whl.armed)
  else
    match rowAt off with
    | none => bad
    | some r => if !r.path.ok path || s.guardLocks off r then bad else s.typeWrite path off r val

/-- REGISTER_WRITE (R24 to R27, R38, R39). -/
def execRegisterWrite (t : Nat) (path : Path) (off size : Nat) (val : Word) (s : State) : Host.Outcome State Fault Refusal :=
  if 0x4000000 ≤ off then .fault .outsideBar0 else .next ((s.at t).regWrite path off size val).1

/-- STATUS_CLEAR (R29, R30). -/
def execStatusClear (t : Nat) (path : Path) (off : Nat) (val : Word) (s : State) : Host.Outcome State Fault Refusal :=
  if 0x4000000 ≤ off then .fault .outsideBar0 else .next ((s.at t).regWrite path off 4 val).1

/-- LOCK_WRITE (R31, R32). -/
def execLockWrite (t : Nat) (path : Path) (off : Nat) (val : Word) (s : State) : Host.Outcome State Fault Refusal :=
  if 0x4000000 ≤ off then .fault .outsideBar0 else .next ((s.at t).regWrite path off 4 val).1

/-! ## Reads with side effects (R24, R254) -/

/-- A read touches a word: fifo_hwm counts from the present fill on; an unmapped word raises ACCESS_ERR. -/
def State.touchWord (s : State) (path : Path) (off : Nat) : State :=
  if !s.reaches off then s
  else if off / 0x100000 = 7 ∧ (secOf off).2 = Reg.KLN_INFO ∧ (secOf off).1 < 8 then
    s.modKiln (secOf off).1 (fun x => { x with hwm := x.queue.length })
  else if (rowAt off).isNone ∧ ¬(0x208000 ≤ off ∧ off < 0x248000) then s.accessErr off (pathCode path)
  else s

/-- The word of a register, or of the program banks. -/
def State.readWord (s : State) (path : Path) (off : Nat) : Nat :=
  if 0x208000 ≤ off ∧ off < 0x248000 ∧ s.reaches off then (fget 0 s.whl.mem (bankKey off)).toNat
  else (s.readReg path off).toNat

/-- A read of `size` bytes at `off`: the bytes addressed, from one word or two adjacent ones. -/
def State.readBytes (s : State) (path : Path) (off size : Nat) : Word :=
  let a := off / 4 * 4
  let two := s.readWord path a + s.readWord path (a + 4) * 2 ^ 32
  BitVec.ofNat 32 (two / 256 ^ (off - a) % 256 ^ size)

/-- A register read with its side effects. -/
def State.regRead (s : State) (path : Path) (off size : Nat) : State :=
  let a := off / 4 * 4
  let v := s.readBytes path off size
  let s := s.touchWord path a
  let s := if a + 4 < off + size then s.touchWord path (a + 4) else s
  { s with rdata := v }

/-- FIFO_HWM_READ (R24, R254). -/
def execFifoHwmRead (t : Nat) (path : Path) (off size : Nat) (s : State) : Host.Outcome State Fault Refusal :=
  if 0x4000000 ≤ off then .fault .outsideBar0 else .next ((s.at t).regRead path off size)

/-! ## Management requests (R406) -/

/-- Does Greenware run? -/
def State.greenRuns (s : State) : Bool :=
  match s.mode.active with
  | .boot | .reset | .standby => false
  | .ready | .scan | .guard | .service | .safe => s.mode.bootDone

/-- Greenware does the operation of a REQ and answers. -/
def State.mgmtDo (s : State) (src : Nat) : MgmtOp → State
  | .regRd off =>
    let ok := decide (off < 0x4000000) && s.reaches off && ((rowAt off).isSome || (decide (0x208000 ≤ off) && decide (off < 0x248000)))
    let s := s.regRead .greenware off 4
    s.coilAnswer src (if ok then 0 else 1) 0 (s.rdata.setWidth 128)
  | .regWr off val =>
    let r := s.regWrite .greenware off 4 val
    r.1.coilAnswer src (if r.2 then 0 else 1) 0 0
  | .mbxRd id =>
    let s := (s.setMbx .greenware { s.mbxG with sel := BitVec.ofNat 16 id }).mbxRead .greenware
    let e := s.mbxG.err
    let s := s.mbxRelease .greenware
    s.coilAnswer src (if e = 0 then 0 else 2) e (if e = 0 then s.mbxG.data else 0)
  | .mbxWr id val =>
    let s := (s.setMbx .greenware { s.mbxG with sel := BitVec.ofNat 16 id, data := val }).mbxWrite .greenware
    let e := s.mbxG.err
    s.coilAnswer src (if e = 0 then 0 else 2) e 0

/-- REQ (R406): hardware answers NO_AGENT at once where Greenware does not run; one that Greenware leaves waits its 1 ms. -/
def execReq (t : Nat) (src : Fin 17) (op : MgmtOp) (answered : Bool) (s : State) : Host.Outcome State Fault Refusal :=
  let s := s.at t
  if !s.coilOn then .next s
  else if !s.greenRuns then .next (s.coilAnswer src.val 3 0 0)
  else if answered then .next (s.mgmtDo src.val op)
  else .next (s.modCoil (fun c => { c with mgmt := c.mgmt ++ [(src.val, s.now)] }))

end Sys2Proof.Machine
end

