-- ==== Sys2Proof/Machine/Dispatch.lean ====
section
/-! DEFINITION. One arm for each command: a direct call of its meaning. -/

namespace Sys2Proof.Machine

def exec (i : Instr) (s : State) : Host.Outcome State Fault Refusal :=
  match i with
  | .registerWrite t path off size val => Sys2Proof.Machine.execRegisterWrite t path off size val s
  | .statusClear t path off val => Sys2Proof.Machine.execStatusClear t path off val s
  | .lockWrite t path off val => Sys2Proof.Machine.execLockWrite t path off val s
  | .fifoHwmRead t path off size => Sys2Proof.Machine.execFifoHwmRead t path off size s
  | .mbxRead t path => Sys2Proof.Machine.execMbxRead t path s
  | .mbxWrite t path => Sys2Proof.Machine.execMbxWrite t path s
  | .mbxRelease t path => Sys2Proof.Machine.execMbxRelease t path s
  | .mbxFreezeExpiry t path => Sys2Proof.Machine.execMbxFreezeExpiry t path s
  | .crcCompute t path => Sys2Proof.Machine.execCrcCompute t path s
  | .crcComputeDone t => Sys2Proof.Machine.execCrcComputeDone t s
  | .crcSweepStart t => Sys2Proof.Machine.execCrcSweepStart t s
  | .crcSweepDone t => Sys2Proof.Machine.execCrcSweepDone t s
  | .timerExpiry t n => Sys2Proof.Machine.execTimerExpiry t n s
  | .lock t path => Sys2Proof.Machine.execLock t path s
  | .lockComplete t phase hclkPhase => Sys2Proof.Machine.execLockComplete t phase hclkPhase s
  | .lockFail t reason => Sys2Proof.Machine.execLockFail t reason s
  | .bandSweep t path => Sys2Proof.Machine.execBandSweep t path s
  | .bandSweepDone t refOk bands => Sys2Proof.Machine.execBandSweepDone t refOk bands s
  | .phaseMeasure t path phase => Sys2Proof.Machine.execPhaseMeasure t path phase s
  | .refLost t => Sys2Proof.Machine.execRefLost t s
  | .holdoverExpiry t => Sys2Proof.Machine.execHoldoverExpiry t s
  | .lockLost t => Sys2Proof.Machine.execLockLost t s
  | .refReturn t => Sys2Proof.Machine.execRefReturn t s
  | .refRequalified t jump freqErr => Sys2Proof.Machine.execRefRequalified t jump freqErr s
  | .slewDone t => Sys2Proof.Machine.execSlewDone t s
  | .realignDone t phase => Sys2Proof.Machine.execRealignDone t phase s
  | .modeTargetWrite t path val => Sys2Proof.Machine.execModeTargetWrite t path val s
  | .idleModeSample t => Sys2Proof.Machine.execIdleModeSample t s
  | .frameBoundarySample t => Sys2Proof.Machine.execFrameBoundarySample t s
  | .frameBoundary t => Sys2Proof.Machine.execFrameBoundary t s
  | .stateSkew t => Sys2Proof.Machine.execStateSkew t s
  | .resetAssert t cause => Sys2Proof.Machine.execResetAssert t cause s
  | .resetRelease t straps => Sys2Proof.Machine.execResetRelease t straps s
  | .bootStageComplete t r => Sys2Proof.Machine.execBootStageComplete t r s
  | .bootRetry t path => Sys2Proof.Machine.execBootRetry t path s
  | .safeRelease t path => Sys2Proof.Machine.execSafeRelease t path s
  | .standbyEntered t => Sys2Proof.Machine.execStandbyEntered t s
  | .wake t => Sys2Proof.Machine.execWake t s
  | .standbyExited t => Sys2Proof.Machine.execStandbyExited t s
  | .programBankWrite t path off size val => Sys2Proof.Machine.execProgramBankWrite t path off size val s
  | .wheelStart t path => Sys2Proof.Machine.execWheelStart t path s
  | .wheelStop t path => Sys2Proof.Machine.execWheelStop t path s
  | .armSwap t path => Sys2Proof.Machine.execArmSwap t path s
  | .disarm t path => Sys2Proof.Machine.execDisarm t path s
  | .wheelAbort t path => Sys2Proof.Machine.execWheelAbort t path s
  | .hostEventPost t path ev => Sys2Proof.Machine.execHostEventPost t path ev s
  | .illegalInstruction t uecc => Sys2Proof.Machine.execIllegalInstruction t uecc s
  | .jmp t => Sys2Proof.Machine.execJmp t s
  | .br t => Sys2Proof.Machine.execBr t s
  | .loop t => Sys2Proof.Machine.execLoop t s
  | .call t => Sys2Proof.Machine.execCall t s
  | .ret t => Sys2Proof.Machine.execRet t s
  | .waitev t => Sys2Proof.Machine.execWaitev t s
  | .waitevEvent t => Sys2Proof.Machine.execWaitevEvent t s
  | .waitevTimeout t => Sys2Proof.Machine.execWaitevTimeout t s
  | .halt t => Sys2Proof.Machine.execHalt t s
  | .sync t => Sys2Proof.Machine.execSync t s
  | .syncEvent t src n => Sys2Proof.Machine.execSyncEvent t src n s
  | .syncTimeout t => Sys2Proof.Machine.execSyncTimeout t s
  | .ldi t => Sys2Proof.Machine.execLdi t s
  | .mov t => Sys2Proof.Machine.execMov t s
  | .add t => Sys2Proof.Machine.execAdd t s
  | .sub t => Sys2Proof.Machine.execSub t s
  | .and t => Sys2Proof.Machine.execAnd t s
  | .or t => Sys2Proof.Machine.execOr t s
  | .shl t => Sys2Proof.Machine.execShl t s
  | .shr t => Sys2Proof.Machine.execShr t s
  | .cmp t => Sys2Proof.Machine.execCmp t s
  | .shot t => Sys2Proof.Machine.execShot t s
  | .gate t => Sys2Proof.Machine.execGate t s
  | .zoom t => Sys2Proof.Machine.execZoom t s
  | .pix t => Sys2Proof.Machine.execPix t s
  | .step t => Sys2Proof.Machine.execStep t s
  | .mark t => Sys2Proof.Machine.execMark t s
  | .setp t => Sys2Proof.Machine.execSetp t s
  | .budget t => Sys2Proof.Machine.execBudget t s
  | .budgetDecision t => Sys2Proof.Machine.execBudgetDecision t s
  | .slotStart t uecc => Sys2Proof.Machine.execSlotStart t uecc s
  | .stepAction t => Sys2Proof.Machine.execStepAction t s
  | .markAction t => Sys2Proof.Machine.execMarkAction t s
  | .pixelClose t => Sys2Proof.Machine.execPixelClose t s
  | .proofDecision t k => Sys2Proof.Machine.execProofDecision t k s
  | .proofPulse t k => Sys2Proof.Machine.execProofPulse t k s
  | .selectPacket t => Sys2Proof.Machine.execSelectPacket t s
  | .tablePacket t echo => Sys2Proof.Machine.execTablePacket t echo s
  | .drvResend t path => Sys2Proof.Machine.execDrvResend t path s
  | .clearFail t path => Sys2Proof.Machine.execClearFail t path s
  | .proveAll t path => Sys2Proof.Machine.execProveAll t path s
  | .ebmRefill t => Sys2Proof.Machine.execEbmRefill t s
  | .refbufReady t => Sys2Proof.Machine.execRefbufReady t s
  | .monitorObservation t samples => Sys2Proof.Machine.execMonitorObservation t samples s
  | .monitorTriggerSample t s0 s1 fine => Sys2Proof.Machine.execMonitorTriggerSample t s0 s1 fine s
  | .controlSample t => Sys2Proof.Machine.execControlSample t s
  | .axisLinkFrame t a rx => Sys2Proof.Machine.execAxisLinkFrame t a rx s
  | .encoderEdge t up => Sys2Proof.Machine.execEncoderEdge t up s
  | .encoderIndex t => Sys2Proof.Machine.execEncoderIndex t s
  | .spinupTimeout t => Sys2Proof.Machine.execSpinupTimeout t s
  | .noEdgeTimeout t => Sys2Proof.Machine.execNoEdgeTimeout t s
  | .settleWindowEnd t => Sys2Proof.Machine.execSettleWindowEnd t s
  | .axisEnable t path a => Sys2Proof.Machine.execAxisEnable t path a s
  | .axisRestart t path a => Sys2Proof.Machine.execAxisRestart t path a s
  | .traceArm t path a => Sys2Proof.Machine.execTraceArm t path a s
  | .traceForce t path a => Sys2Proof.Machine.execTraceForce t path a s
  | .traceFreeze t a => Sys2Proof.Machine.execTraceFreeze t a s
  | .laneEdge t l fine moved => Sys2Proof.Machine.execLaneEdge t l fine moved s
  | .laneTokenRefill t l => Sys2Proof.Machine.execLaneTokenRefill t l s
  | .stuckDetect t l => Sys2Proof.Machine.execStuckDetect t l s
  | .referenceEdge t k inputB fine => Sys2Proof.Machine.execReferenceEdge t k inputB fine s
  | .thresholdSwitch t l => Sys2Proof.Machine.execThresholdSwitch t l s
  | .rangeSwitch t l => Sys2Proof.Machine.execRangeSwitch t l s
  | .idleLaneBoundary t => Sys2Proof.Machine.execIdleLaneBoundary t s
  | .sectorSettled t k => Sys2Proof.Machine.execSectorSettled t k s
  | .calAutoStart t => Sys2Proof.Machine.execCalAutoStart t s
  | .calStart t path => Sys2Proof.Machine.execCalStart t path s
  | .calAbort t path => Sys2Proof.Machine.execCalAbort t path s
  | .calLaneComplete t l => Sys2Proof.Machine.execCalLaneComplete t l s
  | .calWindowExpiry t => Sys2Proof.Machine.execCalWindowExpiry t s
  | .calHoldEnd t => Sys2Proof.Machine.execCalHoldEnd t s
  | .kilnEventBin t k uecc => Sys2Proof.Machine.execKilnEventBin t k uecc s
  | .predictionDeadline t k => Sys2Proof.Machine.execPredictionDeadline t k s
  | .lanePixelHandoff t k j uecc => Sys2Proof.Machine.execLanePixelHandoff t k j uecc s
  | .shelfAddition t k j => Sys2Proof.Machine.execShelfAddition t k j s
  | .waveCaptureComplete t k => Sys2Proof.Machine.execWaveCaptureComplete t k s
  | .waveCaptureDeadline t k lanes => Sys2Proof.Machine.execWaveCaptureDeadline t k lanes s
  | .bufferClearDone t k => Sys2Proof.Machine.execBufferClearDone t k s
  | .kilnClearDone t k => Sys2Proof.Machine.execKilnClearDone t k s
  | .shelfHeaderArrival t k j uecc => Sys2Proof.Machine.execShelfHeaderArrival t k j uecc s
  | .shelfBinsArrival t k j uecc => Sys2Proof.Machine.execShelfBinsArrival t k j uecc s
  | .shelfWriteback t k j => Sys2Proof.Machine.execShelfWriteback t k j s
  | .shelfWritebackDone t k fault => Sys2Proof.Machine.execShelfWritebackDone t k fault s
  | .shfFlush t path => Sys2Proof.Machine.execShfFlush t path s
  | .glazeStage2 t k j bufErr => Sys2Proof.Machine.execGlazeStage2 t k j bufErr s
  | .glazeStage3 t k j => Sys2Proof.Machine.execGlazeStage3 t k j s
  | .glazeStall t k j => Sys2Proof.Machine.execGlazeStall t k j s
  | .pqFrameEnd t => Sys2Proof.Machine.execPqFrameEnd t s
  | .pqDeliver t c uecc => Sys2Proof.Machine.execPqDeliver t c uecc s
  | .memGranule t ch reqs => Sys2Proof.Machine.execMemGranule t ch reqs s
  | .rgnRebuild t path => Sys2Proof.Machine.execRgnRebuild t path s
  | .rgnRebuildDone t => Sys2Proof.Machine.execRgnRebuildDone t s
  | .scrubPass t path => Sys2Proof.Machine.execScrubPass t path s
  | .scrubPeriod t => Sys2Proof.Machine.execScrubPeriod t s
  | .memMaintenance t ch => Sys2Proof.Machine.execMemMaintenance t ch s
  | .memStarveWarn t port => Sys2Proof.Machine.execMemStarveWarn t port s
  | .memHotChange t pkg hot => Sys2Proof.Machine.execMemHotChange t pkg hot s
  | .selfRefreshEntered t => Sys2Proof.Machine.execSelfRefreshEntered t s
  | .capTrigger t path => Sys2Proof.Machine.execCapTrigger t path s
  | .triggerEvaluation t => Sys2Proof.Machine.execTriggerEvaluation t s
  | .recPostExpiry t => Sys2Proof.Machine.execRecPostExpiry t s
  | .waveFreeze t => Sys2Proof.Machine.execWaveFreeze t s
  | .capRelease t path => Sys2Proof.Machine.execCapRelease t path s
  | .holdoffEnd t => Sys2Proof.Machine.execHoldoffEnd t s
  | .capExport t path => Sys2Proof.Machine.execCapExport t path s
  | .capExportAbort t path => Sys2Proof.Machine.execCapExportAbort t path s
  | .exportDone t => Sys2Proof.Machine.execExportDone t s
  | .fieldTest t => Sys2Proof.Machine.execFieldTest t s
  | .guardStale t => Sys2Proof.Machine.execGuardStale t s
  | .ossdRestart t path => Sys2Proof.Machine.execOssdRestart t path s
  | .ossdAutoRestart t => Sys2Proof.Machine.execOssdAutoRestart t s
  | .ossdFeedbackMismatch t => Sys2Proof.Machine.execOssdFeedbackMismatch t s
  | .fieldCrcSweep t => Sys2Proof.Machine.execFieldCrcSweep t s
  | .tsuInputEdge t n rising => Sys2Proof.Machine.execTsuInputEdge t n rising s
  | .tsuStampQueued t n fine => Sys2Proof.Machine.execTsuStampQueued t n fine s
  | .tsuFlush t path bits => Sys2Proof.Machine.execTsuFlush t path bits s
  | .freqGateEnd t => Sys2Proof.Machine.execFreqGateEnd t s
  | .ppsWindowMiss t => Sys2Proof.Machine.execPpsWindowMiss t s
  | .extFreqWindow t count => Sys2Proof.Machine.execExtFreqWindow t count s
  | .coilLinkChange t p up => Sys2Proof.Machine.execCoilLinkChange t p up s
  | .coilPacketReceive t p hdr crcOk => Sys2Proof.Machine.execCoilPacketReceive t p hdr crcOk s
  | .token t p mask list strapped ident => Sys2Proof.Machine.execToken t p mask list strapped ident s
  | .tokenEnd t p mask list => Sys2Proof.Machine.execTokenEnd t p mask list s
  | .topo t ring list => Sys2Proof.Machine.execTopo t ring list s
  | .linkEvent t => Sys2Proof.Machine.execLinkEvent t s
  | .coilEnumerate t path => Sys2Proof.Machine.execCoilEnumerate t path s
  | .enumTimeout t => Sys2Proof.Machine.execEnumTimeout t s
  | .enumRetry t => Sys2Proof.Machine.execEnumRetry t s
  | .coilTimePeriod t => Sys2Proof.Machine.execCoilTimePeriod t s
  | .syncPacket t p ts corr tArr tDep => Sys2Proof.Machine.execSyncPacket t p ts corr tArr tDep s
  | .delayReq t p src t2 t3 => Sys2Proof.Machine.execDelayReq t p src t2 t3 s
  | .delayResp t p t1 t2 t3 t4 => Sys2Proof.Machine.execDelayResp t p t1 t2 t3 t4 s
  | .coilTrimStep t => Sys2Proof.Machine.execCoilTrimStep t s
  | .coilSyncTimeout t => Sys2Proof.Machine.execCoilSyncTimeout t s
  | .coilHoldExpiry t => Sys2Proof.Machine.execCoilHoldExpiry t s
  | .coilEpoch t path => Sys2Proof.Machine.execCoilEpoch t path s
  | .coilSchedCommit t path => Sys2Proof.Machine.execCoilSchedCommit t path s
  | .schedTable t cycle act wins => Sys2Proof.Machine.execSchedTable t cycle act wins s
  | .schedActivate t => Sys2Proof.Machine.execSchedActivate t s
  | .coilCycleStart t => Sys2Proof.Machine.execCoilCycleStart t s
  | .streamRecords t p origin dst seq recs => Sys2Proof.Machine.execStreamRecords t p origin dst seq recs s
  | .req t src op answered => Sys2Proof.Machine.execReq t src op answered s
  | .resp t src status detail => Sys2Proof.Machine.execResp t src status detail s
  | .coilNoAgent t => Sys2Proof.Machine.execCoilNoAgent t s
  | .coilMgmtTimeout t => Sys2Proof.Machine.execCoilMgmtTimeout t s
  | .status t src w0 frames offset => Sys2Proof.Machine.execStatus t src w0 frames offset s
  | .coilStatusTimer t => Sys2Proof.Machine.execCoilStatusTimer t s
  | .coilNodeStale t a => Sys2Proof.Machine.execCoilNodeStale t a s
  | .pcieConfigRequest t => Sys2Proof.Machine.execPcieConfigRequest t s
  | .bar2Access t addr wdata ecc => Sys2Proof.Machine.execBar2Access t addr wdata ecc s
  | .ringActivate t path off val => Sys2Proof.Machine.execRingActivate t path off val s
  | .ringRdWrite t path off val => Sys2Proof.Machine.execRingRdWrite t path off val s
  | .ringWriteback t x => Sys2Proof.Machine.execRingWriteback t x s
  | .ptStall t => Sys2Proof.Machine.execPtStall t s
  | .eventRingDeliver t => Sys2Proof.Machine.execEventRingDeliver t s
  | .rrStall t a => Sys2Proof.Machine.execRrStall t a s
  | .ceDescriptor t d => Sys2Proof.Machine.execCeDescriptor t d s
  | .ceResume t path d => Sys2Proof.Machine.execCeResume t path d s
  | .ceAbort t path => Sys2Proof.Machine.execCeAbort t path s
  | .irqHoldEnd t v => Sys2Proof.Machine.execIrqHoldEnd t v s
  | .msixUnmask t v => Sys2Proof.Machine.execMsixUnmask t v s
  | .endpointReset t e => Sys2Proof.Machine.execEndpointReset t e s
  | .thmConversion t d => Sys2Proof.Machine.execThmConversion t d s
  | .throttleGraceExpiry t => Sys2Proof.Machine.execThrottleGraceExpiry t s
  | .coolDownDone t => Sys2Proof.Machine.execCoolDownDone t s
  | .coneWrite t path off val => Sys2Proof.Machine.execConeWrite t path off val s
  | .sfeOutput t y trip => Sys2Proof.Machine.execSfeOutput t y trip s
  | .sfeInject t path => Sys2Proof.Machine.execSfeInject t path s
  | .sfeCal t path => Sys2Proof.Machine.execSfeCal t path s
  | .sfeCalDone t coeffs => Sys2Proof.Machine.execSfeCalDone t coeffs s
  | .loopUpdate t measured => Sys2Proof.Machine.execLoopUpdate t measured s
  | .loopFaultTimer t => Sys2Proof.Machine.execLoopFaultTimer t s
  | .updOpen t path => Sys2Proof.Machine.execUpdOpen t path s
  | .updVerify t path => Sys2Proof.Machine.execUpdVerify t path s
  | .updVerifyDone t ecc => Sys2Proof.Machine.execUpdVerifyDone t ecc s
  | .updActivate t path => Sys2Proof.Machine.execUpdActivate t path s
  | .updAbort t path => Sys2Proof.Machine.execUpdAbort t path s
  | .attest t path => Sys2Proof.Machine.execAttest t path s
  | .attestDone t => Sys2Proof.Machine.execAttestDone t s
  | .park t path => Sys2Proof.Machine.execPark t path s
  | .compact t path => Sys2Proof.Machine.execCompact t path s
  | .compactDone t checkOk => Sys2Proof.Machine.execCompactDone t checkOk s
  | .rollbackCommit t path => Sys2Proof.Machine.execRollbackCommit t path s
  | .revoke t path => Sys2Proof.Machine.execRevoke t path s
  | .otpDone t => Sys2Proof.Machine.execOtpDone t s
  | .limitsStore t path => Sys2Proof.Machine.execLimitsStore t path s
  | .seal t path => Sys2Proof.Machine.execSeal t path s
  | .scfgApply t path => Sys2Proof.Machine.execScfgApply t path s
  | .permitSet t => Sys2Proof.Machine.execPermitSet t s
  | .saggarWatchdog t => Sys2Proof.Machine.execSaggarWatchdog t s
  | .saggarRestartDone t torn => Sys2Proof.Machine.execSaggarRestartDone t torn s
  | .brownOut t rail => Sys2Proof.Machine.execBrownOut t rail s
  | .brownOutRelease t rail => Sys2Proof.Machine.execBrownOutRelease t rail s
  | .wevEdge t n => Sys2Proof.Machine.execWevEdge t n s
  | .sectorResume t k => Sys2Proof.Machine.execSectorResume t k s
  | .clearFatal t path => Sys2Proof.Machine.execClearFatal t path s
  | .heldEventsRecorded t off => Sys2Proof.Machine.execHeldEventsRecorded t off s
  | .requalifyFail t => Sys2Proof.Machine.execRequalifyFail t s
  | .bclkRefinChange t qualifies => Sys2Proof.Machine.execBclkRefinChange t qualifies s
  | .pcieLinkUp t speed width => Sys2Proof.Machine.execPcieLinkUp t speed width s
  | .idleBoundaryApply t => Sys2Proof.Machine.execIdleBoundaryApply t s
  | .ossdFeedbackAgree t => Sys2Proof.Machine.execOssdFeedbackAgree t s
  | .mfpPulseEnd t pin => Sys2Proof.Machine.execMfpPulseEnd t pin s

end Sys2Proof.Machine
end

