-- ==== Sys2Proof/Safety.lean ====
section
/-! DEFINITION. The terms in which claims about the block are made: a command completes, which parts of the state it leaves
as they are, an instruction issues, and what the OTP fuses already hold. -/

namespace Sys2Proof.Machine

/-! ## Completion -/

/-- Command `c` answers a next state from `s`, and that state satisfies `P`. -/
def Completes (c : Instr) (s : State) (P : State → Prop) : Prop := ∃ u, exec c s = .next u ∧ P u

/-! ## Frames -/

/-- The parts of the state: its fields. -/
inductive Part where
  | now | regs | locks | stat | wide | deferred | recent | mbxS | mbxG
  | mbxH | lastWrites | rdata | crc | timers | log | clk | mode | whl
  | pix | emt | str | lan | cal | kln | shf | glz | pq
  | mem | cap | tsu | coil | hif | thm | sfe | sec | pins
  | freeNext | pending
deriving DecidableEq, Repr

/-- Does a part hold in `u` what it holds in `s`? -/
def Part.same (s u : State) : Part → Prop
  | .now => u.now = s.now
  | .regs => u.regs = s.regs
  | .locks => u.locks = s.locks
  | .stat => u.stat = s.stat
  | .wide => u.wide = s.wide
  | .deferred => u.deferred = s.deferred
  | .recent => u.recent = s.recent
  | .mbxS => u.mbxS = s.mbxS
  | .mbxG => u.mbxG = s.mbxG
  | .mbxH => u.mbxH = s.mbxH
  | .lastWrites => u.lastWrites = s.lastWrites
  | .rdata => u.rdata = s.rdata
  | .crc => u.crc = s.crc
  | .timers => u.timers = s.timers
  | .log => u.log = s.log
  | .clk => u.clk = s.clk
  | .mode => u.mode = s.mode
  | .whl => u.whl = s.whl
  | .pix => u.pix = s.pix
  | .emt => u.emt = s.emt
  | .str => u.str = s.str
  | .lan => u.lan = s.lan
  | .cal => u.cal = s.cal
  | .kln => u.kln = s.kln
  | .shf => u.shf = s.shf
  | .glz => u.glz = s.glz
  | .pq => u.pq = s.pq
  | .mem => u.mem = s.mem
  | .cap => u.cap = s.cap
  | .tsu => u.tsu = s.tsu
  | .coil => u.coil = s.coil
  | .hif => u.hif = s.hif
  | .thm => u.thm = s.thm
  | .sfe => u.sfe = s.sfe
  | .sec => u.sec = s.sec
  | .pins => u.pins = s.pins
  | .freeNext => u.freeNext = s.freeNext
  | .pending => u.pending = s.pending

/-- Every part but these is in `u` as it is in `s`. -/
def Unchanged (but : List Part) (s u : State) : Prop := ∀ p, p ∉ but → p.same s u

/-- The parts that the passing of time and the recording of an event may touch: the tick; the log with its EVENT records on
their way to the host and into the recorder's ring; S registers with their vectors; counters. -/
def recording : List Part := [.now, .log, .stat, .wide, .deferred, .recent, .hif, .mem, .cap]

/-- Every register but these reads as before. -/
def SameRegs (but : List Nat) (s u : State) : Prop := ∀ off, off ∉ but → u.reg off = s.reg off

/-- Every byte of the memory outside these addresses reads as before. -/
def SameBytes (out : Nat → Prop) (s u : State) : Prop := ∀ a, ¬ out a → u.memByte a = s.memByte a

/-! ## The Wheel -/

/-- The instruction `op` is the next to issue, and nothing holds its issue (R103, R110). -/
def State.issues (s : State) (op : Wop) : Prop := s.canIssue = true ∧ s.fetchOp = some op

/-- The tick at which the next instruction issues for a command of tick `t`. -/
def State.issueTick (s : State) (t : Nat) : Nat := max s.now (max t s.whl.readyAt)

/-- The program counter after an instruction that takes no branch (R133). -/
def State.nextPc (s : State) : Nat := (loopEnd s.whl.pc s.whl.loops).1

/-- An event of flag `b` of the S register at `off` is recorded, or held for its pacing (R28). -/
def State.shows (s : State) (off b : Nat) : Prop :=
  bitOf (s.sreg off).flags.toNat b = true ∨ bitOf (s.sreg off).held.toNat b = true

/-- What R128 and R136 say of the result `r` and the carry flag `c` of an operation on `x` and `y`, as numbers. -/
def AluSpec (op : AluOp) (x y r : Nat) (c : Bool) : Prop :=
  match op with
  | .add => r = (x + y) % 2 ^ 32 ∧ (c = true ↔ 2 ^ 32 ≤ x + y)
  | .sub | .cmp => r = (x + 2 ^ 32 - y) % 2 ^ 32 ∧ (c = true ↔ x < y)
  | .and => (∀ i, r.testBit i = (x.testBit i && y.testBit i)) ∧ c = false
  | .or => (∀ i, r.testBit i = (x.testBit i || y.testBit i)) ∧ c = false
  | .shl => r = x * 2 ^ y % 2 ^ 32 ∧ (c = true ↔ 0 < y ∧ y < 32 ∧ x.testBit (32 - y) = true)
  | .shr => r = x / 2 ^ y ∧ (c = true ↔ 0 < y ∧ y < 32 ∧ x.testBit (y - 1) = true)

/-- The command of an arithmetic operation. -/
def AluOp.command : AluOp → Nat → Instr
  | .add => .add | .sub => .sub | .and => .and | .or => .or | .shl => .shl | .shr => .shr | .cmp => .cmp

/-- Instructions that take no branch let the next one issue `cycles` CCLK cycles later, at the program counter that the loop
counters give; here `u` follows `s` for one that issues at tick `a`. -/
def Retired (cycles a : Nat) (s u : State) : Prop :=
  u.whl.pc = s.nextPc ∧ u.whl.loops = (loopEnd s.whl.pc s.whl.loops).2 ∧ u.whl.readyAt = a + 2 * cycles

/-- The Wheel is FAULTED with this code, and no timeline action is left. -/
def FaultedWith (code : Nat) (u : State) : Prop := u.whl.state = .faulted ∧ u.whl.faultCode = code ∧ u.whl.queue = []

/-! ## The fuses -/

/-- The fuses hold at least this (R470, R475): a rollback counter of `c`, the revocation bits of `r`, and, where `f` says so,
the seal. -/
def FuseFloor (c : Nat) (r : BitVec 4) (f : Bool) (s : State) : Prop :=
  c ≤ s.sec.otpCounter ∧ (∀ i, i < 4 → bitOf r.toNat i = true → bitOf s.sec.revoked.toNat i = true) ∧
    (f = true → s.sec.sealed = true)

end Sys2Proof.Machine
end

