-- ==== Sys2Proof/Certificates/Slice0/Obligations.lean ====
section
/-! DEFINITION. The statements for the provers: what commands and the machine do, by the rules of spec/. -/

open Sys2Proof Sys2Proof.Machine

/-- For every command c, every queue rest and every state s: one step of s with c in front of rest answers exactly
what exec answers for c on s with the queue rest. With an empty queue a step answers the same state (the model's
choice, log 1). The rows of the opcode table have no bits, so no word spells a command: decodeTableWord answers none
and withFetchWord leaves the state as it is. (spec/opcode_table.json; spec/INDEX.md) -/
def Obligations.StepRunsTheFrontCommand : Prop :=
  (∀ (c : Instr) (rest : List Instr) (s : State),
    step { s with pending := c :: rest } = exec c { s with pending := rest }) ∧
  (∀ s : State, s.pending = [] → step s = .next s) ∧
  ∀ (nbits w : Nat) (s : State), decodeTableWord nbits w = none ∧ s.withFetchWord nbits w = s

/-- In the reset state every C and L register holds the reset value of its row in the Register Map, every S register
reads 0 (sequence number and flags), no L register is committed, no mailbox is valid, no program runs, the queue is
empty, and MODE_ACTIVE reads BOOT (the model shows BOOT right after reset, log 40); the memory has its canonical form,
and a unit with no fuse burned meets the floor of FusesOnlyEverBurn. GLB_ID_DEV reads 0x5120, GLB_CRC_CTL reads 1,
WHL_PERIOD reads 10,000, LAN_THR_0 reads 0x0080 and an uncommitted EMT_EBM_LOCK reads 0x0000_0000 for every path.
(spec/23_register_map.md; spec/02_register_conventions.md; spec/04_modes_and_startup.md) -/
def Obligations.RegistersStandAtTheirResetValues : Prop :=
  (∀ off, State.reset.reg off = regReset off ∧ State.reset.committed off = false ∧ State.reset.sreg off = {}) ∧
  (∀ p, (State.reset.mbx p).valid = false) ∧ State.reset.wheelRuns = false ∧ State.reset.pending = [] ∧
  State.reset.mode.active = .boot ∧ State.reset.mem.wf = true ∧ FuseFloor 0 0 false State.reset ∧
  ∀ p, State.reset.readReg p Reg.GLB_ID_DEV = 0x5120 ∧ State.reset.readReg p Reg.GLB_CRC_CTL = 1 ∧
    State.reset.readReg p Reg.WHL_PERIOD = 10000 ∧ State.reset.readReg p Reg.LAN_THR = 0x80 ∧
    State.reset.readReg p Reg.EMT_EBM_LOCK = 0

/-- BAR0 decodes 64 MiB and BAR2 the 128 GiB of the logical memory space. REGISTER_WRITE, STATUS_CLEAR, LOCK_WRITE,
FIFO_HWM_READ and PROGRAM_BANK_WRITE end in the fault outsideBar0 exactly when their offset is 0x4000000 or more,
BAR2_ACCESS in outsideBar2 exactly when its address is 2^37 or more. In every other case, and for every other command
in every state, exec answers a next state; no command is refused. (spec/18_host_interface.md R413;
spec/14_memory_and_arbiter.md R321) -/
def Obligations.OnlyAccessesOutsideTheBarsStop : Prop :=
  (∀ t p off size val s, 0x4000000 ≤ off →
    exec (.registerWrite t p off size val) s = .fault .outsideBar0 ∧ exec (.statusClear t p off val) s = .fault .outsideBar0 ∧
    exec (.lockWrite t p off val) s = .fault .outsideBar0 ∧ exec (.fifoHwmRead t p off size) s = .fault .outsideBar0 ∧
    exec (.programBankWrite t p off size val) s = .fault .outsideBar0) ∧
  (∀ t addr w ecc s, 2 ^ 37 ≤ addr → exec (.bar2Access t addr w ecc) s = .fault .outsideBar2) ∧
  (∀ (c : Instr) (s : State),
    (∀ t p o z v, c = .registerWrite t p o z v → o < 0x4000000) → (∀ t p o v, c = .statusClear t p o v → o < 0x4000000) →
    (∀ t p o v, c = .lockWrite t p o v → o < 0x4000000) → (∀ t p o z, c = .fifoHwmRead t p o z → o < 0x4000000) →
    (∀ t p o z v, c = .programBankWrite t p o z v → o < 0x4000000) → (∀ t a w e, c = .bar2Access t a w e → a < 2 ^ 37) →
    ∃ u, exec c s = .next u) ∧
  ∀ (c : Instr) (s : State) (r : Refusal), exec c s ≠ .refused r

/-- Moving to tick t sets the tick to the later of t and the present one (time never runs back), and changes at most
the parts that settled log entries reach (log, S registers, counters, event-ring buffer and vectors, the recorder's
ring and position). Where no entry waits it changes the tick alone. Every register, the Wheel and every other block is
as before, and the queue too. (spec/22_faults_and_recovery.md; spec/15_capture_recorder_guard.md) -/
def Obligations.TimePassesQuietly : Prop :=
  ∀ (s : State) (t : Nat), (s.at t).now = max s.now t ∧ Unchanged recording s (s.at t) ∧
    (s.log.pend = [] → s.at t = { s with now := max s.now t }) ∧ ∀ off, (s.at t).reg off = s.reg off

/-- REGISTER_WRITE of a 32-bit word to a C register in reach, permitted to the path, and without a command row of its
own: if no other write of that register fell into the same PCLK cycle, implemented bit n of [15:0] becomes bit n of
the word where bit n+16 is 1 and keeps its value elsewhere; no other register changes. With a zero mask nothing but
time changes. GLB_MBX_SEL is merged in the same way in the mailbox of the writing path alone. Afterwards a read
returns the register's value with 0 in [31:16]. Two writes of one C register that fall into the same PCLK cycle, from
two paths: whichever comes first, the register ends with the write of the path that is earlier in the order Saggar,
Greenware, host applied first and the other applied on top, each under its own mask. (spec/02_register_conventions.md
R26; spec/02_register_conventions.md R8; spec/02_register_conventions.md R24; spec/02_register_conventions.md R25) -/
def Obligations.MaskedWriteChangesTheMaskedBits : Prop :=
  ((∀ t p off val s r, off < 0x4000000 → off % 4 = 0 → s.reaches off = true → rowAt off = some r → r.typ = .c →
    r.path.ok p = true → s.guardLocks off r = false → off ≠ Reg.GLB_MBX_SEL → off ≠ Reg.GLB_MODE_TARGET →
    off / 0x100000 ≠ 15 → isRingReg off 0 = false → isRingReg off 8 = false →
    s.lastWrites.find? (fun w => decide (w.off = off) && (s.at t).sameCycle w.at_ (s.at t).now) = none →
    Completes (.registerWrite t p off 4 val) s fun u =>
      (∀ n, n < 16 → bitOf (u.reg off).toNat n =
        if bitOf val.toNat (n + 16) && bitOf r.mask n then bitOf val.toNat n else bitOf (s.reg off).toNat n) ∧
      SameRegs [off] s u ∧ u.readReg p off = (u.reg off).setWidth 32) ∧
  (∀ t p off val s r, off < 0x4000000 → off % 4 = 0 → s.reaches off = true → rowAt off = some r → r.typ = .c →
    r.path.ok p = true → s.guardLocks off r = false → bitsOf val.toNat 31 16 = 0 →
    Completes (.registerWrite t p off 4 val) s fun u => u = s.at t) ∧
  ∀ t p val s, s.pins.inReset = false → Completes (.registerWrite t p Reg.GLB_MBX_SEL 4 val) s fun u =>
    ((u.mbx p).sel = cMerge (s.mbx p).sel 0xFFFF val) ∧ (∀ q, q ≠ p → u.mbx q = s.mbx q) ∧
    Unchanged [.mbxS, .mbxG, .mbxH] (s.at t) u) ∧
  (∀ (s : State) (off : Nat) (r : Row) (v w : Word) (p q : Path), rowAt off = some r → pathCode p < pathCode q →
    s.lastWrites.find? (fun x => decide (x.off = off) && s.sameCycle x.at_ s.now) = none →
    ((s.cWrite off v p).cWrite off w q).reg off = cMerge (cMerge (s.reg off) r.mask v) r.mask w ∧
    ((s.cWrite off w q).cWrite off v p).reg off = cMerge (cMerge (s.reg off) r.mask v) r.mask w)

/-- A write in reach that is narrower than 32 bits, or aimed at an offset with no register, or at a register the path
may not write, is exactly the recording of ACCESS_ERR in GLB_REG_STAT with the offset and the path in its log entry;
no register, wide value or block changes. An unaligned 32-bit write is treated as a narrow one (the model's choice,
log 41). A write of a V register is ignored without an event. (spec/02_register_conventions.md R24;
spec/02_register_conventions.md R25; spec/02_register_conventions.md R38) -/
def Obligations.DiscardedAccessesRaiseAccessErr : Prop :=
  (∀ t p off size val s, off < 0x4000000 → s.reaches off = true →
    (size < 4 ∨ off % 4 ≠ 0 ∨ (rowAt off = none ∧ ¬(0x208000 ≤ off ∧ off < 0x248000)) ∨
      (∃ r, rowAt off = some r ∧ r.path.ok p = false ∧ ¬(0x208000 ≤ off ∧ off < 0x248000))) →
    Completes (.registerWrite t p off size val) s fun u =>
      u = (s.at t).event Reg.GLB_REG_STAT 4 { addr := off, path := pathCode p } ∧ SameRegs [] s u ∧
      Unchanged (recording) s u) ∧
  ∀ t p off val s r, off < 0x4000000 → off % 4 = 0 → s.reaches off = true → rowAt off = some r → r.typ = .v →
    r.path.ok p = true → s.guardLocks off r = false → ¬(0x208000 ≤ off ∧ off < 0x248000) →
    Completes (.registerWrite t p off 4 val) s fun u => u = s.at t

/-- STATUS_CLEAR of an S register in reach, in a PCLK cycle without an event of that register: if [31:16] equals the
sequence number read at that tick, the flags named in [15:0] clear, the others and the sequence number stay; if it
differs, the register is unchanged. No other S register, no other part of the state changes. In the cycle of an event
the check is against the sequence number before it, and the event's flags stay (R30). (R29) -/
def Obligations.StatusClearNeedsTheSequenceNumber : Prop :=
  ∀ t p off val s r, off < 0x4000000 → off % 4 = 0 → s.reaches off = true → rowAt off = some r → r.typ = .s →
    r.path.ok p = true → s.guardLocks off r = false →
    let b := s.at t
    let x := b.sreg off
    ((∀ l, x.last = some l → b.sameCycle b.now l = false) →
      (val.extractLsb' 16 16 = x.seq → Completes (.statusClear t p off val) s fun u =>
        (fget {} u.stat off).seq = x.seq ∧ (fget {} u.stat off).flags = x.flags &&& ~~~(val.extractLsb' 0 16) ∧
        (∀ o, o ≠ off → fget {} u.stat o = fget {} b.stat o) ∧ Unchanged [.stat] b u) ∧
      (val.extractLsb' 16 16 ≠ x.seq → Completes (.statusClear t p off val) s fun u => u = b)) ∧
    (∀ l, x.last = some l → b.sameCycle b.now l = true →
      (val.extractLsb' 16 16 = x.seq - 1 → Completes (.statusClear t p off val) s fun u =>
        (fget {} u.stat off).seq = x.seq ∧
        (fget {} u.stat off).flags = x.flags &&& (~~~(val.extractLsb' 0 16) ||| x.ev) ∧ Unchanged [.stat] b u) ∧
      (val.extractLsb' 16 16 ≠ x.seq - 1 → Completes (.statusClear t p off val) s fun u => u = b))

/-- An event with flags f at a register whose last recorded event lies 16 PCLK cycles or more back (or that has none)
sets f, keeps every other flag and makes the sequence number one more, wrapping at 65,535. One that comes sooner, in a
later cycle than the last, leaves flags and sequence number as they are and is held; held events are recorded together
as one event 16 cycles after the last one. That several events of one PCLK cycle are one event is the model's reading
(log 7). (spec/02_register_conventions.md R28) -/
def Obligations.EventsSetFlagsAndCount : Prop :=
  ∀ (p now : Nat) (f : BitVec 16) (r : SReg), 0 < p → r.held = 0 →
    ((r.last = none ∨ ∃ l, r.last = some l ∧ l + 16 * p ≤ now) →
      (r.record p now f).seq = r.seq + 1 ∧ (r.record p now f).flags = r.flags ||| f ∧ (r.record p now f).held = 0) ∧
    (∀ l, r.last = some l → l / p < now / p → now < l + 16 * p →
      (r.record p now f).seq = r.seq ∧ (r.record p now f).flags = r.flags ∧
      ∀ later, l + 16 * p ≤ later → f ≠ 0 →
        ((r.record p now f).settle p later).seq = r.seq + 1 ∧
        ((r.record p now f).settle p later).flags = r.flags ||| f ∧ ((r.record p now f).settle p later).held = 0)

/-- LOCK_WRITE of an L register in reach. Not committed: its implemented bits of [15:0] become the written ones
whatever [31:16] holds, no other register changes, and from then on every path reads the value with bit 31 set.
Committed: the write is exactly the recording of LOCK_HIT in GLB_REG_STAT with the offset and the path; no register
and no lock changes. RESET clears every lock; a function-level reset and a hot reset clear none. (R32) -/
def Obligations.FirstLockWriteCommits : Prop :=
  (∀ t p off val s r, off < 0x4000000 → off % 4 = 0 → s.reaches off = true → rowAt off = some r → r.typ = .l →
    r.path.ok p = true → s.guardLocks off r = false → s.committed off = false →
    Completes (.lockWrite t p off val) s fun u =>
      u.reg off = val.extractLsb' 0 16 &&& BitVec.ofNat 16 r.mask ∧ SameRegs [off] s u ∧ u.committed off = true ∧
      (∀ o, o ≠ off → u.committed o = s.committed o) ∧
      ∀ q, u.readReg q off = BitVec.ofNat 32 ((u.reg off).toNat + 2 ^ 31)) ∧
  (∀ t p off val s r, off < 0x4000000 → off % 4 = 0 → s.reaches off = true → rowAt off = some r → r.typ = .l →
    r.path.ok p = true → s.guardLocks off r = false → s.committed off = true →
    Completes (.lockWrite t p off val) s fun u =>
      u = (s.at t).event Reg.GLB_REG_STAT 0 { addr := off, path := pathCode p } ∧ SameRegs [] s u ∧ u.locks = s.locks) ∧
  (∀ t cause s u, exec (.resetAssert t cause) s = .next u → u.locks = []) ∧
  ∀ t e s u, exec (.endpointReset t e) s = .next u → u.locks = s.locks

/-- FIFO_HWM_READ at any offset inside BAR0 leaves in rdata the addressed bytes of the word (or of the two adjacent
words) as they stood before the read. A full-word read of KLN_INFO of sector k in reach restarts that Kiln's
high-water mark at the present fill of its queue and leaves every other Kiln and every other part of the state as it
is; a read of an unmapped word returns 0 and records ACCESS_ERR. (spec/02_register_conventions.md R24;
spec/11_kiln_histograms.md R254) -/
def Obligations.ReadsReturnTheAddressedBytes : Prop :=
  (∀ t p off size s, off < 0x4000000 → Completes (.fifoHwmRead t p off size) s fun u =>
    u.rdata = (s.at t).readBytes p off size) ∧
  (∀ t p k s, k < 8 → s.gated = false → Completes (.fifoHwmRead t p (Reg.KLN_INFO + 0x10000 * k) 4) s fun u =>
    u.rdata = (s.at t).readReg p (Reg.KLN_INFO + 0x10000 * k) ∧ (u.kiln k).hwm = (s.kiln k).queue.length ∧
    (u.kiln k).queue = (s.kiln k).queue ∧ (∀ j, j ≠ k → u.kiln j = s.kiln j) ∧ Unchanged [.kln, .rdata] (s.at t) u) ∧
  ∀ t p off s, off < 0x4000000 → off % 4 = 0 → rowAt off = none → ¬(0x208000 ≤ off ∧ off < 0x248000) →
    s.reaches off = true → Completes (.fifoHwmRead t p off 4) s fun u => u.rdata = 0 ∧
      u = { (s.at t).event Reg.GLB_REG_STAT 4 { addr := off, path := pathCode p } with rdata := 0 }

/-- MBX_READ of a value that is there (with the read's own effect, a stamp leaving its queue or the attestation output
moving on): the path's mailbox holds the value cut to its width in the data words, valid 1, err 0, and freezes that
identifier; of an unknown identifier: err 1, data words kept, valid 0. MBX_RELEASE ends the freeze and keeps the data
words. MBX_FREEZE_EXPIRY of a valid mailbox, 65,536 PCLK cycles after the read at the earliest, ends the freeze, sets
err 5 and keeps the data words. No command on one path's mailbox touches those of the others. In RESET no mailbox is
reached. (spec/02_register_conventions.md R34; spec/02_register_conventions.md R35; spec/02_register_conventions.md
R36) -/
def Obligations.MailboxReadFreezesACopy : Prop :=
  (∀ t p s v, s.pins.inReset = false → (idAt (s.mbx p).sel.toNat).isSome = true →
    (((s.at t).thaw p).mbxTake (s.mbx p).sel.toNat).2 = some v → Completes (.mbxRead t p) s fun u =>
      (u.mbx p).data = BitVec.ofNat 128 (v.toNat % 2 ^ idBits (s.mbx p).sel.toNat) ∧ (u.mbx p).valid = true ∧
      (u.mbx p).err = 0 ∧ (u.mbx p).frozen = some ((s.mbx p).sel.toNat, (u.mbx p).data) ∧
      ∀ q, q ≠ p → u.mbx q = s.mbx q) ∧
  (∀ t p s, s.pins.inReset = false → (idAt (s.mbx p).sel.toNat).isSome = false → Completes (.mbxRead t p) s fun u =>
      (u.mbx p).err = 1 ∧ (u.mbx p).data = (s.mbx p).data ∧ (u.mbx p).valid = false ∧ ∀ q, q ≠ p → u.mbx q = s.mbx q) ∧
  (∀ t p s, s.pins.inReset = false → Completes (.mbxRelease t p) s fun u =>
      (u.mbx p).valid = false ∧ (u.mbx p).frozen = none ∧ (u.mbx p).data = (s.mbx p).data ∧
      ∀ q, q ≠ p → u.mbx q = s.mbx q) ∧
  (∀ t p s, (s.mbx p).valid = true → Completes (.mbxFreezeExpiry t p) s fun u =>
      (u.mbx p).valid = false ∧ (u.mbx p).frozen = none ∧ (u.mbx p).err = 5 ∧ (u.mbx p).data = (s.mbx p).data ∧
      (s.mbx p).readAt + 65536 * s.pclk ≤ u.now ∧ ∀ q, q ≠ p → u.mbx q = s.mbx q) ∧
  ∀ t p s, s.pins.inReset = true →
    exec (.mbxRead t p) s = .next (s.at t) ∧ exec (.mbxWrite t p) s = .next (s.at t) ∧ exec (.mbxRelease t p) s = .next (s.at t)

/-- Where the mailbox of path p alone holds identifier id frozen and no update waits: two hardware updates of id leave
its stored value as it is, and ending the freeze applies them in their order; the value of another identifier is
updated at once. A counter bumped by m and then by n while frozen stands m + n higher, modulo its width, once the
freeze ends. (R34) -/
def Obligations.AFreezeDefersUpdates : Prop :=
  ∀ (s : State) (p : Path) (id : Nat) (v : BitVec 128), (s.mbx p).frozen = some (id, v) →
    (∀ q, q ≠ p → (s.mbx q).frozen = none) → s.deferred = [] →
    (∀ x y : WideUpd,
      ((s.updWide id x).updWide id y).wideRaw id = s.wideRaw id ∧
      (((s.updWide id x).updWide id y).thaw p).wideRaw id = y.apply (idBits id) (x.apply (idBits id) (s.wideRaw id)) ∧
      ∀ other, other ≠ id → (s.updWide other x).wideRaw other = x.apply (idBits other) (s.wideRaw other)) ∧
    ∀ m n : Nat, 0 < m → 0 < n → 0 < idBits id → idBits id ≤ 128 → (s.wideRaw id).toNat < 2 ^ idBits id →
      ((((s.bump id m).bump id n).thaw p).wideRaw id).toNat = ((s.wideRaw id).toNat + m + n) % 2 ^ idBits id

/-- MBX_WRITE by a path whose mailbox holds no freeze, with no update of any value deferred or made in the same cycle.
Unknown identifier: err 1; value that is read-only: err 2; path not permitted: err 4; a value locked in GUARD or by
EMT_EBM_LOCK: err 3; in each of these cases nothing but err, and valid, changes beyond time. Permitted, for an
identifier without an effect of its own: err 0 and the value is the data words cut to its width. WHL_W_i of a Wheel
that runs no program takes [31:0] into register wi. (spec/02_register_conventions.md R36;
spec/02_register_conventions.md R37) -/
def Obligations.MailboxWriteCommitsOrRefuses : Prop :=
  ∀ t p s, s.pins.inReset = false → (s.mbx p).frozen = none → s.deferred = [] → s.recent = [] → s.log.pend = [] →
    let id := (s.mbx p).sel.toNat
    let m := { s.mbx p with valid := false, frozen := none }
    let still (e : Nat) := Completes (.mbxWrite t p) s fun u => u = (s.at t).setMbx p { m with err := e }
    (idAt id = none → still 1) ∧
    (∀ r, idAt id = some r → writeErr r.acc id p ≠ 0 → still (writeErr r.acc id p)) ∧
    (∀ r, idAt id = some r → writeErr r.acc id p = 0 → s.stateErr id ≠ 0 → still (s.stateErr id)) ∧
    (∀ r, idAt id = some r → writeErr r.acc id p = 0 → s.stateErr id = 0 →
      id ≠ Id.SEC_UPD_DATA → ¬(Id.WHL_W ≤ id ∧ id < Id.WHL_W + 16) → ¬(Id.COIL_NODE ≤ id ∧ id < Id.COIL_NODE + 16) →
      (∀ q, q ≠ p → (s.mbx q).frozen = none) →
      Completes (.mbxWrite t p) s fun u => (u.mbx p).err = 0 ∧ (u.mbx p).valid = false ∧
        u.wideRaw id = BitVec.ofNat 128 ((s.mbx p).data.toNat % 2 ^ r.bits)) ∧
    ∀ i, i < 16 → id = Id.WHL_W + i → s.wheelRuns = false → Completes (.mbxWrite t p) s fun u =>
        (u.mbx p).err = 0 ∧ u.wreg i = BitVec.ofNat 32 ((s.mbx p).data.toNat % 2 ^ 32) ∧ ∀ j, j ≠ i → u.wreg j = s.wreg j

/-- CRC_SWEEP_START outside RESET and STANDBY begins a sweep, no sooner than 65,536 PCLK cycles after the one before.
CRC_SWEEP_DONE of a sweep in progress puts its CRC into GLB_CFG_CRC_LAST and ends it; compared, with an equal
reference it sets match, and with a different one it clears match and raises cfg_drift (in GUARD also remembered until
GUARD ends); not compared, it clears match. CRC_COMPUTE starts the commanded sweep where none runs; CRC_COMPUTE_DONE
puts its CRC into GLB_CFG_CRC_CUR, ends it and raises compute_done. None of them changes a register. TIMER_EXPIRY of a
timer that counts: under ONE_SHOT it stops; under PERIODIC its next expiry lies one period (32 ticks for each HCLK
cycle) after this one, none for a period of 0. Owned by WHL (0x7), outside RESET and STANDBY, it posts host event arg
(a bit consumed in the same cycle apart); the other timers are as before. (spec/02_register_conventions.md R41;
spec/02_register_conventions.md R42; spec/02_register_conventions.md R43; spec/02_register_conventions.md R47) -/
def Obligations.ConfigurationSweepsAndSharedTimers : Prop :=
  ((∀ t s, s.gated = false → Completes (.crcSweepStart t) s fun u =>
    u.crc.sweep = some { start := u.now } ∧ u.crc.startAt = u.now ∧ u.crc.compares = s.crc.refValid ∧ t ≤ u.now ∧
    (s.crc.startAt ≠ 0 → s.crc.startAt + 65536 * s.pclk ≤ u.now) ∧ Unchanged (.crc :: recording) s u) ∧
  (∀ t s x, s.crc.sweep = some x → s.isFrozen Id.GLB_CFG_CRC_LAST = false → s.mode.active ≠ .guard →
    let b := s.at (max t (x.start + crcCount * s.pclk))
    Completes (.crcSweepDone t) s fun u =>
      u.crc.sweep = none ∧ u.wideRaw Id.GLB_CFG_CRC_LAST = BitVec.ofNat 128 (b.sweepCrc x % 2 ^ 32) ∧ SameRegs [] s u ∧
      u.crc.matched = (s.crc.compares && s.crcCompares && decide (b.sweepCrc x = b.wideN Id.GLB_CFG_CRC_REF)) ∧
      (s.crc.compares = true → s.crcCompares = true → b.sweepCrc x ≠ b.wideN Id.GLB_CFG_CRC_REF →
        bitOf (u.sreg Reg.GLB_CRC_STAT).flags.toNat 0 = true ∨ bitOf (u.sreg Reg.GLB_CRC_STAT).held.toNat 0 = true) ∧
      u.crc.driftInGuard = s.crc.driftInGuard) ∧
  (∀ t s x, s.crc.sweep = some x → s.mode.active = .guard → s.crc.compares = true → s.crc.refValid = true →
    (let b := s.at (max t (x.start + crcCount * s.pclk)); b.sweepCrc x ≠ b.wideN Id.GLB_CFG_CRC_REF) →
    Completes (.crcSweepDone t) s fun u => u.crc.matched = false ∧ u.crc.driftInGuard = true ∧ SameRegs [] s u) ∧
  (∀ t p s, s.gated = false → s.crc.cmd = none → Completes (.crcCompute t p) s fun u =>
    u.crc.cmd = some { start := u.now } ∧ u.crc.sweep = s.crc.sweep ∧ Unchanged (.crc :: recording) s u) ∧
  ∀ t s x, s.crc.cmd = some x → s.isFrozen Id.GLB_CFG_CRC_CUR = false →
    Completes (.crcComputeDone t) s fun u => u.crc.cmd = none ∧ x.start + crcCount * s.pclk ≤ u.now ∧
      u.wideRaw Id.GLB_CFG_CRC_CUR =
        BitVec.ofNat 128 ((s.at (max t (x.start + crcCount * s.pclk))).sweepCrc x % 2 ^ 32) ∧
      Unchanged (.crc :: recording) s u) ∧
  (∀ t (n : Fin 8) s a, (s.timer n).next = some a →
    let b := s.at (s.hclkDue t a)
    Completes (.timerExpiry t n) s fun u =>
    (s.bit (Reg.GLB_TIM_CTL + 4 * n.val) 1 = true → u.timer n = {}) ∧
    (s.bit (Reg.GLB_TIM_CTL + 4 * n.val) 1 = false → (u.timer n).run = true ∧
      (u.timer n).next = if b.timerTicks n = 0 then none else some (b.now + b.timerTicks n)) ∧
    (∀ m : Fin 8, m ≠ n → u.timer m = s.timer m) ∧ SameRegs [] s u ∧
    (s.timCode n = 7 → s.gated = false → b.sameCycle s.whl.evAt b.now = false →
      u.whl.hostev = s.whl.hostev ||| BitVec.ofNat 8 (2 ^ s.fld (Reg.GLB_TIM_CTL + 4 * n.val) 4 2)))

/-- For every instruction whose operands fit their fields, decoding its 64-bit word gives it back, with every operand
at every value. Conversely a 64-bit word that decodes at all decodes to an instruction whose operands fit and whose
word it is: no reserved bit is set, and no two words stand for one instruction. (spec/06_wheel_instructions.md R124;
spec/06_wheel_instructions.md R125; spec/06_wheel_instructions.md R126; spec/06_wheel_instructions.md R129;
spec/06_wheel_instructions.md R135; spec/06_wheel_instructions.md R149) -/
def Obligations.WheelWordsRoundTrip : Prop :=
  (∀ op : Wop, op.wf = true → encodeWop op < 2 ^ 64 ∧ decodeWop (encodeWop op) = some op) ∧
  ∀ (w : Nat) (op : Wop), w < 2 ^ 64 → decodeWop w = some op → op.wf = true ∧ encodeWop op = w

/-- JMP 5, BR LS 3, LOOP w2 to 9, SYNC FACET any, ADD w1 = w2 + 0x10, SUB w1 = w2 - w3, SHOT of w4 with profile 3,
stagger 2, code 1, GATE, PIX with both indices from registers, BUDGET; opcode 0x00 and a reserved bit decode to
nothing. (spec/06_wheel_instructions.md R126; spec/06_wheel_instructions.md R129; spec/06_wheel_instructions.md R132;
spec/06_wheel_instructions.md R135; spec/06_wheel_instructions.md R138; spec/06_wheel_instructions.md R141;
spec/06_wheel_instructions.md R143; spec/06_wheel_instructions.md R146; spec/06_wheel_instructions.md R151) -/
def Obligations.WheelWordsAsWritten : Prop :=
  decodeWop 0x0100000000000005 = some (.jmp (.imm 5)) ∧
  decodeWop 0x0208000000000003 = some (.br 8 3) ∧
  decodeWop 0x0382000000000009 = some (.loop (.reg 2) 9) ∧
  decodeWop 0x08300010F0000064 = some (.sync 3 0 16 15 100) ∧
  decodeWop 0x1212080000000010 = some (.alu .add 1 2 (.imm 16)) ∧
  decodeWop 0x1312300000000000 = some (.alu .sub 1 2 (.reg 3)) ∧
  decodeWop 0x2084321000000000 = some (.shot (.reg 4) 3 2 1) ∧
  decodeWop 0x2150FFFF20000100 = some (.gate 5 0xFFFF 0x2000 0x100) ∧
  decodeWop 0x23E1200000000000 = some (.pix true (.reg 1) (.reg 2)) ∧
  decodeWop 0x3070021000000004 = some (.budget 7 (.imm 4) 2 1) ∧
  decodeWop 0 = none ∧ decodeWop 0x0500000000000001 = none

/-- When one of these instructions is the next to issue, its command completes at the issue tick. The result and the
carry are those of R136 and R128 on the old values of the operands, Z is 1 exactly for a result of 0, N is its bit 31.
Every operation but CMP writes wd, CMP writes no register, no other register changes. The next instruction issues one
CCLK cycle later at the program counter the loop counters give. Nothing else of the Wheel and no other part of the
state changes beyond time. (R136) -/
def Obligations.ArithmeticResultsAndFlags : Prop :=
  ∀ t s (op : AluOp) wd wa b, s.issues (.alu op wd wa b) → s.nextPc < 16384 →
    Completes (op.command t) s fun u => ∃ r : Word,
      AluSpec op (s.wreg wa).toNat (s.src b).toNat r.toNat u.whl.c ∧
      u.whl.z = decide (r.toNat = 0) ∧ u.whl.n = r.toNat.testBit 31 ∧
      (op ≠ .cmp → u.wreg wd = r) ∧ (∀ i, op = .cmp ∨ i ≠ wd → u.wreg i = s.wreg i) ∧
      Retired 1 (s.issueTick t) s u ∧
      u.whl = { s.whl with
        regs := u.whl.regs, z := u.whl.z, n := u.whl.n, c := u.whl.c, pc := u.whl.pc, loops := u.whl.loops
        readyAt := u.whl.readyAt } ∧
      Unchanged [.whl] (s.at (s.issueTick t)) u

/-- When LDI or MOV is the next to issue, its command completes: wd takes the 32-bit immediate, or the old value of
wa; no other register and no flag changes, the next instruction issues one cycle later, and nothing else changes
beyond time. (spec/06_wheel_instructions.md R126; spec/06_wheel_instructions.md R128; spec/06_wheel_instructions.md
R135) -/
def Obligations.LoadsAndMovesLeaveTheFlags : Prop :=
  let kept (t : Nat) (s u : State) := Retired 1 (s.issueTick t) s u ∧
    u.whl = { s.whl with regs := u.whl.regs, pc := u.whl.pc, loops := u.whl.loops, readyAt := u.whl.readyAt } ∧
    Unchanged [.whl] (s.at (s.issueTick t)) u
  (∀ t s wd v, s.issues (.ldi wd v) → s.nextPc < 16384 → Completes (.ldi t) s fun u =>
    u.wreg wd = BitVec.ofNat 32 v ∧ (∀ i, i ≠ wd → u.wreg i = s.wreg i) ∧ kept t s u) ∧
  ∀ t s wd wa, s.issues (.mov wd wa) → s.nextPc < 16384 → Completes (.mov t) s fun u =>
    u.wreg wd = s.wreg wa ∧ (∀ i, i ≠ wd → u.wreg i = s.wreg i) ∧ kept t s u

/-- BR with condition AL, EQ, NE, MI, PL, CS, CC, HI or LS branches exactly when the table says so; a branch not taken
costs one cycle. JMP takes its immediate or register target. A taken branch makes the target the next instruction
after 2 cycles, pops exactly the innermost counters whose bodies do not hold the target, and changes no register, no
flag, no return address. A register target of 16,384 or more faults with PC_RANGE (2). (spec/06_wheel_instructions.md
R126; spec/06_wheel_instructions.md R130; spec/06_wheel_instructions.md R131; spec/06_wheel_instructions.md R133) -/
def Obligations.BranchesFollowTheirConditions : Prop :=
  let taken (target t : Nat) (s u : State) := u.whl.pc = target ∧ u.whl.readyAt = s.issueTick t + 4 ∧
    u.whl.loops = loopLeave target s.whl.loops ∧
    u.whl = { s.whl with pc := u.whl.pc, loops := u.whl.loops, readyAt := u.whl.readyAt } ∧
    Unchanged [.whl] (s.at (s.issueTick t)) u
  let holds (cond : Nat) (w : Wheel) : Prop :=
    cond = 0 ∨ (cond = 1 ∧ w.z = true) ∨ (cond = 2 ∧ w.z = false) ∨ (cond = 3 ∧ w.n = true) ∨ (cond = 4 ∧ w.n = false) ∨
    (cond = 5 ∧ w.c = true) ∨ (cond = 6 ∧ w.c = false) ∨ (cond = 7 ∧ w.c = false ∧ w.z = false) ∨
    (cond = 8 ∧ (w.c = true ∨ w.z = true))
  (∀ t s cond target, s.issues (.br cond target) → target < 16384 → holds cond s.whl →
    Completes (.br t) s (taken target t s)) ∧
  (∀ t s cond target, s.issues (.br cond target) → cond ≤ 8 → ¬ holds cond s.whl → s.nextPc < 16384 →
    Completes (.br t) s fun u => Retired 1 (s.issueTick t) s u ∧ Unchanged [.whl] (s.at (s.issueTick t)) u ∧
      u.whl = { s.whl with pc := u.whl.pc, loops := u.whl.loops, readyAt := u.whl.readyAt }) ∧
  (∀ t s tgt, s.issues (.jmp tgt) → (s.src tgt).toNat < 16384 →
    Completes (.jmp t) s (taken (s.src tgt).toNat t s)) ∧
  ∀ t s tgt, s.issues (.jmp tgt) → 16384 ≤ (s.src tgt).toNat → Completes (.jmp t) s (FaultedWith 2)

/-- CALL to a target below 16,384 with fewer than eight entries pushes the index of the next instruction and continues
at the target after 2 cycles, the loop counters unchanged; RET pops the newest entry and continues there. A register
target of 16,384 or more faults with PC_RANGE (2), a ninth CALL with CALL_DEPTH (3), RET on an empty stack with
RET_EMPTY (4), each with the stack as it was. LOOP with an end behind it: a count of 0 continues after the end; any
other count with fewer than four active counters pushes a counter with that count over the instructions from the next
one to the end. An end at or before the LOOP faults with ILLEGAL_OP (1), a fifth counter with LOOP_DEPTH (5). No
register and no flag changes. (spec/06_wheel_instructions.md R131; spec/06_wheel_instructions.md R132;
spec/06_wheel_instructions.md R133; spec/05_wheel_sequencer.md R119) -/
def Obligations.CallsReturnsAndLoops : Prop :=
  let keptC (t : Nat) (s u : State) := u.whl.readyAt = s.issueTick t + 4 ∧
    u.whl = { s.whl with pc := u.whl.pc, rets := u.whl.rets, readyAt := u.whl.readyAt } ∧
    Unchanged [.whl] (s.at (s.issueTick t)) u
  ((∀ t s tgt, s.issues (.call tgt) → (s.src tgt).toNat < 16384 → s.whl.rets.length < 8 →
    Completes (.call t) s fun u => u.whl.pc = (s.src tgt).toNat ∧ u.whl.rets = (s.whl.pc + 1) :: s.whl.rets ∧ keptC t s u) ∧
  (∀ t s a r, s.issues .ret → s.whl.rets = a :: r → a < 16384 →
    Completes (.ret t) s fun u => u.whl.pc = a ∧ u.whl.rets = r ∧ keptC t s u) ∧
  (∀ t s tgt, s.issues (.call tgt) → 16384 ≤ (s.src tgt).toNat →
    Completes (.call t) s fun u => FaultedWith 2 u ∧ u.whl.rets = s.whl.rets) ∧
  (∀ t s tgt, s.issues (.call tgt) → (s.src tgt).toNat < 16384 → 8 ≤ s.whl.rets.length →
    Completes (.call t) s fun u => FaultedWith 3 u ∧ u.whl.rets = s.whl.rets) ∧
  ∀ t s, s.issues .ret → s.whl.rets = [] → Completes (.ret t) s fun u => FaultedWith 4 u ∧ u.whl.rets = s.whl.rets) ∧
  let keptL (t : Nat) (s u : State) := u.whl.readyAt = s.issueTick t + 2 ∧
    u.whl = { s.whl with pc := u.whl.pc, loops := u.whl.loops, readyAt := u.whl.readyAt } ∧
    Unchanged [.whl] (s.at (s.issueTick t)) u
  (∀ t s count e, s.issues (.loop count e) → s.whl.pc < e → (s.src count).toNat = 0 → e < 16383 →
    Completes (.loop t) s fun u => u.whl.pc = e + 1 ∧ u.whl.loops = s.whl.loops ∧ keptL t s u) ∧
  (∀ t s count e, s.issues (.loop count e) → s.whl.pc < e → 0 < (s.src count).toNat → s.whl.loops.length < 4 →
    s.whl.pc < 16383 → Completes (.loop t) s fun u => u.whl.pc = s.whl.pc + 1 ∧
      u.whl.loops = { left := (s.src count).toNat, first := s.whl.pc + 1, last := e } :: s.whl.loops ∧ keptL t s u) ∧
  (∀ t s count e, s.issues (.loop count e) → e ≤ s.whl.pc → Completes (.loop t) s (FaultedWith 1)) ∧
  ∀ t s count e, s.issues (.loop count e) → s.whl.pc < e → 0 < (s.src count).toNat → 4 ≤ s.whl.loops.length →
    Completes (.loop t) s (FaultedWith 5)

/-- At the completion of its end instruction a counter with count n above 0 sends execution to the first instruction
of its body n - 1 times; at the n-th completion it is popped, and the counters outside it are checked at the same
completion exactly as if they were innermost. A counter whose end is another instruction is not checked. The same
holds with any counters outside. (spec/06_wheel_instructions.md R133) -/
def Obligations.LoopBodiesRunTheirCount : Prop :=
  ∀ (n first last : Nat) (out : List LoopCtr),
    (∀ k, k + 1 < n → ∃ l,
      (fun x => (loopEnd last x).2)^[k] ({ left := n, first, last } :: out) = { left := l, first, last } :: out ∧
      (loopEnd last ({ left := l, first, last } :: out)).1 = first) ∧
    (0 < n → ∃ l,
      (fun x => (loopEnd last x).2)^[n - 1] ({ left := n, first, last } :: out) = { left := l, first, last } :: out ∧
      loopEnd last ({ left := l, first, last } :: out) = loopEnd last out) ∧
    ∀ pc, pc ≠ last → loopEnd pc ({ left := n, first, last } :: out) = (pc + 1, { left := n, first, last } :: out)

/-- WAITEV with a masked event pending completes at once: wd takes the pending events of the mask, these are consumed,
the others stay, Z is 0. With none pending and timeout 0 it writes 0 and sets Z. Otherwise the Wheel waits, with
nothing else changed. WAITEV_EVENT with a masked event pending by the end of the timeout, and WAITEV_TIMEOUT, end the
wait in the same two ways. N, C, the other registers and the grid's anchor never change.
(spec/06_wheel_instructions.md R137; spec/05_wheel_sequencer.md R115; spec/06_wheel_instructions.md R128) -/
def Obligations.WaitingForHostEvents : Prop :=
  let kept (wd : Nat) (s u : State) := (∀ i, i ≠ wd → u.wreg i = s.wreg i) ∧ u.whl.n = s.whl.n ∧ u.whl.c = s.whl.c ∧
    u.whl.anchor = s.whl.anchor ∧ u.whl.queue = s.whl.queue ∧ u.whl.pc = s.nextPc
  let got (wd mask : Nat) (s u : State) := u.wreg wd = (s.whl.hostev &&& BitVec.ofNat 8 mask).setWidth 32 ∧
    u.whl.hostev = s.whl.hostev &&& ~~~(BitVec.ofNat 8 mask) ∧ u.whl.z = false ∧ u.whl.state = .running ∧ u.whl.wait = none ∧
    kept wd s u
  let missed (wd : Nat) (s u : State) := u.wreg wd = 0 ∧ u.whl.hostev = s.whl.hostev ∧ u.whl.z = true ∧
    u.whl.state = .running ∧ u.whl.wait = none ∧ kept wd s u
  (∀ t s wd timeout mask, s.issues (.waitev wd timeout mask) → s.nextPc < 16384 → s.evPending mask = true →
    Completes (.waitev t) s fun u => got wd mask s u ∧ Unchanged [.whl] (s.at (s.issueTick t)) u) ∧
  (∀ t s wd mask, s.issues (.waitev wd 0 mask) → s.nextPc < 16384 → s.evPending mask = false →
    Completes (.waitev t) s fun u => missed wd s u ∧ Unchanged [.whl] (s.at (s.issueTick t)) u) ∧
  (∀ t s wd timeout mask, s.issues (.waitev wd timeout mask) → 0 < timeout → s.evPending mask = false →
    Completes (.waitev t) s fun u => u.whl = { s.whl with
      state := .waiting, wait := some (.hostEv wd mask (s.issueTick t + 1024 * timeout)) } ∧
      Unchanged [.whl] (s.at (s.issueTick t)) u) ∧
  (∀ t s wd mask e, s.whl.wait = some (.hostEv wd mask e) → s.evPending mask = true → max s.now t ≤ e → s.nextPc < 16384 →
    Completes (.waitevEvent t) s fun u => got wd mask s u ∧ Unchanged [.whl] (s.at t) u) ∧
  ∀ t s wd mask e, s.whl.wait = some (.hostEv wd mask e) → s.nextPc < 16384 →
    Completes (.waitevTimeout t) s fun u => Unchanged [.whl] (s.at (max t e)) u ∧
      (s.evPending mask = false → missed wd s u) ∧ (s.evPending mask = true → got wd mask s u)

/-- SYNC issued at the tick of its event, and SYNC_EVENT within the timeout at an event of the awaited source, set the
anchor to the event's tick plus the offset, write the detail (facet, window, or 0 for an input) and clear Z. SYNC on
COIL without firing slots, SYNC with timeout 0 and no event, and SYNC_TIMEOUT fall through: anchor kept, 0 written, Z
set, sync_timeout recorded, WHL_SYNC_TIMEOUTS one more unless frozen. Otherwise SYNC waits. Other registers and N and
C never change. (spec/05_wheel_sequencer.md R114; spec/06_wheel_instructions.md R138; spec/06_wheel_instructions.md
R128) -/
def Obligations.SyncReanchorsTheGrid : Prop :=
  let kept (wd : Nat) (s u : State) := (∀ i, i ≠ wd → u.wreg i = s.wreg i) ∧ u.whl.n = s.whl.n ∧ u.whl.c = s.whl.c ∧
    u.whl.state = .running ∧ u.whl.wait = none ∧ u.whl.pc = s.nextPc ∧ u.whl.shots = s.whl.shots ∧ SameRegs [] s u
  let hit (wd a d : Nat) (s u : State) := u.whl.anchor = a ∧ u.wreg wd = BitVec.ofNat 32 d ∧ u.whl.z = false ∧ kept wd s u
  let out (wd : Nat) (b s u : State) := u.whl.anchor = s.whl.anchor ∧ u.wreg wd = 0 ∧ u.whl.z = true ∧ kept wd s u ∧
    (bitOf (u.sreg Reg.WHL_STAT).flags.toNat 4 = true ∨ bitOf (u.sreg Reg.WHL_STAT).held.toNat 4 = true) ∧
    (s.isFrozen Id.WHL_SYNC_TIMEOUTS = false →
      bitsOf (u.wideRaw Id.WHL_SYNC_TIMEOUTS).toNat 31 0 = (bitsOf (b.wideRaw Id.WHL_SYNC_TIMEOUTS).toNat 31 0 + 1) % 2 ^ 32)
  (∀ t s wd src timeout n ofs d, s.issues (.sync wd src timeout n ofs) → s.nextPc < 16384 →
    (src = 1 → s.bit Reg.COIL_CTL 3 = true) → (s.at (s.issueTick t)).syncNow src n = some d →
    Completes (.sync t) s (hit wd (s.issueTick t + ofs) d s)) ∧
  (∀ t s wd src timeout n ofs, s.issues (.sync wd src timeout n ofs) → s.nextPc < 16384 →
    ((src = 1 ∧ s.bit Reg.COIL_CTL 3 = false) ∨
      (timeout = 0 ∧ (s.at (s.issueTick t)).syncNow src n = none)) →
    Completes (.sync t) s (out wd (s.at (s.issueTick t)) s)) ∧
  (∀ t s wd src timeout n ofs, s.issues (.sync wd src timeout n ofs) → (src = 1 → s.bit Reg.COIL_CTL 3 = true) →
    (s.at (s.issueTick t)).syncNow src n = none → 0 < timeout →
    Completes (.sync t) s fun u => u.whl = { s.whl with
      state := .waiting, wait := some (.sync wd src n ofs (s.issueTick t + 1024 * timeout)) } ∧
      Unchanged [.whl] (s.at (s.issueTick t)) u) ∧
  (∀ t s wd (src : Fin 3) want ofs e (n : Fin 32), s.whl.wait = some (.sync wd src want ofs e) → max s.now t ≤ e →
    (src.val = 1 ∨ want = n.val ∨ (src.val = 0 ∧ want = 15)) → s.nextPc < 16384 →
    Completes (.syncEvent t src n) s (hit wd (max s.now t + ofs) (if src.val = 2 then 0 else n.val) s)) ∧
  ∀ t s wd src n ofs e, s.whl.wait = some (.sync wd src n ofs e) → s.nextPc < 16384 →
    Completes (.syncTimeout t) s fun u => out wd (s.at (max t e)) s u ∧ e ≤ u.now

/-- SHOT issued with room in the queue, fewer than eight shots in its pixel and its slot in reach binds: the shot with
the mask, profile, stagger and code of its operands joins the bound shots at the earliest grid slot 256 ticks ahead,
behind the last slot and the last close; waiting actions attach to that slot, the queue gains one entry, the pixel's
shot count rises by one. That slot lies on the grid, at least 256 ticks ahead and not before the end of the last bound
slot or the last close. A ninth shot faults with SHOT_OVER (6); out of reach the instruction stalls and nothing but
time changes. For SHOT, GATE, ZOOM, PIX, STEP, MARK and SETP issued while 64 actions take a place: if every entry
waits for a SHOT not yet issued the Wheel faults with QUEUE_DEADLOCK (8), else the instruction stalls.
(spec/05_wheel_sequencer.md R105; spec/05_wheel_sequencer.md R106; spec/05_wheel_sequencer.md R108;
spec/06_wheel_instructions.md R141) -/
def Obligations.ShotsBindToSlots : Prop :=
  (∀ t s m prof stag code, s.issues (.shot m prof stag code) →
    let b := s.at (s.issueTick t)
    b.queueUsed.length < 64 →
    (s.whl.issShots < 8 → b.inReach b.shotSlot = true → s.nextPc < 16384 → 0 < s.whl.period → Completes (.shot t) s fun u =>
      u.whl.shots = s.whl.shots ++ [{
        slot := b.shotSlot, mask := s.src m, prof, stag, code, pc := s.whl.pc, idx := s.whl.issShots, pix := s.whl.issSeq }] ∧
      u.whl.queue.length = s.whl.queue.length + 1 ∧ (∀ e ∈ u.whl.queue, e.slot ≠ none) ∧
      u.whl.lastSlot = some b.shotSlot ∧ u.whl.issShots = s.whl.issShots + 1 ∧ u.whl.afterPix = false ∧
      b.now + 256 ≤ b.shotSlot ∧ s.whl.lastEnd ≤ b.shotSlot ∧ s.whl.prevClose ≤ b.shotSlot ∧
      (∃ k, b.shotSlot = s.whl.anchor + k * s.whl.period) ∧ u.whl.regs = s.whl.regs ∧ SameRegs [] s u ∧
      Retired 1 (s.issueTick t) s u) ∧
    (8 ≤ s.whl.issShots → Completes (.shot t) s (FaultedWith 6)) ∧
    (s.whl.issShots < 8 → b.inReach b.shotSlot = false → Completes (.shot t) s fun u => u = b)) ∧
  ∀ (c : Nat → Instr) (op : Wop), ((c = .shot ∧ ∃ m p g k, op = .shot m p g k) ∨ (c = .gate ∧ ∃ a l x o, op = .gate a l x o) ∨
      (c = .zoom ∧ ∃ r w a l x, op = .zoom r w a l x) ∨ (c = .pix ∧ ∃ e a l, op = .pix e a l) ∨
      (c = .step ∧ ∃ a v o, op = .step a v o) ∨ (c = .mark ∧ ∃ a g o, op = .mark a g o) ∨
      (c = .setp ∧ ∃ v a i p, op = .setp v a i p)) →
    ∀ t s, s.issues op →
      let b := s.at (s.issueTick t)
      64 ≤ b.queueUsed.length →
      ((∀ e ∈ b.queueUsed, e.slot = none) → Completes (c t) s (FaultedWith 8)) ∧
      ((∃ e ∈ b.queueUsed, e.slot ≠ none) → exec (c t) s = .next b)

/-- Issued with room in the queue, each instruction completes and appends one action for the slot it attaches to (the
most recent SHOT's, none after a PIX until the next SHOT): GATE with offsets held at 8,192, STEP and MARK with the
offset held at P - 1 and the register's value of now, SETP with its value held in the parameter's range, ZOOM with its
start held at 8,191 (for the first slot of its pixel; one that comes after that slot has started waits for the next
pixel), PIX with indices held at 8,191 and 1,023 and its close tick. A GATE or SETP whose slot has already started
applies at once instead. PIX starts a new pixel; with eof it makes its close a frame boundary. No Wheel register
changes. (spec/05_wheel_sequencer.md R107; spec/05_wheel_sequencer.md R108; spec/05_wheel_sequencer.md R109;
spec/06_wheel_instructions.md R143; spec/06_wheel_instructions.md R144; spec/06_wheel_instructions.md R146;
spec/06_wheel_instructions.md R147; spec/06_wheel_instructions.md R148; spec/06_wheel_instructions.md R149;
spec/06_wheel_instructions.md R150) -/
def Obligations.TimelineActionsJoinTheQueue : Prop :=
  let adds (act : Action) (slot : Option Nat) (t : Nat) (s u : State) :=
    u.whl.queue = s.whl.queue ++ [{ act, slot, pc := s.whl.pc }] ∧ u.whl.regs = s.whl.regs ∧ u.whl.shots = s.whl.shots ∧
    SameRegs [] s u ∧ Retired 1 (s.issueTick t) s u
  let room (t : Nat) (s : State) (op : Wop) := s.issues op ∧ s.nextPc < 16384 ∧ (s.at (s.issueTick t)).queueUsed.length < 64
  let future (s : State) := ∀ a, s.attachSlot = some a → s.slotStarted a = false
  (∀ t s ta lanes c o, room t s (.gate ta lanes c o) → future s → Completes (.gate t) s
    (adds (.gate (s.wreg ta) (BitVec.ofNat 16 lanes) (min 8192 o) (min 8192 c)) s.attachSlot t s)) ∧
  (∀ t s ta lanes c o l, room t s (.gate ta lanes c o) → ¬ future s → l < 512 →
    bitOf (s.wreg ta).toNat (l / 16) = true → bitOf (BitVec.ofNat 16 lanes).toNat (l % 16) = true →
    Completes (.gate t) s fun u => (u.lane l).gOpen = min 8192 o ∧ (u.lane l).gClose = min 8192 c) ∧
  (∀ t s ax v ofs, room t s (.step ax v ofs) → Completes (.step t) s
    (adds (.step ax (s.stepValue v) (min (s.whl.period - 1) ofs)) s.attachSlot t s)) ∧
  (∀ t s wa tag ofs, room t s (.mark wa tag ofs) → Completes (.mark t) s
    (adds (.mark tag (s.wreg wa) (min (s.whl.period - 1) ofs)) s.attachSlot t s)) ∧
  (∀ t s src win ta lanes start, room t s (.zoom src win ta lanes start) → (s.whl.afterPix = true ∨ s.zoomSlot.isSome = true) →
    Completes (.zoom t) s (adds (.zoom src win (s.wreg ta) (BitVec.ofNat 16 lanes) (min 8191 start)) s.zoomSlot t s)) ∧
  (∀ t s src win ta lanes start, room t s (.zoom src win ta lanes start) → s.whl.afterPix = false → s.zoomSlot = none →
    Completes (.zoom t) s (adds (.zoom src win (s.wreg ta) (BitVec.ofNat 16 lanes) (min 8191 start)) s.whl.lastSlot t s)) ∧
  (∀ t s v all idx param n lo hi, room t s (.setp v all idx param) → ¬ future s → setpParam param = some (n, lo, hi) →
    (all = true ∨ (s.src idx).toNat < n) → Completes (.setp t) s fun u =>
      u.whl.queue = s.whl.queue ∧ u.whl.regs = s.whl.regs ∧ Retired 1 (s.issueTick t) s u ∧
      (param = 0x401 → u.whl.periodNext = max lo (min hi ((s.src v).toNat % 65536)))) ∧
  (∀ t s v all idx param n lo hi, room t s (.setp v all idx param) → future s → setpParam param = some (n, lo, hi) →
    (all = true ∨ (s.src idx).toNat < n) → Completes (.setp t) s
    (adds (.setp param (if all then none else some (s.src idx).toNat) (max lo (min hi ((s.src v).toNat % 65536))))
      s.attachSlot t s)) ∧
  (∀ t s v all idx param, room t s (.setp v all idx param) →
    (setpParam param = none ∨ (all = false ∧ ∃ n lo hi, setpParam param = some (n, lo, hi) ∧ n ≤ (s.src idx).toNat)) →
    Completes (.setp t) s (FaultedWith 1)) ∧
  ∀ t s eof az el, room t s (.pix eof az el) → Completes (.pix t) s fun u =>
    adds (.pix (s.at (s.issueTick t)).pixCloseTick eof (min 8191 (s.src az).toNat) (min 1023 (s.src el).toNat) s.whl.issSeq)
      (some (s.at (s.issueTick t)).pixCloseTick) t s u ∧
    u.whl.issSeq = s.whl.issSeq + 1 ∧ u.whl.issShots = 0 ∧ u.whl.afterPix = true ∧
    u.whl.prevClose = (s.at (s.issueTick t)).pixCloseTick ∧ s.whl.prevClose + 40000 ≤ u.whl.prevClose ∧
    (s.whl.issShots ≠ 0 → s.whl.lastEnd ≤ u.whl.prevClose) ∧
    (eof = true → s.whl.eofAt = none → u.whl.eofAt = some u.whl.prevClose ∧ u.whl.sampled = false)

/-- BUDGET of an emitter below 32 completes: wd takes the smaller content of that emitter's fast and slow bucket in
the beam sector of its issue tick, saturating at 2^32 - 1; Z is 1 exactly when that content is less than the cost of
one burst of the given code at the given profile; N, C and the other registers stay, and the next instruction issues 8
cycles later. With no beam sector known the content counts as 0. A register index above 31 faults with ILLEGAL_OP (1).
(spec/06_wheel_instructions.md R151; spec/06_wheel_instructions.md R127; spec/07_emission.md R165) -/
def Obligations.BudgetReadsTheSmallerBucket : Prop :=
  (∀ t s wd e prof code, s.issues (.budget wd e prof code) → (s.src e).toNat ≤ 31 → s.nextPc < 16384 →
    let b := s.at (s.issueTick t)
    let k := (s.src e).toNat
    let w := s.profWidth prof
    let cost := s.appliedCode k prof * w * (pulsesIn (s.codeOffs code prof) w 0).length
    let left := match b.beamSector with
      | some sec => min (b.bucket k sec 0) (b.bucket k sec 1)
      | none => 0
    Completes (.budget t) s fun u => u.wreg wd = BitVec.ofNat 32 (min (2 ^ 32 - 1) left) ∧ u.whl.z = decide (left < cost) ∧
      (∀ i, i ≠ wd → u.wreg i = s.wreg i) ∧ u.whl.n = s.whl.n ∧ u.whl.c = s.whl.c ∧ Retired 8 (s.issueTick t) s u ∧
      Unchanged [.whl] b u) ∧
  ∀ t s wd e prof code, s.issues (.budget wd e prof code) → 31 < (s.src e).toNat → Completes (.budget t) s (FaultedWith 1)

/-- HALT before any PIX makes the Wheel IDLE with an empty queue and no frame open. HALT after a PIX whose close lies
ahead lets the Wheel run on to that close, which becomes a frame boundary where no other waits, and no instruction
issues any more. HALT with a SHOT since the last PIX faults with OPEN_PIX (7). Outside RESET and STANDBY. WHEEL_START
of a Wheel that runs no program, in SCAN, GUARD or SERVICE, with nothing holding it: RUNNING at instruction 0 with
cleared flags, stacks and queue, the grid anchored 1,024 ticks ahead; in another mode, or while a program runs,
nothing changes. WHEEL_STOP of a running program requests the stop at the next boundary. ARM_SWAP arms a swap outside
GUARD; DISARM leaves none armed. WHEEL_ABORT of a running program makes it IDLE with an empty queue. HOST_EVENT_POST
adds events, WEV_EDGE adds event n where the Wheel owns the pin. PROGRAM_BANK_WRITE puts a word into the staged bank
while no swap is armed, and is discarded with ACCESS_ERR for the active bank. A word that is no instruction faults
with ILLEGAL_OP; an uncorrectable one puts the unit into SAFE with fatal bit 2. (spec/06_wheel_instructions.md R134;
spec/05_wheel_sequencer.md R119; spec/05_wheel_sequencer.md R99; spec/05_wheel_sequencer.md R100;
spec/05_wheel_sequencer.md R115; spec/05_wheel_sequencer.md R118; spec/05_wheel_sequencer.md R120;
spec/24_package_and_pins.md R527) -/
def Obligations.HaltAndWheelCommands : Prop :=
  ((∀ t s, s.issues .halt → s.whl.issShots = 0 → s.whl.anyPix = false → Completes (.halt t) s fun u =>
    u.whl.state = .idle ∧ u.whl.queue = [] ∧ u.whl.shots = [] ∧ u.whl.frameOpen = false ∧ u.whl.regs = s.whl.regs) ∧
  (∀ t s, s.issues .halt → s.whl.issShots = 0 → s.whl.anyPix = true → s.issueTick t < s.whl.prevClose →
    Completes (.halt t) s fun u => u.whl.state = .running ∧ u.canIssue = false ∧ u.whl.haltReq = true ∧
      (s.whl.lastEof = false → s.whl.eofAt = none → u.whl.eofAt = some s.whl.prevClose)) ∧
  ∀ t s, s.issues .halt → s.whl.issShots ≠ 0 → Completes (.halt t) s (FaultedWith 7)) ∧
  ((∀ t p s, s.gated = false → s.mode.active.scanning = true → s.wheelRuns = false → s.whl.armed = false →
    (s.at t).armSeen = false → (s.at t).startWaits = false → Completes (.wheelStart t p) s fun u =>
      u.whl.state = .running ∧ u.whl.pc = 0 ∧ u.whl.z = false ∧ u.whl.n = false ∧ u.whl.c = false ∧ u.whl.rets = [] ∧
      u.whl.loops = [] ∧ u.whl.queue = [] ∧ u.whl.anchor = u.now + 1024 ∧ u.whl.period = s.whl.periodNext ∧
      u.whl.regs = s.whl.regs ∧ u.whl.mem = s.whl.mem ∧ u.whl.bank = s.whl.bank) ∧
  (∀ t p s, s.gated = false → (s.mode.active.scanning = false ∨ s.wheelRuns = true) →
    Completes (.wheelStart t p) s fun u => u = s.at t) ∧
  (∀ t p s, s.gated = false → s.wheelRuns = true → Completes (.wheelStop t p) s fun u =>
    u.whl = { s.whl with stopReq := true } ∧ Unchanged [.whl] (s.at t) u) ∧
  (∀ t p s, s.gated = false → s.mode.active ≠ .guard → Completes (.armSwap t p) s fun u =>
    u.whl.armed = true ∧ u.whl.bank = s.whl.bank ∧ u.whl.mem = s.whl.mem ∧ Unchanged [.whl] (s.at t) u) ∧
  (∀ t p s, s.gated = false → s.mode.active = .guard → Completes (.armSwap t p) s fun u =>
    u.whl = s.whl ∧ u = (s.at t).event Reg.GLB_REG_STAT 4 { addr := Reg.WHL_CMD, path := pathCode p }) ∧
  (∀ t p s, s.gated = false → Completes (.disarm t p) s fun u => u.whl.armed = false ∧ u.whl.mem = s.whl.mem) ∧
  (∀ t p s, s.gated = false → s.wheelRuns = true → Completes (.wheelAbort t p) s fun u =>
    u.whl.state = .idle ∧ u.whl.queue = [] ∧ u.whl.shots = [] ∧ u.whl.frameOpen = false ∧ u.whl.mem = s.whl.mem) ∧
  (∀ t p ev s, s.gated = false → (s.at t).sameCycle s.whl.evAt (s.at t).now = false → Completes (.hostEventPost t p ev) s fun u =>
    u.whl = { s.whl with hostev := s.whl.hostev ||| ev } ∧ Unchanged [.whl] (s.at t) u) ∧
  (∀ t (n : Fin 8) s, s.gated = false → s.mfpCode (15 + n) = 7 → (s.at t).sameCycle s.whl.evAt (s.at t).now = false →
    Completes (.wevEdge t n) s fun u =>
      u.whl = { s.whl with hostev := s.whl.hostev ||| BitVec.ofNat 8 (2 ^ n.val) } ∧ Unchanged [.whl] (s.at t) u) ∧
  (∀ t p k val s, s.gated = false → k < 65536 → k / 32768 ≠ s.whl.bank → s.whl.armed = false →
    Completes (.programBankWrite t p (0x208000 + 4 * k) 4 val) s fun u => (∀ j, fget 0 u.whl.mem j =
      if j = k then val else fget 0 s.whl.mem j) ∧ Unchanged [.whl] (s.at t) u ∧ u.whl = { s.whl with mem := u.whl.mem }) ∧
  (∀ t p k val s, s.gated = false → k < 65536 → k / 32768 = s.whl.bank → s.whl.armed = false →
    Completes (.programBankWrite t p (0x208000 + 4 * k) 4 val) s fun u => u.whl = s.whl ∧
      u = (s.at t).event Reg.GLB_REG_STAT 4 { addr := 0x208000 + 4 * k, path := pathCode p }) ∧
  (∀ t s, s.canIssue = true → s.fetchOp = none → Completes (.illegalInstruction t false) s fun u =>
    FaultedWith 1 u ∧ u.whl.regs = s.whl.regs) ∧
  ∀ t s, s.canIssue = true → s.pins.inReset = false → Completes (.illegalInstruction t true) s fun u =>
    u.mode.active = .safe ∧ bitOf u.log.fatal.toNat 2 = true ∧ u.whl.regs = s.whl.regs)

/-- LOCK in reach, from BCLK or with the VCO powered down and no band sweep running: a legal REFIN and path begin the
qualification now, an illegal combination fails at once with reason 1; otherwise nothing changes. LOCK_COMPLETE of a
running sequence within its 2 ms with a non-empty band table: the tree is LOCKED on the band nearest 6,400 MHz and
locked is recorded; with an empty table it fails with reason 2. LOCK_FAIL ends a running sequence on BCLK with reason
4, 2 or 3. BAND_SWEEP starts from BCLK; BAND_SWEEP_DONE of a running sweep with a reference puts all 32 entries into
CLK_VCO_BAND (where not frozen), without one leaves reason 4, and records sweep_done in both cases. PHASE_MEASURE on
the VCO puts the phase into CLK_PHASE. Where some CLK_VCO_BAND entry has a measured frequency, the band picked is one
of those entries, no other non-empty entry lies nearer 6,400 MHz, and every non-empty entry at the same distance has a
higher index; without a non-empty entry none is picked. For a PFD period of n ticks, above 0, the reduced jump j of a
step x (in 1/1,024 tick) differs from x by a multiple of the period, and -512 n < j <= 512 n: exactly half a period
counts as positive. (spec/03_clock_synthesis.md R51; spec/03_clock_synthesis.md R54; spec/03_clock_synthesis.md R55;
spec/03_clock_synthesis.md R56; spec/03_clock_synthesis.md R59; spec/03_clock_synthesis.md R66;
spec/03_clock_synthesis.md R67) -/
def Obligations.LockSequences : Prop :=
  ((∀ t p s, s.gated = false → (s.clk.state = .bclk ∨ s.clk.state = .powerDown) → s.clk.sweeping = false →
    Completes (.lock t p) s fun u =>
      ((pfdTicks (s.fld Reg.CLK_REF_CTL 1 0) (s.fld Reg.CLK_REF_CTL 3 2)).isSome = true →
        u.clk.state = .qualify ∧ u.clk.seqAt = u.now ∧ u.clk.lockStarted = true ∧ SameRegs [] s u) ∧
      (pfdTicks (s.fld Reg.CLK_REF_CTL 1 0) (s.fld Reg.CLK_REF_CTL 3 2) = none →
        u.clk.state = .bclk ∧ u.clk.failReason = 1 ∧ u.shows Reg.CLK_STAT 1)) ∧
  (∀ t p s, s.gated = false → ¬(s.clk.state = .bclk ∨ s.clk.state = .powerDown) ∨ s.clk.sweeping = true →
    Completes (.lock t p) s fun u => u = s.at t) ∧
  (∀ t phase h s b, s.locking = true → t ≤ s.clk.seqAt + usT 2060 → (s.at (max t (s.clk.seqAt + usT 97))).bandPick = some b →
    Completes (.lockComplete t phase h) s fun u => u.clk.state = .locked ∧ u.onVco = true ∧ u.clk.band = b ∧
      u.clk.failReason = 0 ∧ u.clk.refPresent = true ∧ u.shows Reg.CLK_STAT 0) ∧
  (∀ t phase h s, s.locking = true → t ≤ s.clk.seqAt + usT 2060 → (s.at (max t (s.clk.seqAt + usT 97))).bandPick = none →
    Completes (.lockComplete t phase h) s fun u => u.clk.state = .bclk ∧ u.clk.failReason = 2 ∧ u.shows Reg.CLK_STAT 1) ∧
  (∀ t reason s, s.locking = true → Completes (.lockFail t reason) s fun u => u.clk.state = .bclk ∧ u.shows Reg.CLK_STAT 1 ∧
    u.clk.failReason = match reason with
      | .noRef => 4
      | .noBand => 2
      | .timeout => 3) ∧
  (∀ t p s, s.gated = false → s.clk.state = .bclk → Completes (.bandSweep t p) s fun u =>
    u.clk.sweeping = true ∧ u.clk.seqAt = u.now ∧ u.clk.state = .bclk ∧ Unchanged [.clk] (s.at t) u) ∧
  (∀ t bands s, s.clk.sweeping = true → (∀ k, k < 32 → s.isFrozen (Id.CLK_VCO_BAND + k) = false) →
    Completes (.bandSweepDone t true bands) s fun u => u.clk.sweeping = false ∧ u.clk.failReason = 0 ∧ u.shows Reg.CLK_STAT 7 ∧
      ∀ k, k < 32 → u.wideRaw (Id.CLK_VCO_BAND + k) = (bands.getD k 0).setWidth 128) ∧
  (∀ t bands s, s.clk.sweeping = true → Completes (.bandSweepDone t false bands) s fun u => u.clk.sweeping = false ∧
    u.clk.failReason = 4 ∧ u.shows Reg.CLK_STAT 7 ∧ ∀ id, u.wideRaw id = (s.at t).wideRaw id) ∧
  ∀ t p phase s, s.gated = false → s.onVco = true → s.isFrozen Id.CLK_PHASE = false →
    Completes (.phaseMeasure t p phase) s fun u => u.wideRaw Id.CLK_PHASE = phase.setWidth 128 ∧
      Unchanged [.wide, .recent] (s.at t) u) ∧
  ((∀ s : State,
    let f (k : Nat) := bitsOf (s.wideN (Id.CLK_VCO_BAND + k)) 31 16
    let d (k : Nat) := ((f k : Int) - 6400).natAbs
    (∀ b, s.bandPick = some b → b < 32 ∧ f b ≠ 0 ∧ ∀ k, k < 32 → f k ≠ 0 → d b < d k ∨ (d b = d k ∧ b ≤ k)) ∧
    (s.bandPick = none ↔ ∀ k, k < 32 → f k = 0)) ∧
  ∀ (n : Nat) (x : Int), 0 < n →
    (∃ k : Int, x - jumpMod n x = k * (1024 * n)) ∧ -(512 * n : Int) < jumpMod n x ∧ jumpMod n x ≤ 512 * n)

/-- REF_LOST while LOCKED, SLEWING or REALIGN, with a holdover limit above 0: HOLDOVER from now on, the tree stays on
the VCO, holdover is recorded. HOLDOVER_EXPIRY (not before the limit) and LOCK_LOST put the tree on BCLK and the unit
into SAFE, recording holdover_expired or lock_lost. REF_RETURN in HOLDOVER begins a requalification, REQUALIFY_FAIL
ends it with the holdover unchanged, REF_REQUALIFIED before the limit measures the jump (reduced to half a PFD period)
and enters REALIGN where R69 says so, else SLEWING. SLEW_DONE and REALIGN_DONE return to LOCKED. BCLK_REFIN_CHANGE on
BCLK sets ref_present. (spec/03_clock_synthesis.md R62; spec/03_clock_synthesis.md R63; spec/03_clock_synthesis.md
R64; spec/03_clock_synthesis.md R66; spec/03_clock_synthesis.md R67; spec/03_clock_synthesis.md R68;
spec/03_clock_synthesis.md R69; spec/03_clock_synthesis.md R71) -/
def Obligations.HoldoverAndReferenceReturn : Prop :=
  (∀ t s, (s.clk.state = .locked ∨ s.clk.state = .slewing ∨ s.clk.state = .realign) → s.holdMax ≠ 0 →
    Completes (.refLost t) s fun u => u.clk.state = .holdover ∧ u.onVco = true ∧ u.clk.holdAt = u.now ∧
      u.clk.refPresent = false ∧ u.shows Reg.CLK_STAT 2 ∧ u.mode = s.mode ∧ SameRegs [] s u) ∧
  (∀ t s, s.clk.state = .holdover → s.pins.inReset = false → Completes (.holdoverExpiry t) s fun u =>
    u.clk.state = .bclk ∧ u.onVco = false ∧ u.mode.active = .safe ∧ u.shows Reg.CLK_STAT 3 ∧
    s.clk.holdAt + s.holdMax ≤ u.now) ∧
  (∀ t s, (s.clk.state = .locked ∨ s.clk.state = .slewing ∨ s.clk.state = .realign) → s.pins.inReset = false →
    Completes (.lockLost t) s fun u => u.clk.state = .bclk ∧ u.mode.active = .safe ∧ u.shows Reg.CLK_STAT 4) ∧
  (∀ t s, s.clk.state = .holdover → Completes (.refReturn t) s fun u =>
    u.clk = { s.clk with requalAt := some u.now } ∧ Unchanged [.clk] (s.at t) u) ∧
  (∀ t s a, s.clk.requalAt = some a → Completes (.requalifyFail t) s fun u => u.clk = { s.clk with requalAt := none } ∧
    a + msT 1 ≤ u.now ∧ Unchanged [.clk] (s.at (max t (a + msT 1))) u) ∧
  (∀ t jump ferr s a, s.clk.state = .holdover → s.clk.requalAt = some a →
    max t (a + msT 1) / s.pfd < (s.clk.holdAt + s.holdMax) / s.pfd → Completes (.refRequalified t jump ferr) s fun u =>
      u.clk.state = (if s.realigns then .realign else .slewing) ∧ u.onVco = true ∧ u.clk.refPresent = true ∧
      u.clk.jump = jumpMod s.pfd jump ∧ u.shows Reg.CLK_STAT 5 ∧ u.mode = s.mode) ∧
  (∀ t s, s.clk.state = .slewing → Completes (.slewDone t) s fun u => u.clk = { s.clk with state := .locked } ∧
    u.shows Reg.CLK_STAT 0) ∧
  (∀ t phase s, s.clk.state = .realign → s.clk.realignFire = true → (s.coilTime = true → s.coil.align = 2) →
    Completes (.realignDone t phase) s fun u => u.clk.state = .locked ∧ u.clk.realignFire = false ∧ u.shows Reg.CLK_STAT 6) ∧
  ∀ t q s, s.onVco = false → Completes (.bclkRefinChange t q) s fun u => u.clk.refPresent = q ∧ u.clk.state = s.clk.state

/-- MODE_TARGET_WRITE of all three bits, the only write of the register in its cycle, of a target other than SAFE and
not READY in BOOT or STANDBY: one that passes the checks becomes pending and the mode stays; one that fails is refused
with the first reason that fails, pending clears and the mode stays. SAFE enters SAFE at once: OSSD low, emission
permit cleared, no frame open, no program running. READY in BOOT changes neither mode nor pending; READY in STANDBY
becomes pending and starts the exit. The register keeps the written value in every case. (spec/04_modes_and_startup.md
R76; spec/04_modes_and_startup.md R77; spec/04_modes_and_startup.md R78; spec/04_modes_and_startup.md R93;
spec/04_modes_and_startup.md R97) -/
def Obligations.ModeTargetsAreJudged : Prop :=
  ∀ t p val s, s.pins.inReset = false → bitsOf val.toNat 18 16 = 7 →
    s.lastWrites.find? (fun w => decide (w.off = Reg.GLB_MODE_TARGET) && (s.at t).sameCycle w.at_ (s.at t).now) = none →
    let m := Mode.ofCode (bitsOf val.toNat 2 0)
    (m ≠ .safe → ¬(m = .ready ∧ (s.mode.active = .boot ∨ s.mode.active = .standby)) → s.modeRefusal m = 0 →
      Completes (.modeTargetWrite t p val) s fun u => u.mode.pending = true ∧ u.mode.active = s.mode.active ∧ u.target = m ∧
        SameRegs [Reg.GLB_MODE_TARGET] s u) ∧
    (m ≠ .safe → ¬(m = .ready ∧ (s.mode.active = .boot ∨ s.mode.active = .standby)) → s.modeRefusal m ≠ 0 →
      Completes (.modeTargetWrite t p val) s fun u => u.mode.pending = false ∧ u.mode.active = s.mode.active ∧
        u.mode.refuse = s.modeRefusal m ∧ u.target = m ∧ u.shows Reg.GLB_MODE_STAT 1) ∧
    (m = .safe → Completes (.modeTargetWrite t p val) s fun u => u.mode.active = .safe ∧ u.shows Reg.GLB_SAFE_CAUSE 7 ∧
      u.sec.permit = false ∧ (s.mode.active ≠ .safe → u.cap.ossd = false ∧ u.whl.frameOpen = false ∧ u.wheelRuns = false ∧
        u.mode.previous = s.mode.active ∧ u.shows Reg.GLB_MODE_STAT 3)) ∧
    (m = .ready → s.mode.active = .boot → Completes (.modeTargetWrite t p val) s fun u =>
      u.mode.active = .boot ∧ u.mode.pending = s.mode.pending ∧ u.target = m) ∧
    (m = .ready → s.mode.active = .standby → s.mode.standbyStep ≠ 5 → Completes (.modeTargetWrite t p val) s fun u =>
      u.mode.active = .standby ∧ u.mode.pending = true ∧ u.mode.waking = true)

/-- For a target other than SAFE: IN_SAFE (6) in SAFE, else ILLEGAL (1) unless the pair is READY to STANDBY, SCAN,
GUARD or SERVICE, SCAN to READY or SERVICE, GUARD to READY, SERVICE to READY or SCAN, else NOT_LOCKED (2) for READY or
a scanning mode off the VCO, else MEM_NOT_READY (5) for a scanning mode without a region table, else NO_CRC_REF (3)
and FIELDS_INVALID (4) for GUARD, else none. SAFE is never refused. (spec/04_modes_and_startup.md R77;
spec/04_modes_and_startup.md R78) -/
def Obligations.RefusalReasonsInOrder : Prop :=
  ∀ (s : State) (m : Mode),
    let legal (a b : Mode) : Prop := (a, b) ∈ [(Mode.ready, Mode.standby), (.ready, .scan), (.ready, .guard),
      (.ready, .service), (.scan, .ready), (.scan, .service), (.guard, .ready), (.service, .ready), (.service, .scan)]
    let scans := m = .scan ∨ m = .guard ∨ m = .service
    (m = .safe → s.modeRefusal m = 0) ∧ (m ≠ .safe →
      (s.mode.active = .safe → s.modeRefusal m = 6) ∧ (s.mode.active ≠ .safe →
        (¬ legal s.mode.active m → s.modeRefusal m = 1) ∧ (legal s.mode.active m →
          ((scans ∨ m = .ready) → s.onVco = false → s.modeRefusal m = 2) ∧ ((scans ∨ m = .ready → s.onVco = true) →
            (scans → s.mem.valid = false → s.modeRefusal m = 5) ∧ ((scans → s.mem.valid = true) →
              (m = .guard → s.crc.refValid = false → s.modeRefusal m = 3) ∧
              (m = .guard → s.crc.refValid = true → s.fieldValid = false → s.modeRefusal m = 4) ∧
              ((m = .guard → s.crc.refValid = true ∧ s.fieldValid = true) → s.modeRefusal m = 0))))))

/-- FRAME_BOUNDARY_SAMPLE of a boundary not yet sampled, at most 1,024 ticks ahead: a target pending before this cycle
that passes its checks is decided, the mode stays, an armed swap exchanges the banks and continues at instruction 0.
FRAME_BOUNDARY of a running program whose boundary has been sampled with nothing decided and no action queued:
WHL_FRAME_COUNT is one more (unless frozen) at a tick not before the boundary. The decided transition enters its mode
with the old one as previous. IDLE_MODE_SAMPLE without a program does both at once. STATE_SKEW with a target of lower
emission rank pending enters it at once; with another target it refuses it. (spec/04_modes_and_startup.md R76;
spec/05_wheel_sequencer.md R100; spec/05_wheel_sequencer.md R110; spec/04_modes_and_startup.md R80) -/
def Obligations.SamplesDecideAndBoundariesApply : Prop :=
  (∀ t s b, s.whl.eofAt = some b → s.whl.sampled = false → Completes (.frameBoundarySample t) s fun u =>
    u.whl.sampled = true ∧ u.mode.active = s.mode.active ∧ b - 1024 ≤ u.now ∧
    (∀ m, (s.at (max t (b - 1024))).pendBefore = some m → s.mode.active ≠ .standby → s.modeRefusal m = 0 →
      u.mode.decided = some m) ∧
    ((s.at (max t (b - 1024))).armSeen = true → u.whl.bank = 1 - s.whl.bank ∧ u.whl.pc = 0 ∧ u.whl.armed = false ∧
      u.shows Reg.WHL_STAT 0) ∧ ((s.at (max t (b - 1024))).armSeen = false → u.whl.bank = s.whl.bank)) ∧
  (∀ t s b, s.whl.eofAt = some b → s.wheelRuns = true → s.whl.sampled = true → s.whl.queue = [] → s.mode.decided = none →
    s.isFrozen Id.WHL_FRAME_COUNT = false → Completes (.frameBoundary t) s fun u => b ≤ u.now ∧
      bitsOf (u.wideRaw Id.WHL_FRAME_COUNT).toNat 31 0 =
        (bitsOf ((s.at (max t b)).wideRaw Id.WHL_FRAME_COUNT).toNat 31 0 + 1) % 2 ^ 32) ∧
  (∀ (s : State) (m : Mode), s.mode.decided = some m → s.modeApply.mode.active = m ∧ s.modeApply.mode.previous = s.mode.active ∧
    s.modeApply.mode.decided = none ∧ s.modeApply.shows Reg.GLB_MODE_STAT 0) ∧
  (∀ t s m, s.wheelRuns = false → s.whl.armed = false → (s.at t).pendBefore = some m → s.mode.active ≠ .standby →
    s.modeRefusal m = 0 → Completes (.idleModeSample t) s fun u => u.mode.active = m ∧ u.mode.previous = s.mode.active) ∧
  (∀ t s m, s.pendTarget = some m → (s.at (max t s.skewDue)).skewLoses = false →
    emissionRank m < emissionRank s.mode.active → Completes (.stateSkew t) s fun u =>
      u.mode.active = m ∧ u.mode.previous = s.mode.active ∧ s.skewDue ≤ u.now ∧ u.shows Reg.GLB_MODE_STAT 2) ∧
  ∀ t s m, s.pendTarget = some m → (s.at (max t s.skewDue)).skewLoses = false →
    emissionRank s.mode.active ≤ emissionRank m → Completes (.stateSkew t) s fun u =>
      u.mode.active = s.mode.active ∧ u.mode.pending = false ∧ u.mode.refuse = 1 ∧ u.shows Reg.GLB_MODE_STAT 2

/-- RESET_ASSERT puts every register to its reset value, clears locks, S registers, timers and the log, and keeps the
MRAM journal, the OTP counter, the revoked keys and the seal. RESET_RELEASE of a unit in RESET latches the straps and
starts BOOT at stage 0. BOOT_STAGE_COMPLETE (pass) of stage 0, 4, or 3 on the VCO goes on to the next stage and adds
the stage's weight to the progress; of stage 7 it ends in READY; a failure of stage 0, 1, 4, 5, 6 or 7 ends in SAFE
with the stage's fail_code. BOOT_RETRY not from Greenware, in SAFE after a BOOT that failed with code 3 to 6, clears
the BOOT cause and names the stage of the restart; else it is refused. SAFE_RELEASE in SAFE with no live cause goes to
READY with a completed BOOT, a locked tree and an intact memory, else to BOOT; with a live cause, or outside SAFE, it
is refused and the mode stays. (spec/04_modes_and_startup.md R81; spec/04_modes_and_startup.md R82;
spec/04_modes_and_startup.md R88; spec/04_modes_and_startup.md R89; spec/04_modes_and_startup.md R95;
spec/02_register_conventions.md R32; spec/21_firmware_trust_store.md) -/
def Obligations.ResetAndBoot : Prop :=
  (∀ t cause s, Completes (.resetAssert t cause) s fun u => (∀ off, u.reg off = regReset off) ∧ u.locks = [] ∧ u.stat = [] ∧
    u.timers = [] ∧ u.log = {} ∧ u.mode.active = .reset ∧ u.pins.inReset = true ∧ u.sec.mram = s.sec.mram ∧
    u.sec.otpCounter = s.sec.otpCounter ∧ u.sec.revoked = s.sec.revoked ∧ u.sec.sealed = s.sec.sealed ∧
    u.sec.ring = s.sec.ring) ∧
  (∀ t straps s, s.pins.inReset = true → Completes (.resetRelease t straps) s fun u => u.mode.active = .boot ∧
    u.mode.stage = 0 ∧ u.mode.running = true ∧ u.pins.inReset = false ∧ u.pins.straps = straps ∧
    ∀ off, u.reg off = regReset off) ∧
  (∀ t s, s.mode.active = .boot → s.mode.running = true →
    (s.mode.stage = 0 ∨ (s.mode.stage = 3 ∧ s.onVco = true) ∨ s.mode.stage = 4) →
    Completes (.bootStageComplete t .pass) s fun u => u.mode.stage = s.mode.stage + 1 ∧ u.mode.active = .boot ∧
      u.mode.running = true ∧ u.mode.boot.pos = s.mode.boot.pos + stageWeight s.mode.stage) ∧
  (∀ t s, s.mode.active = .boot → s.mode.running = true → s.mode.stage = 7 → Completes (.bootStageComplete t .pass) s fun u =>
    u.mode.active = .ready ∧ u.mode.bootDone = true ∧ u.mode.running = false ∧ u.shows Reg.GLB_MODE_STAT 6) ∧
  (∀ t s, s.mode.active = .boot → s.mode.running = true → s.pins.inReset = false → s.mode.stage ≤ 7 → s.mode.stage ≠ 2 →
    s.mode.stage ≠ 3 → Completes (.bootStageComplete t .failed) s fun u => u.mode.active = .safe ∧ u.mode.failed = true ∧
      u.mode.failCode = stageCode s.mode.stage ∧ u.mode.running = false ∧ u.shows Reg.GLB_SAFE_CAUSE 3) ∧
  (∀ t p s, s.pins.inReset = false → p ≠ .greenware → s.mode.active = .safe → 3 ≤ s.mode.failCode → s.mode.failCode ≤ 6 →
    Completes (.bootRetry t p) s fun u => u.mode.bootFault = false ∧ u.mode.active = .safe ∧
      u.mode.retryStage = some (if s.mode.failCode = 5 then 6 else if s.mode.failCode = 6 then 1 else 4)) ∧
  (∀ t p s, s.pins.inReset = false → (p = .greenware ∨ s.mode.active ≠ .safe ∨ s.mode.failCode < 3 ∨ 6 < s.mode.failCode) →
    Completes (.bootRetry t p) s fun u => u = (s.at t).event Reg.GLB_MODE_STAT 5 { path := pathCode p }) ∧
  (∀ t p s, s.pins.inReset = false → s.mode.active = .safe → (s.at t).safeLive = 0 → (s.at t).causeNow = false →
    Completes (.safeRelease t p) s fun u => u.shows Reg.GLB_MODE_STAT 4 ∧
      (s.mode.bootDone = true → s.onVco = true → s.mem.valid = true → s.mem.lost = false → u.mode.active = .ready) ∧
      (¬(s.mode.bootDone = true ∧ s.onVco = true ∧ s.mem.valid = true ∧ s.mem.lost = false) → s.onVco = true →
        u.mode.active = .boot ∧ u.mode.running = true ∧ u.mode.stage = s.restartStage)) ∧
  ∀ t p s, s.pins.inReset = false → (s.mode.active ≠ .safe ∨ (s.at t).safeLive ≠ 0) → Completes (.safeRelease t p) s fun u =>
    u = (s.at t).event Reg.GLB_MODE_STAT 5 { path := pathCode p } ∧ u.mode = s.mode

/-- STANDBY_ENTERED during the entry powers the VCO down, puts the memory into self-refresh, gates the fabric (step
5), abandons the CRC sweeps and records standby_entered. WAKE in STANDBY starts the exit: behind step 5 its lock
begins at once. STANDBY_EXITED of a waking unit that runs from the VCO with its domains released enters READY and
records standby_exited. (spec/04_modes_and_startup.md R96; spec/04_modes_and_startup.md R97;
spec/03_clock_synthesis.md R72) -/
def Obligations.StandbyAndItsExit : Prop :=
  (∀ t s, s.mode.active = .standby → s.mode.standbyStep ≠ 0 → s.mode.standbyStep ≠ 5 → s.mode.waking = false →
    Completes (.standbyEntered t) s fun u => u.mode.standbyStep = 5 ∧ u.gated = true ∧ u.clk.state = .powerDown ∧
      u.mem.selfRefresh = true ∧ u.crc.sweep = none ∧ u.crc.cmd = none ∧ u.mode.active = .standby ∧
      u.shows Reg.GLB_MODE_STAT 8 ∧ u.sec.permit = false) ∧
  (∀ t s, s.mode.active = .standby → s.mode.waking = false → Completes (.wake t) s fun u => u.mode.active = .standby ∨
    u.mode.active = .safe) ∧
  (∀ t s, s.mode.active = .standby → s.mode.waking = false → s.mode.standbyStep ≠ 5 → Completes (.wake t) s fun u =>
    u.mode = { s.mode with waking := true } ∧ Unchanged [.mode] (s.at t) u) ∧
  (∀ t s, s.mode.active = .standby → s.mode.waking = false → s.mode.standbyStep = 5 → s.clk.state = .powerDown →
    s.clk.sweeping = false → (pfdTicks (s.fld Reg.CLK_REF_CTL 1 0) (s.fld Reg.CLK_REF_CTL 3 2)).isSome = true →
    Completes (.wake t) s fun u => u.mode.waking = true ∧ u.mode.active = .standby ∧ u.clk.state = .qualify) ∧
  ∀ t s, s.mode.active = .standby → s.mode.waking = true → s.onVco = true → s.mode.standbyStep = 0 →
    Completes (.standbyExited t) s fun u => u.mode.active = .ready ∧ u.mode.waking = false ∧ u.mode.previous = .standby ∧
      u.shows Reg.GLB_MODE_STAT 9

/-- An event commanded early happens at its own tick. BUDGET_DECISION decides the first undecided shot (no frame
boundary at or before its slot): the rest of its fields keep, its mask only loses emitters, and only emitters of that
mask are granted, none unless the permit, a scanning mode, the VCO and the committed budget lock hold. SLOT_START of a
decided shot that nothing else precedes makes it the slot in progress and part of the open pixel, and only granted
emitters fire, their own bursts; where its queue words are uncorrectable the unit is in SAFE with fatal bit 2 instead.
STEP_ACTION lands the held set-point of its axis and leaves the queue; MARK_ACTION puts its record behind the pixels
closed so far in every sector, and leaves the queue. PIXEL_CLOSE, no lane event or capture being unfinished, closes
the pixel: one more in all, no pixel open, no slot in progress, and every sector has it in its hand-off queue from its
close on. (spec/05_wheel_sequencer.md R104; spec/05_wheel_sequencer.md R107; spec/05_wheel_sequencer.md R109;
spec/05_wheel_sequencer.md R111; spec/05_wheel_sequencer.md R112; spec/06_wheel_instructions.md R147;
spec/06_wheel_instructions.md R148; spec/07_emission.md R154; spec/07_emission.md R167; spec/11_kiln_histograms.md
R257; spec/11_kiln_histograms.md R259) -/
def Obligations.TimelineEventsComeDue : Prop :=
  (∀ t s sh, s.whl.shots.find? (fun h => !h.decided) = some sh → (∀ b, s.whl.eofAt = some b → sh.slot < b) →
    Completes (.budgetDecision t) s fun u => max s.now (max t (sh.slot - 32)) = u.now ∧
      (∃ x : Shot, x.decided = true ∧ x.slot = sh.slot ∧ x.idx = sh.idx ∧ x.pix = sh.pix ∧ x.code = sh.code ∧ x.prof = sh.prof ∧
        (∀ k, bitOf x.mask.toNat k = true → bitOf sh.mask.toNat k = true) ∧
        (∀ k, bitOf x.granted.toNat k = true → bitOf x.mask.toNat k = true ∧ s.sec.permit = true ∧
          s.mode.active.scanning = true ∧ s.onVco = true ∧ s.committed Reg.EMT_EBM_LOCK = true) ∧
        u.whl = { s.whl with shots := s.whl.shots.map (fun h => if h.slot = sh.slot then x else h) }) ∧
      Unchanged ([.whl, .emt] ++ recording) s u) ∧
  (∀ t s sh rest, s.whl.shots = sh :: rest → sh.decided = true → (∀ b, s.whl.eofAt = some b → sh.slot < b) →
    (∀ c e, s.nextPix = some (c, e) → max s.now (max t sh.slot) < c) →
    Completes (.slotStart t false) s fun u => u.now = max s.now (max t sh.slot) ∧ u.whl.cur = some sh ∧ u.whl.shots = rest ∧
      u.pix.shots = (if sh.idx = 0 then [] else s.pix.shots) ++ [sh] ∧ (sh.idx = 0 → u.pix.first = some sh.slot) ∧
      (∀ p ∈ u.emt.pulses, bitOf sh.granted.toNat p.k = true ∧ p ∈ burstOf sh p.k) ∧ u.whl.regs = s.whl.regs ∧
      SameRegs [] s u) ∧
  (∀ t s sh rest, s.whl.shots = sh :: rest → sh.decided = true → (∀ b, s.whl.eofAt = some b → sh.slot < b) →
    (∀ c e, s.nextPix = some (c, e) → max s.now (max t sh.slot) < c) → s.pins.inReset = false →
    Completes (.slotStart t true) s fun u => u.now = max s.now (max t sh.slot) ∧ u.mode.active = .safe ∧
      bitOf u.log.fatal.toNat 2 = true) ∧
  (∀ t s a e ax v o, s.nextTimed (QEntry.timed false) = some (a, e) → e.act = .step ax v o →
    Completes (.stepAction t) s fun u => u.now = max s.now (max t a) ∧ u.whl = { s.whl with queue := s.whl.queue.erase e } ∧
      (u.ax ax).spNext = (s.ax ax).spNext ++ [(s.spBound ax v, u.now, true)] ∧ Unchanged ([.whl, .str] ++ recording) s u) ∧
  (∀ t s a e tag v o, s.nextTimed (QEntry.timed true) = some (a, e) → e.act = .mark tag v o →
    Completes (.markAction t) s fun u => u.now = max s.now (max t a) ∧ u.whl = { s.whl with queue := s.whl.queue.erase e } ∧
      (∀ k, k < 8 → (s.glaze k).passed < 64 * s.whl.pixTotal →
        (64 * s.whl.pixTotal, s.whl.fid, markRec k tag v (s.utimeAt a)) ∈ (u.glaze k).marks) ∧
      Unchanged ([.whl, .glz, .pq] ++ recording) s u) ∧
  ∀ t s c e eof az el seq, s.nextPix = some (c, e) → e.act = .pix c eof az el seq →
    (∀ k, k < 8 → (s.kiln k).queue = [] ∧ (s.kiln k).capState ≠ 1) →
    Completes (.pixelClose t) s fun u => u.now = max s.now (max t c) ∧ u.whl.pixTotal = s.whl.pixTotal + 1 ∧ u.pix = {} ∧
      u.whl.cur = none ∧ u.whl.shots = s.whl.shots ∧ u.cap.pixOpenAt = max s.cap.pixOpenAt c ∧
      (∀ k, k < 8 → ∃ h ∈ (u.kiln k).hands, h.pix.az = az ∧ h.pix.el = el ∧ h.pix.eof = eof ∧ h.pix.close = c ∧ h.j = 0 ∧
        c ≤ h.start)

/-- PQ_DELIVER moves the oldest untaken record of its consumer: HOST into the point ring when it has room, REC to the
recorder; the other consumers keep theirs, and an empty consumer changes nothing; an uncorrectable record puts the
unit into SAFE with fatal bit 1. HELD_EVENTS_RECORDED records the held events of an S register 16 PCLK cycles after
its last event, as flags and one more sequence number. SECTOR_RESUME ends the recovery of a sector once a pixel opened
behind it. CLEAR_FATAL in SAFE, not from Greenware, clears the latched reasons that no fault of its cycle renews, and
keeps bit 0; elsewhere it changes none. IDLE_BOUNDARY_APPLY applies what waits while no program runs: an armed bank
swap whose arm has been seen, the refractivity held at 1,000; while a program runs it changes nothing.
(spec/02_register_conventions.md R28; spec/13_glaze_returns.md R313; spec/22_faults_and_recovery.md R492;
spec/22_faults_and_recovery.md R494; spec/16_timestamps.md R371; spec/05_wheel_sequencer.md R100;
spec/13_glaze_returns.md R314; spec/01_architecture.md R15) -/
def Obligations.QueuesAndRecoveriesSettle : Prop :=
  (∀ t s r rest, s.pq.host.unread = r :: rest → (s.at t).ringRoom 0 ≠ 0 →
    Completes (.pqDeliver t 0 false) s fun u => u.pq.host.unread = rest ∧ u.pq.rec_ = s.pq.rec_ ∧ u.pq.coil = s.pq.coil ∧
      (fget ({} : Ring) u.hif.rings 0).written = (fget ({} : Ring) s.hif.rings 0).written + 1 ∧
      Unchanged ([.pq] ++ recording) s u) ∧
  (∀ t s r rest, s.pq.rec_.unread = r :: rest → Completes (.pqDeliver t 1 false) s fun u =>
    u.pq.rec_.unread = rest ∧ u.pq.host = s.pq.host ∧ u.pq.coil = s.pq.coil ∧ Unchanged ([.pq] ++ recording) s u) ∧
  (∀ t s (c : Fin 3) e, (s.pq.con c).unread = [] → Completes (.pqDeliver t c e) s fun u => u = s.at t) ∧
  (∀ t s (c : Fin 3), (s.pq.con c).unread ≠ [] → s.pins.inReset = false → Completes (.pqDeliver t c true) s fun u =>
    u.mode.active = .safe ∧ bitOf u.log.fatal.toNat 1 = true) ∧
  (∀ t off s, let r := fget ({} : SReg) s.stat off
    ∀ l, r.last = some l → r.held ≠ 0 → (s.at (max t (l + 16 * s.pclk))).stat = s.stat →
      Completes (.heldEventsRecorded t off) s fun u => let w := fget ({} : SReg) u.stat off
        w.seq = r.seq + 1 ∧ w.flags = r.flags ||| r.held ∧ w.held = 0 ∧ w.last = some (l + 16 * s.pclk) ∧
        l + 16 * s.pclk ≤ u.now ∧ Unchanged recording s u) ∧
  (∀ t (k : Fin 8) s a, s.pix.first = some a → Completes (.sectorResume t k) s fun u =>
    (fget 0 s.log.recovering k ≤ a → fget 0 u.log.recovering k = 0) ∧
    (a < fget 0 s.log.recovering k → u = s.at t) ∧ (∀ i, i ≠ k.val → fget 0 u.log.recovering i = fget 0 s.log.recovering i) ∧
    Unchanged recording s u) ∧
  (∀ t p s, s.gated = false → Completes (.clearFatal t p) s fun u =>
    (p ≠ .greenware → s.mode.active = .safe → ∀ b, b < 4 → bitOf u.log.fatal.toNat b =
      (bitOf s.log.fatal.toNat b && (b == 0 || (b == 1 && (s.at t).faultNow 0xE90) || (b == 2 && (s.at t).faultNow 0xE20) ||
        (b == 3 && (s.at t).faultNow 0xF20)))) ∧
    (p = .greenware ∨ s.mode.active ≠ .safe → u.log.fatal = s.log.fatal) ∧ u.mode = s.mode ∧ u.regs = s.regs) ∧
  (∀ t s, s.wheelRuns = false → s.gated = false → Completes (.idleBoundaryApply t) s fun u =>
    u.pq.nair = min 1000 (s.reg Reg.GLZ_NAIR).toNat ∧
    ((s.at t).armSeen = true → u.whl.bank = 1 - s.whl.bank ∧ u.whl.armed = false ∧ u.whl.pc = 0) ∧
    ((s.at t).armSeen = false → u.whl = s.whl) ∧ u.whl.mem = s.whl.mem ∧ u.mode = s.mode ∧ u.regs = s.regs) ∧
  ∀ t s, s.wheelRuns = true → Completes (.idleBoundaryApply t) s fun u => u = s.at t

/-- PROOF_DECISION of a placed proof grants it exactly when its emitter still needs one and the Budget Monitor grants
its cost, else withdraws it; PROOF_PULSE of a granted proof fires 20 half-ticks at its tick only while R16 holds for
the emitter, is counted and puts the pulse under observation, else the proof ends unobserved and PROOF_DUE becomes
UNVERIFIED. MONITOR_OBSERVATION of a started pulse with the buffer ready writes emitter and class to EMT_OBS_LAST;
GOOD makes FIRST_OBS, PROOF_DUE and UNVERIFIED emitters VERIFIED; SHORT and OVER fail the emitter and enter SAFE; an
OPEN within its allowance only counts. MONITOR_TRIGGER_SAMPLE is a PULSE condition at the interpolated time for a
sample above the level, while enabled. (spec/07_emission.md R166; spec/07_emission.md R173; spec/07_emission.md R174;
spec/07_emission.md R175; spec/07_emission.md R176; spec/07_emission.md R178; spec/07_emission.md R180;
spec/07_emission.md R185) -/
def Obligations.ProofsAndObservations : Prop :=
  (∀ t (k : Fin 32) s p, s.emt.proofs.find? (fun p => decide (p.k = k.val) && !p.decided) = some p →
    let tick := p.slot + s.whl.period - 512
    let b := (s.at (max t (tick - 32))).updBoards
    Completes (.proofDecision t k) s fun u => u.now = max s.now (max t (tick - 32)) ∧
      (needsProof (s.em k).st = true → b.grant k tick 10 (s.appliedCode k 8 * 20) = true →
        u.emt.proofs = s.emt.proofs.map (fun q => if q.k = k.val then { q with decided := true, granted := true } else q) ∧
        s.sec.permit = true ∧ s.committed Reg.EMT_EBM_LOCK = true) ∧
      ((needsProof (s.em k).st = false ∨ b.grant k tick 10 (s.appliedCode k 8 * 20) = false) →
        u.emt.proofs = s.emt.proofs.filter (fun q => decide (q.k ≠ k.val)) ∧ u.emt.buckets = s.emt.buckets ∧
        ((s.em k).st = 3 → (u.em k).st = 4)) ∧
      Unchanged ([.emt] ++ recording) s u) ∧
  (∀ t (k : Fin 32) s p, s.emt.proofs.find? (fun p => decide (p.k = k.val) && p.granted) = some p →
    let b := s.at (max t (p.slot + s.whl.period - 512))
    Completes (.proofPulse t k) s fun u => u.now = b.now ∧ Unchanged ([.emt, .lan] ++ recording) s u ∧
      (b.fireOk k = true → u.emt.pulses = s.emt.pulses ++ [{ k := k, at_ := b.now, half := 20 }] ∧
        (s.isFrozen Id.EMT_PROOF_COUNT = false → bitsOf (u.wideRaw Id.EMT_PROOF_COUNT).toNat 31 0 =
          (bitsOf (b.wideRaw Id.EMT_PROOF_COUNT).toNat 31 0 + 1) % 2 ^ 32) ∧
        (s.monRuns = true → u.emt.obs = some
          { k := k, proof := true, at_ := b.now, code := s.appliedCode k 8, width := 20, started := true })) ∧
      (b.fireOk k = false → u.emt.pulses = s.emt.pulses ∧
        u.emt.proofs = s.emt.proofs.filter (fun q => decide (q.k ≠ k.val)) ∧ ((s.em k).st = 3 → (u.em k).st = 4))) ∧
  (∀ t l s, s.emt.obs = none → Completes (.monitorObservation t l) s fun u => u = s.at t) ∧
  (∀ t l s o, s.emt.obs = some o → o.started = true → s.monRuns = true → s.emt.refbufReady = true → o.k < 32 →
    let x := o.code * (s.reg Reg.EMT_SENSE_GAIN).toNat
    let cls := s.classify (measure l x) x o.width
    Completes (.monitorObservation t l) s fun u => u.emt.obs = none ∧
      (s.isFrozen Id.EMT_OBS_LAST = false → bitsOf (u.wideRaw Id.EMT_OBS_LAST).toNat 4 0 = o.k ∧
        bitsOf (u.wideRaw Id.EMT_OBS_LAST).toNat 7 5 = cls) ∧
      (cls = 0 → (s.em o.k).st = 1 ∨ (s.em o.k).st = 3 ∨ (s.em o.k).st = 4 → (u.em o.k).st = 2 ∧ (u.em o.k).unobs = 0) ∧
      (cls = 2 ∨ cls = 3 → (s.em o.k).st ≠ 5 → s.pins.inReset = false →
        (u.em o.k).st = 5 ∧ (u.em o.k).cls = cls ∧ (u.em o.k).wholeOff = true ∧ u.mode.active = .safe) ∧
      (cls = 1 → o.proof = false → (s.em o.k).opens + 1 ≤ s.fld Reg.EMT_CTL 10 8 →
        (u.em o.k).opens = (s.em o.k).opens + 1 ∧ (u.em o.k).st = (s.em o.k).st ∧ u.mode = s.mode)) ∧
  ∀ t s0 s1 fine s, let l := s.fld Reg.EMT_MON_TRIG 9 0
    let f := fine + 1024 * (l - s0) / (s1 - s0)
    ((s.bit Reg.EMT_MON_CTL 2 = true ∧ s.monRuns = true ∧ l < s1 ∧ s.bit Reg.CAP_TRIG_EN 2 = true) →
      Completes (.monitorTriggerSample t s0 s1 fine) s fun u => Unchanged recording s u ∧
        u.cap.conds = (s.at t).cap.conds ++ [
          { at_ := u.now, src := 2, ut := ((s.at t).utime + f / 1024) % 2 ^ 64, fine := f % 1024, interp := true, detail := 0 }]) ∧
    ((s.bit Reg.EMT_MON_CTL 2 = false ∨ s.monRuns = false ∨ s1 ≤ l ∨ s.bit Reg.CAP_TRIG_EN 2 = false) →
      Completes (.monitorTriggerSample t s0 s1 fine) s fun u => u = s.at t)

/-- TABLE_PACKET, while a table is to be sent from the VCO, advances to the next channel and notes the echo when the
echo is the packet's CRC-8; a first wrong echo only sends it again, counted; a second advances without the echo.
SELECT_PACKET carries the profile of the next pulses with odd parity, and commits a complete table outside the
scanning modes. DRV_RESEND starts the table again and leaves the committed codes. EBM_REFILL on the VCO adds one rate
to every bucket, held at its capacity. REFBUF_READY makes the reference buffer ready. CLEAR_FAIL in SAFE, READY or
SERVICE, not from Greenware and not in the cycle of a failure, makes every FAILED emitter PROOF_PENDING and ends its
WHOLE_OFF effect and leaves the others; elsewhere it is refused with its flag. PROVE_ALL requests a proof of every
emitter. (spec/07_emission.md R157; spec/07_emission.md R158; spec/07_emission.md R159; spec/07_emission.md R160;
spec/07_emission.md R165; spec/07_emission.md R170; spec/07_emission.md R176; spec/07_emission.md R181;
spec/07_emission.md R183) -/
def Obligations.DriverTablesAndBuckets : Prop :=
  (∀ t echo s, let k := s.emt.tblNext
    let crc := crc8 120 (tableBits k (fget 0 s.emt.codeSnap k))
    ((s.emt.tblFrame = true ∨ s.emt.dirty = true) ∧ k < 32 ∧ s.onVco = true →
      Completes (.tablePacket t echo) s fun u => Unchanged ([.emt] ++ recording) s u ∧ u.emt.active = s.emt.active ∧
        (crc = echo.toNat → u.emt.tblNext = k + 1 ∧ u.emt.tblAck = s.emt.tblAck ||| BitVec.ofNat 32 (2 ^ k) ∧
          u.emt.tblTried = false) ∧
        (crc ≠ echo.toNat → s.emt.tblTried = false → u.emt = { s.emt with tblTried := true } ∧
          (s.isFrozen Id.EMT_DRV_RESENDS = false → bitsOf (u.wideRaw Id.EMT_DRV_RESENDS).toNat 31 0 =
            (bitsOf ((s.at t).wideRaw Id.EMT_DRV_RESENDS).toNat 31 0 + 1) % 2 ^ 32)) ∧
        (crc ≠ echo.toNat → s.emt.tblTried = true → u.emt.tblNext = k + 1 ∧ u.emt.tblAck = s.emt.tblAck ∧
          u.emt.tblTried = false ∧ u.shows Reg.EMT_STAT 3)) ∧
    ((s.emt.tblFrame = false ∧ s.emt.dirty = false) ∨ 32 ≤ k ∨ s.onVco = false →
      Completes (.tablePacket t echo) s fun u => u = s.at t)) ∧
  (∀ t s, let lone := !s.mode.active.scanning && s.emt.dirty && s.emt.tblDoneAt.isSome
    Completes (.selectPacket t) s fun u => Unchanged [.emt] (s.at t) u ∧ u.emt.lastProfile = (s.at t).selProfile ∧
      ((s.at t).selProfile < 16 → popCount 8 u.emt.sel.toNat % 2 = 1) ∧
      (lone = true → u.emt.active = s.emt.codeSnap ∧ u.emt.width = s.emt.widthSnap ∧ u.emt.dirty = false) ∧
      (lone = false → u.emt.active = s.emt.active ∧ u.emt.width = s.emt.width ∧ u.emt.dirty = s.emt.dirty)) ∧
  (∀ t p s, s.gated = false → Completes (.drvResend t p) s fun u => Unchanged [.emt] (s.at t) u ∧ u.emt.tblNext = 0 ∧
    u.emt.tblAck = 0 ∧ u.emt.tblDoneAt = none ∧ u.emt.active = s.emt.active ∧ u.emt.width = s.emt.width ∧
    (u.emt.tblFrame = true ∨ u.emt.dirty = true)) ∧
  (∀ t s, s.onVco = true → Completes (.ebmRefill t) s fun u => u.now = max s.now (max t (s.emt.refillAt + 1024)) ∧
    u.emt = { s.emt with refills := s.emt.refills + 1, refillAt := u.now } ∧ Unchanged ([.emt] ++ recording) s u ∧
    ∀ k sec i, (fget (0, 0) s.emt.buckets (bucketKey k sec i)).2 ≤ s.emt.refills →
      u.bucket k sec i = min (s.wideN (Id.EMT_EBM_FAST_CAP + if i = 0 then 0 else 2))
        (s.bucket k sec i + s.wideN (Id.EMT_EBM_FAST_CAP + if i = 0 then 1 else 3))) ∧
  (∀ t s a, s.emt.refbufAt = some a → Completes (.refbufReady t) s fun u => a ≤ u.now ∧
    u.emt = { s.emt with refbufReady := true, refbufAt := none } ∧ Unchanged [.emt] (s.at (max t a)) u) ∧
  (∀ t p s, s.gated = false → Completes (.clearFail t p) s fun u =>
    let ok := p ≠ .greenware ∧ (s.mode.active = .safe ∨ s.mode.active = .ready ∨ s.mode.active = .service) ∧
      ∀ a, s.emt.failAt = some a → (s.at t).sameCycle a (s.at t).now = false
    (ok → ∀ k, k < 32 → ((s.em k).st = 5 → (u.em k).st = 6 ∧ (u.em k).wholeOff = false) ∧
      ((s.em k).st ≠ 5 → u.em k = s.em k)) ∧
    (¬ ok → u.emt = s.emt ∧ u.shows Reg.EMT_STAT 11) ∧ Unchanged ([.emt, .coil] ++ recording) s u) ∧
  ∀ t p s, s.gated = false → Completes (.proveAll t p) s fun u => Unchanged [.emt] (s.at t) u ∧
    ∀ k, k < 32 → u.em k = { s.em k with proveReq := true }

/-- CONTROL_SAMPLE comes 32,000 ticks after the one before; each axis works to the last set-point that landed before
it; the drive never exceeds the axis's limit and is 0 in OFF and FAULT; a disabled axis ends in OFF; STEER_STALL is
set exactly when AX_0 is not in RUN or an enabled AX_1 is not in RUN. AXIS_LINK_FRAME of an enabled axis takes the
readback of a good frame and counts and flags a bad one; that of a disabled axis does nothing. ENCODER_EDGE counts up
or down modulo the counts per revolution; at the tick of an index the count stays. ENCODER_INDEX sets the count to 0
and, with AX_0 enabled and not OFF, has been seen from then on; a count outside the tolerance faults AX_0 with INDEX.
(spec/08_beam_steering.md R187; spec/08_beam_steering.md R189; spec/08_beam_steering.md R190; spec/08_beam_steering.md
R193; spec/08_beam_steering.md R196; spec/08_beam_steering.md R199; spec/08_beam_steering.md R200;
spec/08_beam_steering.md R201) -/
def Obligations.SteeringSamplesAndEncoder : Prop :=
  (∀ t s, Completes (.controlSample t) s fun u =>
    u.now = max s.now (if s.str.sampleAt = 0 then t else max t (s.str.sampleAt + 32000)) ∧ u.str.sampleAt = u.now ∧
    u.str.capTrig = false ∧ u.str.stall = (decide ((u.ax 0).st ≠ 3) || ((u.ax 1).enabled && decide ((u.ax 1).st ≠ 3))) ∧
    (∀ a, a < 2 →
      (u.ax a).sp = (((s.ax a).spNext.filter (fun y => decide (y.2.1 < u.now))).getLast?.map (fun y => y.1)).getD (s.ax a).sp ∧
      (u.ax a).u.natAbs ≤ (s.reg (Reg.STR_LAW_ULIM + 0x20 * a)).toNat ∧
      ((u.ax a).st = 0 ∨ (u.ax a).st = 4 → (u.ax a).u = 0) ∧ ((s.ax a).enabled = false → (u.ax a).st = 0)) ∧
    Unchanged ([.str, .emt, .freeNext] ++ recording) s u) ∧
  (∀ t (a : Fin 2) rx s,
    ((s.ax a).enabled = true → bitsOf rx.toNat 31 28 = 0b1010 → Completes (.axisLinkFrame t a rx) s fun u =>
      u.ax a = { s.ax a with rx := sgn 16 (bitsOf rx.toNat 27 12), linkBad := 0 } ∧ Unchanged [.str] (s.at t) u) ∧
    ((s.ax a).enabled = true → bitsOf rx.toNat 31 28 ≠ 0b1010 → Completes (.axisLinkFrame t a rx) s fun u =>
      u.ax a = { s.ax a with linkBad := (s.ax a).linkBad + 1 } ∧ u.shows Reg.STR_STAT 5 ∧
      Unchanged ([.str] ++ recording) s u ∧
      (s.isFrozen Id.STR_LINK_ERRS = false → bitsOf (u.wideRaw Id.STR_LINK_ERRS).toNat 31 0 =
        (bitsOf ((s.at t).wideRaw Id.STR_LINK_ERRS).toNat 31 0 + 1) % 2 ^ 32)) ∧
    ((s.ax a).enabled = false → Completes (.axisLinkFrame t a rx) s fun u => u = s.at t)) ∧
  (∀ t up s, Completes (.encoderEdge t up) s fun u => u.str.edgeNow = some u.now ∧ u.str.edgePrev = s.str.edgeNow ∧
    u.str.ax0 = s.str.ax0 ∧ u.str.ax1 = s.str.ax1 ∧ Unchanged ([.str, .tsu] ++ recording) s u ∧
    (s.str.idxAt = some u.now → u.str.count = s.str.count) ∧
    (s.str.idxAt ≠ some u.now → s.str.count < s.cpr →
      u.str.count = (if up then s.str.count + 1 else s.str.count + s.cpr - 1) % s.cpr)) ∧
  ∀ t s, Completes (.encoderIndex t) s fun u => u.str.count = 0 ∧ u.str.idxAt = some u.now ∧
    ((s.ax 0).enabled = true → (s.ax 0).st ≠ 0 → u.str.indexSeen = true) ∧
    (s.str.edgeNow ≠ some u.now → s.str.indexSeen = true → (s.ax 0).st ≠ 0 → (s.ax 0).st ≠ 4 →
      (s.fld Reg.STR_AX0_TMO 5 4 < ((s.str.count : Int) - (s.cpr - 1)).natAbs →
        (u.ax 0).st = 4 ∧ (u.ax 0).reason = 2 ∧ u.str.stall = true) ∧
      (((s.str.count : Int) - (s.cpr - 1)).natAbs ≤ s.fld Reg.STR_AX0_TMO 5 4 → u.str.ax0 = s.str.ax0)) ∧
    u.str.ax1 = s.str.ax1 ∧ Unchanged ([.str, .tsu, .emt] ++ recording) s u

/-- SPINUP_TIMEOUT of AX_0 in SPINUP beyond its entry sample faults it with SPINUP; NO_EDGE_TIMEOUT faults AX_0 in RUN
with NO_EDGE once no edge has come for its limit; the end of the settle window takes AX_1 from SETTLING to RUN, or to
FAULT with TRACK when the error is too large. A fault of AX_0 raises STEER_STALL. AXIS_ENABLE sets the enable bit; an
axis in OFF with a good configuration leaves OFF in a mode that lets it, one with a bad configuration stays and is
flagged. AXIS_RESTART of an enabled axis in FAULT whose condition is over starts it again and otherwise does nothing.
TRACE_ARM arms a trace afresh, TRACE_FORCE marks an armed one, TRACE_FREEZE ends one that has its samples.
(spec/08_beam_steering.md R191; spec/08_beam_steering.md R199; spec/08_beam_steering.md R200; spec/08_beam_steering.md
R201; spec/08_beam_steering.md R203; spec/08_beam_steering.md R206) -/
def Obligations.AxesFaultAndRestart : Prop :=
  let faulted (a reason : Nat) (u : State) := (u.ax a).st = 4 ∧ (u.ax a).reason = reason ∧ (u.ax a).u = 0
  (∀ t s, (s.ax 0).st = 2 → (s.ax 0).entry = false → Completes (.spinupTimeout t) s fun u => faulted 0 6 u ∧
    u.str.stall = true ∧ (s.ax 0).since + msT (100 * s.fld Reg.STR_AX0_TMO 15 8) < u.now ∧ u.str.ax1 = s.str.ax1 ∧
    Unchanged ([.str, .emt] ++ recording) s u) ∧
  (∀ t s, (s.ax 0).st ≠ 2 ∨ (s.ax 0).entry = true → Completes (.spinupTimeout t) s fun u => u = s.at t) ∧
  (∀ t s, ((s.ax 0).st = 3 → (s.at t).noEdge = true → Completes (.noEdgeTimeout t) s fun u => faulted 0 3 u ∧
      u.str.stall = true ∧ u.str.ax1 = s.str.ax1 ∧ Unchanged ([.str, .emt] ++ recording) s u) ∧
    ((s.ax 0).st ≠ 3 ∨ (s.at t).noEdge = false → Completes (.noEdgeTimeout t) s fun u => u = s.at t)) ∧
  (∀ t s w, (s.ax 1).window = some w → Completes (.settleWindowEnd t) s fun u => u.now = max s.now (max t w) ∧
    (u.ax 1).window = none ∧ u.str.ax0 = s.str.ax0 ∧ ((s.ax 1).st ≠ 2 → (u.ax 1).st = (s.ax 1).st) ∧
    ((s.ax 1).st = 2 → (s.reg Reg.STR_AX1_ERR).toNat < (s.ax 1).e.natAbs → faulted 1 8 u) ∧
    ((s.ax 1).st = 2 → (s.ax 1).e.natAbs ≤ (s.reg Reg.STR_AX1_ERR).toNat → (u.ax 1).st = 3 ∧
      u.str.stall = decide ((s.ax 0).st ≠ 3)) ∧ Unchanged ([.str, .emt] ++ recording) s u) ∧
  (∀ t p (a : Fin 2) s, s.gated = false → s.lastWrites = [] → Completes (.axisEnable t p a) s fun u =>
    u.bit Reg.STR_CTL a = true ∧ SameRegs [Reg.STR_CTL] s u ∧ (u.ax a).enabled = true ∧
    ((s.ax a).enabled = false → s.axCfgBad a = true → (u.ax a).st = (s.ax a).st ∧ u.shows Reg.STR_STAT 4) ∧
    ((s.ax a).enabled = false → s.axCfgBad a = false → (s.ax a).st = 0 → s.axModeOk = true → s.axClockLost = false →
      (u.ax a).st = if a.val = 0 ∧ (s.ax 0).sp = 0 then 1 else 2)) ∧
  (∀ t p (a : Fin 2) s, s.gated = false → (s.ax a).st = 4 → (s.ax a).enabled = true → (s.at t).axPersists a = false →
    Completes (.axisRestart t p a) s fun u => ((u.ax a).st = if a.val = 0 ∧ (s.ax 0).sp = 0 then 1 else 2) ∧
      (u.ax a).enabled = true ∧ (u.ax a).u = 0 ∧ Unchanged [.str, .emt] (s.at t) u) ∧
  (∀ t p (a : Fin 2) s, s.gated = false → ((s.ax a).st ≠ 4 ∨ (s.ax a).enabled = false ∨ (s.at t).axPersists a = true) →
    Completes (.axisRestart t p a) s fun u => u = s.at t) ∧
  (∀ t p (a : Fin 2) s, s.gated = false → Completes (.traceArm t p a) s fun u =>
    u.tr a = { st := 1, seenSt := (s.ax a).st, seenStall := s.str.stall } ∧ u.tr (1 - a.val) = s.tr (1 - a.val) ∧
    u.str.ax0 = s.str.ax0 ∧ u.str.ax1 = s.str.ax1 ∧ Unchanged [.str] (s.at t) u) ∧
  (∀ t p (a : Fin 2) s, s.gated = false →
    ((s.tr a).st = 1 → Completes (.traceForce t p a) s fun u => u.tr a = { s.tr a with forced := true } ∧
      Unchanged [.str] (s.at t) u) ∧
    ((s.tr a).st ≠ 1 → Completes (.traceForce t p a) s fun u => u = s.at t)) ∧
  ∀ t (a : Fin 2) s,
    ((s.tr a).st = 2 → (s.tr a).postLeft = 0 → Completes (.traceFreeze t a) s fun u => (u.tr a).st = 3 ∧
      (u.tr a).count = (s.tr a).len ∧ (u.tr a).bufs = (s.tr a).bufs ∧ u.shows Reg.STR_STAT (6 + a.val) ∧
      u.tr (1 - a.val) = s.tr (1 - a.val) ∧ Unchanged ([.str, .freeNext] ++ recording) s u) ∧
    ((s.tr a).st ≠ 2 ∨ (s.tr a).postLeft ≠ 0 → Completes (.traceFreeze t a) s fun u => u = s.at t)

/-- LANE_EDGE of a lane that is off, not powered up, blanked or dead does nothing. Otherwise (its sector being
settled) the lane is dead for 8 ns and counts the edge; in a range or threshold window the edge is dropped and counted
in its LAN_DROP word; without a token it is counted in LAN_RDROP; with one it is counted in LAN_EVT_COUNT, and in gate
it enters the empty queue of its sector. LANE_TOKEN_REFILL gives one token per period. STUCK_DETECT counts, and flags
once per pixel. REFERENCE_EDGE keeps the first edge of a selected input up to offset 512 of a fired shot.
THRESHOLD_SWITCH and RANGE_SWITCH open the invalid windows of 128 and 77 ticks when the value will change.
SECTOR_SETTLED gives full buckets and no offset. IDLE_LANE_BOUNDARY, no program running and the VCO in use, comes
1,024 ticks after the one before: masks, ranges, thresholds between floor and ceiling, and sector power apply.
(spec/09_receive_lanes.md R212; spec/09_receive_lanes.md R214; spec/09_receive_lanes.md R217; spec/09_receive_lanes.md
R219; spec/09_receive_lanes.md R220; spec/09_receive_lanes.md R221; spec/09_receive_lanes.md R222;
spec/09_receive_lanes.md R224; spec/09_receive_lanes.md R226; spec/09_receive_lanes.md R228;
spec/11_kiln_histograms.md R254) -/
def Obligations.LanesTimeTheirEdges : Prop :=
  let live (s : State) (l pos : Nat) := s.laneOff l = false ∧ s.sectorLive (l / 64) = true ∧ s.blanked (l / 16) = false ∧
    (s.lane l).deadTo ≤ pos
  let one (id lo : Nat) (s u : State) := s.isFrozen id = false →
    bitsOf (u.wideRaw id).toNat (lo + 31) lo = (bitsOf (s.wideRaw id).toNat (lo + 31) lo + 1) % 2 ^ 32
  (∀ t (l : Fin 512) (f : BitVec 10) moved s, fget 0 s.lan.settleAt (l.val / 64) = 0 →
    let b := s.at t
    let pos := 1024 * b.now + f.toNat
    let x := s.lane l
    let rng := x.rngFrom ≤ b.now ∧ b.now < x.rngTo
    let thr := x.thrFrom ≤ b.now ∧ b.now < x.thrTo
    (¬ live b l pos → Completes (.laneEdge t l f moved) s fun u => u = b) ∧
    (live b l pos → Completes (.laneEdge t l f moved) s fun u =>
      (u.lane l).deadTo = pos + 26215 ∧ (u.lane l).edges = x.edges + 1 ∧
      (rng → one (Id.LAN_DROP + l) 0 b u ∧ u.kln = s.kln) ∧ (¬ rng → thr → one (Id.LAN_DROP + l) 32 b u ∧ u.kln = s.kln) ∧
      (¬ rng → ¬ thr → (b.refillLane l).hasToken l = false → one (Id.LAN_RDROP + l) 0 b u ∧ u.kln = s.kln) ∧
      (¬ rng → ¬ thr → (b.refillLane l).hasToken l = true →
        one (Id.LAN_EVT_COUNT + l) 0 b u ∧ (b.inGate l = none → u.kln = s.kln) ∧
        ∀ c sh, b.inGate l = some c → s.whl.cur = some sh → (s.kiln (l.val / 64)).queue = [] →
          (u.kiln (l.val / 64)).queue = [{ j := l.val % 64, slot := sh.slot, c, f := f.toNat }]))) ∧
  (∀ t (l : Fin 512) s, let p := s.ratePeriod (l.val / 64)
    Completes (.laneTokenRefill t l) s fun u => u.now = max s.now (max t ((s.lane l).tokenAt + p)) ∧
      (u.lane l).used = (s.lane l).used - (u.now - (s.lane l).tokenAt) / p ∧
      u.now < (u.lane l).tokenAt + p ∧ (u.lane l).tokenAt ≤ u.now ∧ Unchanged ([.lan] ++ recording) s u) ∧
  (∀ t (l : Fin 512) s,
    (s.laneOff l = true ∨ s.sectorLive (l.val / 64) = false → Completes (.stuckDetect t l) s fun u => u = s.at t) ∧
    (s.laneOff l = false → s.sectorLive (l.val / 64) = true → Completes (.stuckDetect t l) s fun u =>
      u.lane l = { s.lane l with stuck := true } ∧ one (Id.LAN_STUCK + l.val / 64) 0 (s.at t) u ∧
      ((s.lane l).stuck = false → u.shows (secOff Reg.LAN_STAT (l.val / 64)) 4) ∧ Unchanged ([.lan] ++ recording) s u)) ∧
  (∀ t (k : Fin 32) inB (f : BitVec 10) s sh, s.whl.cur = some sh →
    let b := s.at t
    let mode := s.fld (secOff Reg.LAN_REF_CTL (k.val / 4) + 4 * (k.val % 4)) 1 0
    (mode = 3 ∨ mode = if inB then 2 else 1) → s.sectorLive (k.val / 4) = true → sh.slot ≤ b.now → b.now ≤ sh.slot + 512 →
    s.fired sh k = true → Completes (.referenceEdge t k inB f) s fun u =>
      fget none (if inB then u.lan.refB else u.lan.refA) k =
        (fget none (if inB then s.lan.refB else s.lan.refA) k).orElse (fun _ => some (1024 * (b.now - sh.slot) + f.toNat)) ∧
      Unchanged [.lan] b u) ∧
  (∀ t (l : Fin 512) s, let b := s.at (max t (s.nextBoundary.getD t - 128))
    (b.thrWillChange l = true → s.laneOff l = false → Completes (.thresholdSwitch t l) s fun u =>
      u.lane l = { s.lane l with thrFrom := u.now, thrTo := u.now + 128 } ∧ u.now = b.now ∧ Unchanged [.lan] b u) ∧
    (b.thrWillChange l = false ∨ s.laneOff l = true → Completes (.thresholdSwitch t l) s fun u => u = b)) ∧
  (∀ t (l : Fin 512) s, let x := s.lane l
    let b := s.at (max t ((if x.gainForced.isSome then s.nextShotSlot else s.nextBoundary).getD t - 80))
    let g := (x.gainForced.orElse (fun _ => x.gainNext)).getD x.gain
    (g ≠ x.gain → s.laneOff l = false → Completes (.rangeSwitch t l) s fun u =>
      u.lane l = { x with rngFrom := u.now, rngTo := u.now + 77 } ∧ u.now = b.now ∧ Unchanged [.lan] b u) ∧
    (g = x.gain ∨ s.laneOff l = true → Completes (.rangeSwitch t l) s fun u => u = b)) ∧
  (∀ t (k : Fin 8) s, let a := fget 0 s.lan.settleAt k
    a ≠ 0 → Completes (.sectorSettled t k) s fun u => u.now = max s.now (max t a) ∧ fget 0 u.lan.settleAt k = 0 ∧
      (∀ j, j < 64 → u.lane (64 * k.val + j) = { s.lane (64 * k.val + j) with used := 0, tokenAt := a, tOff := 0 }) ∧
      Unchanged ([.lan] ++ recording) s u) ∧
  (∀ t s, s.wheelRuns = true ∨ s.onVco = false → Completes (.idleLaneBoundary t) s fun u => u = s.at t) ∧
  ∀ t s, s.wheelRuns = false → s.onVco = true → Completes (.idleLaneBoundary t) s fun u =>
    u.now = max s.now (max t (s.lan.idleAt + 1024)) ∧ u.lan.idleAt = u.now ∧
    (∀ l, l < 512 → (u.lane l).edges = 0 ∧ (u.lane l).masked = s.bit (lanReg Reg.LAN_THR l) 11 ∧
      (u.lane l).gain = (s.lane l).gainNext.getD (s.lane l).gain ∧ (u.lane l).gainNext = none ∧
      ((s.lane l).floor ≤ (s.lane l).ceil → (s.lane l).floor ≤ (u.lane l).thr ∧ (u.lane l).thr ≤ (s.lane l).ceil)) ∧
    (∀ k, k < 8 → bitOf u.lan.secOn.toNat k = s.bit (secOff Reg.LAN_CTL k) 0)

/-- CAL_AUTO_START, automatic runs being enabled, the state IDLE, mode and clock fit and the temperature moved, starts
a run over all sectors; otherwise it does nothing. CAL_START in READY or SERVICE in IDLE starts one over CAL_RUN_MASK;
while a commanded run or a swap is under way, or in another mode, it is refused with its flag. (Both with no lane off,
some hits and some time asked for: the run then collects.) CAL_LANE_COMPLETE ends the collection of a lane that is
masked or has its hits, with the status of its checks. CAL_WINDOW_EXPIRY ends every lane's and the run's collection.
CAL_ABORT ends a run FAILED with ABORTED, in HOLD when it was automatic; CAL_HOLD_END ends the hold.
(spec/10_lane_calibration.md R233; spec/10_lane_calibration.md R237; spec/10_lane_calibration.md R238;
spec/10_lane_calibration.md R239; spec/10_lane_calibration.md R240; spec/10_lane_calibration.md R244) -/
def Obligations.CalibrationRuns : Prop :=
  let collects (s u : State) (mask : BitVec 8) (cmd : Bool) := u.cal.st = 1 ∧ u.cal.commanded = cmd ∧ u.cal.inRun = mask ∧
    u.cal.startAt = u.now ∧ u.cal.runs = [] ∧ u.cal.sets = s.cal.sets ∧ u.cal.prog.st = 1 ∧
    u.cal.prog.run = s.cal.prog.run + 1 ∧ u.cal.prog.total = 64 * popCount 8 mask.toNat
  let asks (s : State) := (∀ l, l < 512 → s.laneOff l = false) ∧ 0 < s.fld Reg.CAL_HITS 7 0 ∧ 0 < s.fld Reg.CAL_WIN 7 0
  (∀ t s, let go := s.bit Reg.CAL_CTL 0 = true ∧ s.cal.st = 0 ∧ s.calModeOk = true ∧ (s.at t).calDue = true
    (go → asks s → Completes (.calAutoStart t) s fun u => collects s u 0xFF false ∧ Unchanged [.cal] (s.at t) u) ∧
    (¬ go → Completes (.calAutoStart t) s fun u => u = s.at t)) ∧
  (∀ t p s, s.gated = false → (s.mode.active = .ready ∨ s.mode.active = .service) → s.cal.st = 0 → asks s →
    0 < s.fld Reg.CAL_RUN_MASK 7 0 → Completes (.calStart t p) s fun u =>
      collects s u (BitVec.ofNat 8 (s.fld Reg.CAL_RUN_MASK 7 0)) true ∧ Unchanged [.cal] (s.at t) u) ∧
  (∀ t p s, s.gated = false → ((s.mode.active ≠ .ready ∧ s.mode.active ≠ .service) ∨ 2 ≤ s.cal.st ∨
      (s.cal.st = 1 ∧ s.cal.commanded = true)) →
    Completes (.calStart t p) s fun u => u.cal = s.cal ∧ u.shows Reg.CAL_STAT 5 ∧ Unchanged recording s u) ∧
  (∀ t p s, s.gated = false →
    (s.cal.st = 1 ∨ s.cal.st = 2 → Completes (.calAbort t p) s fun u => u.cal.st = (if s.cal.commanded then 0 else 3) ∧
      u.cal.failReason = 3 ∧ u.cal.swapAt = none ∧ u.cal.sets = s.cal.sets ∧ u.cal.prog.st = 3 ∧ u.shows Reg.CAL_STAT 2 ∧
      u.cal.holdTo = u.now + msT (1000 * s.fld Reg.CAL_WIN 7 0) ∧ Unchanged ([.cal] ++ recording) s u) ∧
    (s.cal.st ≠ 1 ∧ s.cal.st ≠ 2 → Completes (.calAbort t p) s fun u => u = s.at t)) ∧
  (∀ t (l : Fin 512) s, s.cal.st = 1 → s.calIn l = true → (s.calRun l).done = false →
    Completes (.calLaneComplete t l) s fun u =>
      (s.laneOff l = true → (u.calRun l).done = true ∧ (u.calRun l).status = 6) ∧
      (s.laneOff l = false → s.calHitLimit ≤ (s.calRun l).n →
        (u.calRun l).done = true ∧ (u.calRun l).status = s.calStatus l (s.calRun l)) ∧
      (s.laneOff l = false → (s.calRun l).n < s.calHitLimit → u = s.at t) ∧
      (∀ i, i ≠ l.val → u.calRun i = s.calRun i) ∧ u.cal.sets = s.cal.sets) ∧
  (∀ t s, s.cal.st = 1 → Completes (.calWindowExpiry t) s fun u =>
    s.cal.startAt + msT (1000 * s.fld Reg.CAL_WIN 7 0) ≤ u.now ∧ u.cal.st ≠ 1 ∧ u.cal.sets = s.cal.sets ∧
    (∀ l, l < 512 → s.calIn l = true → (u.calRun l).done = true ∧
      ((s.calRun l).done = false → s.laneOff l = false → (s.calRun l).n < s.calHitLimit → (u.calRun l).status = 2))) ∧
  (∀ t s, s.cal.st ≠ 1 → Completes (.calWindowExpiry t) s fun u => u = s.at t) ∧
  ∀ t s, (s.cal.st = 3 → Completes (.calHoldEnd t) s fun u => u.cal = { s.cal with st := 0 } ∧
      u.now = max s.now (max t s.cal.holdTo) ∧ Unchanged ([.cal] ++ recording) s u) ∧
    (s.cal.st ≠ 3 → Completes (.calHoldEnd t) s fun u => u = s.at t)

/-- KILN_EVENT_BIN takes the event at the front of the queue: with its pixel open it counts one in its coarse bin of
the FILL buffer, held at 1,023, in no other coarse bin, and once or twice in KLN_UPDATES; without, it is dropped and
its sector recovers for 4,096 ticks. PREDICTION_DEADLINE comes 128 ticks before the first slot of the next pixel and
shuts its prediction words. LANE_PIXEL_HANDOFF of the lane whose turn it is appends that lane-pixel to Glaze's
pipeline at its tick and moves the hand-off on. With an uncorrectable word, the bin empties the queue and its sector
recovers for 4,096 ticks; so does the hand-off of a lane-pixel with a buffer (repeat_n 0), which it hands off VOID. A
capture that is complete by its deadline, or cut at it, writes only inside its record and starts the clear; lanes
beyond those completed carry WAVE_SKIP. BUFFER_CLEAR_DONE empties the SPARE buffer, KILN_CLEAR_DONE ends the clear
after a lock. (spec/11_kiln_histograms.md R249; spec/11_kiln_histograms.md R252; spec/11_kiln_histograms.md R255;
spec/11_kiln_histograms.md R259; spec/11_kiln_histograms.md R261; spec/11_kiln_histograms.md R265;
spec/11_kiln_histograms.md R268; spec/22_faults_and_recovery.md R492) -/
def Obligations.KilnsBinHandOffAndCapture : Prop :=
  (∀ t (k : Fin 8) e s, (s.kiln k).queue = [] → Completes (.kilnEventBin t k e) s fun u => u = s.at t) ∧
  (∀ t (k : Fin 8) s e rest a, (s.kiln k).queue = e :: rest → s.pix.first = some a → a ≤ e.slot →
    let f := (s.kiln k).fill
    let key := 2048 * e.j + coarseBin ((s.calSet (64 * k.val + e.j)).time e.c e.f)
    Completes (.kilnEventBin t k false) s fun u => (u.kiln k).queue = rest ∧ Unchanged ([.kln] ++ recording) s u ∧
      fget 0 (u.kbuf k f).coarse key = min 1023 (fget 0 (s.kbuf k f).coarse key + 1) ∧
      (∀ i, i ≠ key → fget 0 (u.kbuf k f).coarse i = fget 0 (s.kbuf k f).coarse i) ∧
      (∀ i, i ≠ f → u.kbuf k i = s.kbuf k i)) ∧
  (∀ t (k : Fin 8) s e rest, (s.kiln k).queue = e :: rest → (∀ a, s.pix.first = some a → e.slot < a) →
    Completes (.kilnEventBin t k false) s fun u => (u.kiln k).queue = [] ∧ fget 0 u.log.recovering k = max s.now t + 4096) ∧
  (∀ t (k : Fin 8) s a, s.openingSlot = some a → Completes (.predictionDeadline t k) s fun u =>
    u.now = max s.now (max t (a - 128)) ∧ (u.kiln k).predShut = true ∧ Unchanged ([.kln] ++ recording) s u) ∧
  (∀ t (k : Fin 8) s, s.openingSlot = none → Completes (.predictionDeadline t k) s fun u => u = s.at t) ∧
  (∀ t (k : Fin 8) (j : Fin 64) s h rest, (s.kiln k).hands = h :: rest → h.j = j.val →
    Completes (.lanePixelHandoff t k j false) s fun u => u.now = max s.now (max t (h.start + 625 * j.val)) ∧
      (∃ q, (u.glaze k).jobs = (s.glaze k).jobs ++ [q] ∧ q.j = j.val ∧ q.at_ = u.now ∧ q.stage = 1 ∧ q.cands = []) ∧
      (u.kiln k).hands = (if j.val = 63 then rest else { h with j := j.val + 1 } :: rest) ∧
      Unchanged ([.kln, .glz, .emt, .pq] ++ recording) s u) ∧
  (∀ t (k : Fin 8) (j : Fin 64) e s, (∀ h ∈ (s.kiln k).hands.head?, h.j ≠ j.val) →
    Completes (.lanePixelHandoff t k j e) s fun u => u = s.at t) ∧
  (∀ t (k : Fin 8) s e rest, (s.kiln k).queue = e :: rest → Completes (.kilnEventBin t k true) s fun u =>
    (u.kiln k).queue = [] ∧ fget 0 u.log.recovering k = max s.now t + 4096) ∧
  (∀ t (k : Fin 8) (j : Fin 64) s h rest, (s.kiln k).hands = h :: rest → h.j = j.val → h.buf.isSome = true →
    s.fld Reg.FLT_CTL 11 8 = 0 → Completes (.lanePixelHandoff t k j true) s fun u =>
      u.now = max s.now (max t (h.start + 625 * j.val)) ∧ fget 0 u.log.recovering k = u.now + 4096 ∧
      ∃ q, (u.glaze k).jobs = (s.glaze k).jobs ++ [q] ∧ q.j = j.val ∧ q.void ≠ 0) ∧
  (∀ t (k : Fin 8) s,
    let rec_ (a : Nat) := s.waveAddr (s.kiln k).capIdx ≤ a ∧ a < s.waveAddr (s.kiln k).capIdx + waveBytes
    ((s.kiln k).capState = 1 → max s.now t ≤ s.waveDeadline k → Completes (.waveCaptureComplete t k) s fun u =>
      (u.kiln k).capState = 2 ∧ (u.kiln k).clearAt = some (u.now + 3200) ∧ SameBytes rec_ (s.at t) u) ∧
    ((s.kiln k).capState ≠ 1 ∨ s.waveDeadline k < max s.now t → Completes (.waveCaptureComplete t k) s fun u => u = s.at t) ∧
    (∀ n, (s.kiln k).capState = 1 → Completes (.waveCaptureDeadline t k n) s fun u =>
      u.now = max s.now (max t (s.waveDeadline k)) ∧ (u.kiln k).capState = 2 ∧ (u.kiln k).clearAt = some (u.now + 3200) ∧
      (∀ j, j < 64 → n ≤ j → ((u.kbuf k (((s.kiln k).fill + 1) % 3)).dsc j).waveSkip = true) ∧
      SameBytes rec_ (s.at (max t (s.waveDeadline k))) u) ∧
    (∀ n, (s.kiln k).capState ≠ 1 → Completes (.waveCaptureDeadline t k n) s fun u => u = s.at t)) ∧
  (∀ t (k : Fin 8) s a, (s.kiln k).capState = 2 → (s.kiln k).clearAt = some a → Completes (.bufferClearDone t k) s fun u =>
    u.now = max s.now (max t a) ∧ (u.kiln k).capState = 0 ∧ (u.kiln k).clearAt = none ∧
    u.kbuf k (((s.kiln k).fill + 1) % 3) = {} ∧ Unchanged [.kln] (s.at (max t a)) u) ∧
  ∀ t (k : Fin 8) s a, (s.kiln k).capState = 0 → (s.kiln k).clearAt = some a → Completes (.kilnClearDone t k) s fun u =>
    u.now = max s.now (max t a) ∧ (u.kiln k).clearAt = none ∧ (u.kiln k).bufs = (s.kiln k).bufs

/-- SHELF_HEADER_ARRIVAL, the Shelf on and the cell inside it, stores the lane's 64 header bytes as they stand in
memory with the tick of their arrival, or notes a failed fetch when the access check or the ECC fails.
SHELF_BINS_ARRIVAL stores the 576 bytes of bins for the pixel that waits for them, or notes the failure.
SHELF_ADDITION in time, when stacking is due and its bins are held, adds once: the lane-pixel is stacked with an age
one higher, counted. SHELF_WRITEBACK reads a lane-pixel once, at its hand-off plus 625 ticks, and stages it for the
cell of its pixel. SHELF_WRITEBACK_DONE writes the oldest complete record to exactly its bytes, or counts it lost.
SHF_FLUSH is noted for the next sample. Each changes nothing but time where its condition does not hold.
(spec/12_shelf_stacking.md R274; spec/12_shelf_stacking.md R276; spec/12_shelf_stacking.md R277;
spec/12_shelf_stacking.md R281; spec/12_shelf_stacking.md R283; spec/12_shelf_stacking.md R284;
spec/11_kiln_histograms.md R262; spec/14_memory_and_arbiter.md R323) -/
def Obligations.ShelfRecordsComeAndGo : Prop :=
  let lost (b u : State) := b.isFrozen Id.SHF_WB_LOST = false →
    bitsOf (u.wideRaw Id.SHF_WB_LOST).toNat 31 0 = (bitsOf (b.wideRaw Id.SHF_WB_LOST).toNat 31 0 + 1) % 2 ^ 32
  (∀ t (k : Fin 8) (j : Fin 64) uecc s, let b := s.at t
    let a := s.cellAddr k j (s.kiln k).predCell
    (s.shelfOn = true → (s.kiln k).predCell < s.shf.cells → Completes (.shelfHeaderArrival t k j uecc) s fun u =>
      fget {} (u.kiln k).fetch j = (if uecc = false ∧ b.accessClass 0 (a / pageBytes) false = 0 then
        { got := true, at_ := b.now, raw := b.memNat a 64 } else { got := true, at_ := b.now, bad := true }) ∧
      (∀ i, i ≠ j.val → fget {} (u.kiln k).fetch i = fget {} (s.kiln k).fetch i) ∧ Unchanged ([.kln] ++ recording) s u) ∧
    (s.shelfOn = false ∨ s.shf.cells ≤ (s.kiln k).predCell → Completes (.shelfHeaderArrival t k j uecc) s fun u => u = b)) ∧
  (∀ t (k : Fin 8) (j : Fin 64) uecc s i, let b := s.at t
    let a := s.cellAddr k j (s.cellOf k i) + 64
    s.shf.depth ≠ 0 → s.binsFor k j = some i → Completes (.shelfBinsArrival t k j uecc) s fun u =>
      u.getHdr k i j = (if uecc = false ∧ b.accessClass 0 (a / pageBytes) false = 0 then
        { s.getHdr k i j with bins := some (b.memNat a 576) } else { s.getHdr k i j with bad := true }) ∧
      Unchanged ([.kln] ++ recording) s u) ∧
  (∀ t (k : Fin 8) (j : Fin 64) uecc s, s.shf.depth = 0 ∨ s.binsFor k j = none →
    Completes (.shelfBinsArrival t k j uecc) s fun u => u = s.at t) ∧
  (∀ t (k : Fin 8) (j : Fin 64) s hd i bins, (s.kiln k).hands.find? (fun h => decide (h.j ≤ j.val)) = some hd →
    hd.buf = some i → ((s.kbuf k i).hdr j).bins = some bins →
    let go := max s.now t + 72 ≤ hd.start + 625 * j.val ∧ hd.void = 0 ∧ (s.at t).stackCase k j (s.kbuf k i) = 1 ∧
      ((s.kbuf k i).dsc j).stacked = false
    (go → Completes (.shelfAddition t k j) s fun u => ((u.kbuf k i).dsc j).stacked = true ∧
      ((u.kbuf k i).dsc j).age = hdrAge ((s.kbuf k i).hdr j).raw + 1 ∧ (u.kbuf k i).coarse = (s.kbuf k i).coarse ∧
      Unchanged ([.kln] ++ recording) s u) ∧
    (¬ go → Completes (.shelfAddition t k j) s fun u => u = s.at t)) ∧
  (∀ t (k : Fin 8) (j : Fin 64) s q, (s.glaze k).jobs.find? (fun q => decide (q.j = j.val) && !q.wb) = some q →
    let off := s.shelfOn = false ∨ q.void ≠ 0 ∨ q.pix.hasPix = false ∨ s.shf.cells ≤ q.pix.az
    Completes (.shelfWriteback t k j) s fun u => u.now = max s.now (max t (q.at_ + 625)) ∧
      (∀ x ∈ (u.glaze k).jobs, x.j = j.val → x.at_ = q.at_ → x.wb = true) ∧
      (off → u.staged k = s.staged k) ∧
      (¬ off → (s.staged k).length < 256 → ∃ w : ShelfWb, u.staged k = s.staged k ++ [w] ∧ w.pix = q.pix.seq ∧ w.j = q.j ∧
        w.addr = s.cellAddr k q.j q.pix.az ∧ w.len = (if s.shf.depth = 0 then 64 else 640) ∧ w.ready = false) ∧
      (¬ off → 256 ≤ (s.staged k).length → u.staged k = s.staged k ∧ lost (s.at (max t (q.at_ + 625))) u) ∧
      Unchanged ([.glz, .shf] ++ recording) s u) ∧
  (∀ t (k : Fin 8) (j : Fin 64) s, (s.glaze k).jobs.find? (fun q => decide (q.j = j.val) && !q.wb) = none →
    Completes (.shelfWriteback t k j) s fun u => u = s.at t) ∧
  (∀ t (k : Fin 8) fault s w, (s.staged k).find? (·.ready) = some w → let b := s.at t
    Completes (.shelfWritebackDone t k fault) s fun u => u.staged k = (s.staged k).erase w ∧
      (fault = false → b.accessClass 1 (w.addr / pageBytes) true = 0 →
        (∀ i, i < w.len → u.memByte (w.addr + i) = BitVec.ofNat 8 (w.val / 256 ^ i)) ∧
        SameBytes (fun a => w.addr ≤ a ∧ a < w.addr + w.len) b u) ∧
      (fault = true ∨ b.accessClass 1 (w.addr / pageBytes) true ≠ 0 → lost b u ∧ SameBytes (fun _ => False) b u) ∧
      Unchanged ([.shf] ++ recording) s u) ∧
  (∀ t (k : Fin 8) fault s, (s.staged k).find? (·.ready) = none →
    Completes (.shelfWritebackDone t k fault) s fun u => u = s.at t) ∧
  ∀ t p s, s.gated = false → Completes (.shfFlush t p) s fun u => u.shf = { s.shf with flushReq := some u.now } ∧
    Unchanged [.shf] (s.at t) u

/-- GLAZE_STAGE2 takes the lane-pixel 625 ticks after its hand-off to stage 2; a VOID one keeps its cause, an
uncorrectable copy makes it VOID with cause 6 and is flagged. GLAZE_STAGE3, 1,250 ticks after the hand-off, passes
that lane-pixel and all ahead of it, in order, and the MARK copies whose place has come; other sectors keep theirs.
GLAZE_STALL at 2,500 ticks passes everything in the pipeline and starts a recovery of 4,096 ticks. PQ_FRAME_END, once
every sector has passed the oldest frame, takes it out of the queue; with no frame behind it, every enabled consumer
in NORMAL that has room gets its END record last; the field counts start afresh. Otherwise each changes nothing but
time. (spec/13_glaze_returns.md R289; spec/13_glaze_returns.md R309; spec/13_glaze_returns.md R312;
spec/13_glaze_returns.md R313; spec/01_architecture.md R13; spec/22_faults_and_recovery.md R492;
spec/15_capture_recorder_guard.md R359) -/
def Obligations.GlazeAndTheFrameEnds : Prop :=
  (∀ t (k : Fin 8) (j : Fin 64) e s q, (s.glaze k).jobs.find? (fun q => decide (q.j = j.val) && decide (q.stage = 1)) = some q →
    Completes (.glazeStage2 t k j e) s fun u => u.now = max s.now (max t (q.at_ + 625)) ∧
      Unchanged ([.glz] ++ recording) s u ∧ (u.glaze k).jobs.length = (s.glaze k).jobs.length ∧
      ∃ x ∈ (u.glaze k).jobs, x.j = q.j ∧ x.at_ = q.at_ ∧ x.pix = q.pix ∧ x.stage = 2 ∧
        (q.void ≠ 0 → x.void = q.void ∧ x.cands = q.cands) ∧
        (q.void = 0 → e = true → x.void = 6 ∧ u.shows (secOff Reg.GLZ_STAT k) 6) ∧ (q.void = 0 → e = false → x.void = 0)) ∧
  (∀ t (k : Fin 8) (j : Fin 64) e s,
    (s.glaze k).jobs.find? (fun q => decide (q.j = j.val) && decide (q.stage = 1)) = none →
    Completes (.glazeStage2 t k j e) s fun u => u = s.at t) ∧
  (∀ t (k : Fin 8) (j : Fin 64) s i q, jobIdx (s.glaze k).jobs j = some i → (s.glaze k).jobs[i]? = some q →
    Completes (.glazeStage3 t k j) s fun u => u.now = max s.now (max t (q.at_ + 1250)) ∧
      (u.glaze k).jobs.length + (i + 1) = (s.glaze k).jobs.length ∧ (u.glaze k).passed = (s.glaze k).passed + (i + 1) ∧
      (∀ m ∈ (u.glaze k).marks, (u.glaze k).passed < m.1) ∧ (∀ o, o ≠ k.val → u.glaze o = s.glaze o) ∧
      Unchanged ([.glz, .shf, .pq] ++ recording) s u) ∧
  (∀ t (k : Fin 8) (j : Fin 64) s, jobIdx (s.glaze k).jobs j = none →
    Completes (.glazeStage3 t k j) s fun u => u = s.at t) ∧
  (∀ t (k : Fin 8) (j : Fin 64) s q, (s.glaze k).jobs.find? (fun q => decide (q.j = j.val)) = some q →
    Completes (.glazeStall t k j) s fun u => u.now = max s.now (max t (q.at_ + 2500)) ∧ (u.glaze k).jobs = [] ∧
      (u.glaze k).passed = (s.glaze k).passed + (s.glaze k).jobs.length ∧ fget 0 u.log.recovering k = u.now + 4096) ∧
  (∀ t s q rest, s.pq.frames = q :: rest → q.begun = true → s.frameDrained q = true →
    Completes (.pqFrameEnd t) s fun u => u.pq.frames.map (·.fid) = rest.map (·.fid) ∧ u.cap.violN = [] ∧ u.cap.violNew = 0 ∧
      (rest = [] → ∀ c, c < 3 → (s.pq.con c).en = true → (s.pq.con c).st = 0 → (s.pq.con c).unread.length < 126975 →
        (u.pq.con c).unread = (s.pq.con c).unread ++ [endRec q]) ∧ Unchanged ([.pq, .pins] ++ recording) s u) ∧
  ∀ t s, (∀ q ∈ s.pq.frames.head?, q.begun = false ∨ s.frameDrained q = false) →
    Completes (.pqFrameEnd t) s fun u => u = s.at t

/-- MEM_GRANULE with one request on a free channel: a permitted read answers the granule's 64 bytes and writes none; a
permitted write stores exactly them; an uncorrectable read is flagged and its page joins the pending-retire list; a
request whose page check fails is flagged and moves nothing; in self-refresh or for maintenance nothing is granted.
BAR2_ACCESS inside 128 GiB, permitted, reads its granule or writes the bytes of its mask; a refused read answers all
ones; both are counted; in self-refresh or STANDBY a read gives 0 and a write is discarded. RGN_REBUILD starts in
READY or SERVICE with no program running when the sizes fit, else is refused with its flag; its end puts a table of
all usable pages in force. MEM_MAINTENANCE takes its channel, SCRUB_PASS and SCRUB_PERIOD start a pass,
MEM_STARVE_WARN flags a wait once, MEM_HOT_CHANGE follows its package, SELF_REFRESH_ENTERED completes a requested
entry. (spec/14_memory_and_arbiter.md R323; spec/14_memory_and_arbiter.md R325; spec/14_memory_and_arbiter.md R328;
spec/14_memory_and_arbiter.md R330; spec/14_memory_and_arbiter.md R332; spec/14_memory_and_arbiter.md R333;
spec/14_memory_and_arbiter.md R334; spec/14_memory_and_arbiter.md R337; spec/14_memory_and_arbiter.md R338;
spec/14_memory_and_arbiter.md R340; spec/18_host_interface.md R415) -/
def Obligations.MemoryGrantsAndMaintenance : Prop :=
  let none_ : Nat → Prop := fun _ => False
  (∀ t (ch : Fin 16) (r : MemReq) s, let b := s.at t
    let a := r.laddr / 64 * 64
    s.mem.selfRefresh = false → (s.chan ch).maint = false → r.port < 10 → channelOf (s.physOf a) = ch →
    (b.accessClass r.port (a / pageBytes) r.wdata.isSome = 0 → Completes (.memGranule t ch [r]) s fun u =>
      (r.wdata = none → r.ecc ≠ .uncorrectable → u.mem.rdata = BitVec.ofNat 512 (b.memNat a 64) ∧ SameBytes none_ b u) ∧
      (r.wdata = none → r.ecc = .uncorrectable → u.shows Reg.MEM_STAT 1 ∧ s.physOf a / pageBytes ∈ u.mem.retirePend ∧
        SameBytes none_ b u) ∧
      (∀ v, r.wdata = some v → (∀ i, i < 64 → u.memByte (a + i) = BitVec.ofNat 8 (v.toNat / 256 ^ i)) ∧
        SameBytes (fun x => a ≤ x ∧ x < a + 64) b u) ∧ (u.chan ch).owner = some r.port) ∧
    (b.accessClass r.port (a / pageBytes) r.wdata.isSome ≠ 0 → (s.port r.port).page = none →
      Completes (.memGranule t ch [r]) s fun u => u.shows Reg.MEM_STAT 2 ∧ u.mem.rdata = s.mem.rdata ∧ SameBytes none_ b u)) ∧
  (∀ t (ch : Fin 16) l s, (s.mem.selfRefresh = true → Completes (.memGranule t ch l) s fun u => u = s.at t) ∧
    (s.mem.selfRefresh = false → (s.chan ch).maint = true → Completes (.memGranule t ch l) s fun u =>
      (u.chan ch).maint = false ∧ (u.chan ch).owner = none ∧ SameBytes none_ (s.at t) u ∧ Unchanged [.mem] (s.at t) u)) ∧
  (∀ t addr w e s, addr < 2 ^ 37 → let b := s.at t
    let a := addr / 64 * 64
    let off := s.mem.selfRefresh = true ∨ s.mode.active = .standby
    (off → Completes (.bar2Access t addr w e) s fun u => (w = none → u.hif.bar2 = 0) ∧ Unchanged [.hif] b u) ∧
    (¬ off → s.onVco = true → b.accessClass 5 (a / pageBytes) w.isSome = 0 → e = .clean →
      Completes (.bar2Access t addr w e) s fun u =>
        (w = none → u.hif.bar2 = BitVec.ofNat 512 (b.memNat a 64) ∧ u.hif.bar2Poison = false ∧ Unchanged [.hif] b u) ∧
        ∀ d m, w = some (d, m) → SameBytes (fun x => a ≤ x ∧ x < a + 64 ∧ bitOf m.toNat (x - a) = true) b u ∧
          ∀ i, i < 64 → bitOf m.toNat i = true → u.memByte (a + i) = BitVec.ofNat 8 (d.toNat / 256 ^ i)) ∧
    (¬ off → s.onVco = true → b.accessClass 5 (a / pageBytes) w.isSome ≠ 0 → Completes (.bar2Access t addr w e) s fun u =>
      (w = none → u.hif.bar2 = BitVec.allOnes 512) ∧ u.shows Reg.HIF_STAT 4 ∧ SameBytes none_ b u)) ∧
  (∀ t (ch : Fin 16) s, Completes (.memMaintenance t ch) s fun u => (u.chan ch).maint = true ∧ Unchanged [.mem] (s.at t) u ∧
    ∀ i, i ≠ ch.val → u.chan i = s.chan i) ∧
  (∀ t (p : Fin 10) s, (s.reg Reg.MEM_STARVE ≠ 0 → (s.port p).warned = false → Completes (.memStarveWarn t p) s fun u =>
      (u.port p).warned = true ∧ u.shows Reg.MEM_STAT 3 ∧ Unchanged recording s u) ∧
    (s.reg Reg.MEM_STARVE = 0 ∨ (s.port p).warned = true → Completes (.memStarveWarn t p) s fun u => u = s.at t)) ∧
  (∀ t p s, s.gated = false → s.mem.busy = false →
    let ok := (s.mode.active = .ready ∨ s.mode.active = .service) ∧ s.wheelRuns = false ∧ (s.recPages s.rgnSizes).isSome = true
    (ok → Completes (.rgnRebuild t p) s fun u => u.mem.busy = true ∧ u.mem.prog.st = 1 ∧ u.mem.sizes = s.mem.sizes ∧
      Unchanged [.mem] (s.at t) u) ∧
    (¬ ok → Completes (.rgnRebuild t p) s fun u => u.mem.busy = false ∧ u.shows Reg.MEM_STAT 6 ∧ Unchanged recording s u)) ∧
  (∀ t s n, s.mem.busy = true → s.recPages s.rgnSizes = some n → Completes (.rgnRebuildDone t) s fun u =>
    u.mem.sizes = s.rgnSizes ++ [n] ∧ u.mem.sizes.sum = 61440 - s.mem.retired.length ∧ u.mem.mapped = s.mem.retired ∧
    u.mem.valid = true ∧ u.mem.busy = false ∧ u.shows Reg.MEM_STAT 5 ∧ Unchanged recording s u) ∧
  (∀ t p s, s.gated = false → Completes (.scrubPass t p) s fun u => u.mem.scrub = true ∧ Unchanged [.mem] (s.at t) u) ∧
  (∀ t s, let n := msT (3600000 * s.fld Reg.MEM_SCRUB 7 0)
    s.bit Reg.MEM_CTL 0 = true → n ≠ 0 → Completes (.scrubPeriod t) s fun u => u.now = max s.now (max t (s.mem.scrubAt + n)) ∧
      u.mem.scrub = true ∧ u.mem.scrubAt = u.now ∧ Unchanged recording s u) ∧
  (∀ t (k : Fin 4) hot s, Completes (.memHotChange t k hot) s fun u => bitOf u.mem.hot.toNat k = hot ∧
    (∀ i : Fin 4, i ≠ k → bitOf u.mem.hot.toNat i = bitOf s.mem.hot.toNat i) ∧ Unchanged recording s u) ∧
  ∀ t s, (s.mem.enteringSr = true → Completes (.selfRefreshEntered t) s fun u => u.mem.selfRefresh = true ∧
      u.mem.enteringSr = false ∧ Unchanged ([.clk] ++ recording) s u) ∧
    (s.mem.enteringSr = false → Completes (.selfRefreshEntered t) s fun u => u = s.at t)

/-- CAP_TRIGGER is a HOST condition while its source is enabled. TRIGGER_EVALUATION of one waiting condition in ARMED
accepts it: POST, its time kept, counted; in POST or FROZEN it is missed and counted; in IDLE it is dropped.
REC_POST_EXPIRY with a frame open waits for that frame's END; with none it freezes at the write position, FROZEN with
keep set, released without. WAVE_FREEZE freezes the WAVE ring and stops captures in progress. CAP_RELEASE of a frozen
extent leaves FROZEN for IDLE, ARMED or HOLDOFF by enable and hold-off; during an export it is refused. HOLDOFF_END
under TIME re-arms. CAP_EXPORT in FROZEN, in SERVICE, or in the background in READY, SCAN or GUARD, starts (WAVE needs
41 ring pages); else it is refused. CAP_EXPORT_ABORT ends it FAILED with the extent frozen; EXPORT_DONE ends it once
all has been sent. (spec/15_capture_recorder_guard.md R345; spec/15_capture_recorder_guard.md R347;
spec/15_capture_recorder_guard.md R349; spec/15_capture_recorder_guard.md R351; spec/15_capture_recorder_guard.md
R353; spec/15_capture_recorder_guard.md R354; spec/15_capture_recorder_guard.md R355;
spec/15_capture_recorder_guard.md R356) -/
def Obligations.CaptureTriggersAndFreezes : Prop :=
  let one (id : Nat) (b u : State) := b.isFrozen id = false →
    bitsOf (u.wideRaw id).toNat 31 0 = (bitsOf (b.wideRaw id).toNat 31 0 + 1) % 2 ^ 32
  let released (s u : State) := u.cap.st = (if s.bit Reg.CAP_CTL 0 then (if s.reg Reg.CAP_HOLDOFF = 0 then 1 else 4) else 0) ∧
    u.cap.waveFrozen = false ∧ u.cap.recResume = true ∧ u.cap.holdAt = u.now + msT (s.reg Reg.CAP_HOLDOFF).toNat
  (∀ t p s, s.gated = false → (s.bit Reg.CAP_TRIG_EN 5 = true → Completes (.capTrigger t p) s fun u =>
      u.cap.conds = (s.at t).cap.conds ++ [{ at_ := u.now, src := 5, ut := u.utime, fine := 0, interp := false, detail := 0 }] ∧
      Unchanged [.cap] (s.at t) u) ∧
    (s.bit Reg.CAP_TRIG_EN 5 = false → Completes (.capTrigger t p) s fun u => u = s.at t)) ∧
  (∀ t s, (s.at t).cap.conds = [] → Completes (.triggerEvaluation t) s fun u => u = s.at t) ∧
  (∀ t s c, (s.at t).cap.conds = [c] → c.src < 6 → let b := s.at t
    (b.cap.st = 1 → Completes (.triggerEvaluation t) s fun u => u.cap.st = 2 ∧ u.cap.trigUt = c.ut ∧ u.cap.conds = [] ∧
      u.cap.postAt = some (b.now + (c.ut + msT (s.reg Reg.CAP_REC_POST).toNat - b.utime)) ∧ one Id.CAP_TRIG_COUNT b u ∧
      u.str.capTrig = true ∧ u.shows Reg.CAP_STAT 0 ∧ Unchanged ([.str, .pins] ++ recording) s u) ∧
    (b.cap.st = 2 ∨ b.cap.st = 3 → Completes (.triggerEvaluation t) s fun u => u.cap.st = b.cap.st ∧ u.cap.conds = [] ∧
      u.cap.trigUt = b.cap.trigUt ∧ one Id.CAP_TRIG_MISSED b u ∧ u.shows Reg.CAP_STAT 2 ∧ Unchanged recording s u) ∧
    (b.cap.st = 0 → Completes (.triggerEvaluation t) s fun u => u = { b with cap := { b.cap with conds := [] } })) ∧
  (∀ t s a, s.cap.postAt = some a → let b := s.at (max t a)
    (s.whl.frameOpen = true → Completes (.recPostExpiry t) s fun u =>
      u.cap = { b.cap with postAt := none, postFrame := some (b.wideN Id.WHL_FRAME_COUNT) } ∧ Unchanged [.cap] b u) ∧
    (s.whl.frameOpen = false → Completes (.recPostExpiry t) s fun u => u.cap.postAt = none ∧ u.cap.frzEnd = b.recPos ∧
      (s.bit Reg.CAP_CTL 1 = true → u.cap.st = 3) ∧ (s.bit Reg.CAP_CTL 1 = false → released s u) ∧
      u.shows Reg.CAP_STAT 1 ∧ a ≤ u.now ∧ Unchanged recording s u)) ∧
  (∀ t s a, s.cap.waveAt = some a → Completes (.waveFreeze t) s fun u => u.now = max s.now (max t a) ∧
    u.cap.waveFrozen = true ∧ u.cap.waveAt = none ∧
    (∀ k, k < 8 → (u.kiln k).capState ≠ 1 ∧ ((s.kiln k).capState = 1 → (u.kiln k).capState = 2)) ∧
    Unchanged ([.kln] ++ recording) s u) ∧
  (∀ t p s, s.gated = false → (s.cap.st ≠ 3 → (s.at t).cap.st = s.cap.st → Completes (.capRelease t p) s fun u => u = s.at t) ∧
    (s.cap.st = 3 → s.cap.export_ = true → Completes (.capRelease t p) s fun u => u.cap.st = 3 ∧ u.shows Reg.CAP_STAT 6) ∧
    (s.cap.st = 3 → s.cap.export_ = false → Completes (.capRelease t p) s fun u => released s u ∧
      Unchanged [.cap] (s.at t) u)) ∧
  (∀ t s, s.cap.st = 4 → s.bit Reg.CAP_CTL 2 = false → Completes (.holdoffEnd t) s fun u => u.cap.st = 1 ∧
    u.now = max s.now (max t s.cap.holdAt) ∧ Unchanged recording s u) ∧
  (∀ t p s, s.gated = false →
    let ok := s.cap.st = 3 ∧ s.cap.export_ = false ∧ (bitOf (s.fld Reg.CAP_EXPORT_CTL 1 0) 1 = true →
        41 ≤ s.fld (ringCtl 2 + 4) 14 0) ∧ (s.mode.active = .service ∨ (s.bit Reg.CAP_EXPORT_CTL 2 = true ∧
        (s.mode.active = .ready ∨ s.mode.active = .scan ∨ s.mode.active = .guard)))
    (ok → Completes (.capExport t p) s fun u => u.cap.export_ = true ∧ u.cap.exProg.st = 1 ∧ u.cap.exProg.pos = 0 ∧
      u.cap.exProg.total = (s.at t).exportUnits (s.fld Reg.CAP_EXPORT_CTL 1 0) ∧ u.cap.st = 3 ∧ Unchanged [.cap] (s.at t) u) ∧
    (¬ ok → Completes (.capExport t p) s fun u => u.cap.export_ = s.cap.export_ ∧ u.shows Reg.CAP_STAT 5 ∧
      Unchanged recording s u)) ∧
  (∀ t p s, s.gated = false → (s.cap.export_ = true → Completes (.capExportAbort t p) s fun u => u.cap.export_ = false ∧
      u.cap.exProg.st = 3 ∧ u.cap.st = s.cap.st ∧ Unchanged [.cap] (s.at t) u) ∧
    (s.cap.export_ = false → Completes (.capExportAbort t p) s fun u => u = s.at t)) ∧
  ∀ t s, (s.cap.export_ = true → s.exportMoves = true → s.cap.exProg.total ≤ s.cap.exProg.pos →
      Completes (.exportDone t) s fun u => u.cap.export_ = false ∧ u.cap.exProg.st = 2 ∧ u.shows Reg.CAP_STAT 3 ∧
        (s.bit Reg.CAP_EXPORT_CTL 3 = true → released s u) ∧ (s.bit Reg.CAP_EXPORT_CTL 3 = false → u.cap.st = s.cap.st) ∧
        Unchanged recording s u) ∧
    (s.exportRuns = false → s.exportMoves = false → Completes (.exportDone t) s fun u => u = s.at t)

/-- FIELD_TEST takes the oldest point: every field of the active set that it violates counts one; a field whose count
exceeds its tolerance is violated, and a newly violated one drops the outputs. GUARD_STALE in GUARD violates every
field of the active set. FIELD_CRC_SWEEP outside STANDBY records the CRC of the entries, compares it with a reference
once written, and a configuration that turns invalid is flagged and, in GUARD, drops the outputs. OSSD_RESTART under
MANUAL, not from Greenware, with every condition met and a clean frame, raises the outputs; else they do not rise and
it is refused with its flag. OSSD_AUTO_RESTART under AUTO raises them after the conditions have held for their time,
and never otherwise. OSSD_FEEDBACK_MISMATCH with the check enabled drops them and enters SAFE; OSSD_FEEDBACK_AGREE
ends the fault and its latched reason. (spec/15_capture_recorder_guard.md R358; spec/15_capture_recorder_guard.md
R359; spec/15_capture_recorder_guard.md R360; spec/15_capture_recorder_guard.md R361;
spec/15_capture_recorder_guard.md R362; spec/15_capture_recorder_guard.md R363; spec/15_capture_recorder_guard.md
R364; spec/22_faults_and_recovery.md R494) -/
def Obligations.ProtectiveFieldsAndOutputs : Prop :=
  let counts (s : State) (p : Point) (f : Nat) := bitOf s.activeFields.toNat f && s.violates p f
  (∀ t s, (s.at t).cap.tests = [] → Completes (.fieldTest t) s fun u => u = s.at t) ∧
  (∀ t s p rest, s.cap.tests = p :: rest → Completes (.fieldTest t) s fun u => u.cap.tests = rest ∧
    (∀ f, f < 16 → fget 0 u.cap.violN f = fget 0 s.cap.violN f + b2n (counts s p f) ∧
      (bitOf s.cap.viol.toNat f = true → bitOf u.cap.viol.toNat f = true) ∧
      (counts s p f = true → s.fld (Reg.CAP_FIELD_CTL + 4 * f) 7 0 < fget 0 s.cap.violN f + 1 →
        bitOf u.cap.viol.toNat f = true ∧ (bitOf s.cap.viol.toNat f = false → u.cap.ossd = false))) ∧
    Unchanged recording s u) ∧
  (∀ t s a, s.pix.first = some a → s.mode.active = .guard → s.cap.stale = false → Completes (.guardStale t) s fun u =>
    u.now = max s.now (max t (a + usT (clampN 100 4000 (s.fld Reg.CAP_GUARD_TMO 12 0)))) ∧ u.cap.stale = true ∧
    u.shows Reg.CAP_STAT 8 ∧ (∀ f, f < 16 → bitOf s.activeFields.toNat f = true → bitOf u.cap.viol.toNat f = true) ∧
    Unchanged recording s u) ∧
  (∀ t s, s.pix.first = none → s.wheelRuns = true → Completes (.guardStale t) s fun u => u = s.at t) ∧
  (∀ t s, s.mode.active ≠ .standby → Completes (.fieldCrcSweep t) s fun u => let c := crcMembersOf s.fieldMembers
    u.now = max s.now (max t (s.cap.fieldSweepAt + 65536 * s.pclk)) ∧ u.cap.fieldSweepAt = u.now ∧
    u.cap.sweepOk = (s.cap.refWritten && decide (c = s.wideN Id.CAP_FIELD_CRC_REF)) ∧ u.cap.rangesOk = !s.rangesBad ∧
    (s.isFrozen Id.CAP_FIELD_CRC_LAST = false → bitsOf (u.wideRaw Id.CAP_FIELD_CRC_LAST).toNat 31 0 = c % 2 ^ 32) ∧
    (s.fieldValid = true → u.fieldValid = false → u.shows Reg.CAP_STAT 11 ∧ (s.mode.active = .guard → u.cap.ossd = false)) ∧
    Unchanged ([.emt] ++ recording) s u) ∧
  (∀ t s, s.mode.active = .standby → Completes (.fieldCrcSweep t) s fun u => u = s.at t) ∧
  (∀ t p s, s.gated = false → let ok := p ≠ .greenware ∧ s.bit Reg.CAP_GUARD_CTL 0 = false ∧ s.ossdOk = true ∧
      s.cap.cleanFrame = true
    (ok → Completes (.ossdRestart t p) s fun u => u.cap.ossd = true ∧ Unchanged recording s u) ∧
    (¬ ok → Completes (.ossdRestart t p) s fun u => (u.cap.ossd = true → s.cap.ossd = true) ∧ u.shows Reg.CAP_STAT 12 ∧
      Unchanged recording s u)) ∧
  (∀ t s a, s.bit Reg.CAP_GUARD_CTL 0 = true → s.cap.ossd = false → s.ossdOk = true → s.cap.okSince = some a →
    Completes (.ossdAutoRestart t) s fun u => u.cap.ossd = true ∧
      u.now = max s.now (max t (a + msT (s.reg Reg.CAP_GUARD_RST).toNat)) ∧ Unchanged recording s u) ∧
  (∀ t s, (s.bit Reg.CAP_GUARD_CTL 0 = false ∨ s.ossdOk = false) → Completes (.ossdAutoRestart t) s fun u =>
    (u.cap.ossd = true → s.cap.ossd = true) ∧ (s.ossdOk = false → u.cap.ossd = false) ∧ Unchanged recording s u) ∧
  (∀ t s, s.bit Reg.CAP_GUARD_CTL 1 = true → Completes (.ossdFeedbackMismatch t) s fun u => u.cap.fbFault = true ∧
    u.cap.ossd = false ∧ u.shows Reg.CAP_STAT 13 ∧ bitOf u.log.fatal.toNat 0 = true ∧
    (s.pins.inReset = false → u.mode.active = .safe)) ∧
  (∀ t s, s.bit Reg.CAP_GUARD_CTL 1 = false → Completes (.ossdFeedbackMismatch t) s fun u => u = s.at t) ∧
  ∀ t s, Completes (.ossdFeedbackAgree t) s fun u => u.cap.fbFault = false ∧ bitOf u.log.fatal.toNat 0 = false ∧
    (∀ i, 0 < i → bitOf u.log.fatal.toNat i = bitOf s.log.fatal.toNat i) ∧ Unchanged ([.coil] ++ recording) s u

/-- TSU_INPUT_EDGE of an enabled input that owns its source, in a selected direction, on the VCO and not in its dead
time is numbered, put into conversion with its UTIME and makes the input dead for 10 ns; a rising edge of TRIG_IN is a
capture condition while enabled; any other edge does nothing. TSU_STAMP_QUEUED completes the oldest stamp in
conversion with its fine bits; a full queue loses its oldest entry or, with keep_old, the new one, counted and
flagged. TSU_FLUSH empties the named queues. FREQ_GATE_END ends the gate, writes its result and flags it, and fewer
than three stamps as well. PPS_WINDOW_MISS expects the next edge a second on and ends the PPS after the misses set.
EXT_FREQ_WINDOW counts within 2 of the expected edges keep the input present; the third bad window in a row loses it.
MFP_PULSE_END returns its pin low. (spec/16_timestamps.md R374; spec/16_timestamps.md R376; spec/16_timestamps.md
R377; spec/16_timestamps.md R378; spec/16_timestamps.md R379; spec/16_timestamps.md R380; spec/16_timestamps.md R381;
spec/15_capture_recorder_guard.md R345; spec/24_package_and_pins.md R526) -/
def Obligations.TimestampsAndReferences : Prop :=
  (∀ t (n : Fin 16) r s, let b := s.at t
    let takes := s.onVco = true ∧ s.bit (Reg.TSU_IN_CTL + 4 * n) 0 = true ∧ s.tsuOwns n = true ∧ s.tsuSel n r = true ∧
      (s.tsin n).deadTo ≤ b.now
    (takes → Completes (.tsuInputEdge t n r) s fun u => (u.tsin n).deadTo = b.now + 32 ∧ (u.tsin n).queue = (s.tsin n).queue ∧
      (u.tsin n).num = ((s.tsin n).num + 1) % 2 ^ 32 ∧
      (∃ st, (u.tsin n).conv = (s.tsin n).conv ++ [st] ∧ st.at_ = b.now ∧ st.ut = b.utime ∧ st.rising = r ∧
        st.num = (s.tsin n).num + 1) ∧ (∀ i, i ≠ n.val → u.tsin i = s.tsin i) ∧
      (14 ≤ n.val → r = true → s.bit Reg.CAP_TRIG_EN 3 = true → u.cap.conds = b.cap.conds ++ [
        { at_ := b.now, src := 3, ut := b.utime, fine := 0, interp := true, detail := n.val - 14 }]) ∧
      Unchanged ([.tsu] ++ recording) s u) ∧
    (¬ takes → Completes (.tsuInputEdge t n r) s fun u => u = b)) ∧
  (∀ t (n : Fin 16) (f : BitVec 10) s st rest, (s.tsin n).conv = st :: rest →
    let e : Stamp := { st with fine := f.toNat }
    Completes (.tsuStampQueued t n f) s fun u => (u.tsin n).conv = rest ∧ Unchanged ([.tsu] ++ recording) s u ∧
      ((s.tsin n).queue.length < 256 → (u.tsin n).lostNext = false ∧
        (u.tsin n).queue = (s.tsin n).queue ++ [{ e with lost := (s.tsin n).lostNext }]) ∧
      (256 ≤ (s.tsin n).queue.length → u.shows Reg.TSU_STAT 0 ∧
        (s.bit (Reg.TSU_IN_CTL + 4 * n) 4 = true → (u.tsin n).queue = (s.tsin n).queue ∧ (u.tsin n).lostNext = true) ∧
        (s.bit (Reg.TSU_IN_CTL + 4 * n) 4 = false → (u.tsin n).queue = (s.tsin n).queue.drop 1 ++ [{ e with lost := true }])) ∧
      (s.freqSel = n.val → u.tsu.gate = s.tsu.gate ++ [e])) ∧
  (∀ t (n : Fin 16) f s, (s.tsin n).conv = [] → Completes (.tsuStampQueued t n f) s fun u => u = s.at t) ∧
  (∀ t p bits s, s.gated = false → Completes (.tsuFlush t p bits) s fun u => Unchanged [.tsu] (s.at t) u ∧
    ∀ n, n < 16 → u.tsin n = if bitOf bits.toNat n then { s.tsin n with queue := [] } else s.tsin n) ∧
  (∀ t s, s.freqGate = 0 ∨ s.onVco = false → Completes (.freqGateEnd t) s fun u => u = s.at t) ∧
  (∀ t s, s.freqGate ≠ 0 → s.onVco = true → let e := s.tsu.gateAt + msT s.freqGate
    let l := (s.tsu.gate ++ (if s.freqSel < 16 then (s.tsin s.freqSel).conv else [])).filter (fun x => decide (x.at_ ≤ e))
    Completes (.freqGateEnd t) s fun u => u.now = max s.now (max t e) ∧ u.tsu.gateAt = e ∧
      u.tsu.gate = s.tsu.gate.filter (fun y => decide (e < y.at_)) ∧ u.shows Reg.TSU_STAT 5 ∧
      (s.freqSel ≠ 16 → l.length < 3 → u.shows Reg.TSU_STAT 6) ∧
      (s.freqSel ≠ 16 → s.isFrozen Id.TSU_FREQ = false →
        bitsOf (u.wideRaw Id.TSU_FREQ).toNat 79 64 = l.length % 2 ^ 16) ∧ Unchanged ([.tsu, .freeNext] ++ recording) s u) ∧
  (∀ t s p, s.tsu.ppsAt = some p → s.bit Reg.TSU_EXT_CTL 0 = true → Completes (.ppsWindowMiss t) s fun u =>
    let lost := s.tsu.ppsPresent && decide (s.missN ≤ s.tsu.ppsMiss + 1)
    u.now = max s.now (max t (p + 3200000000 + s.ppsWin)) ∧ u.tsu.ppsAt = some (p + 3200000000) ∧
    u.tsu.ppsMiss = s.tsu.ppsMiss + 1 ∧ u.tsu.ppsRow = 0 ∧ u.tsu.ppsPresent = (s.tsu.ppsPresent && !lost) ∧
    u.shows Reg.TSU_STAT 1 ∧ (lost = true → u.shows Reg.TSU_STAT 3) ∧ Unchanged ([.tsu] ++ recording) s u) ∧
  (∀ t s, s.tsu.ppsAt = none ∨ s.bit Reg.TSU_EXT_CTL 0 = false → Completes (.ppsWindowMiss t) s fun u => u = s.at t) ∧
  (∀ t n s, let sel := s.fld Reg.TSU_EXT_CTL 2 1
    let want := if sel = 1 then 100 else 1000
    let use := sel ≠ 0 ∧ s.mfpInput 2 = true
    (use → want ≤ n + 2 → n ≤ want + 2 → Completes (.extFreqWindow t n) s fun u => u.tsu.freqPresent = true ∧
      u.tsu.freqBad = 0 ∧ (s.tsu.freqPresent = false → u.shows Reg.TSU_STAT 10) ∧ Unchanged ([.tsu] ++ recording) s u) ∧
    (use → (n + 2 < want ∨ want + 2 < n) → Completes (.extFreqWindow t n) s fun u => u.tsu.freqBad = s.tsu.freqBad + 1 ∧
      u.tsu.freqPresent = (s.tsu.freqPresent && decide (s.tsu.freqBad < 2)) ∧
      (s.tsu.freqPresent = true → 2 ≤ s.tsu.freqBad → u.shows Reg.TSU_STAT 9) ∧ Unchanged ([.tsu] ++ recording) s u) ∧
    (¬ use → Completes (.extFreqWindow t n) s fun u => u = s.at t)) ∧
  ∀ t (p : Fin 32) s, Completes (.mfpPulseEnd t p) s fun u => u.now = max s.now (max t (fget 0 s.pins.mfpTo p)) ∧
    fget 0 u.pins.mfpTo p = 0 ∧ (∀ i, i ≠ p.val → fget 0 u.pins.mfpTo i = fget 0 s.pins.mfpTo i) ∧
    Unchanged ([.pins] ++ recording) s u

/-- A changed link is noted and flagged, and the root enumerates again. A packet with a bad CRC or a reserved header
is discarded and counted on its port; one for this unit is consumed; another leaves by its route with one hop more,
unless it would reach 16. STREAM_RECORDS at the sink set the next expected number; elsewhere they are forwarded. REQ
without Greenware is answered NO_AGENT, one left open waits and is answered so after 1 ms; RESP is kept; a missing one
is flagged. With the ports off, packets do nothing. (spec/17_coil_chain.md R385; spec/17_coil_chain.md R388;
spec/17_coil_chain.md R390; spec/17_coil_chain.md R394; spec/17_coil_chain.md R404; spec/17_coil_chain.md R406) -/
def Obligations.CoilRoutesPackets : Prop :=
  let discards (p : Nat) (b u : State) := b.isFrozen Id.COIL_DISCARDS = false →
    bitsOf (u.wideRaw Id.COIL_DISCARDS).toNat (32 * p + 31) (32 * p) =
      (bitsOf (b.wideRaw Id.COIL_DISCARDS).toNat (32 * p + 31) (32 * p) + 1) % 2 ^ 32
  let noAgent (dst : Nat) (s u : State) := ∀ q path, s.coilRoute dst = some (q, path) → s.coilUp q = true →
    u.coil.sent = s.coil.sent ++ [
      { port := q, cls := 0, dst, src := s.coil.addr, typ := 4, seq := s.coilSeq 0, payload := [ofWords 3 0 0 0, 0] }]
  (∀ t (p : Fin 2) up s, (bitOf s.coil.link.toNat p = up → Completes (.coilLinkChange t p up) s fun u => u = s.at t) ∧
    (bitOf s.coil.link.toNat p ≠ up → Completes (.coilLinkChange t p up) s fun u => bitOf u.coil.link.toNat p = up ∧
      bitOf u.coil.link.toNat (1 - p.val) = bitOf s.coil.link.toNat (1 - p.val) ∧ u.shows Reg.COIL_STAT 2 ∧
      (s.coilRoot = true → u.coil.enumAt = u.now))) ∧
  (∀ t (p : Fin 2) h ok s, let b := s.at t
    let cls := hdrFld h 2 0
    let dst := hdrFld h 7 3
    let routed := ok = true ∧ hdrReserved h = false ∧ hdrFld h 55 48 ≤ 128 ∧ (cls = 2 ∨ (cls = 0 ∧ 2 ≤ hdrFld h 23 16)) ∧
      dst ≠ 31 ∧ dst ≠ 0
    (s.coilOn = false → Completes (.coilPacketReceive t p h ok) s fun u => u = b) ∧
    (s.coilOn = true → ok = false → Completes (.coilPacketReceive t p h ok) s fun u => discards p b u ∧
      u.shows Reg.COIL_STAT 11 ∧ u.coil = s.coil) ∧
    (s.coilOn = true → ok = true → (hdrReserved h = true ∨ 128 < hdrFld h 55 48) →
      Completes (.coilPacketReceive t p h ok) s fun u => discards p b u ∧ u.coil = s.coil) ∧
    (s.coilOn = true → routed → dst = s.coil.addr → Completes (.coilPacketReceive t p h ok) s fun u =>
      u.coil = { s.coil with lastRx := some h } ∧ Unchanged [.coil] b u) ∧
    (s.coilOn = true → routed → dst ≠ s.coil.addr → ∀ q path, s.coilRoute dst = some (q, path) →
      Completes (.coilPacketReceive t p h ok) s fun u =>
        (15 ≤ hdrFld h 27 24 → discards p b u ∧ u.coil = s.coil) ∧
        (hdrFld h 27 24 < 15 → s.coilUp q = true → ∃ x : CoilPkt, u.coil = { s.coil with sent := s.coil.sent ++ [x] } ∧
          x.port = q ∧ x.dst = dst ∧ x.src = hdrFld h 12 8 ∧ x.hops = hdrFld h 27 24 + 1 ∧ x.seq = hdrFld h 47 32))) ∧
  (∀ t (p : Fin 2) (o : Fin 17) (d : Fin 32) (q : BitVec 16) recs s, s.coilOn = true →
    (d.val = s.coil.addr → d.val ≠ 0 → o.val ≠ 0 → Completes (.streamRecords t p o d q recs) s fun u =>
      fget none u.coil.rxSeq o = some ((q.toNat + 1) % 65536)) ∧
    (d.val ≠ s.coil.addr → ∀ k path, s.coilRoute d = some (k, path) → s.coilUp k = true →
      Completes (.streamRecords t p o d q recs) s fun u => u.coil = { s.coil with sent := s.coil.sent ++ [
        { port := k, cls := 3, dst := d, src := o, typ := 0, seq := q.toNat, payload := recs }] })) ∧
  (∀ t (a : Fin 17) op s, s.coilOn = true →
    (s.greenRuns = false → ∀ x, Completes (.req t a op x) s (noAgent a s)) ∧
    (s.greenRuns = true → Completes (.req t a op false) s fun u =>
      u.coil = { s.coil with mgmt := s.coil.mgmt ++ [(a.val, u.now)] } ∧ Unchanged [.coil] (s.at t) u)) ∧
  (∀ t (a : Fin 17) st d s, Completes (.resp t a st d) s fun u => u.coil = { s.coil with lastResp := some (a.val, st, d) } ∧
    Unchanged [.coil] (s.at t) u) ∧
  (∀ t s a r rest, s.coil.mgmt = (a, r) :: rest → Completes (.coilNoAgent t) s fun u => u.now = max s.now (max t (r + msT 1)) ∧
    u.coil.mgmt = rest ∧ noAgent a s u) ∧
  (∀ t s, Completes (.coilMgmtTimeout t) s fun u => u.shows Reg.COIL_STAT 15 ∧ Unchanged recording s u)

/-- A TOKEN gives an ordinary unit its next address (its own if free, else the lowest free, 0 when disabled); the
root's own closes a RING; a rival's is a contest that one of them yields. TOKEN_END goes on, or completes the LINE at
the root. TOPO puts address and topology in force. LINK_EVENT, COIL_ENUMERATE and ENUM_RETRY start enumeration on the
root only; ENUM_TIMEOUT ends it with a retry after 100 ms. (spec/17_coil_chain.md R391; spec/17_coil_chain.md R392;
spec/17_coil_chain.md R393; spec/17_coil_chain.md R394) -/
def Obligations.CoilEnumerates : Prop :=
  (∀ t (p : Fin 2) m l st ident s, s.coilOn = true →
    (s.coilRoot = false → Completes (.token t p m l st ident) s fun u => u.coil.rootPort = p ∧
      u.coil.addrNext = (if s.bit Reg.COIL_CTL 0 = false then 0
        else if s.coil.addr ≠ 0 ∧ bitOf m.toNat (s.coil.addr - 1) = false then s.coil.addr else coilFree m) ∧
      Unchanged [.coil] (s.at t) u) ∧
    (s.coilRoot = true → ident = s.pins.unitId → s.coil.enumPhase = 1 → p = 0 → l.length ≤ 24 →
      Completes (.token t p m l st ident) s fun u => u.coil.ring = true ∧ u.coil.topo = l ∧ u.coil.addr = 1 ∧
        u.coil.enumPhase = 0) ∧
    (s.coilRoot = true → ident ≠ s.pins.unitId → Completes (.token t p m l st ident) s fun u =>
      let mine := bitOf s.pins.straps.toNat 0
      let win := if mine = st then s.pins.unitId.toNat < ident.toNat else mine = true
      u.shows Reg.COIL_STAT 4 ∧ (win → u.coil.enumAt = u.now ∧ u.coil.yielded = s.coil.yielded) ∧
        (¬ win → u.coil.yielded = true ∧ u.coil.enumPhase = 0 ∧ u.coil.topo = s.coil.topo))) ∧
  (∀ t (p : Fin 2) m l s, s.coilOn = true →
    (s.coilRoot = false → s.coilUp (1 - p.val) = true → Completes (.tokenEnd t p m l) s fun u =>
      ∃ x : CoilPkt, u.coil = { s.coil with sent := s.coil.sent ++ [x] } ∧ x.port = 1 - p.val ∧ x.typ = 1 ∧ x.dst = 1) ∧
    (s.coilRoot = true → s.coil.enumPhase = 1 → s.coilUp 0 = true → Completes (.tokenEnd t p m l) s fun u =>
      u.coil.enumPhase = 2 ∧ u.coil.enumSplit = l.length - 1 ∧ u.coil.topo = s.coil.topo) ∧
    (s.coilRoot = true → s.coil.enumPhase = 2 → l.length ≤ 24 → Completes (.tokenEnd t p m l) s fun u =>
      u.coil.ring = false ∧ u.coil.addr = 1 ∧ u.coil.enumPhase = 0 ∧
      u.coil.topo = (((l.drop 1).take s.coil.enumSplit).reverse ++ [1]) ++ l.drop (1 + s.coil.enumSplit))) ∧
  (∀ t ring l s, (s.coilRoot = true ∨ s.coilOn = false → Completes (.topo t ring l) s fun u => u = s.at t) ∧
    (s.coilRoot = false → s.coilOn = true → Completes (.topo t ring l) s fun u => u.coil.topo = l.take 24 ∧
      u.coil.ring = ring ∧ u.coil.addr = (if s.bit Reg.COIL_CTL 0 then s.coil.addrNext else 0) ∧ u.shows Reg.COIL_STAT 0)) ∧
  (∀ t p s, (s.coilRoot = true → Completes (.linkEvent t) s (fun u => u.coil.enumAt = u.now) ∧
      (s.gated = false → Completes (.coilEnumerate t p) s fun u => u.coil.enumAt = u.now)) ∧
    (s.coilRoot = false → Completes (.linkEvent t) s (fun u => u = s.at t) ∧
      Completes (.coilEnumerate t p) s fun u => u = s.at t) ∧
    (∀ a, s.coil.retryAt = some a → s.coilRoot = true → Completes (.enumRetry t) s fun u => u.coil.enumAt = u.now ∧
      u.now = max s.now (max t a)) ∧
    (s.coilRoot = true → s.coil.enumPhase ≠ 0 → Completes (.enumTimeout t) s fun u => s.coil.enumAt + msT 10 ≤ u.now ∧
      u.coil = { s.coil with enumPhase := 0, retryAt := some (u.now + msT 100) } ∧ u.shows Reg.COIL_STAT 1))

/-- Every 65,536 ticks the root of a RING broadcasts SYNC with its UTIME and another aligned unit sends DELAY_REQ
upstream, on the VCO. SYNC_PACKET goes on by the other port, and an aligned unit's time of the last SYNC follows.
DELAY_REQ is answered on its port, DELAY_RESP sets that port's delay. A trim step is at most one and stays within 128.
A millisecond without SYNC takes LOCKED to HOLD, or to LOST with a hold of 0; the hold's end goes LOST with
HOLD_EXPIRED. COIL_EPOCH with a program running waits on the root for the boundary. (spec/17_coil_chain.md R396;
spec/17_coil_chain.md R397; spec/17_coil_chain.md R398; spec/17_coil_chain.md R399; spec/17_coil_chain.md R409) -/
def Obligations.CoilTimeIsKept : Prop :=
  (∀ t s, Completes (.coilTimePeriod t) s fun u => u.now = max s.now (max t (s.coil.periodAt + 65536)) ∧
    u.coil.periodAt = u.now ∧ ((s.coil.align = 0 ∨ s.onVco = false) → u.coil = { s.coil with periodAt := u.now }) ∧
    (s.coil.align ≠ 0 → s.onVco = true → s.coilRoot = true → s.coil.ring = true → s.coilUp 1 = true →
      ∃ (x : CoilPkt) (v : BitVec 128), u.coil.sent = s.coil.sent ++ [x] ∧ x.port = 1 ∧ x.cls = 1 ∧ x.typ = 0 ∧ x.dst = 31 ∧ x.payload = [v] ∧
        v.toNat / 1024 = u.utime) ∧
    (s.coil.align ≠ 0 → s.onVco = true → s.coilRoot = false → s.coilUp s.coilUpstream = true →
      ∃ x : CoilPkt, u.coil.sent = s.coil.sent ++ [x] ∧ x.port = s.coilUpstream ∧ x.cls = 1 ∧ x.typ = 1) ∧
    Unchanged ([.coil, .freeNext] ++ recording) s u) ∧
  (∀ t (p : Fin 2) a c r d s, (s.coilOn = false ∨ s.coilRoot = true → Completes (.syncPacket t p a c r d) s fun u => u = s.at t) ∧
    (s.coilOn = true → s.coilRoot = false → Completes (.syncPacket t p a c r d) s fun u =>
      (s.coilUp (1 - p.val) = true → ∃ (x : CoilPkt) (rest : List CoilPkt), u.coil.sent = s.coil.sent ++ x :: rest ∧ x.port = 1 - p.val ∧ x.cls = 1 ∧
        x.typ = 0 ∧ x.dst = 31) ∧ (s.coil.align ≠ 0 → s.onVco = true → u.coil.syncAt = u.now))) ∧
  (∀ t (p : Fin 2) (a : Fin 17) t2 t3 s, s.onVco = true → s.coilUp p = true → Completes (.delayReq t p a t2 t3) s fun u =>
    ∃ x : CoilPkt, u.coil.sent = s.coil.sent ++ [x] ∧ x.port = p.val ∧ x.cls = 1 ∧ x.typ = 2 ∧ x.dst = a.val ∧
      x.payload = [BitVec.ofInt 128 t2, BitVec.ofInt 128 t3]) ∧
  (∀ t (p : Fin 2) t1 t2 t3 t4 d s, (t4 - t1) - (t3 - t2) = 2 * d → s.isFrozen Id.COIL_LINK_DELAY = false →
    Completes (.delayResp t p t1 t2 t3 t4) s fun u => let w := (u.wideRaw Id.COIL_LINK_DELAY).toNat
      bitsOf w (32 * p.val + 31) (32 * p.val) = unsgn 32 d ∧ u.coil = s.coil) ∧
  (∀ t s, Completes (.coilTrimStep t) s fun u => u.coil.trimAt = u.now ∧
    s.coil.trimAt + (if s.wheelRuns then 8192 else 64) ≤ u.now ∧
    (s.coil.align = 0 ∨ s.coilRoot = true ∨ s.coilFull = false ∨ s.onVco = false → u.coil.trim = s.coil.trim) ∧
    (u.coil.trim ≠ s.coil.trim → (u.coil.trim = s.coil.trim + 1 ∨ u.coil.trim = s.coil.trim - 1) ∧ -128 ≤ u.coil.trim ∧
      u.coil.trim ≤ 128)) ∧
  (∀ t s, (s.coil.align = 2 → s.coilRoot = false → Completes (.coilSyncTimeout t) s fun u => s.coil.syncAt + msT 1 ≤ u.now ∧
      u.coil.holdAt = u.now ∧ (s.reg Reg.COIL_HOLD ≠ 0 → u.coil.align = 3) ∧
      (s.reg Reg.COIL_HOLD = 0 → u.coil.align = 4 ∧ u.coil.lostReason = 3)) ∧
    (s.coil.align ≠ 2 ∨ s.coilRoot = true → Completes (.coilSyncTimeout t) s fun u => u = s.at t) ∧
    (s.coil.align = 3 → Completes (.coilHoldExpiry t) s fun u => u.coil.align = 4 ∧ u.coil.lostReason = 3 ∧
      s.coil.holdAt + msT (s.reg Reg.COIL_HOLD).toNat ≤ u.now ∧ u.shows Reg.COIL_STAT 7) ∧
    (s.coil.align ≠ 3 → Completes (.coilHoldExpiry t) s fun u => u = s.at t)) ∧
  (∀ t p s, (s.gated = false → s.coilRoot = true → s.wheelRuns = true → Completes (.coilEpoch t p) s fun u =>
      u.coil = { s.coil with epochReq := true } ∧ Unchanged [.coil] (s.at t) u) ∧
    (s.coilRoot = false → Completes (.coilEpoch t p) s fun u => u = s.at t))

/-- COIL_SCHED_COMMIT on the root makes the schedule pending, 1 ms ahead at least, windows inside the cycle;
SCHED_TABLE is held, or applied at once and flagged when late; SCHED_ACTIVATE puts the pending one in force at its
UTIME. COIL_CYCLE_START pulses SYNC_IO for 32 ticks at the start of a cycle. STATUS replaces its node's entry; own
reports come every 10 ms; 100 ms without one mark a node stale. (spec/17_coil_chain.md R401; spec/17_coil_chain.md
R402; spec/17_coil_chain.md R403; spec/17_coil_chain.md R407) -/
def Obligations.CoilSchedulesAndNodes : Prop :=
  (∀ t p s, (s.coilRoot = false → Completes (.coilSchedCommit t p) s fun u => u = s.at t) ∧
    (s.gated = false → s.coilRoot = true → Completes (.coilSchedCommit t p) s fun u =>
      let cycle := bitsOf (s.wideN Id.COIL_SCHED_CYCLE) 23 0
      ∃ w : List (BitVec 64), u.coil.nextSched =
          some (max (s.wideN Id.COIL_SCHED_ACT % 2 ^ 64) ((s.at t).utime + 3200000), cycle, w) ∧ w.length = 32 ∧
        ∀ x ∈ w, bitsOf x.toNat 23 0 ≤ cycle → bitsOf x.toNat 23 0 + bitsOf x.toNat 47 32 ≤ cycle)) ∧
  (∀ t cycle act w s, s.coilRoot = false → s.coilOn = true → s.bit Reg.COIL_CTL 0 = true →
    ((s.at t).utime < act → Completes (.schedTable t cycle act w) s fun u =>
      u.coil = { s.coil with nextSched := some (act, cycle % 2 ^ 24, w.take 32) } ∧ Unchanged [.coil] (s.at t) u) ∧
    (act ≤ (s.at t).utime → Completes (.schedTable t cycle act w) s fun u => u.coil.cycle = cycle % 2 ^ 24 ∧
      u.coil.sched = w.take 32 ∧ u.coil.nextSched = none ∧ u.shows Reg.COIL_STAT 10)) ∧
  (∀ t s a c w, s.coil.nextSched = some (a, c, w) → s.tsu.utRun = true → s.tsu.utAt ≤ s.now →
    s.tsu.utBase + (max s.now t - s.tsu.utAt) < 2 ^ 64 → a < 2 ^ 64 → Completes (.schedActivate t) s fun u =>
      a ≤ u.utime ∧ u.now = max s.now t + (a - (s.at t).utime) ∧ u.coil.cycle = c ∧ u.coil.sched = w ∧ u.coil.act = a ∧
      u.coil.nextSched = none ∧ u.shows Reg.COIL_STAT 9) ∧
  (∀ t s, let c := s.coilSched.1
    s.coilEn = true → (s.coil.align = 2 ∨ s.coil.align = 3) → c ≠ 0 → s.tsu.utRun = true → s.tsu.utAt ≤ s.now →
    s.tsu.utBase + (max s.now t - s.tsu.utAt) + c < 2 ^ 64 → Completes (.coilCycleStart t) s fun u =>
      u.utime % c = 0 ∧ u.now < max s.now t + c ∧ fget 0 u.pins.mfpTo 0 = u.now + 32) ∧
  (∀ t (a : Fin 17) (w f o : Word) s, (s.coilRoot = false ∨ a.val = 0 → Completes (.status t a w f o) s fun u => u = s.at t) ∧
    (s.coilRoot = true → a.val ≠ 0 → s.bit Reg.COIL_CTL 4 = false → Completes (.status t a w f o) s fun u =>
      fget none u.coil.nodeAt a = some u.now ∧ (s.isFrozen (Id.COIL_NODE + (a.val - 1)) = false →
        bitsOf (u.wideRaw (Id.COIL_NODE + (a.val - 1))).toNat 17 0 = bitsOf w.toNat 17 0 ∧
        bitsOf (u.wideRaw (Id.COIL_NODE + (a.val - 1))).toNat 63 32 = f.toNat ∧
        bitsOf (u.wideRaw (Id.COIL_NODE + (a.val - 1))).toNat 95 64 = o.toNat))) ∧
  (∀ t s, s.bit Reg.COIL_CTL 0 = true → s.coil.addr ≠ 0 → Completes (.coilStatusTimer t) s fun u =>
    u.coil.statusAt = u.now ∧ u.now = max s.now (max t (s.coil.statusAt + msT 10))) ∧
  (∀ t (a : Fin 17) s r, let id := Id.COIL_NODE + (a.val - 1)
    fget none s.coil.nodeAt a = some r → s.coilRoot = true → bitOf (s.wideN id) 18 = false →
    Completes (.coilNodeStale t a) s fun u => r + msT 100 ≤ u.now ∧ u.shows Reg.COIL_STAT 14 ∧
      (s.isFrozen id = false → bitOf (u.wideRaw id).toNat 18 = true) ∧ Unchanged recording s u)

/-- A configuration request is retried in RESET and in BOOT stage 0; later it is accepted (bus master and MSI-X on:
log 21). Link training needs a SerDes reference. A write of HIF_x_CTL that sets en, with a size, latches base, size
and write-back address and makes the ring active where its read pointer is 0, else it raises ring_cfg_err; one that
clears en makes it inactive. A read pointer at or behind the write pointer by at most the ring is taken; another keeps
the last one and raises ring_cfg_err; the copy engine's tail likewise. A pending write-back posts the write pointer. A
point ring stalled for us raises pt_stall and puts the HOST consumer into LOSS. An EVENT record takes its ring's next
place, or waits while there is none. A remote ring full for us raises rr_stall. The end of a hold sends one message,
or sets the pending bit of a masked vector; unmasking a pending vector sends one. (spec/18_host_interface.md R412;
spec/18_host_interface.md R416; spec/18_host_interface.md R417; spec/18_host_interface.md R418;
spec/18_host_interface.md R419; spec/18_host_interface.md R420; spec/18_host_interface.md R422;
spec/18_host_interface.md R426) -/
def Obligations.HostRingsMoveRecords : Prop :=
  (∀ t s, let early := s.mode.active = .reset ∨ (s.mode.active = .boot ∧ s.mode.stage = 0)
    (early → Completes (.pcieConfigRequest t) s fun u => u.hif = { (s.at t).hif with cfgRetry := true } ∧
      Unchanged [.hif] (s.at t) u) ∧
    (¬ early → Completes (.pcieConfigRequest t) s fun u =>
      u.hif = { (s.at t).hif with cfgRetry := false, busMaster := true, msixEn := true } ∧ Unchanged [.hif] (s.at t) u)) ∧
  (∀ t v w s, (s.clk.serdesRef = false → Completes (.pcieLinkUp t v w) s fun u => u = s.at t) ∧
    (s.clk.serdesRef = true → v < 6 → w < 8 → Completes (.pcieLinkUp t v w) s fun u =>
      u.hif = { (s.at t).hif with speed := v, width := w } ∧ Unchanged [.hif] (s.at t) u)) ∧
  (∀ t p (x : Fin 20) (val : Word) s, s.gated = false → let b := s.at t
    (bitOf val.toNat 16 = true → bitOf val.toNat 0 = true → s.fld (ringCtl x + 4) 14 0 ≠ 0 →
      Completes (.ringActivate t p (ringCtl x) val) s fun u =>
        (u.ring x).active = decide (s.reg (ringCtl x + 8) = 0) ∧ (u.ring x).pages = s.fld (ringCtl x + 4) 14 0 ∧
        (u.ring x).base = b.wideN (ringBaseId x) / 4096 * 4096 ∧ (u.ring x).wba = b.wideN (ringWbaId x) / 4 * 4 ∧
        (u.ring x).returned = 0 ∧ (x.val < 4 → (u.ring x).written = 0) ∧
        (s.reg (ringCtl x + 8) ≠ 0 → (u.ring x).written = 0 ∧ u.shows Reg.HIF_STAT 6)) ∧
    (bitOf val.toNat 16 = true → bitOf val.toNat 0 = true → s.fld (ringCtl x + 4) 14 0 = 0 → x.val < 4 →
      Completes (.ringActivate t p (ringCtl x) val) s fun u => u.hif = b.hif) ∧
    (bitOf val.toNat 16 = true → bitOf val.toNat 0 = false → Completes (.ringActivate t p (ringCtl x) val) s fun u =>
      (u.ring x).active = false ∧ (u.ring x).written = (s.ring x).written ∧ u.hif.posted = b.hif.posted)) ∧
  (∀ t p (x : Fin 20) (val : Word) s, s.gated = false → (s.ring x).active = true → (s.ring x).pages < 2 ^ 15 →
    let r := s.ring x
    let off := ringCtl x + 8
    let named (top a : Nat) (u : State) := a ≤ top ∧ top - a ≤ r.pages ∧ a % r.pages = u.fld off 14 0 ∧
      (a / r.pages % 2 = 1 ↔ u.bit off 15 = true)
    Completes (.ringRdWrite t p off val) s fun u =>
      ((∀ w ∈ s.lastWrites, w.off ≠ off) → bitsOf val.toNat 31 16 = 0xFFFF → (u.reg off).toNat = bitsOf val.toNat 15 0) ∧
      (x.val ≠ 3 → (∀ a, named (r.written / 256) a u → (u.ring x).returned = a) ∧
        ((∀ a, ¬ named (r.written / 256) a u) → (u.ring x).returned = r.returned ∧ u.shows Reg.HIF_STAT 6)) ∧
      (x.val = 3 → (∀ a, named (r.written + r.pages) a u → r.written ≤ a → u.hif.ceTail = a) ∧
        ((∀ a, named (r.written + r.pages) a u → a < r.written) → u.hif.ceTail = s.hif.ceTail ∧ u.shows Reg.HIF_STAT 6))) ∧
  (∀ t (x : Fin 20) s, (∀ a, (s.ring x).wbDue = some a → let b := s.at (max t a)
      Completes (.ringWriteback t x) s fun u => ∃ rest,
        u.hif.posted = b.hif.posted ++ .writeback x (b.ring x).wba (BitVec.ofNat 32 (b.ring x).wr) :: rest ∧
        u.ring x = { b.ring x with wbDue := none, irqDue := false } ∧ ((b.ring x).irqDue = false → rest = []) ∧
        Unchanged [.hif] b u) ∧
    ((s.ring x).wbDue = none → Completes (.ringWriteback t x) s fun u => u = s.at t)) ∧
  (∀ t s, let us := (s.reg (ringCtl 0 + 0x10)).toNat
    (∀ a, s.pq.host.stallAt = some a → us ≠ 0 → s.pq.host.stalled = false → Completes (.ptStall t) s fun u =>
      u.now = max s.now (max t (a + usT us)) ∧ u.pq.host.stalled = true ∧ u.shows Reg.HIF_STAT 0 ∧
      u.pq.host.unread = s.pq.host.unread ∧ (s.pq.host.st = 0 → u.pq.host.st = 1 ∧ u.shows Reg.GLZ_PQ_STAT 0) ∧
      (s.pq.host.st ≠ 0 → u.pq.host.st = s.pq.host.st) ∧ Unchanged ([.pq] ++ recording) s u) ∧
    (s.pq.host.stallAt = none ∨ us = 0 ∨ s.pq.host.stalled = true → Completes (.ptStall t) s fun u => u = s.at t)) ∧
  (∀ t s, let b := s.at t
    (b.hif.evBuf = [] → Completes (.eventRingDeliver t) s fun u => u = b) ∧
    (∀ r rest, b.hif.evBuf = r :: rest →
      (b.ringRoom 1 = 0 → Completes (.eventRingDeliver t) s fun u => u.hif.evBuf = b.hif.evBuf ∧
        u.hif.posted = b.hif.posted ∧ (u.ring 1).waiting = (b.ring 1).active) ∧
      (b.ringRoom 1 ≠ 0 → Completes (.eventRingDeliver t) s fun u => u.hif.evBuf = rest ∧
        (u.ring 1).written = (b.ring 1).written + 1 ∧ Unchanged [.hif] b u ∧ ∃ pre post, u.hif.posted = b.hif.posted ++ pre ++
          .record 1 ((b.ring 1).base + 16 * ((b.ring 1).written % ((b.ring 1).pages * 256))) r :: post))) ∧
  (∀ t (a : Fin 17) s, let us := (s.reg (ringCtl 0 + 0x10)).toNat
    (∀ f, (s.ring (3 + a.val)).fullAt = some f → us ≠ 0 → a.val ≠ 0 → Completes (.rrStall t a) s fun u =>
      u.now = max s.now (max t (f + usT us)) ∧ u.shows Reg.HIF_STAT 9 ∧ Unchanged recording s u) ∧
    ((s.ring (3 + a.val)).fullAt = none ∨ us = 0 ∨ a.val = 0 → Completes (.rrStall t a) s fun u => u = s.at t)) ∧
  (∀ t (v : Fin 64) s, let ve := fget ({} : Vec) s.hif.vecs v
    (∀ a, ve.sent = some a → ve.held = true → let b := s.at (max t (a + usT (s.reg Reg.HIF_IRQ_HOLD).toNat))
      fget ({} : Vec) b.hif.vecs v = ve → Completes (.irqHoldEnd t v) s fun u => Unchanged [.hif] b u ∧
        (ve.masked = true → fget {} u.hif.vecs v = { ve with held := false, pend := true } ∧ u.hif.posted = b.hif.posted) ∧
        (ve.masked = false → fget {} u.hif.vecs v = { ve with held := false, pend := false, sent := some u.now } ∧
          u.hif.posted = b.hif.posted ++ [.msix v])) ∧
    (ve.sent = none ∨ ve.held = false → Completes (.irqHoldEnd t v) s fun u => u = s.at t)) ∧
  ∀ t (v : Fin 64) s, let b := s.at t
    let ve := fget ({} : Vec) b.hif.vecs v
    Completes (.msixUnmask t v) s fun u => Unchanged [.hif] b u ∧
      (ve.pend = true → b.hif.msixEn = true → u.hif.posted = b.hif.posted ++ [.msix v] ∧
        fget {} u.hif.vecs v = { ve with masked := false, pend := false, held := false, sent := some u.now }) ∧
      (ve.pend = false ∨ b.hif.msixEn = false → u.hif.posted = b.hif.posted ∧
        fget {} u.hif.vecs v = { ve with masked := false })

/-- A running engine takes the descriptor at head. One of length 0, or whose status position is at or beyond it,
completes at once. One that meets no stop moves every granule from its position on, towards the device or towards the
host, and completes: the status word DONE with the position reached is posted into it, the head moves on, ce_done is
raised. A fault at a granule halts the engine there with the head kept, and raises ce_fault. A PCIe error ends the
descriptor ABORTED and the head moves on (the engine is not halted: the model's reading). CE_RESUME runs the
descriptor at head again from a halt; CE_ABORT ends the descriptor at head as ABORTED and halts. Without a descriptor,
or halted, CE_DESCRIPTOR does nothing. (spec/18_host_interface.md R423; spec/18_host_interface.md R424;
spec/14_memory_and_arbiter.md R336) -/
def Obligations.CopyEngineRunsDescriptors : Prop :=
  let dev (d : CeDesc) (i : Nat) := d.dev.toNat / 64 * 64 + 64 * i
  let ends (b u : State) (moved : List Posted) (st : Nat) := (u.ring 3).written = (b.ring 3).written + 1 ∧
    ∃ rest, u.hif.posted = b.hif.posted ++ moved ++
      .status ((b.ring 3).base + 32 * b.ceIdx + 24) (BitVec.ofNat 32 st) :: rest
  let ran (d : CeDesc) (b u : State) :=
    let len := d.len % 2 ^ 26
    (len ≤ d.statusPos → ends b u [] (statusWord 0 d.statusPos) ∧ u.mem = b.mem ∧ u.shows Reg.HIF_STAT 2) ∧
    (d.statusPos < len → b.ceStop d len = none → u.shows Reg.HIF_STAT 2 ∧
      (d.toDevice = true → ends b u [] (statusWord 0 len) ∧
        (∀ i, d.statusPos ≤ i → i < len → u.memNat (dev d i) 64 = d.hostData.toNat) ∧
        SameBytes (fun a => dev d d.statusPos ≤ a ∧ a < dev d len) b u) ∧
      (d.toDevice = false → u.mem = b.mem ∧ ends b u ((List.range (len - d.statusPos)).map (fun i => .data
        (d.host.toNat / 64 * 64 + 64 * (d.statusPos + i)) (BitVec.ofNat 512 (b.memNat (dev d (d.statusPos + i)) 64))))
        (statusWord 0 len))) ∧
    (d.statusPos < len → ∀ p c, b.ceStop d len = some (p, c) →
      (c ≠ 0 → u.hif.ceHalted = true ∧ u.hif.cePos = p ∧ (u.ring 3).written = (b.ring 3).written ∧ u.shows Reg.HIF_STAT 3) ∧
      (c = 0 → (u.ring 3).written = (b.ring 3).written + 1 ∧ u.hif.ceHalted = b.hif.ceHalted ∧ u.shows Reg.HIF_STAT 5))
  (∀ t d s, let b := s.at t
    (b.ceWaits = true → s.hif.ceHalted = false → Completes (.ceDescriptor t d) s (ran d b)) ∧
    (b.ceWaits = false ∨ s.hif.ceHalted = true → Completes (.ceDescriptor t d) s fun u => u = b)) ∧
  (∀ t p d s, s.gated = false → let b := s.at t
    let c : State := { b with hif := { b.hif with ceHalted := false } }
    (s.hif.ceHalted = true → b.ceWaits = true → Completes (.ceResume t p d) s (ran d c)) ∧
    (s.hif.ceHalted = true → b.ceWaits = false → Completes (.ceResume t p d) s fun u => u = c) ∧
    (s.hif.ceHalted = false → Completes (.ceResume t p d) s fun u => u = b)) ∧
  ∀ t p s, s.gated = false → let b := s.at t
    (b.ceWaits = true → Completes (.ceAbort t p) s fun u => u.hif.ceHalted = true ∧ u.hif.cePos = 0 ∧
      ends b u [] (statusWord 5 b.hif.cePos) ∧ u.mem = b.mem) ∧
    (b.ceWaits = false → Completes (.ceAbort t p) s fun u => u = b)

/-- Outside RESET a good conversion shows its temperature and enters Cone n at or above the applied level, leaves it
below level minus hysteresis, and keeps it between. Entry to Cone 2 starts the grace timer, clamped to 10 to 10,000
ms; leaving it stops the timer and lifts the throttle. Entry to Cone 3 is flagged, turns the front ends off, and stops
the cool-down. A broken diode counts as Cone 3, and its flag is raised at the first such reading. In RESET nothing is
converted. The grace timer's end enforces the throttle while the die is in Cone 2. The cool-down's end turns the front
ends on and lets each enabled sector settle for 20 us. A write of a Cone register from Greenware is discarded with
ACCESS_ERR; one from Saggar or the host, alone in its cycle, changes the bits its mask names; one by the host journals
the levels. (spec/19_thermal.md R434; spec/19_thermal.md R435; spec/19_thermal.md R436; spec/19_thermal.md R437;
spec/19_thermal.md R438; spec/19_thermal.md R439; spec/19_thermal.md R440; spec/19_thermal.md R441; spec/19_thermal.md
R442) -/
def Obligations.ConesThrottleAndCoolDown : Prop :=
  (∀ t v s, s.mode.active ≠ .reset → s.thm.lvOld = [] → let l := s.thmLevels
    let at_ (i : Nat) : Int := ((l.getD i 0 : Nat) : Int)
    let cone (n : Nat) (u : State) := u.thm.inC n = if s.thm.inC n then decide (16 * (at_ (n - 1) - at_ (n + 2)) ≤ v)
      else decide (16 * at_ (n - 1) ≤ v)
    Completes (.thmConversion t (.celsius16 v)) s fun u => u.thm.temp = v ∧ u.thm.converted = true ∧ u.thm.convAt = u.now ∧
      u.now = max s.now (s.hclkDue t (s.thm.convAt + usT 100)) ∧ u.thm.okRun = min 16 (s.thm.okRun + 1) ∧
      cone 1 u ∧ cone 2 u ∧ cone 3 u ∧
      (s.thm.inC 2 = false → u.thm.inC 2 = true → u.shows Reg.THM_STAT 1 ∧
        u.thm.graceAt = some (u.now + msT (clampN 10 10000 (s.fld Reg.THM_GRACE 13 0)))) ∧
      (s.thm.inC 2 = true → u.thm.inC 2 = false → u.thm.graceAt = none ∧ u.thm.enforced = false ∧
        (s.thm.enforced = true → u.shows Reg.THM_STAT 3)) ∧
      (s.thm.inC 1 = false → u.thm.inC 1 = true → u.shows Reg.THM_STAT 0) ∧
      (s.thm.inC 3 = false → u.thm.inC 3 = true → u.shows Reg.THM_STAT 4 ∧ u.thm.c3 = true ∧ u.thm.coolAt = none ∧
        u.thm.cone3Live = true)) ∧
  (∀ t d s, d = .openWire ∨ d = .short →
    (s.mode.active ≠ .reset → Completes (.thmConversion t d) s fun u => u.thm.okRun = 0 ∧ u.thm.inC 3 = true ∧
      u.thm.c3 = true ∧ u.thm.coolAt = none ∧ u.thm.cone3Live = true ∧ u.thm.temp = s.thm.temp ∧
      (s.thm.okRun = 16 → u.shows Reg.THM_STAT (if d = .openWire then 5 else 6)))) ∧
  (∀ t d s, s.mode.active = .reset → Completes (.thmConversion t d) s fun u => u.thm = s.thm ∧ u.mode = s.mode) ∧
  (∀ t s, (∀ a, s.thm.graceAt = some a → Completes (.throttleGraceExpiry t) s fun u => u.now = max s.now (s.hclkDue t a) ∧
      u.thm.graceAt = none ∧ (s.thm.inC 2 = true → u.thm.enforced = true ∧ u.thm.onSince = u.now ∧ u.shows Reg.THM_STAT 2) ∧
      (s.thm.inC 2 = false → u.thm.enforced = s.thm.enforced) ∧ Unchanged ([.thm] ++ recording) s u) ∧
    (s.thm.graceAt = none → Completes (.throttleGraceExpiry t) s fun u => u = s.at t)) ∧
  (∀ t s, (∀ a, s.thm.coolAt = some a → Completes (.coolDownDone t) s fun u => u.now = max s.now (s.hclkDue t a) ∧
      u.thm.c3 = false ∧ u.thm.coolAt = none ∧ u.thm.cone3Live = false ∧ u.shows Reg.THM_STAT 7 ∧
      (∀ k, k < 8 → bitOf s.lan.secOn.toNat k = true → fget 0 u.lan.settleAt k = u.now + usT 20) ∧
      (s.bit Reg.EMT_MON_CTL 0 = true → s.onVco = true → u.emt.refbufAt = some (u.now + msT 2))) ∧
    (s.thm.coolAt = none → Completes (.coolDownDone t) s fun u => u = s.at t)) ∧
  ∀ t p off val s r, off ∈ [Reg.THM_CONE12, Reg.THM_CONE3, Reg.THM_HYST, Reg.THM_GRACE, Reg.THM_COOL] →
    rowAt off = some r → s.pins.inReset = false →
    (p = .greenware → Completes (.coneWrite t p off val) s fun u => u.regs = s.regs ∧ u.shows Reg.GLB_REG_STAT 4) ∧
    (p ≠ .greenware → (∀ w ∈ s.lastWrites, w.off ≠ off) → Completes (.coneWrite t p off val) s fun u =>
      u.reg off = cMerge (s.reg off) r.mask val ∧ SameRegs [off] s u ∧ (p = .saggar → u.sec = s.sec) ∧
      (p = .host → s.sec.tripped = 0 → (s.at t).sec.room 32 = true → off ∉ [Reg.THM_GRACE, Reg.THM_COOL] →
        u.sec.newest 8 = some (natToBytes 2 (u.reg Reg.THM_CONE12).toNat ++ natToBytes 2 (u.reg Reg.THM_CONE3).toNat ++
          natToBytes 2 (u.reg Reg.THM_HYST).toNat)))

/-- An output of a scan visit beside other entries, clamped to 24 bits and averaged: open, short or over makes its
entry's result invalid and raises its flag; a good one past the first L + 3, of an entry without phase stage and
table, is the entry's new valid result, and before that nothing changes; after L + 3 + keep outputs the visit ends.
The injected conversion's first output past L + 3 goes to SFE_INJ_RES and ends it. SFE_INJECT preempts a visit and
waits for a calibration; SFE_CAL preempts a visit and waits for an injected conversion; a second one starts nothing.
SFE_CAL_DONE writes all 8 pairs of coefficients when all are within limits, else none. LOOP_UPDATE outside RESET shows
the measured current and commands 0 while off, the fault level while the source or the range is bad, else the scaled
value within 3.8 to 20.5 mA. LOOP_FAULT_TIMER raises loop_fault after 10 ms of mismatch, and clears the state after 10
ms of agreement. (spec/20_sensor_front_end.md R448; spec/20_sensor_front_end.md R449; spec/20_sensor_front_end.md
R450; spec/20_sensor_front_end.md R451; spec/20_sensor_front_end.md R452; spec/20_sensor_front_end.md R453;
spec/20_sensor_front_end.md R455; spec/20_sensor_front_end.md R456; spec/20_sensor_front_end.md R458;
spec/20_sensor_front_end.md R459; spec/20_sensor_front_end.md R460) -/
def Obligations.SensorsAndTheLoop : Prop :=
  (∀ t y trip s, let x := s.sfe
    let b := s.at (s.hclkDue t (x.startAt + x.period))
    let yc := clampI (-8388608) 8388607 y
    let l := (x.avg ++ [yc]).drop ((x.avg ++ [yc]).length - x.len)
    let m := (b.quot (offSum l) l.length).2
    let opn := trip = true ∧ bitOf (x.c 3) 0 = true ∧
      s.fld Reg.SFE_IEXC (if bitOf (x.c 3) 1 then 5 else 2) (if bitOf (x.c 3) 1 then 3 else 0) ≠ 0
    let short := floorDiv m 256 ≤ sgn 16 (x.c 5)
    let high := sgn 16 (x.c 6) ≤ floorDiv m 256
    let plain := bitsOf (x.c 4) 7 0 = 0 ∧ bitOf (x.c 4) 8 = false
    (x.st ≠ 1 → x.st ≠ 2 → Completes (.sfeOutput t y trip) s fun u => u = s.at t) ∧
    (x.st = 1 → s.sfeList ≠ [] → s.sfeList ≠ [x.slot] → x.slot < 16 → Completes (.sfeOutput t y trip) s fun u =>
      u.now = b.now ∧
      (opn ∨ short ∨ high → bitOf u.sfe.valid.toNat x.slot = false ∧ (opn → u.shows Reg.SFE_STAT 0 ∨ x.tripped = true) ∧
        (short → u.shows Reg.SFE_STAT 1) ∧ (high → u.shows Reg.SFE_STAT 2)) ∧
      (¬ opn → ¬ short → ¬ high → x.wait < x.outN + 1 → plain → fget 0 u.sfe.res x.slot = m ∧
        bitOf u.sfe.valid.toNat x.slot = true ∧ fget 0 u.sfe.lastAt x.slot = u.now ∧
        fget 0 u.sfe.count x.slot = fget 0 x.count x.slot + 1 ∧ (s.isFrozen (Id.SFE_RES + x.slot) = false →
          bitsOf (u.wideRaw (Id.SFE_RES + x.slot)).toNat 31 0 = unsgn 32 m)) ∧
      (¬ opn → ¬ short → ¬ high → x.outN + 1 ≤ x.wait → u.sfe.res = x.res ∧ u.sfe.valid = x.valid) ∧
      (∀ j, j ≠ x.slot → fget 0 u.sfe.res j = fget 0 x.res j) ∧
      (x.outN + 1 < x.wait + bitsOf (x.c 2) 14 11 → u.sfe.slot = x.slot ∧ u.sfe.outN = x.outN + 1) ∧
      (x.wait + bitsOf (x.c 2) 14 11 ≤ x.outN + 1 → u.sfe.outN = 0 ∧ u.sfe.slot ∈ s.sfeList)) ∧
    (x.st = 2 → (x.outN + 1 ≤ x.wait → Completes (.sfeOutput t y trip) s fun u => u.sfe.st = 2 ∧ u.sfe.outN = x.outN + 1 ∧
        u.sfe.res = x.res) ∧
      (x.wait < x.outN + 1 → x.injPend = false → Completes (.sfeOutput t y trip) s fun u => u.sfe.st ≠ 2 ∧
        u.shows Reg.SFE_STAT 3 ∧ u.sfe.res = x.res ∧ (s.isFrozen Id.SFE_INJ_RES = false → ¬ opn → ¬ short → ¬ high → plain →
          bitsOf (u.wideRaw Id.SFE_INJ_RES).toNat 31 0 = unsgn 32 m)))) ∧
  (∀ t p s, s.pins.inReset = false → let n := s.fld Reg.SFE_INJ_CTL 3 0
    (s.sfe.injPend = true ∨ s.sfe.st = 2 → Completes (.sfeInject t p) s fun u => u = s.at t) ∧
    (s.sfe.injPend = false → s.sfe.st = 3 → Completes (.sfeInject t p) s fun u => u.sfe = { s.sfe with injPend := true } ∧
      Unchanged [.sfe] (s.at t) u) ∧
    (s.sfe.injPend = false → s.sfe.st < 2 → Completes (.sfeInject t p) s fun u => u.sfe.st = 2 ∧ u.sfe.slot = n ∧
      u.sfe.cfg = s.sfeEntry n ∧ u.sfe.outN = 0 ∧ u.sfe.startAt = u.now ∧ Unchanged [.sfe] (s.at t) u ∧
      (s.sfe.st = 1 → u.sfe.resume = some s.sfe.slot))) ∧
  (∀ t p s, s.pins.inReset = false →
    (s.sfe.calPend = true ∨ s.sfe.st = 3 → Completes (.sfeCal t p) s fun u => u = s.at t) ∧
    (s.sfe.calPend = false → s.sfe.st = 2 → Completes (.sfeCal t p) s fun u => u.sfe = { s.sfe with calPend := true } ∧
      Unchanged [.sfe] (s.at t) u) ∧
    (s.sfe.calPend = false → s.sfe.injPend = false → s.sfe.st < 2 → Completes (.sfeCal t p) s fun u => u.sfe.st = 3 ∧
      u.sfe.calAt = u.now + msT 80 ∧ (s.sfe.st = 1 → u.sfe.resume = some s.sfe.slot) ∧ Unchanged [.sfe] (s.at t) u)) ∧
  (∀ t cs s, let b := s.at (s.hclkDue t s.sfe.calAt)
    (s.sfe.st ≠ 3 → Completes (.sfeCalDone t cs) s fun u => u = s.at t) ∧
    (s.sfe.st = 3 → Completes (.sfeCalDone t cs) s fun u => u.now = b.now ∧
      (s.sfe.calPend = false → u.sfe.st ≠ 3) ∧ (cs.all calOk = false → u.shows Reg.SFE_STAT 5 ∧
        ∀ g, g < 8 → u.wideRaw (Id.SFE_CAL + g) = b.wideRaw (Id.SFE_CAL + g)) ∧
      (cs.all calOk = true → u.shows Reg.SFE_STAT 4 ∧ ∀ g c, cs[g]? = some c → g < 8 → s.isFrozen (Id.SFE_CAL + g) = false →
        bitsOf (u.wideRaw (Id.SFE_CAL + g)).toNat 31 0 = unsgn 32 c.1 ∧
        bitsOf (u.wideRaw (Id.SFE_CAL + g)).toNat 63 32 = c.2 % 2 ^ 32))) ∧
  (∀ t cur s, let b := s.at (s.hclkDue t (s.sfe.loopAt + usT 100))
    let lo := sgn 16 (s.reg Reg.SFE_LOOP_LO).toNat
    let hi := sgn 16 (s.reg Reg.SFE_LOOP_HI).toNat
    let bad := lo = hi ∨ b.loopValue.2 = false ∨ (s.bit Reg.SFE_LOOP_CTL 8 = true ∧ s.mode.active = .safe)
    (s.mode.active = .reset → Completes (.loopUpdate t cur) s fun u => u.sfe = { s.sfe with loopAt := u.now }) ∧
    (s.mode.active ≠ .reset → Completes (.loopUpdate t cur) s fun u => u.now = b.now ∧ u.sfe.loopAt = u.now ∧
      u.sfe.loopCur = cur % 65536 ∧ (s.bit Reg.SFE_LOOP_CTL 0 = false → u.sfe.loopCmd = 0) ∧
      (s.bit Reg.SFE_LOOP_CTL 0 = true → (bad → u.sfe.loopCmd = (if s.bit Reg.SFE_LOOP_CTL 7 then 21500 else 3500) ∧
          (s.sfe.loopSrcBad = false → u.shows Reg.SFE_STAT 7)) ∧
        (¬ bad → u.sfe.loopCmd = loopCurrent b.loopValue.1 lo hi ∧ 3800 ≤ u.sfe.loopCmd ∧ u.sfe.loopCmd ≤ 20500)) ∧
      Unchanged ([.sfe] ++ recording) s u)) ∧
  ∀ t s, (∀ a, s.sfe.loopBadAt = some a → Completes (.loopFaultTimer t) s fun u => u.sfe.loopFault = true ∧
      u.now = max s.now (s.hclkDue t (a + msT 10)) ∧ (s.sfe.loopFault = false → u.shows Reg.SFE_STAT 6)) ∧
    (∀ a, s.sfe.loopBadAt = none → s.sfe.loopOkAt = some a → Completes (.loopFaultTimer t) s fun u =>
      u.now = max s.now (s.hclkDue t (a + msT 10)) ∧ u.sfe = { s.sfe with loopFault := false }) ∧
    (s.sfe.loopBadAt = none → s.sfe.loopOkAt = none → Completes (.loopFaultTimer t) s fun u => u = s.at t)

/-- An update command from Saggar is refused with PATH, outside SERVICE and image failure with MODE, in a wrong update
state or while Saggar restarts with STATE; a refusal records its reason, raises cmd_refused and changes nothing else
of Saggar's. upd_open journals the target slot INVALID and enters OPEN; upd_verify enters VERIFYING; its end journals
the slot VALID and enters VERIFIED, or keeps the reason and enters IDLE; upd_activate checks ROLLBACK again, journals
the active slot and enters IDLE; upd_abort enters IDLE, a verified slot INVALID again. attest while a signature runs
or without a key raises att_refused; below the limit it uses the next key index once; at the limit it first reserves
64 more in the journal. Its end gives report, signature and padding. park journals the next index as the limit.
compact copies the live records; only a checkpoint that reads back well counts. While a brown-out comparator is
tripped no record is written, and what needs one is refused. (spec/21_firmware_trust_store.md R465;
spec/21_firmware_trust_store.md R469; spec/21_firmware_trust_store.md R471; spec/21_firmware_trust_store.md R472;
spec/21_firmware_trust_store.md R475; spec/21_firmware_trust_store.md R476; spec/21_firmware_trust_store.md R478;
spec/21_firmware_trust_store.md R479; spec/21_firmware_trust_store.md R480) -/
def Obligations.UpdatesAttestationAndJournal : Prop :=
  let refused (r : Nat) (s u : State) := u.sec = { s.sec with refuse := r } ∧ u.shows Reg.SEC_STAT 11
  let mayUpdate (s : State) := s.mode.active = .service ∨ s.imageFail = true
  let anyMode (s : State) := s.mode.active ≠ .reset ∧ s.mode.active ≠ .boot ∧ s.mode.active ≠ .standby
  let slot (k : Nat) (u : State) := if k = 0 then u.sec.slot0 else u.sec.slot1
  (∀ (c : Nat → Path → Instr) (ok : Nat → Prop), (c, ok) ∈ [(Instr.updOpen, (fun n => n = 0 ∨ n = 3)),
      (Instr.updVerify, (fun n => n = 1)), (Instr.updActivate, (fun n => n = 3)), (Instr.updAbort, (fun n => n ≠ 0))] →
    ∀ t p s, s.gated = false → (p = .saggar → Completes (c t p) s (refused 2 s)) ∧
      (p ≠ .saggar → ¬ mayUpdate s → Completes (c t p) s (refused 1 s)) ∧
      (p ≠ .saggar → mayUpdate s → (¬ ok s.sec.upd ∨ s.sec.restarting = true) → Completes (c t p) s (refused 3 s))) ∧
  (∀ t p s, s.gated = false → p ≠ .saggar → mayUpdate s → s.sec.restarting = false → let b := s.at t
    (s.sec.upd = 0 ∨ s.sec.upd = 3 → s.sec.tripped = 0 → s.sec.room 64 = true → Completes (.updOpen t p) s fun u =>
      let k := s.updTarget
      u.sec.upd = 1 ∧ u.sec.updSlot = k ∧ slot k u = 2 ∧ (u.sec.newest 4).map (List.take 2) = some [k, 2] ∧
      (s.isFrozen 0x8803 = false → u.wideRaw 0x8803 = 0)) ∧
    (s.sec.upd = 0 ∨ s.sec.upd = 3 → s.sec.tripped ≠ 0 → Completes (.updOpen t p) s (refused 3 s)) ∧
    (s.sec.upd = 1 → Completes (.updVerify t p) s fun u => Unchanged [.sec] b u ∧ u.sec = { s.sec with
      upd := 2, vProg := { run := s.sec.vProg.run + 1, st := 1, pos := 0, total := s.imageSize s.sec.updSlot } }) ∧
    (s.sec.upd = 3 → s.hdrNat s.sec.updSlot 8 4 < s.sec.otpCounter → Completes (.updActivate t p) s fun u =>
      u.sec = { s.sec with verifyReason := 6, refuse := 3 } ∧ u.shows Reg.SEC_STAT 11) ∧
    (s.sec.upd = 3 → s.sec.otpCounter ≤ s.hdrNat s.sec.updSlot 8 4 → s.sec.tripped = 0 → s.sec.room 32 = true →
      Completes (.updActivate t p) s fun u => u.sec.upd = 0 ∧ u.sec.active = s.sec.updSlot ∧
        u.sec.booted = s.sec.booted ∧ (u.sec.newest 1).map (fun l => l.getD 1 0) = some s.sec.updSlot) ∧
    (s.sec.upd = 1 → Completes (.updAbort t p) s fun u => u.sec = { s.sec with upd := 0 } ∧ Unchanged [.sec] b u) ∧
    (s.sec.upd = 2 → Completes (.updAbort t p) s fun u => Unchanged [.sec] b u ∧
      u.sec = { s.sec with upd := 0, vProg := { s.sec.vProg with st := 3 } }) ∧
    (s.sec.upd = 3 → s.sec.tripped = 0 → s.sec.room 64 = true → Completes (.updAbort t p) s fun u => u.sec.upd = 0 ∧
      slot s.sec.updSlot u = 2)) ∧
  (∀ t e s, let r := s.imageReason s.sec.updSlot (decide (e = Ecc.uncorrectable))
    (s.sec.upd ≠ 2 → Completes (.updVerifyDone t e) s fun u => u = s.at t) ∧
    (s.sec.upd = 2 → r = 0 → s.sec.tripped = 0 → s.sec.room 64 = true → Completes (.updVerifyDone t e) s fun u =>
      u.sec.upd = 3 ∧ slot s.sec.updSlot u = 1 ∧ u.sec.vProg.st = 2 ∧ u.shows Reg.SEC_STAT 0 ∧
      (s.imageFail = true → u.mode.bootFault = false ∧ u.mode.retryStage = some 2)) ∧
    (s.sec.upd = 2 → r ≠ 0 → Completes (.updVerifyDone t e) s fun u => u.sec = { s.sec with
      upd := 0, verifyReason := r, vProg := { s.sec.vProg with st := 3 } } ∧ u.shows Reg.SEC_STAT 1)) ∧
  (∀ t p s, s.gated = false → let q := s.sec.attNext
    let busy := s.sec.attBusy = true ∨ s.sec.attDead = true ∨ 33554432 ≤ q
    (¬ anyMode s → Completes (.attest t p) s (refused 1 s)) ∧
    (anyMode s → s.sec.restarting = true → Completes (.attest t p) s (refused 3 s)) ∧
    (anyMode s → s.sec.restarting = false → (busy → Completes (.attest t p) s fun u => u.sec = s.sec ∧
        u.shows Reg.SEC_STAT 3) ∧
      (¬ busy → q < s.sec.attLimit → Completes (.attest t p) s fun u => Unchanged [.sec] (s.at t) u ∧
        u.sec = { s.sec with attBusy := true, attNext := q + 1, attRep := reportWords ((s.at t).attReport q) }) ∧
      (¬ busy → s.sec.attLimit ≤ q → s.sec.tripped = 0 → s.sec.room 32 = true → Completes (.attest t p) s fun u =>
        u.sec.attBusy = true ∧ u.sec.attNext = q + 1 ∧ u.sec.attLimit = q + 64 ∧
        u.sec.newest 5 = some (natToBytes 4 (q + 64))) ∧
      (¬ busy → s.sec.attLimit ≤ q → s.sec.tripped ≠ 0 → Completes (.attest t p) s fun u => refused 3 s u ∧
        u.shows Reg.SEC_STAT 3))) ∧
  (∀ t s, (s.sec.attBusy = false → Completes (.attestDone t) s fun u => u = s.at t) ∧
    (s.sec.attBusy = true → Completes (.attestDone t) s fun u => u.shows Reg.SEC_STAT 2 ∧
      u.sec = { s.sec with attBusy := false, attRead := 0, attOut := u.sec.attOut } ∧
      u.sec.attOut.take s.sec.attRep.length = s.sec.attRep ∧ u.sec.attOut.length = s.sec.attRep.length + 328)) ∧
  (∀ t p s, s.gated = false → anyMode s → s.sec.restarting = false →
    (s.sec.tripped = 0 → s.sec.room 32 = true → Completes (.park t p) s fun u => u.sec.attLimit = s.sec.attNext ∧
      u.sec.attNext = s.sec.attNext ∧ u.sec.newest 6 = some (natToBytes 4 s.sec.attNext)) ∧
    (s.sec.tripped ≠ 0 → Completes (.park t p) s (refused 3 s)) ∧
    (s.sec.compacting = none → Completes (.compact t p) s fun u => Unchanged [.sec] (s.at t) u ∧ u.sec = { s.sec with
      compacting := some { cov := s.sec.jseq - 1, off := s.sec.head, recs := liveRecs s.sec.recs }, jProg := u.sec.jProg } ∧
      u.sec.jProg.st = 1) ∧
    (s.sec.compacting ≠ none → Completes (.compact t p) s fun u => u = s.at t)) ∧
  ∀ t s, (s.sec.compacting = none → ∀ ok, Completes (.compactDone t ok) s fun u => u = s.at t) ∧
    ∀ c, s.sec.compacting = some c → (Completes (.compactDone t true) s fun u => u.sec.compacting = none ∧
        (u.sec.ckptA = some c ∨ u.sec.ckptB = some c) ∧ u.sec.ring = s.sec.ring.filter (fun r => decide (c.cov < r.seq)) ∧
        u.sec.jProg.st = 2 ∧ u.shows Reg.SEC_STAT 9) ∧
      Completes (.compactDone t false) s fun u => u.sec.compacting = none ∧ u.sec.ring = s.sec.ring ∧ u.sec.jProg.st = 3 ∧
        Unchanged [.sec] (s.at t) u

/-- rollback_commit, revoke, seal and limits_store from another path than the host are refused with PATH, outside
SERVICE with MODE, and in a wrong state with STATE. rollback_commit starts a burn of the counter to the booted image's
version where that is higher; revoke one of a key that is neither the booted one nor the last; seal one where the
journaled limits equal those in force. OTP_DONE burns: the counter never falls, bits are only added. limits_store on
an unsealed unit journals SEC_LIMITS and, with EMT_EBM_LOCK open, loads and commits them. scfg_apply applies masks,
sizes, guard registers and the field reference of the selected groups. PERMIT_SET sets the permit when its conditions
hold. The watchdog clears the permit, enters SAFE and restarts Saggar, whose key index then resumes at the newest
limit journaled. A brown-out enters SAFE with cause SUPPLY; its release clears its comparator.
(spec/21_firmware_trust_store.md R465; spec/21_firmware_trust_store.md R466; spec/21_firmware_trust_store.md R467;
spec/21_firmware_trust_store.md R470; spec/21_firmware_trust_store.md R473; spec/21_firmware_trust_store.md R475;
spec/21_firmware_trust_store.md R480; spec/25_electrical.md R533) -/
def Obligations.FusesLimitsPermitAndSupplies : Prop :=
  let refused (r : Nat) (s u : State) := u.sec = { s.sec with refuse := r } ∧ u.shows Reg.SEC_STAT 11
  let host (c : Nat → Path → Instr) (ok : State → Prop) := ∀ t p s, s.gated = false →
    (p ≠ .host → Completes (c t p) s (refused 2 s)) ∧
    (p = .host → s.mode.active ≠ .service → Completes (c t p) s (refused 1 s)) ∧
    (p = .host → s.mode.active = .service → ¬ ok s ∨ s.sec.restarting = true → Completes (c t p) s (refused 3 s))
  let burns (c : Nat → Path → Instr) (ok : State → Prop) (f : State → Burn) := host c ok ∧ ∀ t s, s.gated = false →
    s.mode.active = .service → ok s → s.sec.restarting = false → Completes (c t .host) s fun u =>
      u.sec = { s.sec with burn := some (f s) } ∧ Unchanged [.sec] (s.at t) u
  (burns Instr.rollbackCommit (fun s => s.sec.burn = none ∧ s.sec.otpCounter < s.sec.bootVer)
    (fun s => .counter s.sec.bootVer)) ∧
  (burns Instr.revoke (fun s => s.sec.burn = none ∧ s.fld Reg.SEC_ARG 1 0 ≠ s.sec.bootKey ∧
    popCount 4 (s.sec.revoked.toNat ||| 2 ^ s.fld Reg.SEC_ARG 1 0) ≠ 4) (fun s => .revoke (s.fld Reg.SEC_ARG 1 0))) ∧
  (burns Instr.seal (fun s => s.sec.burn = none ∧ ∃ l, s.sec.newest 7 = some l ∧ payNat l 0 16 = s.ebmLimits.toNat)
    (fun _ => .seal)) ∧
  (∀ t s, (s.sec.burn = none → Completes (.otpDone t) s fun u => u = s.at t) ∧
    (∀ v, s.sec.burn = some (.counter v) → Completes (.otpDone t) s fun u => u.shows Reg.SEC_STAT 10 ∧
      u.sec = { s.sec with burn := none, otpCounter := max s.sec.otpCounter v }) ∧
    (∀ k, s.sec.burn = some (.revoke k) → Completes (.otpDone t) s fun u => u.shows Reg.SEC_STAT 10 ∧
      u.sec = { s.sec with burn := none, revoked := s.sec.revoked ||| BitVec.ofNat 4 (2 ^ k) }) ∧
    (s.sec.burn = some .seal → Completes (.otpDone t) s fun u => u.shows Reg.SEC_STAT 10 ∧
      u.sec = { s.sec with burn := none, sealed := true })) ∧
  (host Instr.limitsStore (fun s => s.sec.sealed = false)) ∧
  (∀ t s, s.gated = false → s.mode.active = .service → s.sec.sealed = false → s.sec.restarting = false →
    (s.sec.tripped ≠ 0 → Completes (.limitsStore t .host) s (refused 3 s)) ∧
    (s.sec.tripped = 0 → s.sec.room 32 = true → Completes (.limitsStore t .host) s fun u =>
      let v := (s.at t).wideN 0x880D
      u.sec.newest 7 = some (natToBytes 16 v) ∧ u.committed Reg.EMT_EBM_LOCK = true ∧
      (s.committed Reg.EMT_EBM_LOCK = true → u.locks = s.locks) ∧
      (s.committed Reg.EMT_EBM_LOCK = false → ∀ i, i < 4 → s.isFrozen (Id.EMT_EBM_FAST_CAP + i) = false →
        (u.wideRaw (Id.EMT_EBM_FAST_CAP + i)).toNat = bitsOf v (32 * i + 31) (32 * i)))) ∧
  (∀ t p s, s.gated = false → let g := s.fld Reg.SEC_ARG 5 3
    let b := s.at t
    (p ≠ .host → Completes (.scfgApply t p) s (refused 2 s)) ∧
    (p = .host → g = 0 → Completes (.scfgApply t p) s fun u => u.sec = s.sec ∧ u.shows Reg.SEC_STAT 15 ∧ u.regs = s.regs) ∧
    (p = .host → g ≠ 0 → b.scfgMode ≠ 0 → Completes (.scfgApply t p) s (refused b.scfgMode s)) ∧
    (p = .host → g ≠ 0 → b.scfgMode = 0 → b.scfgOk = false ∨ s.sec.restarting = true ∨ s.sec.tripped ≠ 0 →
      Completes (.scfgApply t p) s (refused 3 s)) ∧
    (p = .host → g ≠ 0 → b.scfgMode = 0 → b.scfgOk = true → s.sec.restarting = false → s.sec.tripped = 0 →
      s.sec.room 128 = true → Completes (.scfgApply t p) s fun u => u.shows Reg.SEC_STAT 15 ∧
        (bitOf g 0 = true → (∀ r, r < 7 → (u.reg (Reg.MEM_RGN_RD + 4 * r)).toNat = b.scfgVal (6 + r) % 1024 ∧
            (u.reg (Reg.MEM_RGN_WR + 4 * r)).toNat = b.scfgVal (13 + r) % 1024) ∧
          ∀ r, r < 6 → (u.reg (Reg.MEM_RGN_SIZE + 4 * r)).toNat = b.scfgVal r % 65536) ∧
        (bitOf g 1 = true → (u.reg Reg.CAP_GUARD_CTL).toNat = b.scfgVal 20 % 65536 ∧
          (u.reg Reg.CAP_GUARD_RST).toNat = b.scfgVal 21 % 65536 ∧ (u.reg Reg.CAP_GUARD_TMO).toNat = b.scfgVal 22 % 65536) ∧
        (bitOf g 2 = true → u.cap.sweepOk = false ∧ u.cap.refWritten = true))) ∧
  (∀ t s, let b := s.at t
    (b.permitOk = true → s.sec.permit = false → Completes (.permitSet t) s fun u =>
      u.sec = { s.sec with permit := true } ∧ u.shows Reg.SEC_STAT 4 ∧ Unchanged ([.sec] ++ recording) s u) ∧
    (b.permitOk = false ∨ s.sec.permit = true → Completes (.permitSet t) s fun u => u = b)) ∧
  (∀ t s, s.pins.inReset = false → Completes (.saggarWatchdog t) s fun u => u.mode.active = .safe ∧ u.sec.permit = false ∧
    u.sec.restarting = true ∧ u.sec.attBusy = false ∧ u.sec.compacting = none ∧ u.sec.upd ≠ 2 ∧ u.shows Reg.SEC_STAT 12 ∧
    u.shows Reg.GLB_SAFE_CAUSE 6) ∧
  (∀ t torn s, (s.sec.restarting = false → Completes (.saggarRestartDone t torn) s fun u => u = s.at t) ∧
    (s.sec.restarting = true → Completes (.saggarRestartDone t torn) s fun u => u.sec.restarting = false ∧
      u.sec.attNext = u.sec.attLimit ∧ (torn = true ∨ s.sec.torn = true → u.shows Reg.SEC_STAT 7) ∧
      (s.sec.torn = false → u.sec.ring = s.sec.ring))) ∧
  (∀ t (r : Fin 10) s, s.pins.inReset = false →
    (s.mode.active = .reset → Completes (.brownOut t r) s fun u => u = s.at t) ∧
    (s.mode.active ≠ .reset → Completes (.brownOut t r) s fun u => u.mode.active = .safe ∧ u.sec.permit = false ∧
      bitOf u.sec.tripped.toNat r = true ∧ u.shows Reg.GLB_SAFE_CAUSE 5 ∧
      ∀ q : Fin 10, q ≠ r → bitOf u.sec.tripped.toNat q = bitOf s.sec.tripped.toNat q)) ∧
  ∀ t (r : Fin 10) s, Completes (.brownOutRelease t r) s fun u => bitOf u.sec.tripped.toNat r = false ∧
    (∀ q : Fin 10, q ≠ r → bitOf u.sec.tripped.toNat q = bitOf s.sec.tripped.toNat q) ∧ u.mode.active = s.mode.active

/-- Whatever command is at the front of the queue, in whatever state, reset included: if the anti-rollback counter
stood at c or more, the revocation bits of r were set, and the seal fuse was burned (where f says so), then all of
this holds in the state after the step too: fuses only ever change from 0 to 1. (spec/21_firmware_trust_store.md R470;
spec/21_firmware_trust_store.md R475) -/
def Obligations.FusesOnlyEverBurn : Prop :=
  ∀ (c : Nat) (r : BitVec 4) (f : Bool) (s : State), FuseFloor c r f s → ∀ u, step s = .next u → FuseFloor c r f u
end

