-- ==== Sys2Proof/Laws/Maps.lean ====
section
/-! SUPPORT. The sparse maps: a read after a write, and the canonical form that every write keeps. -/

namespace Sys2Proof.Machine

theorem fget_fins_same {α : Type} (d : α) (k : Nat) (v : α) :
    ∀ m : FMap α, (∀ x ∈ m, x.1 ≠ k) → fget d (fins m k v) k = v
  | [], _ => by simp [fins, fget]
  | (a, w) :: m, h => by
    have ha : a ≠ k := h (a, w) (by simp)
    have hm := fget_fins_same d k v m (fun x hx => h x (by simp [hx]))
    by_cases hk : k < a
    · simp [fins, fget, hk]
    · simp [fins, fget, hk, ha.symm, hm]

theorem fget_fins_ne {α : Type} (d : α) {k j : Nat} (v : α) (h : j ≠ k) :
    ∀ m : FMap α, fget d (fins m k v) j = fget d m j
  | [] => by simp [fins, fget, h]
  | (a, w) :: m => by
    have hm := fget_fins_ne d v h m
    by_cases hk : k < a
    · simp [fins, fget, hk, h]
    · simp [fins, fget, hk, hm]

theorem fget_erase_same {α : Type} (d : α) (k : Nat) :
    ∀ m : FMap α, fget d (m.filter (fun x => decide (x.1 ≠ k))) k = d
  | [] => rfl
  | (a, w) :: m => by
    have hm := fget_erase_same d k m
    by_cases ha : a = k
    · simpa [ha] using hm
    · have : ¬ k = a := fun e => ha e.symm
      simpa [ha, fget, this] using hm

theorem fget_erase_ne {α : Type} (d : α) {k j : Nat} (h : j ≠ k) :
    ∀ m : FMap α, fget d (m.filter (fun x => decide (x.1 ≠ k))) j = fget d m j
  | [] => rfl
  | (a, w) :: m => by
    have hm := fget_erase_ne d h m
    by_cases ha : a = k
    · have : ¬ j = a := fun e => h (e.trans ha)
      simpa [ha, fget, h] using hm
    · simp only [ne_eq, decide_not] at hm
      simp [ha, fget, hm]

/-- A read gives what was last written to its key, and the last write of another key leaves it alone. -/
theorem fget_fset {α : Type} [DecidableEq α] (d : α) (m : FMap α) (k j : Nat) (v : α) :
    fget d (fset d m k v) j = if j = k then v else fget d m j := by
  unfold fset
  dsimp only
  by_cases hv : v = d <;> by_cases hj : j = k
  · subst hj; simp only [hv, if_true, fget_erase_same]
  · simp only [hv, hj, if_true, if_false, fget_erase_ne _ hj]
  · subst hj
    simp only [hv, if_true, if_false]
    exact fget_fins_same _ _ _ _ (by simp)
  · simp only [hv, hj, if_false, fget_fins_ne _ _ hj, fget_erase_ne _ hj]

@[simp] theorem fget_fset_same {α : Type} [DecidableEq α] (d : α) (m : FMap α) (k : Nat) (v : α) :
    fget d (fset d m k v) k = v := by simp [fget_fset]

/-- The other keys are read with any default. -/
theorem fget_fset_ne {α : Type} [DecidableEq α] (d e : α) (m : FMap α) {k j : Nat} (v : α) (h : j ≠ k) :
    fget e (fset d m k v) j = fget e m j := by
  unfold fset
  dsimp only
  split
  · exact fget_erase_ne _ h _
  · rw [fget_fins_ne _ _ h, fget_erase_ne _ h]

/-! ## The canonical form -/

theorem fwfFrom_mono {α : Type} [DecidableEq α] (d : α) {a b : Nat} (hab : a ≤ b) :
    ∀ m : FMap α, fwfFrom d b m = true → fwfFrom d a m = true
  | [], _ => rfl
  | (k, v) :: m, h => by
    simp only [fwfFrom, Bool.and_eq_true, decide_eq_true_eq] at h ⊢
    exact ⟨⟨hab.trans h.1.1, h.1.2⟩, h.2⟩

theorem fwfFrom_filter {α : Type} [DecidableEq α] (d : α) (p : Nat × α → Bool) :
    ∀ (m : FMap α) (lo : Nat), fwfFrom d lo m = true → fwfFrom d lo (m.filter p) = true
  | [], _, _ => rfl
  | (k, v) :: m, lo, h => by
    simp only [fwfFrom, Bool.and_eq_true, decide_eq_true_eq] at h
    have hm := fwfFrom_filter d p m _ h.2
    by_cases hp : p (k, v) = true
    · rw [List.filter_cons_of_pos hp]
      simp only [fwfFrom, Bool.and_eq_true, decide_eq_true_eq]
      exact ⟨h.1, hm⟩
    · rw [List.filter_cons_of_neg hp]
      exact fwfFrom_mono d (by have := h.1.1; omega) _ hm

theorem fwf_filter {α : Type} [DecidableEq α] (d : α) (p : Nat × α → Bool) (m : FMap α) (h : fwf d m = true) :
    fwf d (m.filter p) = true := fwfFrom_filter d p m 0 h

theorem fwfFrom_fins {α : Type} [DecidableEq α] (d : α) (k : Nat) (v : α) (hv : v ≠ d) :
    ∀ (m : FMap α) (lo : Nat), lo ≤ k → (∀ x ∈ m, x.1 ≠ k) → fwfFrom d lo m = true → fwfFrom d lo (fins m k v) = true
  | [], lo, hlo, _, _ => by simp [fins, fwfFrom, hlo, hv]
  | (a, w) :: m, lo, hlo, hne, h => by
    have ha : a ≠ k := hne (a, w) (by simp)
    simp only [fwfFrom, Bool.and_eq_true, decide_eq_true_eq] at h
    by_cases hk : k < a
    · simp only [fins, hk, if_true, fwfFrom, Bool.and_eq_true, decide_eq_true_eq]
      exact ⟨⟨hlo, hv⟩, ⟨⟨by omega, h.1.2⟩, h.2⟩⟩
    · simp only [fins, hk, if_false, fwfFrom, Bool.and_eq_true, decide_eq_true_eq]
      exact ⟨h.1, fwfFrom_fins d k v hv m (a + 1) (by omega) (fun x hx => hne x (by simp [hx])) h.2⟩

/-- A write keeps the canonical form. -/
theorem fwf_fset {α : Type} [DecidableEq α] (d : α) (m : FMap α) (k : Nat) (v : α) (h : fwf d m = true) :
    fwf d (fset d m k v) = true := by
  unfold fset
  dsimp only
  split
  · exact fwf_filter d _ m h
  · exact fwfFrom_fins d k v ‹_› _ 0 (Nat.zero_le _) (by simp) (fwf_filter d _ m h)

theorem fwf_fmod {α : Type} [DecidableEq α] (d : α) (m : FMap α) (k : Nat) (f : α → α) (h : fwf d m = true) :
    fwf d (fmod d m k f) = true := fwf_fset d m k _ h

end Sys2Proof.Machine
end

