-- ==== Sys2Proof/Laws/State.lean ====
section
/-! SUPPORT. The updates of State, field by field: what each leaves as it was and what it puts into its own field. -/

namespace Sys2Proof.Machine

/-! ## State.modWhl -/

@[simp] theorem State.modWhl_now (s : State) (f : Wheel → Wheel) : (s.modWhl f).now = s.now := rfl
@[simp] theorem State.modWhl_regs (s : State) (f : Wheel → Wheel) : (s.modWhl f).regs = s.regs := rfl
@[simp] theorem State.modWhl_locks (s : State) (f : Wheel → Wheel) : (s.modWhl f).locks = s.locks := rfl
@[simp] theorem State.modWhl_stat (s : State) (f : Wheel → Wheel) : (s.modWhl f).stat = s.stat := rfl
@[simp] theorem State.modWhl_wide (s : State) (f : Wheel → Wheel) : (s.modWhl f).wide = s.wide := rfl
@[simp] theorem State.modWhl_deferred (s : State) (f : Wheel → Wheel) : (s.modWhl f).deferred = s.deferred := rfl
@[simp] theorem State.modWhl_recent (s : State) (f : Wheel → Wheel) : (s.modWhl f).recent = s.recent := rfl
@[simp] theorem State.modWhl_mbxS (s : State) (f : Wheel → Wheel) : (s.modWhl f).mbxS = s.mbxS := rfl
@[simp] theorem State.modWhl_mbxG (s : State) (f : Wheel → Wheel) : (s.modWhl f).mbxG = s.mbxG := rfl
@[simp] theorem State.modWhl_mbxH (s : State) (f : Wheel → Wheel) : (s.modWhl f).mbxH = s.mbxH := rfl
@[simp] theorem State.modWhl_lastWrites (s : State) (f : Wheel → Wheel) : (s.modWhl f).lastWrites = s.lastWrites := rfl
@[simp] theorem State.modWhl_rdata (s : State) (f : Wheel → Wheel) : (s.modWhl f).rdata = s.rdata := rfl
@[simp] theorem State.modWhl_crc (s : State) (f : Wheel → Wheel) : (s.modWhl f).crc = s.crc := rfl
@[simp] theorem State.modWhl_timers (s : State) (f : Wheel → Wheel) : (s.modWhl f).timers = s.timers := rfl
@[simp] theorem State.modWhl_log (s : State) (f : Wheel → Wheel) : (s.modWhl f).log = s.log := rfl
@[simp] theorem State.modWhl_clk (s : State) (f : Wheel → Wheel) : (s.modWhl f).clk = s.clk := rfl
@[simp] theorem State.modWhl_mode (s : State) (f : Wheel → Wheel) : (s.modWhl f).mode = s.mode := rfl
@[simp] theorem State.modWhl_whl (s : State) (f : Wheel → Wheel) : (s.modWhl f).whl = f s.whl := rfl
@[simp] theorem State.modWhl_pix (s : State) (f : Wheel → Wheel) : (s.modWhl f).pix = s.pix := rfl
@[simp] theorem State.modWhl_emt (s : State) (f : Wheel → Wheel) : (s.modWhl f).emt = s.emt := rfl
@[simp] theorem State.modWhl_str (s : State) (f : Wheel → Wheel) : (s.modWhl f).str = s.str := rfl
@[simp] theorem State.modWhl_lan (s : State) (f : Wheel → Wheel) : (s.modWhl f).lan = s.lan := rfl
@[simp] theorem State.modWhl_cal (s : State) (f : Wheel → Wheel) : (s.modWhl f).cal = s.cal := rfl
@[simp] theorem State.modWhl_kln (s : State) (f : Wheel → Wheel) : (s.modWhl f).kln = s.kln := rfl
@[simp] theorem State.modWhl_shf (s : State) (f : Wheel → Wheel) : (s.modWhl f).shf = s.shf := rfl
@[simp] theorem State.modWhl_glz (s : State) (f : Wheel → Wheel) : (s.modWhl f).glz = s.glz := rfl
@[simp] theorem State.modWhl_pq (s : State) (f : Wheel → Wheel) : (s.modWhl f).pq = s.pq := rfl
@[simp] theorem State.modWhl_mem (s : State) (f : Wheel → Wheel) : (s.modWhl f).mem = s.mem := rfl
@[simp] theorem State.modWhl_cap (s : State) (f : Wheel → Wheel) : (s.modWhl f).cap = s.cap := rfl
@[simp] theorem State.modWhl_tsu (s : State) (f : Wheel → Wheel) : (s.modWhl f).tsu = s.tsu := rfl
@[simp] theorem State.modWhl_coil (s : State) (f : Wheel → Wheel) : (s.modWhl f).coil = s.coil := rfl
@[simp] theorem State.modWhl_hif (s : State) (f : Wheel → Wheel) : (s.modWhl f).hif = s.hif := rfl
@[simp] theorem State.modWhl_thm (s : State) (f : Wheel → Wheel) : (s.modWhl f).thm = s.thm := rfl
@[simp] theorem State.modWhl_sfe (s : State) (f : Wheel → Wheel) : (s.modWhl f).sfe = s.sfe := rfl
@[simp] theorem State.modWhl_sec (s : State) (f : Wheel → Wheel) : (s.modWhl f).sec = s.sec := rfl
@[simp] theorem State.modWhl_pins (s : State) (f : Wheel → Wheel) : (s.modWhl f).pins = s.pins := rfl
@[simp] theorem State.modWhl_freeNext (s : State) (f : Wheel → Wheel) : (s.modWhl f).freeNext = s.freeNext := rfl
@[simp] theorem State.modWhl_pending (s : State) (f : Wheel → Wheel) : (s.modWhl f).pending = s.pending := rfl

/-! ## State.modClk -/

@[simp] theorem State.modClk_now (s : State) (f : Clock → Clock) : (s.modClk f).now = s.now := rfl
@[simp] theorem State.modClk_regs (s : State) (f : Clock → Clock) : (s.modClk f).regs = s.regs := rfl
@[simp] theorem State.modClk_locks (s : State) (f : Clock → Clock) : (s.modClk f).locks = s.locks := rfl
@[simp] theorem State.modClk_stat (s : State) (f : Clock → Clock) : (s.modClk f).stat = s.stat := rfl
@[simp] theorem State.modClk_wide (s : State) (f : Clock → Clock) : (s.modClk f).wide = s.wide := rfl
@[simp] theorem State.modClk_deferred (s : State) (f : Clock → Clock) : (s.modClk f).deferred = s.deferred := rfl
@[simp] theorem State.modClk_recent (s : State) (f : Clock → Clock) : (s.modClk f).recent = s.recent := rfl
@[simp] theorem State.modClk_mbxS (s : State) (f : Clock → Clock) : (s.modClk f).mbxS = s.mbxS := rfl
@[simp] theorem State.modClk_mbxG (s : State) (f : Clock → Clock) : (s.modClk f).mbxG = s.mbxG := rfl
@[simp] theorem State.modClk_mbxH (s : State) (f : Clock → Clock) : (s.modClk f).mbxH = s.mbxH := rfl
@[simp] theorem State.modClk_lastWrites (s : State) (f : Clock → Clock) : (s.modClk f).lastWrites = s.lastWrites := rfl
@[simp] theorem State.modClk_rdata (s : State) (f : Clock → Clock) : (s.modClk f).rdata = s.rdata := rfl
@[simp] theorem State.modClk_crc (s : State) (f : Clock → Clock) : (s.modClk f).crc = s.crc := rfl
@[simp] theorem State.modClk_timers (s : State) (f : Clock → Clock) : (s.modClk f).timers = s.timers := rfl
@[simp] theorem State.modClk_log (s : State) (f : Clock → Clock) : (s.modClk f).log = s.log := rfl
@[simp] theorem State.modClk_clk (s : State) (f : Clock → Clock) : (s.modClk f).clk = f s.clk := rfl
@[simp] theorem State.modClk_mode (s : State) (f : Clock → Clock) : (s.modClk f).mode = s.mode := rfl
@[simp] theorem State.modClk_whl (s : State) (f : Clock → Clock) : (s.modClk f).whl = s.whl := rfl
@[simp] theorem State.modClk_pix (s : State) (f : Clock → Clock) : (s.modClk f).pix = s.pix := rfl
@[simp] theorem State.modClk_emt (s : State) (f : Clock → Clock) : (s.modClk f).emt = s.emt := rfl
@[simp] theorem State.modClk_str (s : State) (f : Clock → Clock) : (s.modClk f).str = s.str := rfl
@[simp] theorem State.modClk_lan (s : State) (f : Clock → Clock) : (s.modClk f).lan = s.lan := rfl
@[simp] theorem State.modClk_cal (s : State) (f : Clock → Clock) : (s.modClk f).cal = s.cal := rfl
@[simp] theorem State.modClk_kln (s : State) (f : Clock → Clock) : (s.modClk f).kln = s.kln := rfl
@[simp] theorem State.modClk_shf (s : State) (f : Clock → Clock) : (s.modClk f).shf = s.shf := rfl
@[simp] theorem State.modClk_glz (s : State) (f : Clock → Clock) : (s.modClk f).glz = s.glz := rfl
@[simp] theorem State.modClk_pq (s : State) (f : Clock → Clock) : (s.modClk f).pq = s.pq := rfl
@[simp] theorem State.modClk_mem (s : State) (f : Clock → Clock) : (s.modClk f).mem = s.mem := rfl
@[simp] theorem State.modClk_cap (s : State) (f : Clock → Clock) : (s.modClk f).cap = s.cap := rfl
@[simp] theorem State.modClk_tsu (s : State) (f : Clock → Clock) : (s.modClk f).tsu = s.tsu := rfl
@[simp] theorem State.modClk_coil (s : State) (f : Clock → Clock) : (s.modClk f).coil = s.coil := rfl
@[simp] theorem State.modClk_hif (s : State) (f : Clock → Clock) : (s.modClk f).hif = s.hif := rfl
@[simp] theorem State.modClk_thm (s : State) (f : Clock → Clock) : (s.modClk f).thm = s.thm := rfl
@[simp] theorem State.modClk_sfe (s : State) (f : Clock → Clock) : (s.modClk f).sfe = s.sfe := rfl
@[simp] theorem State.modClk_sec (s : State) (f : Clock → Clock) : (s.modClk f).sec = s.sec := rfl
@[simp] theorem State.modClk_pins (s : State) (f : Clock → Clock) : (s.modClk f).pins = s.pins := rfl
@[simp] theorem State.modClk_freeNext (s : State) (f : Clock → Clock) : (s.modClk f).freeNext = s.freeNext := rfl
@[simp] theorem State.modClk_pending (s : State) (f : Clock → Clock) : (s.modClk f).pending = s.pending := rfl

/-! ## State.modMode -/

@[simp] theorem State.modMode_now (s : State) (f : Modes → Modes) : (s.modMode f).now = s.now := rfl
@[simp] theorem State.modMode_regs (s : State) (f : Modes → Modes) : (s.modMode f).regs = s.regs := rfl
@[simp] theorem State.modMode_locks (s : State) (f : Modes → Modes) : (s.modMode f).locks = s.locks := rfl
@[simp] theorem State.modMode_stat (s : State) (f : Modes → Modes) : (s.modMode f).stat = s.stat := rfl
@[simp] theorem State.modMode_wide (s : State) (f : Modes → Modes) : (s.modMode f).wide = s.wide := rfl
@[simp] theorem State.modMode_deferred (s : State) (f : Modes → Modes) : (s.modMode f).deferred = s.deferred := rfl
@[simp] theorem State.modMode_recent (s : State) (f : Modes → Modes) : (s.modMode f).recent = s.recent := rfl
@[simp] theorem State.modMode_mbxS (s : State) (f : Modes → Modes) : (s.modMode f).mbxS = s.mbxS := rfl
@[simp] theorem State.modMode_mbxG (s : State) (f : Modes → Modes) : (s.modMode f).mbxG = s.mbxG := rfl
@[simp] theorem State.modMode_mbxH (s : State) (f : Modes → Modes) : (s.modMode f).mbxH = s.mbxH := rfl
@[simp] theorem State.modMode_lastWrites (s : State) (f : Modes → Modes) : (s.modMode f).lastWrites = s.lastWrites := rfl
@[simp] theorem State.modMode_rdata (s : State) (f : Modes → Modes) : (s.modMode f).rdata = s.rdata := rfl
@[simp] theorem State.modMode_crc (s : State) (f : Modes → Modes) : (s.modMode f).crc = s.crc := rfl
@[simp] theorem State.modMode_timers (s : State) (f : Modes → Modes) : (s.modMode f).timers = s.timers := rfl
@[simp] theorem State.modMode_log (s : State) (f : Modes → Modes) : (s.modMode f).log = s.log := rfl
@[simp] theorem State.modMode_clk (s : State) (f : Modes → Modes) : (s.modMode f).clk = s.clk := rfl
@[simp] theorem State.modMode_mode (s : State) (f : Modes → Modes) : (s.modMode f).mode = f s.mode := rfl
@[simp] theorem State.modMode_whl (s : State) (f : Modes → Modes) : (s.modMode f).whl = s.whl := rfl
@[simp] theorem State.modMode_pix (s : State) (f : Modes → Modes) : (s.modMode f).pix = s.pix := rfl
@[simp] theorem State.modMode_emt (s : State) (f : Modes → Modes) : (s.modMode f).emt = s.emt := rfl
@[simp] theorem State.modMode_str (s : State) (f : Modes → Modes) : (s.modMode f).str = s.str := rfl
@[simp] theorem State.modMode_lan (s : State) (f : Modes → Modes) : (s.modMode f).lan = s.lan := rfl
@[simp] theorem State.modMode_cal (s : State) (f : Modes → Modes) : (s.modMode f).cal = s.cal := rfl
@[simp] theorem State.modMode_kln (s : State) (f : Modes → Modes) : (s.modMode f).kln = s.kln := rfl
@[simp] theorem State.modMode_shf (s : State) (f : Modes → Modes) : (s.modMode f).shf = s.shf := rfl
@[simp] theorem State.modMode_glz (s : State) (f : Modes → Modes) : (s.modMode f).glz = s.glz := rfl
@[simp] theorem State.modMode_pq (s : State) (f : Modes → Modes) : (s.modMode f).pq = s.pq := rfl
@[simp] theorem State.modMode_mem (s : State) (f : Modes → Modes) : (s.modMode f).mem = s.mem := rfl
@[simp] theorem State.modMode_cap (s : State) (f : Modes → Modes) : (s.modMode f).cap = s.cap := rfl
@[simp] theorem State.modMode_tsu (s : State) (f : Modes → Modes) : (s.modMode f).tsu = s.tsu := rfl
@[simp] theorem State.modMode_coil (s : State) (f : Modes → Modes) : (s.modMode f).coil = s.coil := rfl
@[simp] theorem State.modMode_hif (s : State) (f : Modes → Modes) : (s.modMode f).hif = s.hif := rfl
@[simp] theorem State.modMode_thm (s : State) (f : Modes → Modes) : (s.modMode f).thm = s.thm := rfl
@[simp] theorem State.modMode_sfe (s : State) (f : Modes → Modes) : (s.modMode f).sfe = s.sfe := rfl
@[simp] theorem State.modMode_sec (s : State) (f : Modes → Modes) : (s.modMode f).sec = s.sec := rfl
@[simp] theorem State.modMode_pins (s : State) (f : Modes → Modes) : (s.modMode f).pins = s.pins := rfl
@[simp] theorem State.modMode_freeNext (s : State) (f : Modes → Modes) : (s.modMode f).freeNext = s.freeNext := rfl
@[simp] theorem State.modMode_pending (s : State) (f : Modes → Modes) : (s.modMode f).pending = s.pending := rfl

/-! ## State.modEm -/

@[simp] theorem State.modEm_now (s : State) (k : Nat) (f : Emitter → Emitter) : (s.modEm k f).now = s.now := rfl
@[simp] theorem State.modEm_regs (s : State) (k : Nat) (f : Emitter → Emitter) : (s.modEm k f).regs = s.regs := rfl
@[simp] theorem State.modEm_locks (s : State) (k : Nat) (f : Emitter → Emitter) : (s.modEm k f).locks = s.locks := rfl
@[simp] theorem State.modEm_stat (s : State) (k : Nat) (f : Emitter → Emitter) : (s.modEm k f).stat = s.stat := rfl
@[simp] theorem State.modEm_wide (s : State) (k : Nat) (f : Emitter → Emitter) : (s.modEm k f).wide = s.wide := rfl
@[simp] theorem State.modEm_deferred (s : State) (k : Nat) (f : Emitter → Emitter) : (s.modEm k f).deferred = s.deferred := rfl
@[simp] theorem State.modEm_recent (s : State) (k : Nat) (f : Emitter → Emitter) : (s.modEm k f).recent = s.recent := rfl
@[simp] theorem State.modEm_mbxS (s : State) (k : Nat) (f : Emitter → Emitter) : (s.modEm k f).mbxS = s.mbxS := rfl
@[simp] theorem State.modEm_mbxG (s : State) (k : Nat) (f : Emitter → Emitter) : (s.modEm k f).mbxG = s.mbxG := rfl
@[simp] theorem State.modEm_mbxH (s : State) (k : Nat) (f : Emitter → Emitter) : (s.modEm k f).mbxH = s.mbxH := rfl
@[simp] theorem State.modEm_lastWrites (s : State) (k : Nat) (f : Emitter → Emitter) : (s.modEm k f).lastWrites = s.lastWrites := rfl
@[simp] theorem State.modEm_rdata (s : State) (k : Nat) (f : Emitter → Emitter) : (s.modEm k f).rdata = s.rdata := rfl
@[simp] theorem State.modEm_crc (s : State) (k : Nat) (f : Emitter → Emitter) : (s.modEm k f).crc = s.crc := rfl
@[simp] theorem State.modEm_timers (s : State) (k : Nat) (f : Emitter → Emitter) : (s.modEm k f).timers = s.timers := rfl
@[simp] theorem State.modEm_log (s : State) (k : Nat) (f : Emitter → Emitter) : (s.modEm k f).log = s.log := rfl
@[simp] theorem State.modEm_clk (s : State) (k : Nat) (f : Emitter → Emitter) : (s.modEm k f).clk = s.clk := rfl
@[simp] theorem State.modEm_mode (s : State) (k : Nat) (f : Emitter → Emitter) : (s.modEm k f).mode = s.mode := rfl
@[simp] theorem State.modEm_whl (s : State) (k : Nat) (f : Emitter → Emitter) : (s.modEm k f).whl = s.whl := rfl
@[simp] theorem State.modEm_pix (s : State) (k : Nat) (f : Emitter → Emitter) : (s.modEm k f).pix = s.pix := rfl
@[simp] theorem State.modEm_emt (s : State) (k : Nat) (f : Emitter → Emitter) : (s.modEm k f).emt = { s.emt with emitters := fmod {} s.emt.emitters k f } := rfl
@[simp] theorem State.modEm_str (s : State) (k : Nat) (f : Emitter → Emitter) : (s.modEm k f).str = s.str := rfl
@[simp] theorem State.modEm_lan (s : State) (k : Nat) (f : Emitter → Emitter) : (s.modEm k f).lan = s.lan := rfl
@[simp] theorem State.modEm_cal (s : State) (k : Nat) (f : Emitter → Emitter) : (s.modEm k f).cal = s.cal := rfl
@[simp] theorem State.modEm_kln (s : State) (k : Nat) (f : Emitter → Emitter) : (s.modEm k f).kln = s.kln := rfl
@[simp] theorem State.modEm_shf (s : State) (k : Nat) (f : Emitter → Emitter) : (s.modEm k f).shf = s.shf := rfl
@[simp] theorem State.modEm_glz (s : State) (k : Nat) (f : Emitter → Emitter) : (s.modEm k f).glz = s.glz := rfl
@[simp] theorem State.modEm_pq (s : State) (k : Nat) (f : Emitter → Emitter) : (s.modEm k f).pq = s.pq := rfl
@[simp] theorem State.modEm_mem (s : State) (k : Nat) (f : Emitter → Emitter) : (s.modEm k f).mem = s.mem := rfl
@[simp] theorem State.modEm_cap (s : State) (k : Nat) (f : Emitter → Emitter) : (s.modEm k f).cap = s.cap := rfl
@[simp] theorem State.modEm_tsu (s : State) (k : Nat) (f : Emitter → Emitter) : (s.modEm k f).tsu = s.tsu := rfl
@[simp] theorem State.modEm_coil (s : State) (k : Nat) (f : Emitter → Emitter) : (s.modEm k f).coil = s.coil := rfl
@[simp] theorem State.modEm_hif (s : State) (k : Nat) (f : Emitter → Emitter) : (s.modEm k f).hif = s.hif := rfl
@[simp] theorem State.modEm_thm (s : State) (k : Nat) (f : Emitter → Emitter) : (s.modEm k f).thm = s.thm := rfl
@[simp] theorem State.modEm_sfe (s : State) (k : Nat) (f : Emitter → Emitter) : (s.modEm k f).sfe = s.sfe := rfl
@[simp] theorem State.modEm_sec (s : State) (k : Nat) (f : Emitter → Emitter) : (s.modEm k f).sec = s.sec := rfl
@[simp] theorem State.modEm_pins (s : State) (k : Nat) (f : Emitter → Emitter) : (s.modEm k f).pins = s.pins := rfl
@[simp] theorem State.modEm_freeNext (s : State) (k : Nat) (f : Emitter → Emitter) : (s.modEm k f).freeNext = s.freeNext := rfl
@[simp] theorem State.modEm_pending (s : State) (k : Nat) (f : Emitter → Emitter) : (s.modEm k f).pending = s.pending := rfl

/-! ## State.modAx -/

@[simp] theorem State.modAx_now (s : State) (a : Nat) (f : Axis → Axis) : (s.modAx a f).now = s.now := rfl
@[simp] theorem State.modAx_regs (s : State) (a : Nat) (f : Axis → Axis) : (s.modAx a f).regs = s.regs := rfl
@[simp] theorem State.modAx_locks (s : State) (a : Nat) (f : Axis → Axis) : (s.modAx a f).locks = s.locks := rfl
@[simp] theorem State.modAx_stat (s : State) (a : Nat) (f : Axis → Axis) : (s.modAx a f).stat = s.stat := rfl
@[simp] theorem State.modAx_wide (s : State) (a : Nat) (f : Axis → Axis) : (s.modAx a f).wide = s.wide := rfl
@[simp] theorem State.modAx_deferred (s : State) (a : Nat) (f : Axis → Axis) : (s.modAx a f).deferred = s.deferred := rfl
@[simp] theorem State.modAx_recent (s : State) (a : Nat) (f : Axis → Axis) : (s.modAx a f).recent = s.recent := rfl
@[simp] theorem State.modAx_mbxS (s : State) (a : Nat) (f : Axis → Axis) : (s.modAx a f).mbxS = s.mbxS := rfl
@[simp] theorem State.modAx_mbxG (s : State) (a : Nat) (f : Axis → Axis) : (s.modAx a f).mbxG = s.mbxG := rfl
@[simp] theorem State.modAx_mbxH (s : State) (a : Nat) (f : Axis → Axis) : (s.modAx a f).mbxH = s.mbxH := rfl
@[simp] theorem State.modAx_lastWrites (s : State) (a : Nat) (f : Axis → Axis) : (s.modAx a f).lastWrites = s.lastWrites := rfl
@[simp] theorem State.modAx_rdata (s : State) (a : Nat) (f : Axis → Axis) : (s.modAx a f).rdata = s.rdata := rfl
@[simp] theorem State.modAx_crc (s : State) (a : Nat) (f : Axis → Axis) : (s.modAx a f).crc = s.crc := rfl
@[simp] theorem State.modAx_timers (s : State) (a : Nat) (f : Axis → Axis) : (s.modAx a f).timers = s.timers := rfl
@[simp] theorem State.modAx_log (s : State) (a : Nat) (f : Axis → Axis) : (s.modAx a f).log = s.log := rfl
@[simp] theorem State.modAx_clk (s : State) (a : Nat) (f : Axis → Axis) : (s.modAx a f).clk = s.clk := rfl
@[simp] theorem State.modAx_mode (s : State) (a : Nat) (f : Axis → Axis) : (s.modAx a f).mode = s.mode := rfl
@[simp] theorem State.modAx_whl (s : State) (a : Nat) (f : Axis → Axis) : (s.modAx a f).whl = s.whl := rfl
@[simp] theorem State.modAx_pix (s : State) (a : Nat) (f : Axis → Axis) : (s.modAx a f).pix = s.pix := rfl
@[simp] theorem State.modAx_emt (s : State) (a : Nat) (f : Axis → Axis) : (s.modAx a f).emt = s.emt := rfl
@[simp] theorem State.modAx_lan (s : State) (a : Nat) (f : Axis → Axis) : (s.modAx a f).lan = s.lan := rfl
@[simp] theorem State.modAx_cal (s : State) (a : Nat) (f : Axis → Axis) : (s.modAx a f).cal = s.cal := rfl
@[simp] theorem State.modAx_kln (s : State) (a : Nat) (f : Axis → Axis) : (s.modAx a f).kln = s.kln := rfl
@[simp] theorem State.modAx_shf (s : State) (a : Nat) (f : Axis → Axis) : (s.modAx a f).shf = s.shf := rfl
@[simp] theorem State.modAx_glz (s : State) (a : Nat) (f : Axis → Axis) : (s.modAx a f).glz = s.glz := rfl
@[simp] theorem State.modAx_pq (s : State) (a : Nat) (f : Axis → Axis) : (s.modAx a f).pq = s.pq := rfl
@[simp] theorem State.modAx_mem (s : State) (a : Nat) (f : Axis → Axis) : (s.modAx a f).mem = s.mem := rfl
@[simp] theorem State.modAx_cap (s : State) (a : Nat) (f : Axis → Axis) : (s.modAx a f).cap = s.cap := rfl
@[simp] theorem State.modAx_tsu (s : State) (a : Nat) (f : Axis → Axis) : (s.modAx a f).tsu = s.tsu := rfl
@[simp] theorem State.modAx_coil (s : State) (a : Nat) (f : Axis → Axis) : (s.modAx a f).coil = s.coil := rfl
@[simp] theorem State.modAx_hif (s : State) (a : Nat) (f : Axis → Axis) : (s.modAx a f).hif = s.hif := rfl
@[simp] theorem State.modAx_thm (s : State) (a : Nat) (f : Axis → Axis) : (s.modAx a f).thm = s.thm := rfl
@[simp] theorem State.modAx_sfe (s : State) (a : Nat) (f : Axis → Axis) : (s.modAx a f).sfe = s.sfe := rfl
@[simp] theorem State.modAx_sec (s : State) (a : Nat) (f : Axis → Axis) : (s.modAx a f).sec = s.sec := rfl
@[simp] theorem State.modAx_pins (s : State) (a : Nat) (f : Axis → Axis) : (s.modAx a f).pins = s.pins := rfl
@[simp] theorem State.modAx_freeNext (s : State) (a : Nat) (f : Axis → Axis) : (s.modAx a f).freeNext = s.freeNext := rfl
@[simp] theorem State.modAx_pending (s : State) (a : Nat) (f : Axis → Axis) : (s.modAx a f).pending = s.pending := rfl

/-! ## State.modTr -/

@[simp] theorem State.modTr_now (s : State) (a : Nat) (f : Trace → Trace) : (s.modTr a f).now = s.now := rfl
@[simp] theorem State.modTr_regs (s : State) (a : Nat) (f : Trace → Trace) : (s.modTr a f).regs = s.regs := rfl
@[simp] theorem State.modTr_locks (s : State) (a : Nat) (f : Trace → Trace) : (s.modTr a f).locks = s.locks := rfl
@[simp] theorem State.modTr_stat (s : State) (a : Nat) (f : Trace → Trace) : (s.modTr a f).stat = s.stat := rfl
@[simp] theorem State.modTr_wide (s : State) (a : Nat) (f : Trace → Trace) : (s.modTr a f).wide = s.wide := rfl
@[simp] theorem State.modTr_deferred (s : State) (a : Nat) (f : Trace → Trace) : (s.modTr a f).deferred = s.deferred := rfl
@[simp] theorem State.modTr_recent (s : State) (a : Nat) (f : Trace → Trace) : (s.modTr a f).recent = s.recent := rfl
@[simp] theorem State.modTr_mbxS (s : State) (a : Nat) (f : Trace → Trace) : (s.modTr a f).mbxS = s.mbxS := rfl
@[simp] theorem State.modTr_mbxG (s : State) (a : Nat) (f : Trace → Trace) : (s.modTr a f).mbxG = s.mbxG := rfl
@[simp] theorem State.modTr_mbxH (s : State) (a : Nat) (f : Trace → Trace) : (s.modTr a f).mbxH = s.mbxH := rfl
@[simp] theorem State.modTr_lastWrites (s : State) (a : Nat) (f : Trace → Trace) : (s.modTr a f).lastWrites = s.lastWrites := rfl
@[simp] theorem State.modTr_rdata (s : State) (a : Nat) (f : Trace → Trace) : (s.modTr a f).rdata = s.rdata := rfl
@[simp] theorem State.modTr_crc (s : State) (a : Nat) (f : Trace → Trace) : (s.modTr a f).crc = s.crc := rfl
@[simp] theorem State.modTr_timers (s : State) (a : Nat) (f : Trace → Trace) : (s.modTr a f).timers = s.timers := rfl
@[simp] theorem State.modTr_log (s : State) (a : Nat) (f : Trace → Trace) : (s.modTr a f).log = s.log := rfl
@[simp] theorem State.modTr_clk (s : State) (a : Nat) (f : Trace → Trace) : (s.modTr a f).clk = s.clk := rfl
@[simp] theorem State.modTr_mode (s : State) (a : Nat) (f : Trace → Trace) : (s.modTr a f).mode = s.mode := rfl
@[simp] theorem State.modTr_whl (s : State) (a : Nat) (f : Trace → Trace) : (s.modTr a f).whl = s.whl := rfl
@[simp] theorem State.modTr_pix (s : State) (a : Nat) (f : Trace → Trace) : (s.modTr a f).pix = s.pix := rfl
@[simp] theorem State.modTr_emt (s : State) (a : Nat) (f : Trace → Trace) : (s.modTr a f).emt = s.emt := rfl
@[simp] theorem State.modTr_lan (s : State) (a : Nat) (f : Trace → Trace) : (s.modTr a f).lan = s.lan := rfl
@[simp] theorem State.modTr_cal (s : State) (a : Nat) (f : Trace → Trace) : (s.modTr a f).cal = s.cal := rfl
@[simp] theorem State.modTr_kln (s : State) (a : Nat) (f : Trace → Trace) : (s.modTr a f).kln = s.kln := rfl
@[simp] theorem State.modTr_shf (s : State) (a : Nat) (f : Trace → Trace) : (s.modTr a f).shf = s.shf := rfl
@[simp] theorem State.modTr_glz (s : State) (a : Nat) (f : Trace → Trace) : (s.modTr a f).glz = s.glz := rfl
@[simp] theorem State.modTr_pq (s : State) (a : Nat) (f : Trace → Trace) : (s.modTr a f).pq = s.pq := rfl
@[simp] theorem State.modTr_mem (s : State) (a : Nat) (f : Trace → Trace) : (s.modTr a f).mem = s.mem := rfl
@[simp] theorem State.modTr_cap (s : State) (a : Nat) (f : Trace → Trace) : (s.modTr a f).cap = s.cap := rfl
@[simp] theorem State.modTr_tsu (s : State) (a : Nat) (f : Trace → Trace) : (s.modTr a f).tsu = s.tsu := rfl
@[simp] theorem State.modTr_coil (s : State) (a : Nat) (f : Trace → Trace) : (s.modTr a f).coil = s.coil := rfl
@[simp] theorem State.modTr_hif (s : State) (a : Nat) (f : Trace → Trace) : (s.modTr a f).hif = s.hif := rfl
@[simp] theorem State.modTr_thm (s : State) (a : Nat) (f : Trace → Trace) : (s.modTr a f).thm = s.thm := rfl
@[simp] theorem State.modTr_sfe (s : State) (a : Nat) (f : Trace → Trace) : (s.modTr a f).sfe = s.sfe := rfl
@[simp] theorem State.modTr_sec (s : State) (a : Nat) (f : Trace → Trace) : (s.modTr a f).sec = s.sec := rfl
@[simp] theorem State.modTr_pins (s : State) (a : Nat) (f : Trace → Trace) : (s.modTr a f).pins = s.pins := rfl
@[simp] theorem State.modTr_freeNext (s : State) (a : Nat) (f : Trace → Trace) : (s.modTr a f).freeNext = s.freeNext := rfl
@[simp] theorem State.modTr_pending (s : State) (a : Nat) (f : Trace → Trace) : (s.modTr a f).pending = s.pending := rfl

/-! ## State.modLane -/

@[simp] theorem State.modLane_now (s : State) (l : Nat) (f : Lane → Lane) : (s.modLane l f).now = s.now := rfl
@[simp] theorem State.modLane_regs (s : State) (l : Nat) (f : Lane → Lane) : (s.modLane l f).regs = s.regs := rfl
@[simp] theorem State.modLane_locks (s : State) (l : Nat) (f : Lane → Lane) : (s.modLane l f).locks = s.locks := rfl
@[simp] theorem State.modLane_stat (s : State) (l : Nat) (f : Lane → Lane) : (s.modLane l f).stat = s.stat := rfl
@[simp] theorem State.modLane_wide (s : State) (l : Nat) (f : Lane → Lane) : (s.modLane l f).wide = s.wide := rfl
@[simp] theorem State.modLane_deferred (s : State) (l : Nat) (f : Lane → Lane) : (s.modLane l f).deferred = s.deferred := rfl
@[simp] theorem State.modLane_recent (s : State) (l : Nat) (f : Lane → Lane) : (s.modLane l f).recent = s.recent := rfl
@[simp] theorem State.modLane_mbxS (s : State) (l : Nat) (f : Lane → Lane) : (s.modLane l f).mbxS = s.mbxS := rfl
@[simp] theorem State.modLane_mbxG (s : State) (l : Nat) (f : Lane → Lane) : (s.modLane l f).mbxG = s.mbxG := rfl
@[simp] theorem State.modLane_mbxH (s : State) (l : Nat) (f : Lane → Lane) : (s.modLane l f).mbxH = s.mbxH := rfl
@[simp] theorem State.modLane_lastWrites (s : State) (l : Nat) (f : Lane → Lane) : (s.modLane l f).lastWrites = s.lastWrites := rfl
@[simp] theorem State.modLane_rdata (s : State) (l : Nat) (f : Lane → Lane) : (s.modLane l f).rdata = s.rdata := rfl
@[simp] theorem State.modLane_crc (s : State) (l : Nat) (f : Lane → Lane) : (s.modLane l f).crc = s.crc := rfl
@[simp] theorem State.modLane_timers (s : State) (l : Nat) (f : Lane → Lane) : (s.modLane l f).timers = s.timers := rfl
@[simp] theorem State.modLane_log (s : State) (l : Nat) (f : Lane → Lane) : (s.modLane l f).log = s.log := rfl
@[simp] theorem State.modLane_clk (s : State) (l : Nat) (f : Lane → Lane) : (s.modLane l f).clk = s.clk := rfl
@[simp] theorem State.modLane_mode (s : State) (l : Nat) (f : Lane → Lane) : (s.modLane l f).mode = s.mode := rfl
@[simp] theorem State.modLane_whl (s : State) (l : Nat) (f : Lane → Lane) : (s.modLane l f).whl = s.whl := rfl
@[simp] theorem State.modLane_pix (s : State) (l : Nat) (f : Lane → Lane) : (s.modLane l f).pix = s.pix := rfl
@[simp] theorem State.modLane_emt (s : State) (l : Nat) (f : Lane → Lane) : (s.modLane l f).emt = s.emt := rfl
@[simp] theorem State.modLane_str (s : State) (l : Nat) (f : Lane → Lane) : (s.modLane l f).str = s.str := rfl
@[simp] theorem State.modLane_lan (s : State) (l : Nat) (f : Lane → Lane) : (s.modLane l f).lan = { s.lan with lane := fmod {} s.lan.lane l f } := rfl
@[simp] theorem State.modLane_cal (s : State) (l : Nat) (f : Lane → Lane) : (s.modLane l f).cal = s.cal := rfl
@[simp] theorem State.modLane_kln (s : State) (l : Nat) (f : Lane → Lane) : (s.modLane l f).kln = s.kln := rfl
@[simp] theorem State.modLane_shf (s : State) (l : Nat) (f : Lane → Lane) : (s.modLane l f).shf = s.shf := rfl
@[simp] theorem State.modLane_glz (s : State) (l : Nat) (f : Lane → Lane) : (s.modLane l f).glz = s.glz := rfl
@[simp] theorem State.modLane_pq (s : State) (l : Nat) (f : Lane → Lane) : (s.modLane l f).pq = s.pq := rfl
@[simp] theorem State.modLane_mem (s : State) (l : Nat) (f : Lane → Lane) : (s.modLane l f).mem = s.mem := rfl
@[simp] theorem State.modLane_cap (s : State) (l : Nat) (f : Lane → Lane) : (s.modLane l f).cap = s.cap := rfl
@[simp] theorem State.modLane_tsu (s : State) (l : Nat) (f : Lane → Lane) : (s.modLane l f).tsu = s.tsu := rfl
@[simp] theorem State.modLane_coil (s : State) (l : Nat) (f : Lane → Lane) : (s.modLane l f).coil = s.coil := rfl
@[simp] theorem State.modLane_hif (s : State) (l : Nat) (f : Lane → Lane) : (s.modLane l f).hif = s.hif := rfl
@[simp] theorem State.modLane_thm (s : State) (l : Nat) (f : Lane → Lane) : (s.modLane l f).thm = s.thm := rfl
@[simp] theorem State.modLane_sfe (s : State) (l : Nat) (f : Lane → Lane) : (s.modLane l f).sfe = s.sfe := rfl
@[simp] theorem State.modLane_sec (s : State) (l : Nat) (f : Lane → Lane) : (s.modLane l f).sec = s.sec := rfl
@[simp] theorem State.modLane_pins (s : State) (l : Nat) (f : Lane → Lane) : (s.modLane l f).pins = s.pins := rfl
@[simp] theorem State.modLane_freeNext (s : State) (l : Nat) (f : Lane → Lane) : (s.modLane l f).freeNext = s.freeNext := rfl
@[simp] theorem State.modLane_pending (s : State) (l : Nat) (f : Lane → Lane) : (s.modLane l f).pending = s.pending := rfl

/-! ## State.modRun -/

@[simp] theorem State.modRun_now (s : State) (l : Nat) (f : CalRun → CalRun) : (s.modRun l f).now = s.now := rfl
@[simp] theorem State.modRun_regs (s : State) (l : Nat) (f : CalRun → CalRun) : (s.modRun l f).regs = s.regs := rfl
@[simp] theorem State.modRun_locks (s : State) (l : Nat) (f : CalRun → CalRun) : (s.modRun l f).locks = s.locks := rfl
@[simp] theorem State.modRun_stat (s : State) (l : Nat) (f : CalRun → CalRun) : (s.modRun l f).stat = s.stat := rfl
@[simp] theorem State.modRun_wide (s : State) (l : Nat) (f : CalRun → CalRun) : (s.modRun l f).wide = s.wide := rfl
@[simp] theorem State.modRun_deferred (s : State) (l : Nat) (f : CalRun → CalRun) : (s.modRun l f).deferred = s.deferred := rfl
@[simp] theorem State.modRun_recent (s : State) (l : Nat) (f : CalRun → CalRun) : (s.modRun l f).recent = s.recent := rfl
@[simp] theorem State.modRun_mbxS (s : State) (l : Nat) (f : CalRun → CalRun) : (s.modRun l f).mbxS = s.mbxS := rfl
@[simp] theorem State.modRun_mbxG (s : State) (l : Nat) (f : CalRun → CalRun) : (s.modRun l f).mbxG = s.mbxG := rfl
@[simp] theorem State.modRun_mbxH (s : State) (l : Nat) (f : CalRun → CalRun) : (s.modRun l f).mbxH = s.mbxH := rfl
@[simp] theorem State.modRun_lastWrites (s : State) (l : Nat) (f : CalRun → CalRun) : (s.modRun l f).lastWrites = s.lastWrites := rfl
@[simp] theorem State.modRun_rdata (s : State) (l : Nat) (f : CalRun → CalRun) : (s.modRun l f).rdata = s.rdata := rfl
@[simp] theorem State.modRun_crc (s : State) (l : Nat) (f : CalRun → CalRun) : (s.modRun l f).crc = s.crc := rfl
@[simp] theorem State.modRun_timers (s : State) (l : Nat) (f : CalRun → CalRun) : (s.modRun l f).timers = s.timers := rfl
@[simp] theorem State.modRun_log (s : State) (l : Nat) (f : CalRun → CalRun) : (s.modRun l f).log = s.log := rfl
@[simp] theorem State.modRun_clk (s : State) (l : Nat) (f : CalRun → CalRun) : (s.modRun l f).clk = s.clk := rfl
@[simp] theorem State.modRun_mode (s : State) (l : Nat) (f : CalRun → CalRun) : (s.modRun l f).mode = s.mode := rfl
@[simp] theorem State.modRun_whl (s : State) (l : Nat) (f : CalRun → CalRun) : (s.modRun l f).whl = s.whl := rfl
@[simp] theorem State.modRun_pix (s : State) (l : Nat) (f : CalRun → CalRun) : (s.modRun l f).pix = s.pix := rfl
@[simp] theorem State.modRun_emt (s : State) (l : Nat) (f : CalRun → CalRun) : (s.modRun l f).emt = s.emt := rfl
@[simp] theorem State.modRun_str (s : State) (l : Nat) (f : CalRun → CalRun) : (s.modRun l f).str = s.str := rfl
@[simp] theorem State.modRun_lan (s : State) (l : Nat) (f : CalRun → CalRun) : (s.modRun l f).lan = s.lan := rfl
@[simp] theorem State.modRun_cal (s : State) (l : Nat) (f : CalRun → CalRun) : (s.modRun l f).cal = { s.cal with runs := fmod {} s.cal.runs l f } := rfl
@[simp] theorem State.modRun_kln (s : State) (l : Nat) (f : CalRun → CalRun) : (s.modRun l f).kln = s.kln := rfl
@[simp] theorem State.modRun_shf (s : State) (l : Nat) (f : CalRun → CalRun) : (s.modRun l f).shf = s.shf := rfl
@[simp] theorem State.modRun_glz (s : State) (l : Nat) (f : CalRun → CalRun) : (s.modRun l f).glz = s.glz := rfl
@[simp] theorem State.modRun_pq (s : State) (l : Nat) (f : CalRun → CalRun) : (s.modRun l f).pq = s.pq := rfl
@[simp] theorem State.modRun_mem (s : State) (l : Nat) (f : CalRun → CalRun) : (s.modRun l f).mem = s.mem := rfl
@[simp] theorem State.modRun_cap (s : State) (l : Nat) (f : CalRun → CalRun) : (s.modRun l f).cap = s.cap := rfl
@[simp] theorem State.modRun_tsu (s : State) (l : Nat) (f : CalRun → CalRun) : (s.modRun l f).tsu = s.tsu := rfl
@[simp] theorem State.modRun_coil (s : State) (l : Nat) (f : CalRun → CalRun) : (s.modRun l f).coil = s.coil := rfl
@[simp] theorem State.modRun_hif (s : State) (l : Nat) (f : CalRun → CalRun) : (s.modRun l f).hif = s.hif := rfl
@[simp] theorem State.modRun_thm (s : State) (l : Nat) (f : CalRun → CalRun) : (s.modRun l f).thm = s.thm := rfl
@[simp] theorem State.modRun_sfe (s : State) (l : Nat) (f : CalRun → CalRun) : (s.modRun l f).sfe = s.sfe := rfl
@[simp] theorem State.modRun_sec (s : State) (l : Nat) (f : CalRun → CalRun) : (s.modRun l f).sec = s.sec := rfl
@[simp] theorem State.modRun_pins (s : State) (l : Nat) (f : CalRun → CalRun) : (s.modRun l f).pins = s.pins := rfl
@[simp] theorem State.modRun_freeNext (s : State) (l : Nat) (f : CalRun → CalRun) : (s.modRun l f).freeNext = s.freeNext := rfl
@[simp] theorem State.modRun_pending (s : State) (l : Nat) (f : CalRun → CalRun) : (s.modRun l f).pending = s.pending := rfl

/-! ## State.modKiln -/

@[simp] theorem State.modKiln_now (s : State) (k : Nat) (f : Kiln → Kiln) : (s.modKiln k f).now = s.now := rfl
@[simp] theorem State.modKiln_regs (s : State) (k : Nat) (f : Kiln → Kiln) : (s.modKiln k f).regs = s.regs := rfl
@[simp] theorem State.modKiln_locks (s : State) (k : Nat) (f : Kiln → Kiln) : (s.modKiln k f).locks = s.locks := rfl
@[simp] theorem State.modKiln_stat (s : State) (k : Nat) (f : Kiln → Kiln) : (s.modKiln k f).stat = s.stat := rfl
@[simp] theorem State.modKiln_wide (s : State) (k : Nat) (f : Kiln → Kiln) : (s.modKiln k f).wide = s.wide := rfl
@[simp] theorem State.modKiln_deferred (s : State) (k : Nat) (f : Kiln → Kiln) : (s.modKiln k f).deferred = s.deferred := rfl
@[simp] theorem State.modKiln_recent (s : State) (k : Nat) (f : Kiln → Kiln) : (s.modKiln k f).recent = s.recent := rfl
@[simp] theorem State.modKiln_mbxS (s : State) (k : Nat) (f : Kiln → Kiln) : (s.modKiln k f).mbxS = s.mbxS := rfl
@[simp] theorem State.modKiln_mbxG (s : State) (k : Nat) (f : Kiln → Kiln) : (s.modKiln k f).mbxG = s.mbxG := rfl
@[simp] theorem State.modKiln_mbxH (s : State) (k : Nat) (f : Kiln → Kiln) : (s.modKiln k f).mbxH = s.mbxH := rfl
@[simp] theorem State.modKiln_lastWrites (s : State) (k : Nat) (f : Kiln → Kiln) : (s.modKiln k f).lastWrites = s.lastWrites := rfl
@[simp] theorem State.modKiln_rdata (s : State) (k : Nat) (f : Kiln → Kiln) : (s.modKiln k f).rdata = s.rdata := rfl
@[simp] theorem State.modKiln_crc (s : State) (k : Nat) (f : Kiln → Kiln) : (s.modKiln k f).crc = s.crc := rfl
@[simp] theorem State.modKiln_timers (s : State) (k : Nat) (f : Kiln → Kiln) : (s.modKiln k f).timers = s.timers := rfl
@[simp] theorem State.modKiln_log (s : State) (k : Nat) (f : Kiln → Kiln) : (s.modKiln k f).log = s.log := rfl
@[simp] theorem State.modKiln_clk (s : State) (k : Nat) (f : Kiln → Kiln) : (s.modKiln k f).clk = s.clk := rfl
@[simp] theorem State.modKiln_mode (s : State) (k : Nat) (f : Kiln → Kiln) : (s.modKiln k f).mode = s.mode := rfl
@[simp] theorem State.modKiln_whl (s : State) (k : Nat) (f : Kiln → Kiln) : (s.modKiln k f).whl = s.whl := rfl
@[simp] theorem State.modKiln_pix (s : State) (k : Nat) (f : Kiln → Kiln) : (s.modKiln k f).pix = s.pix := rfl
@[simp] theorem State.modKiln_emt (s : State) (k : Nat) (f : Kiln → Kiln) : (s.modKiln k f).emt = s.emt := rfl
@[simp] theorem State.modKiln_str (s : State) (k : Nat) (f : Kiln → Kiln) : (s.modKiln k f).str = s.str := rfl
@[simp] theorem State.modKiln_lan (s : State) (k : Nat) (f : Kiln → Kiln) : (s.modKiln k f).lan = s.lan := rfl
@[simp] theorem State.modKiln_cal (s : State) (k : Nat) (f : Kiln → Kiln) : (s.modKiln k f).cal = s.cal := rfl
@[simp] theorem State.modKiln_kln (s : State) (k : Nat) (f : Kiln → Kiln) : (s.modKiln k f).kln = fmod {} s.kln k f := rfl
@[simp] theorem State.modKiln_shf (s : State) (k : Nat) (f : Kiln → Kiln) : (s.modKiln k f).shf = s.shf := rfl
@[simp] theorem State.modKiln_glz (s : State) (k : Nat) (f : Kiln → Kiln) : (s.modKiln k f).glz = s.glz := rfl
@[simp] theorem State.modKiln_pq (s : State) (k : Nat) (f : Kiln → Kiln) : (s.modKiln k f).pq = s.pq := rfl
@[simp] theorem State.modKiln_mem (s : State) (k : Nat) (f : Kiln → Kiln) : (s.modKiln k f).mem = s.mem := rfl
@[simp] theorem State.modKiln_cap (s : State) (k : Nat) (f : Kiln → Kiln) : (s.modKiln k f).cap = s.cap := rfl
@[simp] theorem State.modKiln_tsu (s : State) (k : Nat) (f : Kiln → Kiln) : (s.modKiln k f).tsu = s.tsu := rfl
@[simp] theorem State.modKiln_coil (s : State) (k : Nat) (f : Kiln → Kiln) : (s.modKiln k f).coil = s.coil := rfl
@[simp] theorem State.modKiln_hif (s : State) (k : Nat) (f : Kiln → Kiln) : (s.modKiln k f).hif = s.hif := rfl
@[simp] theorem State.modKiln_thm (s : State) (k : Nat) (f : Kiln → Kiln) : (s.modKiln k f).thm = s.thm := rfl
@[simp] theorem State.modKiln_sfe (s : State) (k : Nat) (f : Kiln → Kiln) : (s.modKiln k f).sfe = s.sfe := rfl
@[simp] theorem State.modKiln_sec (s : State) (k : Nat) (f : Kiln → Kiln) : (s.modKiln k f).sec = s.sec := rfl
@[simp] theorem State.modKiln_pins (s : State) (k : Nat) (f : Kiln → Kiln) : (s.modKiln k f).pins = s.pins := rfl
@[simp] theorem State.modKiln_freeNext (s : State) (k : Nat) (f : Kiln → Kiln) : (s.modKiln k f).freeNext = s.freeNext := rfl
@[simp] theorem State.modKiln_pending (s : State) (k : Nat) (f : Kiln → Kiln) : (s.modKiln k f).pending = s.pending := rfl

/-! ## State.modGlaze -/

@[simp] theorem State.modGlaze_now (s : State) (k : Nat) (f : Glaze → Glaze) : (s.modGlaze k f).now = s.now := rfl
@[simp] theorem State.modGlaze_regs (s : State) (k : Nat) (f : Glaze → Glaze) : (s.modGlaze k f).regs = s.regs := rfl
@[simp] theorem State.modGlaze_locks (s : State) (k : Nat) (f : Glaze → Glaze) : (s.modGlaze k f).locks = s.locks := rfl
@[simp] theorem State.modGlaze_stat (s : State) (k : Nat) (f : Glaze → Glaze) : (s.modGlaze k f).stat = s.stat := rfl
@[simp] theorem State.modGlaze_wide (s : State) (k : Nat) (f : Glaze → Glaze) : (s.modGlaze k f).wide = s.wide := rfl
@[simp] theorem State.modGlaze_deferred (s : State) (k : Nat) (f : Glaze → Glaze) : (s.modGlaze k f).deferred = s.deferred := rfl
@[simp] theorem State.modGlaze_recent (s : State) (k : Nat) (f : Glaze → Glaze) : (s.modGlaze k f).recent = s.recent := rfl
@[simp] theorem State.modGlaze_mbxS (s : State) (k : Nat) (f : Glaze → Glaze) : (s.modGlaze k f).mbxS = s.mbxS := rfl
@[simp] theorem State.modGlaze_mbxG (s : State) (k : Nat) (f : Glaze → Glaze) : (s.modGlaze k f).mbxG = s.mbxG := rfl
@[simp] theorem State.modGlaze_mbxH (s : State) (k : Nat) (f : Glaze → Glaze) : (s.modGlaze k f).mbxH = s.mbxH := rfl
@[simp] theorem State.modGlaze_lastWrites (s : State) (k : Nat) (f : Glaze → Glaze) : (s.modGlaze k f).lastWrites = s.lastWrites := rfl
@[simp] theorem State.modGlaze_rdata (s : State) (k : Nat) (f : Glaze → Glaze) : (s.modGlaze k f).rdata = s.rdata := rfl
@[simp] theorem State.modGlaze_crc (s : State) (k : Nat) (f : Glaze → Glaze) : (s.modGlaze k f).crc = s.crc := rfl
@[simp] theorem State.modGlaze_timers (s : State) (k : Nat) (f : Glaze → Glaze) : (s.modGlaze k f).timers = s.timers := rfl
@[simp] theorem State.modGlaze_log (s : State) (k : Nat) (f : Glaze → Glaze) : (s.modGlaze k f).log = s.log := rfl
@[simp] theorem State.modGlaze_clk (s : State) (k : Nat) (f : Glaze → Glaze) : (s.modGlaze k f).clk = s.clk := rfl
@[simp] theorem State.modGlaze_mode (s : State) (k : Nat) (f : Glaze → Glaze) : (s.modGlaze k f).mode = s.mode := rfl
@[simp] theorem State.modGlaze_whl (s : State) (k : Nat) (f : Glaze → Glaze) : (s.modGlaze k f).whl = s.whl := rfl
@[simp] theorem State.modGlaze_pix (s : State) (k : Nat) (f : Glaze → Glaze) : (s.modGlaze k f).pix = s.pix := rfl
@[simp] theorem State.modGlaze_emt (s : State) (k : Nat) (f : Glaze → Glaze) : (s.modGlaze k f).emt = s.emt := rfl
@[simp] theorem State.modGlaze_str (s : State) (k : Nat) (f : Glaze → Glaze) : (s.modGlaze k f).str = s.str := rfl
@[simp] theorem State.modGlaze_lan (s : State) (k : Nat) (f : Glaze → Glaze) : (s.modGlaze k f).lan = s.lan := rfl
@[simp] theorem State.modGlaze_cal (s : State) (k : Nat) (f : Glaze → Glaze) : (s.modGlaze k f).cal = s.cal := rfl
@[simp] theorem State.modGlaze_kln (s : State) (k : Nat) (f : Glaze → Glaze) : (s.modGlaze k f).kln = s.kln := rfl
@[simp] theorem State.modGlaze_shf (s : State) (k : Nat) (f : Glaze → Glaze) : (s.modGlaze k f).shf = s.shf := rfl
@[simp] theorem State.modGlaze_glz (s : State) (k : Nat) (f : Glaze → Glaze) : (s.modGlaze k f).glz = fmod {} s.glz k f := rfl
@[simp] theorem State.modGlaze_pq (s : State) (k : Nat) (f : Glaze → Glaze) : (s.modGlaze k f).pq = s.pq := rfl
@[simp] theorem State.modGlaze_mem (s : State) (k : Nat) (f : Glaze → Glaze) : (s.modGlaze k f).mem = s.mem := rfl
@[simp] theorem State.modGlaze_cap (s : State) (k : Nat) (f : Glaze → Glaze) : (s.modGlaze k f).cap = s.cap := rfl
@[simp] theorem State.modGlaze_tsu (s : State) (k : Nat) (f : Glaze → Glaze) : (s.modGlaze k f).tsu = s.tsu := rfl
@[simp] theorem State.modGlaze_coil (s : State) (k : Nat) (f : Glaze → Glaze) : (s.modGlaze k f).coil = s.coil := rfl
@[simp] theorem State.modGlaze_hif (s : State) (k : Nat) (f : Glaze → Glaze) : (s.modGlaze k f).hif = s.hif := rfl
@[simp] theorem State.modGlaze_thm (s : State) (k : Nat) (f : Glaze → Glaze) : (s.modGlaze k f).thm = s.thm := rfl
@[simp] theorem State.modGlaze_sfe (s : State) (k : Nat) (f : Glaze → Glaze) : (s.modGlaze k f).sfe = s.sfe := rfl
@[simp] theorem State.modGlaze_sec (s : State) (k : Nat) (f : Glaze → Glaze) : (s.modGlaze k f).sec = s.sec := rfl
@[simp] theorem State.modGlaze_pins (s : State) (k : Nat) (f : Glaze → Glaze) : (s.modGlaze k f).pins = s.pins := rfl
@[simp] theorem State.modGlaze_freeNext (s : State) (k : Nat) (f : Glaze → Glaze) : (s.modGlaze k f).freeNext = s.freeNext := rfl
@[simp] theorem State.modGlaze_pending (s : State) (k : Nat) (f : Glaze → Glaze) : (s.modGlaze k f).pending = s.pending := rfl

/-! ## State.modBuf -/

@[simp] theorem State.modBuf_now (s : State) (k i : Nat) (f : KBuf → KBuf) : (s.modBuf k i f).now = s.now := rfl
@[simp] theorem State.modBuf_regs (s : State) (k i : Nat) (f : KBuf → KBuf) : (s.modBuf k i f).regs = s.regs := rfl
@[simp] theorem State.modBuf_locks (s : State) (k i : Nat) (f : KBuf → KBuf) : (s.modBuf k i f).locks = s.locks := rfl
@[simp] theorem State.modBuf_stat (s : State) (k i : Nat) (f : KBuf → KBuf) : (s.modBuf k i f).stat = s.stat := rfl
@[simp] theorem State.modBuf_wide (s : State) (k i : Nat) (f : KBuf → KBuf) : (s.modBuf k i f).wide = s.wide := rfl
@[simp] theorem State.modBuf_deferred (s : State) (k i : Nat) (f : KBuf → KBuf) : (s.modBuf k i f).deferred = s.deferred := rfl
@[simp] theorem State.modBuf_recent (s : State) (k i : Nat) (f : KBuf → KBuf) : (s.modBuf k i f).recent = s.recent := rfl
@[simp] theorem State.modBuf_mbxS (s : State) (k i : Nat) (f : KBuf → KBuf) : (s.modBuf k i f).mbxS = s.mbxS := rfl
@[simp] theorem State.modBuf_mbxG (s : State) (k i : Nat) (f : KBuf → KBuf) : (s.modBuf k i f).mbxG = s.mbxG := rfl
@[simp] theorem State.modBuf_mbxH (s : State) (k i : Nat) (f : KBuf → KBuf) : (s.modBuf k i f).mbxH = s.mbxH := rfl
@[simp] theorem State.modBuf_lastWrites (s : State) (k i : Nat) (f : KBuf → KBuf) : (s.modBuf k i f).lastWrites = s.lastWrites := rfl
@[simp] theorem State.modBuf_rdata (s : State) (k i : Nat) (f : KBuf → KBuf) : (s.modBuf k i f).rdata = s.rdata := rfl
@[simp] theorem State.modBuf_crc (s : State) (k i : Nat) (f : KBuf → KBuf) : (s.modBuf k i f).crc = s.crc := rfl
@[simp] theorem State.modBuf_timers (s : State) (k i : Nat) (f : KBuf → KBuf) : (s.modBuf k i f).timers = s.timers := rfl
@[simp] theorem State.modBuf_log (s : State) (k i : Nat) (f : KBuf → KBuf) : (s.modBuf k i f).log = s.log := rfl
@[simp] theorem State.modBuf_clk (s : State) (k i : Nat) (f : KBuf → KBuf) : (s.modBuf k i f).clk = s.clk := rfl
@[simp] theorem State.modBuf_mode (s : State) (k i : Nat) (f : KBuf → KBuf) : (s.modBuf k i f).mode = s.mode := rfl
@[simp] theorem State.modBuf_whl (s : State) (k i : Nat) (f : KBuf → KBuf) : (s.modBuf k i f).whl = s.whl := rfl
@[simp] theorem State.modBuf_pix (s : State) (k i : Nat) (f : KBuf → KBuf) : (s.modBuf k i f).pix = s.pix := rfl
@[simp] theorem State.modBuf_emt (s : State) (k i : Nat) (f : KBuf → KBuf) : (s.modBuf k i f).emt = s.emt := rfl
@[simp] theorem State.modBuf_str (s : State) (k i : Nat) (f : KBuf → KBuf) : (s.modBuf k i f).str = s.str := rfl
@[simp] theorem State.modBuf_lan (s : State) (k i : Nat) (f : KBuf → KBuf) : (s.modBuf k i f).lan = s.lan := rfl
@[simp] theorem State.modBuf_cal (s : State) (k i : Nat) (f : KBuf → KBuf) : (s.modBuf k i f).cal = s.cal := rfl
@[simp] theorem State.modBuf_shf (s : State) (k i : Nat) (f : KBuf → KBuf) : (s.modBuf k i f).shf = s.shf := rfl
@[simp] theorem State.modBuf_glz (s : State) (k i : Nat) (f : KBuf → KBuf) : (s.modBuf k i f).glz = s.glz := rfl
@[simp] theorem State.modBuf_pq (s : State) (k i : Nat) (f : KBuf → KBuf) : (s.modBuf k i f).pq = s.pq := rfl
@[simp] theorem State.modBuf_mem (s : State) (k i : Nat) (f : KBuf → KBuf) : (s.modBuf k i f).mem = s.mem := rfl
@[simp] theorem State.modBuf_cap (s : State) (k i : Nat) (f : KBuf → KBuf) : (s.modBuf k i f).cap = s.cap := rfl
@[simp] theorem State.modBuf_tsu (s : State) (k i : Nat) (f : KBuf → KBuf) : (s.modBuf k i f).tsu = s.tsu := rfl
@[simp] theorem State.modBuf_coil (s : State) (k i : Nat) (f : KBuf → KBuf) : (s.modBuf k i f).coil = s.coil := rfl
@[simp] theorem State.modBuf_hif (s : State) (k i : Nat) (f : KBuf → KBuf) : (s.modBuf k i f).hif = s.hif := rfl
@[simp] theorem State.modBuf_thm (s : State) (k i : Nat) (f : KBuf → KBuf) : (s.modBuf k i f).thm = s.thm := rfl
@[simp] theorem State.modBuf_sfe (s : State) (k i : Nat) (f : KBuf → KBuf) : (s.modBuf k i f).sfe = s.sfe := rfl
@[simp] theorem State.modBuf_sec (s : State) (k i : Nat) (f : KBuf → KBuf) : (s.modBuf k i f).sec = s.sec := rfl
@[simp] theorem State.modBuf_pins (s : State) (k i : Nat) (f : KBuf → KBuf) : (s.modBuf k i f).pins = s.pins := rfl
@[simp] theorem State.modBuf_freeNext (s : State) (k i : Nat) (f : KBuf → KBuf) : (s.modBuf k i f).freeNext = s.freeNext := rfl
@[simp] theorem State.modBuf_pending (s : State) (k i : Nat) (f : KBuf → KBuf) : (s.modBuf k i f).pending = s.pending := rfl

/-! ## State.modCap -/

@[simp] theorem State.modCap_now (s : State) (f : Capture → Capture) : (s.modCap f).now = s.now := rfl
@[simp] theorem State.modCap_regs (s : State) (f : Capture → Capture) : (s.modCap f).regs = s.regs := rfl
@[simp] theorem State.modCap_locks (s : State) (f : Capture → Capture) : (s.modCap f).locks = s.locks := rfl
@[simp] theorem State.modCap_stat (s : State) (f : Capture → Capture) : (s.modCap f).stat = s.stat := rfl
@[simp] theorem State.modCap_wide (s : State) (f : Capture → Capture) : (s.modCap f).wide = s.wide := rfl
@[simp] theorem State.modCap_deferred (s : State) (f : Capture → Capture) : (s.modCap f).deferred = s.deferred := rfl
@[simp] theorem State.modCap_recent (s : State) (f : Capture → Capture) : (s.modCap f).recent = s.recent := rfl
@[simp] theorem State.modCap_mbxS (s : State) (f : Capture → Capture) : (s.modCap f).mbxS = s.mbxS := rfl
@[simp] theorem State.modCap_mbxG (s : State) (f : Capture → Capture) : (s.modCap f).mbxG = s.mbxG := rfl
@[simp] theorem State.modCap_mbxH (s : State) (f : Capture → Capture) : (s.modCap f).mbxH = s.mbxH := rfl
@[simp] theorem State.modCap_lastWrites (s : State) (f : Capture → Capture) : (s.modCap f).lastWrites = s.lastWrites := rfl
@[simp] theorem State.modCap_rdata (s : State) (f : Capture → Capture) : (s.modCap f).rdata = s.rdata := rfl
@[simp] theorem State.modCap_crc (s : State) (f : Capture → Capture) : (s.modCap f).crc = s.crc := rfl
@[simp] theorem State.modCap_timers (s : State) (f : Capture → Capture) : (s.modCap f).timers = s.timers := rfl
@[simp] theorem State.modCap_log (s : State) (f : Capture → Capture) : (s.modCap f).log = s.log := rfl
@[simp] theorem State.modCap_clk (s : State) (f : Capture → Capture) : (s.modCap f).clk = s.clk := rfl
@[simp] theorem State.modCap_mode (s : State) (f : Capture → Capture) : (s.modCap f).mode = s.mode := rfl
@[simp] theorem State.modCap_whl (s : State) (f : Capture → Capture) : (s.modCap f).whl = s.whl := rfl
@[simp] theorem State.modCap_pix (s : State) (f : Capture → Capture) : (s.modCap f).pix = s.pix := rfl
@[simp] theorem State.modCap_emt (s : State) (f : Capture → Capture) : (s.modCap f).emt = s.emt := rfl
@[simp] theorem State.modCap_str (s : State) (f : Capture → Capture) : (s.modCap f).str = s.str := rfl
@[simp] theorem State.modCap_lan (s : State) (f : Capture → Capture) : (s.modCap f).lan = s.lan := rfl
@[simp] theorem State.modCap_cal (s : State) (f : Capture → Capture) : (s.modCap f).cal = s.cal := rfl
@[simp] theorem State.modCap_kln (s : State) (f : Capture → Capture) : (s.modCap f).kln = s.kln := rfl
@[simp] theorem State.modCap_shf (s : State) (f : Capture → Capture) : (s.modCap f).shf = s.shf := rfl
@[simp] theorem State.modCap_glz (s : State) (f : Capture → Capture) : (s.modCap f).glz = s.glz := rfl
@[simp] theorem State.modCap_pq (s : State) (f : Capture → Capture) : (s.modCap f).pq = s.pq := rfl
@[simp] theorem State.modCap_mem (s : State) (f : Capture → Capture) : (s.modCap f).mem = s.mem := rfl
@[simp] theorem State.modCap_cap (s : State) (f : Capture → Capture) : (s.modCap f).cap = f s.cap := rfl
@[simp] theorem State.modCap_tsu (s : State) (f : Capture → Capture) : (s.modCap f).tsu = s.tsu := rfl
@[simp] theorem State.modCap_coil (s : State) (f : Capture → Capture) : (s.modCap f).coil = s.coil := rfl
@[simp] theorem State.modCap_hif (s : State) (f : Capture → Capture) : (s.modCap f).hif = s.hif := rfl
@[simp] theorem State.modCap_thm (s : State) (f : Capture → Capture) : (s.modCap f).thm = s.thm := rfl
@[simp] theorem State.modCap_sfe (s : State) (f : Capture → Capture) : (s.modCap f).sfe = s.sfe := rfl
@[simp] theorem State.modCap_sec (s : State) (f : Capture → Capture) : (s.modCap f).sec = s.sec := rfl
@[simp] theorem State.modCap_pins (s : State) (f : Capture → Capture) : (s.modCap f).pins = s.pins := rfl
@[simp] theorem State.modCap_freeNext (s : State) (f : Capture → Capture) : (s.modCap f).freeNext = s.freeNext := rfl
@[simp] theorem State.modCap_pending (s : State) (f : Capture → Capture) : (s.modCap f).pending = s.pending := rfl

/-! ## State.modTsu -/

@[simp] theorem State.modTsu_now (s : State) (f : Tsu → Tsu) : (s.modTsu f).now = s.now := rfl
@[simp] theorem State.modTsu_regs (s : State) (f : Tsu → Tsu) : (s.modTsu f).regs = s.regs := rfl
@[simp] theorem State.modTsu_locks (s : State) (f : Tsu → Tsu) : (s.modTsu f).locks = s.locks := rfl
@[simp] theorem State.modTsu_stat (s : State) (f : Tsu → Tsu) : (s.modTsu f).stat = s.stat := rfl
@[simp] theorem State.modTsu_wide (s : State) (f : Tsu → Tsu) : (s.modTsu f).wide = s.wide := rfl
@[simp] theorem State.modTsu_deferred (s : State) (f : Tsu → Tsu) : (s.modTsu f).deferred = s.deferred := rfl
@[simp] theorem State.modTsu_recent (s : State) (f : Tsu → Tsu) : (s.modTsu f).recent = s.recent := rfl
@[simp] theorem State.modTsu_mbxS (s : State) (f : Tsu → Tsu) : (s.modTsu f).mbxS = s.mbxS := rfl
@[simp] theorem State.modTsu_mbxG (s : State) (f : Tsu → Tsu) : (s.modTsu f).mbxG = s.mbxG := rfl
@[simp] theorem State.modTsu_mbxH (s : State) (f : Tsu → Tsu) : (s.modTsu f).mbxH = s.mbxH := rfl
@[simp] theorem State.modTsu_lastWrites (s : State) (f : Tsu → Tsu) : (s.modTsu f).lastWrites = s.lastWrites := rfl
@[simp] theorem State.modTsu_rdata (s : State) (f : Tsu → Tsu) : (s.modTsu f).rdata = s.rdata := rfl
@[simp] theorem State.modTsu_crc (s : State) (f : Tsu → Tsu) : (s.modTsu f).crc = s.crc := rfl
@[simp] theorem State.modTsu_timers (s : State) (f : Tsu → Tsu) : (s.modTsu f).timers = s.timers := rfl
@[simp] theorem State.modTsu_log (s : State) (f : Tsu → Tsu) : (s.modTsu f).log = s.log := rfl
@[simp] theorem State.modTsu_clk (s : State) (f : Tsu → Tsu) : (s.modTsu f).clk = s.clk := rfl
@[simp] theorem State.modTsu_mode (s : State) (f : Tsu → Tsu) : (s.modTsu f).mode = s.mode := rfl
@[simp] theorem State.modTsu_whl (s : State) (f : Tsu → Tsu) : (s.modTsu f).whl = s.whl := rfl
@[simp] theorem State.modTsu_pix (s : State) (f : Tsu → Tsu) : (s.modTsu f).pix = s.pix := rfl
@[simp] theorem State.modTsu_emt (s : State) (f : Tsu → Tsu) : (s.modTsu f).emt = s.emt := rfl
@[simp] theorem State.modTsu_str (s : State) (f : Tsu → Tsu) : (s.modTsu f).str = s.str := rfl
@[simp] theorem State.modTsu_lan (s : State) (f : Tsu → Tsu) : (s.modTsu f).lan = s.lan := rfl
@[simp] theorem State.modTsu_cal (s : State) (f : Tsu → Tsu) : (s.modTsu f).cal = s.cal := rfl
@[simp] theorem State.modTsu_kln (s : State) (f : Tsu → Tsu) : (s.modTsu f).kln = s.kln := rfl
@[simp] theorem State.modTsu_shf (s : State) (f : Tsu → Tsu) : (s.modTsu f).shf = s.shf := rfl
@[simp] theorem State.modTsu_glz (s : State) (f : Tsu → Tsu) : (s.modTsu f).glz = s.glz := rfl
@[simp] theorem State.modTsu_pq (s : State) (f : Tsu → Tsu) : (s.modTsu f).pq = s.pq := rfl
@[simp] theorem State.modTsu_mem (s : State) (f : Tsu → Tsu) : (s.modTsu f).mem = s.mem := rfl
@[simp] theorem State.modTsu_cap (s : State) (f : Tsu → Tsu) : (s.modTsu f).cap = s.cap := rfl
@[simp] theorem State.modTsu_tsu (s : State) (f : Tsu → Tsu) : (s.modTsu f).tsu = f s.tsu := rfl
@[simp] theorem State.modTsu_coil (s : State) (f : Tsu → Tsu) : (s.modTsu f).coil = s.coil := rfl
@[simp] theorem State.modTsu_hif (s : State) (f : Tsu → Tsu) : (s.modTsu f).hif = s.hif := rfl
@[simp] theorem State.modTsu_thm (s : State) (f : Tsu → Tsu) : (s.modTsu f).thm = s.thm := rfl
@[simp] theorem State.modTsu_sfe (s : State) (f : Tsu → Tsu) : (s.modTsu f).sfe = s.sfe := rfl
@[simp] theorem State.modTsu_sec (s : State) (f : Tsu → Tsu) : (s.modTsu f).sec = s.sec := rfl
@[simp] theorem State.modTsu_pins (s : State) (f : Tsu → Tsu) : (s.modTsu f).pins = s.pins := rfl
@[simp] theorem State.modTsu_freeNext (s : State) (f : Tsu → Tsu) : (s.modTsu f).freeNext = s.freeNext := rfl
@[simp] theorem State.modTsu_pending (s : State) (f : Tsu → Tsu) : (s.modTsu f).pending = s.pending := rfl

/-! ## State.modCoil -/

@[simp] theorem State.modCoil_now (s : State) (f : Coil → Coil) : (s.modCoil f).now = s.now := rfl
@[simp] theorem State.modCoil_regs (s : State) (f : Coil → Coil) : (s.modCoil f).regs = s.regs := rfl
@[simp] theorem State.modCoil_locks (s : State) (f : Coil → Coil) : (s.modCoil f).locks = s.locks := rfl
@[simp] theorem State.modCoil_stat (s : State) (f : Coil → Coil) : (s.modCoil f).stat = s.stat := rfl
@[simp] theorem State.modCoil_wide (s : State) (f : Coil → Coil) : (s.modCoil f).wide = s.wide := rfl
@[simp] theorem State.modCoil_deferred (s : State) (f : Coil → Coil) : (s.modCoil f).deferred = s.deferred := rfl
@[simp] theorem State.modCoil_recent (s : State) (f : Coil → Coil) : (s.modCoil f).recent = s.recent := rfl
@[simp] theorem State.modCoil_mbxS (s : State) (f : Coil → Coil) : (s.modCoil f).mbxS = s.mbxS := rfl
@[simp] theorem State.modCoil_mbxG (s : State) (f : Coil → Coil) : (s.modCoil f).mbxG = s.mbxG := rfl
@[simp] theorem State.modCoil_mbxH (s : State) (f : Coil → Coil) : (s.modCoil f).mbxH = s.mbxH := rfl
@[simp] theorem State.modCoil_lastWrites (s : State) (f : Coil → Coil) : (s.modCoil f).lastWrites = s.lastWrites := rfl
@[simp] theorem State.modCoil_rdata (s : State) (f : Coil → Coil) : (s.modCoil f).rdata = s.rdata := rfl
@[simp] theorem State.modCoil_crc (s : State) (f : Coil → Coil) : (s.modCoil f).crc = s.crc := rfl
@[simp] theorem State.modCoil_timers (s : State) (f : Coil → Coil) : (s.modCoil f).timers = s.timers := rfl
@[simp] theorem State.modCoil_log (s : State) (f : Coil → Coil) : (s.modCoil f).log = s.log := rfl
@[simp] theorem State.modCoil_clk (s : State) (f : Coil → Coil) : (s.modCoil f).clk = s.clk := rfl
@[simp] theorem State.modCoil_mode (s : State) (f : Coil → Coil) : (s.modCoil f).mode = s.mode := rfl
@[simp] theorem State.modCoil_whl (s : State) (f : Coil → Coil) : (s.modCoil f).whl = s.whl := rfl
@[simp] theorem State.modCoil_pix (s : State) (f : Coil → Coil) : (s.modCoil f).pix = s.pix := rfl
@[simp] theorem State.modCoil_emt (s : State) (f : Coil → Coil) : (s.modCoil f).emt = s.emt := rfl
@[simp] theorem State.modCoil_str (s : State) (f : Coil → Coil) : (s.modCoil f).str = s.str := rfl
@[simp] theorem State.modCoil_lan (s : State) (f : Coil → Coil) : (s.modCoil f).lan = s.lan := rfl
@[simp] theorem State.modCoil_cal (s : State) (f : Coil → Coil) : (s.modCoil f).cal = s.cal := rfl
@[simp] theorem State.modCoil_kln (s : State) (f : Coil → Coil) : (s.modCoil f).kln = s.kln := rfl
@[simp] theorem State.modCoil_shf (s : State) (f : Coil → Coil) : (s.modCoil f).shf = s.shf := rfl
@[simp] theorem State.modCoil_glz (s : State) (f : Coil → Coil) : (s.modCoil f).glz = s.glz := rfl
@[simp] theorem State.modCoil_pq (s : State) (f : Coil → Coil) : (s.modCoil f).pq = s.pq := rfl
@[simp] theorem State.modCoil_mem (s : State) (f : Coil → Coil) : (s.modCoil f).mem = s.mem := rfl
@[simp] theorem State.modCoil_cap (s : State) (f : Coil → Coil) : (s.modCoil f).cap = s.cap := rfl
@[simp] theorem State.modCoil_tsu (s : State) (f : Coil → Coil) : (s.modCoil f).tsu = s.tsu := rfl
@[simp] theorem State.modCoil_coil (s : State) (f : Coil → Coil) : (s.modCoil f).coil = f s.coil := rfl
@[simp] theorem State.modCoil_hif (s : State) (f : Coil → Coil) : (s.modCoil f).hif = s.hif := rfl
@[simp] theorem State.modCoil_thm (s : State) (f : Coil → Coil) : (s.modCoil f).thm = s.thm := rfl
@[simp] theorem State.modCoil_sfe (s : State) (f : Coil → Coil) : (s.modCoil f).sfe = s.sfe := rfl
@[simp] theorem State.modCoil_sec (s : State) (f : Coil → Coil) : (s.modCoil f).sec = s.sec := rfl
@[simp] theorem State.modCoil_pins (s : State) (f : Coil → Coil) : (s.modCoil f).pins = s.pins := rfl
@[simp] theorem State.modCoil_freeNext (s : State) (f : Coil → Coil) : (s.modCoil f).freeNext = s.freeNext := rfl
@[simp] theorem State.modCoil_pending (s : State) (f : Coil → Coil) : (s.modCoil f).pending = s.pending := rfl

/-! ## State.modRing -/

@[simp] theorem State.modRing_now (s : State) (x : Nat) (f : Ring → Ring) : (s.modRing x f).now = s.now := rfl
@[simp] theorem State.modRing_regs (s : State) (x : Nat) (f : Ring → Ring) : (s.modRing x f).regs = s.regs := rfl
@[simp] theorem State.modRing_locks (s : State) (x : Nat) (f : Ring → Ring) : (s.modRing x f).locks = s.locks := rfl
@[simp] theorem State.modRing_stat (s : State) (x : Nat) (f : Ring → Ring) : (s.modRing x f).stat = s.stat := rfl
@[simp] theorem State.modRing_wide (s : State) (x : Nat) (f : Ring → Ring) : (s.modRing x f).wide = s.wide := rfl
@[simp] theorem State.modRing_deferred (s : State) (x : Nat) (f : Ring → Ring) : (s.modRing x f).deferred = s.deferred := rfl
@[simp] theorem State.modRing_recent (s : State) (x : Nat) (f : Ring → Ring) : (s.modRing x f).recent = s.recent := rfl
@[simp] theorem State.modRing_mbxS (s : State) (x : Nat) (f : Ring → Ring) : (s.modRing x f).mbxS = s.mbxS := rfl
@[simp] theorem State.modRing_mbxG (s : State) (x : Nat) (f : Ring → Ring) : (s.modRing x f).mbxG = s.mbxG := rfl
@[simp] theorem State.modRing_mbxH (s : State) (x : Nat) (f : Ring → Ring) : (s.modRing x f).mbxH = s.mbxH := rfl
@[simp] theorem State.modRing_lastWrites (s : State) (x : Nat) (f : Ring → Ring) : (s.modRing x f).lastWrites = s.lastWrites := rfl
@[simp] theorem State.modRing_rdata (s : State) (x : Nat) (f : Ring → Ring) : (s.modRing x f).rdata = s.rdata := rfl
@[simp] theorem State.modRing_crc (s : State) (x : Nat) (f : Ring → Ring) : (s.modRing x f).crc = s.crc := rfl
@[simp] theorem State.modRing_timers (s : State) (x : Nat) (f : Ring → Ring) : (s.modRing x f).timers = s.timers := rfl
@[simp] theorem State.modRing_log (s : State) (x : Nat) (f : Ring → Ring) : (s.modRing x f).log = s.log := rfl
@[simp] theorem State.modRing_clk (s : State) (x : Nat) (f : Ring → Ring) : (s.modRing x f).clk = s.clk := rfl
@[simp] theorem State.modRing_mode (s : State) (x : Nat) (f : Ring → Ring) : (s.modRing x f).mode = s.mode := rfl
@[simp] theorem State.modRing_whl (s : State) (x : Nat) (f : Ring → Ring) : (s.modRing x f).whl = s.whl := rfl
@[simp] theorem State.modRing_pix (s : State) (x : Nat) (f : Ring → Ring) : (s.modRing x f).pix = s.pix := rfl
@[simp] theorem State.modRing_emt (s : State) (x : Nat) (f : Ring → Ring) : (s.modRing x f).emt = s.emt := rfl
@[simp] theorem State.modRing_str (s : State) (x : Nat) (f : Ring → Ring) : (s.modRing x f).str = s.str := rfl
@[simp] theorem State.modRing_lan (s : State) (x : Nat) (f : Ring → Ring) : (s.modRing x f).lan = s.lan := rfl
@[simp] theorem State.modRing_cal (s : State) (x : Nat) (f : Ring → Ring) : (s.modRing x f).cal = s.cal := rfl
@[simp] theorem State.modRing_kln (s : State) (x : Nat) (f : Ring → Ring) : (s.modRing x f).kln = s.kln := rfl
@[simp] theorem State.modRing_shf (s : State) (x : Nat) (f : Ring → Ring) : (s.modRing x f).shf = s.shf := rfl
@[simp] theorem State.modRing_glz (s : State) (x : Nat) (f : Ring → Ring) : (s.modRing x f).glz = s.glz := rfl
@[simp] theorem State.modRing_pq (s : State) (x : Nat) (f : Ring → Ring) : (s.modRing x f).pq = s.pq := rfl
@[simp] theorem State.modRing_mem (s : State) (x : Nat) (f : Ring → Ring) : (s.modRing x f).mem = s.mem := rfl
@[simp] theorem State.modRing_cap (s : State) (x : Nat) (f : Ring → Ring) : (s.modRing x f).cap = s.cap := rfl
@[simp] theorem State.modRing_tsu (s : State) (x : Nat) (f : Ring → Ring) : (s.modRing x f).tsu = s.tsu := rfl
@[simp] theorem State.modRing_coil (s : State) (x : Nat) (f : Ring → Ring) : (s.modRing x f).coil = s.coil := rfl
@[simp] theorem State.modRing_hif (s : State) (x : Nat) (f : Ring → Ring) : (s.modRing x f).hif = { s.hif with rings := fmod {} s.hif.rings x f } := rfl
@[simp] theorem State.modRing_thm (s : State) (x : Nat) (f : Ring → Ring) : (s.modRing x f).thm = s.thm := rfl
@[simp] theorem State.modRing_sfe (s : State) (x : Nat) (f : Ring → Ring) : (s.modRing x f).sfe = s.sfe := rfl
@[simp] theorem State.modRing_sec (s : State) (x : Nat) (f : Ring → Ring) : (s.modRing x f).sec = s.sec := rfl
@[simp] theorem State.modRing_pins (s : State) (x : Nat) (f : Ring → Ring) : (s.modRing x f).pins = s.pins := rfl
@[simp] theorem State.modRing_freeNext (s : State) (x : Nat) (f : Ring → Ring) : (s.modRing x f).freeNext = s.freeNext := rfl
@[simp] theorem State.modRing_pending (s : State) (x : Nat) (f : Ring → Ring) : (s.modRing x f).pending = s.pending := rfl

/-! ## State.modThm -/

@[simp] theorem State.modThm_now (s : State) (f : Thermal → Thermal) : (s.modThm f).now = s.now := rfl
@[simp] theorem State.modThm_regs (s : State) (f : Thermal → Thermal) : (s.modThm f).regs = s.regs := rfl
@[simp] theorem State.modThm_locks (s : State) (f : Thermal → Thermal) : (s.modThm f).locks = s.locks := rfl
@[simp] theorem State.modThm_stat (s : State) (f : Thermal → Thermal) : (s.modThm f).stat = s.stat := rfl
@[simp] theorem State.modThm_wide (s : State) (f : Thermal → Thermal) : (s.modThm f).wide = s.wide := rfl
@[simp] theorem State.modThm_deferred (s : State) (f : Thermal → Thermal) : (s.modThm f).deferred = s.deferred := rfl
@[simp] theorem State.modThm_recent (s : State) (f : Thermal → Thermal) : (s.modThm f).recent = s.recent := rfl
@[simp] theorem State.modThm_mbxS (s : State) (f : Thermal → Thermal) : (s.modThm f).mbxS = s.mbxS := rfl
@[simp] theorem State.modThm_mbxG (s : State) (f : Thermal → Thermal) : (s.modThm f).mbxG = s.mbxG := rfl
@[simp] theorem State.modThm_mbxH (s : State) (f : Thermal → Thermal) : (s.modThm f).mbxH = s.mbxH := rfl
@[simp] theorem State.modThm_lastWrites (s : State) (f : Thermal → Thermal) : (s.modThm f).lastWrites = s.lastWrites := rfl
@[simp] theorem State.modThm_rdata (s : State) (f : Thermal → Thermal) : (s.modThm f).rdata = s.rdata := rfl
@[simp] theorem State.modThm_crc (s : State) (f : Thermal → Thermal) : (s.modThm f).crc = s.crc := rfl
@[simp] theorem State.modThm_timers (s : State) (f : Thermal → Thermal) : (s.modThm f).timers = s.timers := rfl
@[simp] theorem State.modThm_log (s : State) (f : Thermal → Thermal) : (s.modThm f).log = s.log := rfl
@[simp] theorem State.modThm_clk (s : State) (f : Thermal → Thermal) : (s.modThm f).clk = s.clk := rfl
@[simp] theorem State.modThm_mode (s : State) (f : Thermal → Thermal) : (s.modThm f).mode = s.mode := rfl
@[simp] theorem State.modThm_whl (s : State) (f : Thermal → Thermal) : (s.modThm f).whl = s.whl := rfl
@[simp] theorem State.modThm_pix (s : State) (f : Thermal → Thermal) : (s.modThm f).pix = s.pix := rfl
@[simp] theorem State.modThm_emt (s : State) (f : Thermal → Thermal) : (s.modThm f).emt = s.emt := rfl
@[simp] theorem State.modThm_str (s : State) (f : Thermal → Thermal) : (s.modThm f).str = s.str := rfl
@[simp] theorem State.modThm_lan (s : State) (f : Thermal → Thermal) : (s.modThm f).lan = s.lan := rfl
@[simp] theorem State.modThm_cal (s : State) (f : Thermal → Thermal) : (s.modThm f).cal = s.cal := rfl
@[simp] theorem State.modThm_kln (s : State) (f : Thermal → Thermal) : (s.modThm f).kln = s.kln := rfl
@[simp] theorem State.modThm_shf (s : State) (f : Thermal → Thermal) : (s.modThm f).shf = s.shf := rfl
@[simp] theorem State.modThm_glz (s : State) (f : Thermal → Thermal) : (s.modThm f).glz = s.glz := rfl
@[simp] theorem State.modThm_pq (s : State) (f : Thermal → Thermal) : (s.modThm f).pq = s.pq := rfl
@[simp] theorem State.modThm_mem (s : State) (f : Thermal → Thermal) : (s.modThm f).mem = s.mem := rfl
@[simp] theorem State.modThm_cap (s : State) (f : Thermal → Thermal) : (s.modThm f).cap = s.cap := rfl
@[simp] theorem State.modThm_tsu (s : State) (f : Thermal → Thermal) : (s.modThm f).tsu = s.tsu := rfl
@[simp] theorem State.modThm_coil (s : State) (f : Thermal → Thermal) : (s.modThm f).coil = s.coil := rfl
@[simp] theorem State.modThm_hif (s : State) (f : Thermal → Thermal) : (s.modThm f).hif = s.hif := rfl
@[simp] theorem State.modThm_thm (s : State) (f : Thermal → Thermal) : (s.modThm f).thm = f s.thm := rfl
@[simp] theorem State.modThm_sfe (s : State) (f : Thermal → Thermal) : (s.modThm f).sfe = s.sfe := rfl
@[simp] theorem State.modThm_sec (s : State) (f : Thermal → Thermal) : (s.modThm f).sec = s.sec := rfl
@[simp] theorem State.modThm_pins (s : State) (f : Thermal → Thermal) : (s.modThm f).pins = s.pins := rfl
@[simp] theorem State.modThm_freeNext (s : State) (f : Thermal → Thermal) : (s.modThm f).freeNext = s.freeNext := rfl
@[simp] theorem State.modThm_pending (s : State) (f : Thermal → Thermal) : (s.modThm f).pending = s.pending := rfl

/-! ## State.modSfe -/

@[simp] theorem State.modSfe_now (s : State) (f : Sfe → Sfe) : (s.modSfe f).now = s.now := rfl
@[simp] theorem State.modSfe_regs (s : State) (f : Sfe → Sfe) : (s.modSfe f).regs = s.regs := rfl
@[simp] theorem State.modSfe_locks (s : State) (f : Sfe → Sfe) : (s.modSfe f).locks = s.locks := rfl
@[simp] theorem State.modSfe_stat (s : State) (f : Sfe → Sfe) : (s.modSfe f).stat = s.stat := rfl
@[simp] theorem State.modSfe_wide (s : State) (f : Sfe → Sfe) : (s.modSfe f).wide = s.wide := rfl
@[simp] theorem State.modSfe_deferred (s : State) (f : Sfe → Sfe) : (s.modSfe f).deferred = s.deferred := rfl
@[simp] theorem State.modSfe_recent (s : State) (f : Sfe → Sfe) : (s.modSfe f).recent = s.recent := rfl
@[simp] theorem State.modSfe_mbxS (s : State) (f : Sfe → Sfe) : (s.modSfe f).mbxS = s.mbxS := rfl
@[simp] theorem State.modSfe_mbxG (s : State) (f : Sfe → Sfe) : (s.modSfe f).mbxG = s.mbxG := rfl
@[simp] theorem State.modSfe_mbxH (s : State) (f : Sfe → Sfe) : (s.modSfe f).mbxH = s.mbxH := rfl
@[simp] theorem State.modSfe_lastWrites (s : State) (f : Sfe → Sfe) : (s.modSfe f).lastWrites = s.lastWrites := rfl
@[simp] theorem State.modSfe_rdata (s : State) (f : Sfe → Sfe) : (s.modSfe f).rdata = s.rdata := rfl
@[simp] theorem State.modSfe_crc (s : State) (f : Sfe → Sfe) : (s.modSfe f).crc = s.crc := rfl
@[simp] theorem State.modSfe_timers (s : State) (f : Sfe → Sfe) : (s.modSfe f).timers = s.timers := rfl
@[simp] theorem State.modSfe_log (s : State) (f : Sfe → Sfe) : (s.modSfe f).log = s.log := rfl
@[simp] theorem State.modSfe_clk (s : State) (f : Sfe → Sfe) : (s.modSfe f).clk = s.clk := rfl
@[simp] theorem State.modSfe_mode (s : State) (f : Sfe → Sfe) : (s.modSfe f).mode = s.mode := rfl
@[simp] theorem State.modSfe_whl (s : State) (f : Sfe → Sfe) : (s.modSfe f).whl = s.whl := rfl
@[simp] theorem State.modSfe_pix (s : State) (f : Sfe → Sfe) : (s.modSfe f).pix = s.pix := rfl
@[simp] theorem State.modSfe_emt (s : State) (f : Sfe → Sfe) : (s.modSfe f).emt = s.emt := rfl
@[simp] theorem State.modSfe_str (s : State) (f : Sfe → Sfe) : (s.modSfe f).str = s.str := rfl
@[simp] theorem State.modSfe_lan (s : State) (f : Sfe → Sfe) : (s.modSfe f).lan = s.lan := rfl
@[simp] theorem State.modSfe_cal (s : State) (f : Sfe → Sfe) : (s.modSfe f).cal = s.cal := rfl
@[simp] theorem State.modSfe_kln (s : State) (f : Sfe → Sfe) : (s.modSfe f).kln = s.kln := rfl
@[simp] theorem State.modSfe_shf (s : State) (f : Sfe → Sfe) : (s.modSfe f).shf = s.shf := rfl
@[simp] theorem State.modSfe_glz (s : State) (f : Sfe → Sfe) : (s.modSfe f).glz = s.glz := rfl
@[simp] theorem State.modSfe_pq (s : State) (f : Sfe → Sfe) : (s.modSfe f).pq = s.pq := rfl
@[simp] theorem State.modSfe_mem (s : State) (f : Sfe → Sfe) : (s.modSfe f).mem = s.mem := rfl
@[simp] theorem State.modSfe_cap (s : State) (f : Sfe → Sfe) : (s.modSfe f).cap = s.cap := rfl
@[simp] theorem State.modSfe_tsu (s : State) (f : Sfe → Sfe) : (s.modSfe f).tsu = s.tsu := rfl
@[simp] theorem State.modSfe_coil (s : State) (f : Sfe → Sfe) : (s.modSfe f).coil = s.coil := rfl
@[simp] theorem State.modSfe_hif (s : State) (f : Sfe → Sfe) : (s.modSfe f).hif = s.hif := rfl
@[simp] theorem State.modSfe_thm (s : State) (f : Sfe → Sfe) : (s.modSfe f).thm = s.thm := rfl
@[simp] theorem State.modSfe_sfe (s : State) (f : Sfe → Sfe) : (s.modSfe f).sfe = f s.sfe := rfl
@[simp] theorem State.modSfe_sec (s : State) (f : Sfe → Sfe) : (s.modSfe f).sec = s.sec := rfl
@[simp] theorem State.modSfe_pins (s : State) (f : Sfe → Sfe) : (s.modSfe f).pins = s.pins := rfl
@[simp] theorem State.modSfe_freeNext (s : State) (f : Sfe → Sfe) : (s.modSfe f).freeNext = s.freeNext := rfl
@[simp] theorem State.modSfe_pending (s : State) (f : Sfe → Sfe) : (s.modSfe f).pending = s.pending := rfl

/-! ## State.modSec -/

@[simp] theorem State.modSec_now (s : State) (f : Sec → Sec) : (s.modSec f).now = s.now := rfl
@[simp] theorem State.modSec_regs (s : State) (f : Sec → Sec) : (s.modSec f).regs = s.regs := rfl
@[simp] theorem State.modSec_locks (s : State) (f : Sec → Sec) : (s.modSec f).locks = s.locks := rfl
@[simp] theorem State.modSec_stat (s : State) (f : Sec → Sec) : (s.modSec f).stat = s.stat := rfl
@[simp] theorem State.modSec_wide (s : State) (f : Sec → Sec) : (s.modSec f).wide = s.wide := rfl
@[simp] theorem State.modSec_deferred (s : State) (f : Sec → Sec) : (s.modSec f).deferred = s.deferred := rfl
@[simp] theorem State.modSec_recent (s : State) (f : Sec → Sec) : (s.modSec f).recent = s.recent := rfl
@[simp] theorem State.modSec_mbxS (s : State) (f : Sec → Sec) : (s.modSec f).mbxS = s.mbxS := rfl
@[simp] theorem State.modSec_mbxG (s : State) (f : Sec → Sec) : (s.modSec f).mbxG = s.mbxG := rfl
@[simp] theorem State.modSec_mbxH (s : State) (f : Sec → Sec) : (s.modSec f).mbxH = s.mbxH := rfl
@[simp] theorem State.modSec_lastWrites (s : State) (f : Sec → Sec) : (s.modSec f).lastWrites = s.lastWrites := rfl
@[simp] theorem State.modSec_rdata (s : State) (f : Sec → Sec) : (s.modSec f).rdata = s.rdata := rfl
@[simp] theorem State.modSec_crc (s : State) (f : Sec → Sec) : (s.modSec f).crc = s.crc := rfl
@[simp] theorem State.modSec_timers (s : State) (f : Sec → Sec) : (s.modSec f).timers = s.timers := rfl
@[simp] theorem State.modSec_log (s : State) (f : Sec → Sec) : (s.modSec f).log = s.log := rfl
@[simp] theorem State.modSec_clk (s : State) (f : Sec → Sec) : (s.modSec f).clk = s.clk := rfl
@[simp] theorem State.modSec_mode (s : State) (f : Sec → Sec) : (s.modSec f).mode = s.mode := rfl
@[simp] theorem State.modSec_whl (s : State) (f : Sec → Sec) : (s.modSec f).whl = s.whl := rfl
@[simp] theorem State.modSec_pix (s : State) (f : Sec → Sec) : (s.modSec f).pix = s.pix := rfl
@[simp] theorem State.modSec_emt (s : State) (f : Sec → Sec) : (s.modSec f).emt = s.emt := rfl
@[simp] theorem State.modSec_str (s : State) (f : Sec → Sec) : (s.modSec f).str = s.str := rfl
@[simp] theorem State.modSec_lan (s : State) (f : Sec → Sec) : (s.modSec f).lan = s.lan := rfl
@[simp] theorem State.modSec_cal (s : State) (f : Sec → Sec) : (s.modSec f).cal = s.cal := rfl
@[simp] theorem State.modSec_kln (s : State) (f : Sec → Sec) : (s.modSec f).kln = s.kln := rfl
@[simp] theorem State.modSec_shf (s : State) (f : Sec → Sec) : (s.modSec f).shf = s.shf := rfl
@[simp] theorem State.modSec_glz (s : State) (f : Sec → Sec) : (s.modSec f).glz = s.glz := rfl
@[simp] theorem State.modSec_pq (s : State) (f : Sec → Sec) : (s.modSec f).pq = s.pq := rfl
@[simp] theorem State.modSec_mem (s : State) (f : Sec → Sec) : (s.modSec f).mem = s.mem := rfl
@[simp] theorem State.modSec_cap (s : State) (f : Sec → Sec) : (s.modSec f).cap = s.cap := rfl
@[simp] theorem State.modSec_tsu (s : State) (f : Sec → Sec) : (s.modSec f).tsu = s.tsu := rfl
@[simp] theorem State.modSec_coil (s : State) (f : Sec → Sec) : (s.modSec f).coil = s.coil := rfl
@[simp] theorem State.modSec_hif (s : State) (f : Sec → Sec) : (s.modSec f).hif = s.hif := rfl
@[simp] theorem State.modSec_thm (s : State) (f : Sec → Sec) : (s.modSec f).thm = s.thm := rfl
@[simp] theorem State.modSec_sfe (s : State) (f : Sec → Sec) : (s.modSec f).sfe = s.sfe := rfl
@[simp] theorem State.modSec_sec (s : State) (f : Sec → Sec) : (s.modSec f).sec = f s.sec := rfl
@[simp] theorem State.modSec_pins (s : State) (f : Sec → Sec) : (s.modSec f).pins = s.pins := rfl
@[simp] theorem State.modSec_freeNext (s : State) (f : Sec → Sec) : (s.modSec f).freeNext = s.freeNext := rfl
@[simp] theorem State.modSec_pending (s : State) (f : Sec → Sec) : (s.modSec f).pending = s.pending := rfl

/-! ## State.modPort -/

@[simp] theorem State.modPort_now (s : State) (n : Nat) (f : Port → Port) : (s.modPort n f).now = s.now := rfl
@[simp] theorem State.modPort_regs (s : State) (n : Nat) (f : Port → Port) : (s.modPort n f).regs = s.regs := rfl
@[simp] theorem State.modPort_locks (s : State) (n : Nat) (f : Port → Port) : (s.modPort n f).locks = s.locks := rfl
@[simp] theorem State.modPort_stat (s : State) (n : Nat) (f : Port → Port) : (s.modPort n f).stat = s.stat := rfl
@[simp] theorem State.modPort_wide (s : State) (n : Nat) (f : Port → Port) : (s.modPort n f).wide = s.wide := rfl
@[simp] theorem State.modPort_deferred (s : State) (n : Nat) (f : Port → Port) : (s.modPort n f).deferred = s.deferred := rfl
@[simp] theorem State.modPort_recent (s : State) (n : Nat) (f : Port → Port) : (s.modPort n f).recent = s.recent := rfl
@[simp] theorem State.modPort_mbxS (s : State) (n : Nat) (f : Port → Port) : (s.modPort n f).mbxS = s.mbxS := rfl
@[simp] theorem State.modPort_mbxG (s : State) (n : Nat) (f : Port → Port) : (s.modPort n f).mbxG = s.mbxG := rfl
@[simp] theorem State.modPort_mbxH (s : State) (n : Nat) (f : Port → Port) : (s.modPort n f).mbxH = s.mbxH := rfl
@[simp] theorem State.modPort_lastWrites (s : State) (n : Nat) (f : Port → Port) : (s.modPort n f).lastWrites = s.lastWrites := rfl
@[simp] theorem State.modPort_rdata (s : State) (n : Nat) (f : Port → Port) : (s.modPort n f).rdata = s.rdata := rfl
@[simp] theorem State.modPort_crc (s : State) (n : Nat) (f : Port → Port) : (s.modPort n f).crc = s.crc := rfl
@[simp] theorem State.modPort_timers (s : State) (n : Nat) (f : Port → Port) : (s.modPort n f).timers = s.timers := rfl
@[simp] theorem State.modPort_log (s : State) (n : Nat) (f : Port → Port) : (s.modPort n f).log = s.log := rfl
@[simp] theorem State.modPort_clk (s : State) (n : Nat) (f : Port → Port) : (s.modPort n f).clk = s.clk := rfl
@[simp] theorem State.modPort_mode (s : State) (n : Nat) (f : Port → Port) : (s.modPort n f).mode = s.mode := rfl
@[simp] theorem State.modPort_whl (s : State) (n : Nat) (f : Port → Port) : (s.modPort n f).whl = s.whl := rfl
@[simp] theorem State.modPort_pix (s : State) (n : Nat) (f : Port → Port) : (s.modPort n f).pix = s.pix := rfl
@[simp] theorem State.modPort_emt (s : State) (n : Nat) (f : Port → Port) : (s.modPort n f).emt = s.emt := rfl
@[simp] theorem State.modPort_str (s : State) (n : Nat) (f : Port → Port) : (s.modPort n f).str = s.str := rfl
@[simp] theorem State.modPort_lan (s : State) (n : Nat) (f : Port → Port) : (s.modPort n f).lan = s.lan := rfl
@[simp] theorem State.modPort_cal (s : State) (n : Nat) (f : Port → Port) : (s.modPort n f).cal = s.cal := rfl
@[simp] theorem State.modPort_kln (s : State) (n : Nat) (f : Port → Port) : (s.modPort n f).kln = s.kln := rfl
@[simp] theorem State.modPort_shf (s : State) (n : Nat) (f : Port → Port) : (s.modPort n f).shf = s.shf := rfl
@[simp] theorem State.modPort_glz (s : State) (n : Nat) (f : Port → Port) : (s.modPort n f).glz = s.glz := rfl
@[simp] theorem State.modPort_pq (s : State) (n : Nat) (f : Port → Port) : (s.modPort n f).pq = s.pq := rfl
@[simp] theorem State.modPort_mem (s : State) (n : Nat) (f : Port → Port) : (s.modPort n f).mem = { s.mem with ports := fmod {} s.mem.ports n f } := rfl
@[simp] theorem State.modPort_cap (s : State) (n : Nat) (f : Port → Port) : (s.modPort n f).cap = s.cap := rfl
@[simp] theorem State.modPort_tsu (s : State) (n : Nat) (f : Port → Port) : (s.modPort n f).tsu = s.tsu := rfl
@[simp] theorem State.modPort_coil (s : State) (n : Nat) (f : Port → Port) : (s.modPort n f).coil = s.coil := rfl
@[simp] theorem State.modPort_hif (s : State) (n : Nat) (f : Port → Port) : (s.modPort n f).hif = s.hif := rfl
@[simp] theorem State.modPort_thm (s : State) (n : Nat) (f : Port → Port) : (s.modPort n f).thm = s.thm := rfl
@[simp] theorem State.modPort_sfe (s : State) (n : Nat) (f : Port → Port) : (s.modPort n f).sfe = s.sfe := rfl
@[simp] theorem State.modPort_sec (s : State) (n : Nat) (f : Port → Port) : (s.modPort n f).sec = s.sec := rfl
@[simp] theorem State.modPort_pins (s : State) (n : Nat) (f : Port → Port) : (s.modPort n f).pins = s.pins := rfl
@[simp] theorem State.modPort_freeNext (s : State) (n : Nat) (f : Port → Port) : (s.modPort n f).freeNext = s.freeNext := rfl
@[simp] theorem State.modPort_pending (s : State) (n : Nat) (f : Port → Port) : (s.modPort n f).pending = s.pending := rfl

/-! ## State.modChan -/

@[simp] theorem State.modChan_now (s : State) (c : Nat) (f : Chan → Chan) : (s.modChan c f).now = s.now := rfl
@[simp] theorem State.modChan_regs (s : State) (c : Nat) (f : Chan → Chan) : (s.modChan c f).regs = s.regs := rfl
@[simp] theorem State.modChan_locks (s : State) (c : Nat) (f : Chan → Chan) : (s.modChan c f).locks = s.locks := rfl
@[simp] theorem State.modChan_stat (s : State) (c : Nat) (f : Chan → Chan) : (s.modChan c f).stat = s.stat := rfl
@[simp] theorem State.modChan_wide (s : State) (c : Nat) (f : Chan → Chan) : (s.modChan c f).wide = s.wide := rfl
@[simp] theorem State.modChan_deferred (s : State) (c : Nat) (f : Chan → Chan) : (s.modChan c f).deferred = s.deferred := rfl
@[simp] theorem State.modChan_recent (s : State) (c : Nat) (f : Chan → Chan) : (s.modChan c f).recent = s.recent := rfl
@[simp] theorem State.modChan_mbxS (s : State) (c : Nat) (f : Chan → Chan) : (s.modChan c f).mbxS = s.mbxS := rfl
@[simp] theorem State.modChan_mbxG (s : State) (c : Nat) (f : Chan → Chan) : (s.modChan c f).mbxG = s.mbxG := rfl
@[simp] theorem State.modChan_mbxH (s : State) (c : Nat) (f : Chan → Chan) : (s.modChan c f).mbxH = s.mbxH := rfl
@[simp] theorem State.modChan_lastWrites (s : State) (c : Nat) (f : Chan → Chan) : (s.modChan c f).lastWrites = s.lastWrites := rfl
@[simp] theorem State.modChan_rdata (s : State) (c : Nat) (f : Chan → Chan) : (s.modChan c f).rdata = s.rdata := rfl
@[simp] theorem State.modChan_crc (s : State) (c : Nat) (f : Chan → Chan) : (s.modChan c f).crc = s.crc := rfl
@[simp] theorem State.modChan_timers (s : State) (c : Nat) (f : Chan → Chan) : (s.modChan c f).timers = s.timers := rfl
@[simp] theorem State.modChan_log (s : State) (c : Nat) (f : Chan → Chan) : (s.modChan c f).log = s.log := rfl
@[simp] theorem State.modChan_clk (s : State) (c : Nat) (f : Chan → Chan) : (s.modChan c f).clk = s.clk := rfl
@[simp] theorem State.modChan_mode (s : State) (c : Nat) (f : Chan → Chan) : (s.modChan c f).mode = s.mode := rfl
@[simp] theorem State.modChan_whl (s : State) (c : Nat) (f : Chan → Chan) : (s.modChan c f).whl = s.whl := rfl
@[simp] theorem State.modChan_pix (s : State) (c : Nat) (f : Chan → Chan) : (s.modChan c f).pix = s.pix := rfl
@[simp] theorem State.modChan_emt (s : State) (c : Nat) (f : Chan → Chan) : (s.modChan c f).emt = s.emt := rfl
@[simp] theorem State.modChan_str (s : State) (c : Nat) (f : Chan → Chan) : (s.modChan c f).str = s.str := rfl
@[simp] theorem State.modChan_lan (s : State) (c : Nat) (f : Chan → Chan) : (s.modChan c f).lan = s.lan := rfl
@[simp] theorem State.modChan_cal (s : State) (c : Nat) (f : Chan → Chan) : (s.modChan c f).cal = s.cal := rfl
@[simp] theorem State.modChan_kln (s : State) (c : Nat) (f : Chan → Chan) : (s.modChan c f).kln = s.kln := rfl
@[simp] theorem State.modChan_shf (s : State) (c : Nat) (f : Chan → Chan) : (s.modChan c f).shf = s.shf := rfl
@[simp] theorem State.modChan_glz (s : State) (c : Nat) (f : Chan → Chan) : (s.modChan c f).glz = s.glz := rfl
@[simp] theorem State.modChan_pq (s : State) (c : Nat) (f : Chan → Chan) : (s.modChan c f).pq = s.pq := rfl
@[simp] theorem State.modChan_mem (s : State) (c : Nat) (f : Chan → Chan) : (s.modChan c f).mem = { s.mem with chans := fmod {} s.mem.chans c f } := rfl
@[simp] theorem State.modChan_cap (s : State) (c : Nat) (f : Chan → Chan) : (s.modChan c f).cap = s.cap := rfl
@[simp] theorem State.modChan_tsu (s : State) (c : Nat) (f : Chan → Chan) : (s.modChan c f).tsu = s.tsu := rfl
@[simp] theorem State.modChan_coil (s : State) (c : Nat) (f : Chan → Chan) : (s.modChan c f).coil = s.coil := rfl
@[simp] theorem State.modChan_hif (s : State) (c : Nat) (f : Chan → Chan) : (s.modChan c f).hif = s.hif := rfl
@[simp] theorem State.modChan_thm (s : State) (c : Nat) (f : Chan → Chan) : (s.modChan c f).thm = s.thm := rfl
@[simp] theorem State.modChan_sfe (s : State) (c : Nat) (f : Chan → Chan) : (s.modChan c f).sfe = s.sfe := rfl
@[simp] theorem State.modChan_sec (s : State) (c : Nat) (f : Chan → Chan) : (s.modChan c f).sec = s.sec := rfl
@[simp] theorem State.modChan_pins (s : State) (c : Nat) (f : Chan → Chan) : (s.modChan c f).pins = s.pins := rfl
@[simp] theorem State.modChan_freeNext (s : State) (c : Nat) (f : Chan → Chan) : (s.modChan c f).freeNext = s.freeNext := rfl
@[simp] theorem State.modChan_pending (s : State) (c : Nat) (f : Chan → Chan) : (s.modChan c f).pending = s.pending := rfl

/-! ## State.modCon -/

@[simp] theorem State.modCon_now (s : State) (c : Nat) (f : Consumer → Consumer) : (s.modCon c f).now = s.now := rfl
@[simp] theorem State.modCon_regs (s : State) (c : Nat) (f : Consumer → Consumer) : (s.modCon c f).regs = s.regs := rfl
@[simp] theorem State.modCon_locks (s : State) (c : Nat) (f : Consumer → Consumer) : (s.modCon c f).locks = s.locks := rfl
@[simp] theorem State.modCon_stat (s : State) (c : Nat) (f : Consumer → Consumer) : (s.modCon c f).stat = s.stat := rfl
@[simp] theorem State.modCon_wide (s : State) (c : Nat) (f : Consumer → Consumer) : (s.modCon c f).wide = s.wide := rfl
@[simp] theorem State.modCon_deferred (s : State) (c : Nat) (f : Consumer → Consumer) : (s.modCon c f).deferred = s.deferred := rfl
@[simp] theorem State.modCon_recent (s : State) (c : Nat) (f : Consumer → Consumer) : (s.modCon c f).recent = s.recent := rfl
@[simp] theorem State.modCon_mbxS (s : State) (c : Nat) (f : Consumer → Consumer) : (s.modCon c f).mbxS = s.mbxS := rfl
@[simp] theorem State.modCon_mbxG (s : State) (c : Nat) (f : Consumer → Consumer) : (s.modCon c f).mbxG = s.mbxG := rfl
@[simp] theorem State.modCon_mbxH (s : State) (c : Nat) (f : Consumer → Consumer) : (s.modCon c f).mbxH = s.mbxH := rfl
@[simp] theorem State.modCon_lastWrites (s : State) (c : Nat) (f : Consumer → Consumer) : (s.modCon c f).lastWrites = s.lastWrites := rfl
@[simp] theorem State.modCon_rdata (s : State) (c : Nat) (f : Consumer → Consumer) : (s.modCon c f).rdata = s.rdata := rfl
@[simp] theorem State.modCon_crc (s : State) (c : Nat) (f : Consumer → Consumer) : (s.modCon c f).crc = s.crc := rfl
@[simp] theorem State.modCon_timers (s : State) (c : Nat) (f : Consumer → Consumer) : (s.modCon c f).timers = s.timers := rfl
@[simp] theorem State.modCon_log (s : State) (c : Nat) (f : Consumer → Consumer) : (s.modCon c f).log = s.log := rfl
@[simp] theorem State.modCon_clk (s : State) (c : Nat) (f : Consumer → Consumer) : (s.modCon c f).clk = s.clk := rfl
@[simp] theorem State.modCon_mode (s : State) (c : Nat) (f : Consumer → Consumer) : (s.modCon c f).mode = s.mode := rfl
@[simp] theorem State.modCon_whl (s : State) (c : Nat) (f : Consumer → Consumer) : (s.modCon c f).whl = s.whl := rfl
@[simp] theorem State.modCon_pix (s : State) (c : Nat) (f : Consumer → Consumer) : (s.modCon c f).pix = s.pix := rfl
@[simp] theorem State.modCon_emt (s : State) (c : Nat) (f : Consumer → Consumer) : (s.modCon c f).emt = s.emt := rfl
@[simp] theorem State.modCon_str (s : State) (c : Nat) (f : Consumer → Consumer) : (s.modCon c f).str = s.str := rfl
@[simp] theorem State.modCon_lan (s : State) (c : Nat) (f : Consumer → Consumer) : (s.modCon c f).lan = s.lan := rfl
@[simp] theorem State.modCon_cal (s : State) (c : Nat) (f : Consumer → Consumer) : (s.modCon c f).cal = s.cal := rfl
@[simp] theorem State.modCon_kln (s : State) (c : Nat) (f : Consumer → Consumer) : (s.modCon c f).kln = s.kln := rfl
@[simp] theorem State.modCon_shf (s : State) (c : Nat) (f : Consumer → Consumer) : (s.modCon c f).shf = s.shf := rfl
@[simp] theorem State.modCon_glz (s : State) (c : Nat) (f : Consumer → Consumer) : (s.modCon c f).glz = s.glz := rfl
@[simp] theorem State.modCon_pq (s : State) (c : Nat) (f : Consumer → Consumer) : (s.modCon c f).pq = s.pq.setCon c (f (s.pq.con c)) := rfl
@[simp] theorem State.modCon_mem (s : State) (c : Nat) (f : Consumer → Consumer) : (s.modCon c f).mem = s.mem := rfl
@[simp] theorem State.modCon_cap (s : State) (c : Nat) (f : Consumer → Consumer) : (s.modCon c f).cap = s.cap := rfl
@[simp] theorem State.modCon_tsu (s : State) (c : Nat) (f : Consumer → Consumer) : (s.modCon c f).tsu = s.tsu := rfl
@[simp] theorem State.modCon_coil (s : State) (c : Nat) (f : Consumer → Consumer) : (s.modCon c f).coil = s.coil := rfl
@[simp] theorem State.modCon_hif (s : State) (c : Nat) (f : Consumer → Consumer) : (s.modCon c f).hif = s.hif := rfl
@[simp] theorem State.modCon_thm (s : State) (c : Nat) (f : Consumer → Consumer) : (s.modCon c f).thm = s.thm := rfl
@[simp] theorem State.modCon_sfe (s : State) (c : Nat) (f : Consumer → Consumer) : (s.modCon c f).sfe = s.sfe := rfl
@[simp] theorem State.modCon_sec (s : State) (c : Nat) (f : Consumer → Consumer) : (s.modCon c f).sec = s.sec := rfl
@[simp] theorem State.modCon_pins (s : State) (c : Nat) (f : Consumer → Consumer) : (s.modCon c f).pins = s.pins := rfl
@[simp] theorem State.modCon_freeNext (s : State) (c : Nat) (f : Consumer → Consumer) : (s.modCon c f).freeNext = s.freeNext := rfl
@[simp] theorem State.modCon_pending (s : State) (c : Nat) (f : Consumer → Consumer) : (s.modCon c f).pending = s.pending := rfl

/-! ## State.modFrame -/

@[simp] theorem State.modFrame_now (s : State) (i : Nat) (f : FrameQ → FrameQ) : (s.modFrame i f).now = s.now := rfl
@[simp] theorem State.modFrame_regs (s : State) (i : Nat) (f : FrameQ → FrameQ) : (s.modFrame i f).regs = s.regs := rfl
@[simp] theorem State.modFrame_locks (s : State) (i : Nat) (f : FrameQ → FrameQ) : (s.modFrame i f).locks = s.locks := rfl
@[simp] theorem State.modFrame_stat (s : State) (i : Nat) (f : FrameQ → FrameQ) : (s.modFrame i f).stat = s.stat := rfl
@[simp] theorem State.modFrame_wide (s : State) (i : Nat) (f : FrameQ → FrameQ) : (s.modFrame i f).wide = s.wide := rfl
@[simp] theorem State.modFrame_deferred (s : State) (i : Nat) (f : FrameQ → FrameQ) : (s.modFrame i f).deferred = s.deferred := rfl
@[simp] theorem State.modFrame_recent (s : State) (i : Nat) (f : FrameQ → FrameQ) : (s.modFrame i f).recent = s.recent := rfl
@[simp] theorem State.modFrame_mbxS (s : State) (i : Nat) (f : FrameQ → FrameQ) : (s.modFrame i f).mbxS = s.mbxS := rfl
@[simp] theorem State.modFrame_mbxG (s : State) (i : Nat) (f : FrameQ → FrameQ) : (s.modFrame i f).mbxG = s.mbxG := rfl
@[simp] theorem State.modFrame_mbxH (s : State) (i : Nat) (f : FrameQ → FrameQ) : (s.modFrame i f).mbxH = s.mbxH := rfl
@[simp] theorem State.modFrame_lastWrites (s : State) (i : Nat) (f : FrameQ → FrameQ) : (s.modFrame i f).lastWrites = s.lastWrites := rfl
@[simp] theorem State.modFrame_rdata (s : State) (i : Nat) (f : FrameQ → FrameQ) : (s.modFrame i f).rdata = s.rdata := rfl
@[simp] theorem State.modFrame_crc (s : State) (i : Nat) (f : FrameQ → FrameQ) : (s.modFrame i f).crc = s.crc := rfl
@[simp] theorem State.modFrame_timers (s : State) (i : Nat) (f : FrameQ → FrameQ) : (s.modFrame i f).timers = s.timers := rfl
@[simp] theorem State.modFrame_log (s : State) (i : Nat) (f : FrameQ → FrameQ) : (s.modFrame i f).log = s.log := rfl
@[simp] theorem State.modFrame_clk (s : State) (i : Nat) (f : FrameQ → FrameQ) : (s.modFrame i f).clk = s.clk := rfl
@[simp] theorem State.modFrame_mode (s : State) (i : Nat) (f : FrameQ → FrameQ) : (s.modFrame i f).mode = s.mode := rfl
@[simp] theorem State.modFrame_whl (s : State) (i : Nat) (f : FrameQ → FrameQ) : (s.modFrame i f).whl = s.whl := rfl
@[simp] theorem State.modFrame_pix (s : State) (i : Nat) (f : FrameQ → FrameQ) : (s.modFrame i f).pix = s.pix := rfl
@[simp] theorem State.modFrame_emt (s : State) (i : Nat) (f : FrameQ → FrameQ) : (s.modFrame i f).emt = s.emt := rfl
@[simp] theorem State.modFrame_str (s : State) (i : Nat) (f : FrameQ → FrameQ) : (s.modFrame i f).str = s.str := rfl
@[simp] theorem State.modFrame_lan (s : State) (i : Nat) (f : FrameQ → FrameQ) : (s.modFrame i f).lan = s.lan := rfl
@[simp] theorem State.modFrame_cal (s : State) (i : Nat) (f : FrameQ → FrameQ) : (s.modFrame i f).cal = s.cal := rfl
@[simp] theorem State.modFrame_kln (s : State) (i : Nat) (f : FrameQ → FrameQ) : (s.modFrame i f).kln = s.kln := rfl
@[simp] theorem State.modFrame_shf (s : State) (i : Nat) (f : FrameQ → FrameQ) : (s.modFrame i f).shf = s.shf := rfl
@[simp] theorem State.modFrame_glz (s : State) (i : Nat) (f : FrameQ → FrameQ) : (s.modFrame i f).glz = s.glz := rfl
@[simp] theorem State.modFrame_pq (s : State) (i : Nat) (f : FrameQ → FrameQ) : (s.modFrame i f).pq = { s.pq with frames := s.pq.frames.map (fun q => if q.fid = i then f q else q) } := rfl
@[simp] theorem State.modFrame_mem (s : State) (i : Nat) (f : FrameQ → FrameQ) : (s.modFrame i f).mem = s.mem := rfl
@[simp] theorem State.modFrame_cap (s : State) (i : Nat) (f : FrameQ → FrameQ) : (s.modFrame i f).cap = s.cap := rfl
@[simp] theorem State.modFrame_tsu (s : State) (i : Nat) (f : FrameQ → FrameQ) : (s.modFrame i f).tsu = s.tsu := rfl
@[simp] theorem State.modFrame_coil (s : State) (i : Nat) (f : FrameQ → FrameQ) : (s.modFrame i f).coil = s.coil := rfl
@[simp] theorem State.modFrame_hif (s : State) (i : Nat) (f : FrameQ → FrameQ) : (s.modFrame i f).hif = s.hif := rfl
@[simp] theorem State.modFrame_thm (s : State) (i : Nat) (f : FrameQ → FrameQ) : (s.modFrame i f).thm = s.thm := rfl
@[simp] theorem State.modFrame_sfe (s : State) (i : Nat) (f : FrameQ → FrameQ) : (s.modFrame i f).sfe = s.sfe := rfl
@[simp] theorem State.modFrame_sec (s : State) (i : Nat) (f : FrameQ → FrameQ) : (s.modFrame i f).sec = s.sec := rfl
@[simp] theorem State.modFrame_pins (s : State) (i : Nat) (f : FrameQ → FrameQ) : (s.modFrame i f).pins = s.pins := rfl
@[simp] theorem State.modFrame_freeNext (s : State) (i : Nat) (f : FrameQ → FrameQ) : (s.modFrame i f).freeNext = s.freeNext := rfl
@[simp] theorem State.modFrame_pending (s : State) (i : Nat) (f : FrameQ → FrameQ) : (s.modFrame i f).pending = s.pending := rfl

/-! ## State.setTimer -/

@[simp] theorem State.setTimer_now (s : State) (n : Nat) (x : Timer) : (s.setTimer n x).now = s.now := rfl
@[simp] theorem State.setTimer_regs (s : State) (n : Nat) (x : Timer) : (s.setTimer n x).regs = s.regs := rfl
@[simp] theorem State.setTimer_locks (s : State) (n : Nat) (x : Timer) : (s.setTimer n x).locks = s.locks := rfl
@[simp] theorem State.setTimer_stat (s : State) (n : Nat) (x : Timer) : (s.setTimer n x).stat = s.stat := rfl
@[simp] theorem State.setTimer_wide (s : State) (n : Nat) (x : Timer) : (s.setTimer n x).wide = s.wide := rfl
@[simp] theorem State.setTimer_deferred (s : State) (n : Nat) (x : Timer) : (s.setTimer n x).deferred = s.deferred := rfl
@[simp] theorem State.setTimer_recent (s : State) (n : Nat) (x : Timer) : (s.setTimer n x).recent = s.recent := rfl
@[simp] theorem State.setTimer_mbxS (s : State) (n : Nat) (x : Timer) : (s.setTimer n x).mbxS = s.mbxS := rfl
@[simp] theorem State.setTimer_mbxG (s : State) (n : Nat) (x : Timer) : (s.setTimer n x).mbxG = s.mbxG := rfl
@[simp] theorem State.setTimer_mbxH (s : State) (n : Nat) (x : Timer) : (s.setTimer n x).mbxH = s.mbxH := rfl
@[simp] theorem State.setTimer_lastWrites (s : State) (n : Nat) (x : Timer) : (s.setTimer n x).lastWrites = s.lastWrites := rfl
@[simp] theorem State.setTimer_rdata (s : State) (n : Nat) (x : Timer) : (s.setTimer n x).rdata = s.rdata := rfl
@[simp] theorem State.setTimer_crc (s : State) (n : Nat) (x : Timer) : (s.setTimer n x).crc = s.crc := rfl
@[simp] theorem State.setTimer_timers (s : State) (n : Nat) (x : Timer) : (s.setTimer n x).timers = fset {} s.timers n x := rfl
@[simp] theorem State.setTimer_log (s : State) (n : Nat) (x : Timer) : (s.setTimer n x).log = s.log := rfl
@[simp] theorem State.setTimer_clk (s : State) (n : Nat) (x : Timer) : (s.setTimer n x).clk = s.clk := rfl
@[simp] theorem State.setTimer_mode (s : State) (n : Nat) (x : Timer) : (s.setTimer n x).mode = s.mode := rfl
@[simp] theorem State.setTimer_whl (s : State) (n : Nat) (x : Timer) : (s.setTimer n x).whl = s.whl := rfl
@[simp] theorem State.setTimer_pix (s : State) (n : Nat) (x : Timer) : (s.setTimer n x).pix = s.pix := rfl
@[simp] theorem State.setTimer_emt (s : State) (n : Nat) (x : Timer) : (s.setTimer n x).emt = s.emt := rfl
@[simp] theorem State.setTimer_str (s : State) (n : Nat) (x : Timer) : (s.setTimer n x).str = s.str := rfl
@[simp] theorem State.setTimer_lan (s : State) (n : Nat) (x : Timer) : (s.setTimer n x).lan = s.lan := rfl
@[simp] theorem State.setTimer_cal (s : State) (n : Nat) (x : Timer) : (s.setTimer n x).cal = s.cal := rfl
@[simp] theorem State.setTimer_kln (s : State) (n : Nat) (x : Timer) : (s.setTimer n x).kln = s.kln := rfl
@[simp] theorem State.setTimer_shf (s : State) (n : Nat) (x : Timer) : (s.setTimer n x).shf = s.shf := rfl
@[simp] theorem State.setTimer_glz (s : State) (n : Nat) (x : Timer) : (s.setTimer n x).glz = s.glz := rfl
@[simp] theorem State.setTimer_pq (s : State) (n : Nat) (x : Timer) : (s.setTimer n x).pq = s.pq := rfl
@[simp] theorem State.setTimer_mem (s : State) (n : Nat) (x : Timer) : (s.setTimer n x).mem = s.mem := rfl
@[simp] theorem State.setTimer_cap (s : State) (n : Nat) (x : Timer) : (s.setTimer n x).cap = s.cap := rfl
@[simp] theorem State.setTimer_tsu (s : State) (n : Nat) (x : Timer) : (s.setTimer n x).tsu = s.tsu := rfl
@[simp] theorem State.setTimer_coil (s : State) (n : Nat) (x : Timer) : (s.setTimer n x).coil = s.coil := rfl
@[simp] theorem State.setTimer_hif (s : State) (n : Nat) (x : Timer) : (s.setTimer n x).hif = s.hif := rfl
@[simp] theorem State.setTimer_thm (s : State) (n : Nat) (x : Timer) : (s.setTimer n x).thm = s.thm := rfl
@[simp] theorem State.setTimer_sfe (s : State) (n : Nat) (x : Timer) : (s.setTimer n x).sfe = s.sfe := rfl
@[simp] theorem State.setTimer_sec (s : State) (n : Nat) (x : Timer) : (s.setTimer n x).sec = s.sec := rfl
@[simp] theorem State.setTimer_pins (s : State) (n : Nat) (x : Timer) : (s.setTimer n x).pins = s.pins := rfl
@[simp] theorem State.setTimer_freeNext (s : State) (n : Nat) (x : Timer) : (s.setTimer n x).freeNext = s.freeNext := rfl
@[simp] theorem State.setTimer_pending (s : State) (n : Nat) (x : Timer) : (s.setTimer n x).pending = s.pending := rfl

end Sys2Proof.Machine
end

