-- ==== Sys2Proof/Laws/Ops.lean ====
section
/-! SUPPORT. What the shared operations may touch: the log and its vectors, S registers, wide values, the recorder's ring.
Every other part of the state is as before. -/

namespace Sys2Proof.Machine

/-- `t` differs from `s` at most in what recording an event or counting may touch: the log, the
event-ring buffer, vectors and posted messages, S registers, wide values, the bytes of memory and the recorder's position,
and the capture conditions. -/
def Quiet (s t : State) : Prop :=
  t = { s with
    log := t.log, stat := t.stat, wide := t.wide, deferred := t.deferred, recent := t.recent
    hif := { s.hif with evBuf := t.hif.evBuf, vecs := t.hif.vecs, posted := t.hif.posted }
    mem := { s.mem with bytes := t.mem.bytes }
    cap := { s.cap with conds := t.cap.conds, recOff := t.cap.recOff, recWraps := t.cap.recWraps, recGap := t.cap.recGap } }

theorem Quiet.refl (s : State) : Quiet s s := rfl

theorem Quiet.trans {a b c : State} (h : Quiet a b) (k : Quiet b c) : Quiet a c := by
  unfold Quiet at *
  rw [k, h]

theorem Quiet.now {s t : State} (h : Quiet s t) : t.now = s.now := by unfold Quiet at h; rw [h]
theorem Quiet.regs {s t : State} (h : Quiet s t) : t.regs = s.regs := by unfold Quiet at h; rw [h]
theorem Quiet.locks {s t : State} (h : Quiet s t) : t.locks = s.locks := by unfold Quiet at h; rw [h]
theorem Quiet.mbxS {s t : State} (h : Quiet s t) : t.mbxS = s.mbxS := by unfold Quiet at h; rw [h]
theorem Quiet.mbxG {s t : State} (h : Quiet s t) : t.mbxG = s.mbxG := by unfold Quiet at h; rw [h]
theorem Quiet.mbxH {s t : State} (h : Quiet s t) : t.mbxH = s.mbxH := by unfold Quiet at h; rw [h]
theorem Quiet.lastWrites {s t : State} (h : Quiet s t) : t.lastWrites = s.lastWrites := by unfold Quiet at h; rw [h]
theorem Quiet.rdata {s t : State} (h : Quiet s t) : t.rdata = s.rdata := by unfold Quiet at h; rw [h]
theorem Quiet.crc {s t : State} (h : Quiet s t) : t.crc = s.crc := by unfold Quiet at h; rw [h]
theorem Quiet.timers {s t : State} (h : Quiet s t) : t.timers = s.timers := by unfold Quiet at h; rw [h]
theorem Quiet.clk {s t : State} (h : Quiet s t) : t.clk = s.clk := by unfold Quiet at h; rw [h]
theorem Quiet.mode {s t : State} (h : Quiet s t) : t.mode = s.mode := by unfold Quiet at h; rw [h]
theorem Quiet.whl {s t : State} (h : Quiet s t) : t.whl = s.whl := by unfold Quiet at h; rw [h]
theorem Quiet.pix {s t : State} (h : Quiet s t) : t.pix = s.pix := by unfold Quiet at h; rw [h]
theorem Quiet.emt {s t : State} (h : Quiet s t) : t.emt = s.emt := by unfold Quiet at h; rw [h]
theorem Quiet.str {s t : State} (h : Quiet s t) : t.str = s.str := by unfold Quiet at h; rw [h]
theorem Quiet.lan {s t : State} (h : Quiet s t) : t.lan = s.lan := by unfold Quiet at h; rw [h]
theorem Quiet.cal {s t : State} (h : Quiet s t) : t.cal = s.cal := by unfold Quiet at h; rw [h]
theorem Quiet.kln {s t : State} (h : Quiet s t) : t.kln = s.kln := by unfold Quiet at h; rw [h]
theorem Quiet.shf {s t : State} (h : Quiet s t) : t.shf = s.shf := by unfold Quiet at h; rw [h]
theorem Quiet.glz {s t : State} (h : Quiet s t) : t.glz = s.glz := by unfold Quiet at h; rw [h]
theorem Quiet.pq {s t : State} (h : Quiet s t) : t.pq = s.pq := by unfold Quiet at h; rw [h]
theorem Quiet.tsu {s t : State} (h : Quiet s t) : t.tsu = s.tsu := by unfold Quiet at h; rw [h]
theorem Quiet.coil {s t : State} (h : Quiet s t) : t.coil = s.coil := by unfold Quiet at h; rw [h]
theorem Quiet.thm {s t : State} (h : Quiet s t) : t.thm = s.thm := by unfold Quiet at h; rw [h]
theorem Quiet.sfe {s t : State} (h : Quiet s t) : t.sfe = s.sfe := by unfold Quiet at h; rw [h]
theorem Quiet.sec {s t : State} (h : Quiet s t) : t.sec = s.sec := by unfold Quiet at h; rw [h]
theorem Quiet.pins {s t : State} (h : Quiet s t) : t.pins = s.pins := by unfold Quiet at h; rw [h]
theorem Quiet.freeNext {s t : State} (h : Quiet s t) : t.freeNext = s.freeNext := by unfold Quiet at h; rw [h]
theorem Quiet.pending {s t : State} (h : Quiet s t) : t.pending = s.pending := by unfold Quiet at h; rw [h]

/-! ## One lemma for each shared operation -/

theorem State.sendMsi_quiet (s : State) (v : Nat) : Quiet s (s.sendMsi v) := rfl

theorem State.signal_quiet (s : State) (v : Nat) : Quiet s (s.signal v) := by
  unfold State.signal
  dsimp only
  (repeat' split) <;> first | exact State.sendMsi_quiet _ _ | rfl

theorem State.raise_quiet (s : State) (off : Nat) (f : BitVec 16) : Quiet s (s.raise off f) := by
  unfold State.raise
  have h (x : SReg) : Quiet s { s with stat := fset {} s.stat off x } := rfl
  dsimp only
  (repeat' split) <;> first | exact h _ | exact (h _).trans (State.signal_quiet _ _)

theorem State.capCond_quiet (s : State) (a u f : Nat) (i : Bool) (d : Nat) : Quiet s (s.capCond a u f i d) := by
  unfold State.capCond
  split <;> rfl

theorem State.logPush_quiet (s : State) (e : LogEntry) : Quiet s (s.logPush e) := by
  unfold State.logPush
  have h (l : FaultLog) : Quiet s { s with log := l } := rfl
  dsimp only
  split
  · exact ((h _).trans (State.capCond_quiet _ _ _ _ _ _)).trans (State.signal_quiet _ _)
  · exact (h _).trans (State.signal_quiet _ _)

theorem State.event_quiet (s : State) (off b : Nat) (i : Info) : Quiet s (s.event off b i) :=
  (State.raise_quiet _ _ _).trans (State.logPush_quiet _ _)

theorem State.eventNoFlag_quiet (s : State) (k n : Nat) (i : Info) : Quiet s (s.eventNoFlag k n i) := State.logPush_quiet _ _

theorem State.updWide_quiet (s : State) (id : Nat) (u : WideUpd) : Quiet s (s.updWide id u) := by
  unfold State.updWide
  dsimp only
  split <;> rfl

theorem State.putWide_quiet (s : State) (id v : Nat) : Quiet s (s.putWide id v) := State.updWide_quiet _ _ _

theorem State.bump_quiet (s : State) (id n : Nat) : Quiet s (s.bump id n) := by
  unfold State.bump
  split
  · exact Quiet.refl _
  · exact State.updWide_quiet _ _ _

theorem State.faultEntry_quiet (s : State) (c : Nat) (i : Info) : Quiet s (s.faultEntry c i) :=
  (State.logPush_quiet _ _).trans (State.raise_quiet _ _ _)

theorem State.faultCe_quiet (s : State) (c : Nat) (i : Info) : Quiet s (s.faultCe c i) := by
  have h (l : FaultLog) : Quiet s { s with log := l } := rfl
  unfold State.faultCe
  dsimp only
  (repeat' split) <;>
    first
      | exact ((h _).trans (State.logPush_quiet _ _)).trans (State.raise_quiet _ _ _)
      | exact (h _).trans (State.bump_quiet _ _ _)

theorem State.fault_quiet (s : State) (c off : Nat) (f : BitVec 16) (i : Info) : Quiet s (s.fault c off f i) := by
  unfold State.fault
  dsimp only
  split
  · exact (State.raise_quiet _ _ _).trans (State.faultCe_quiet _ _ _)
  · exact (State.raise_quiet _ _ _).trans (State.faultEntry_quiet _ _ _)

theorem State.paramClamp_quiet (s : State) (a v p : Nat) : Quiet s (s.paramClamp a v p) := State.event_quiet _ _ _ _

theorem State.lenClamp_quiet (s : State) (a v p : Nat) : Quiet s (s.lenClamp a v p) := State.event_quiet _ _ _ _

theorem State.accessErr_quiet (s : State) (off p : Nat) : Quiet s (s.accessErr off p) := State.event_quiet _ _ _ _

/-- A fold of quiet steps is quiet. -/
theorem Quiet.foldl {α : Type} (l : List α) (f : State → α → State) (h : ∀ s a, Quiet s (f s a)) (s : State) :
    Quiet s (l.foldl f s) := by
  induction l generalizing s with
  | nil => exact Quiet.refl _
  | cons a l ih => exact (h s a).trans (ih _)

theorem State.memPut_quiet (s : State) (a n v : Nat) : Quiet s (s.memPut a n v) := by
  unfold State.memPut forN
  refine Quiet.foldl _ _ (fun s i => ?_) s
  rfl

theorem State.portFault_quiet (s : State) (p l c q : Nat) : Quiet s (s.portFault p l c q) :=
  (State.putWide_quiet _ _ _).trans (State.fault_quiet _ _ _ _ _)

theorem State.recMove_quiet (s : State) (n : Nat) : Quiet s (s.recMove n) := by
  unfold State.recMove
  split <;> rfl

theorem State.recPut_quiet (s : State) (r : BitVec 128) : Quiet s (s.recPut r) := by
  unfold State.recPut
  dsimp only
  split
  · exact Quiet.refl _
  · split
    · exact ((State.memPut_quiet _ _ _ _).trans (State.recMove_quiet _ _)).trans (State.putWide_quiet _ _ _)
    · refine Quiet.trans ?_ ((State.recMove_quiet _ _).trans (State.putWide_quiet _ _ _))
      exact (((State.portFault_quiet _ _ _ _ _).trans (State.fault_quiet _ _ _ _ _)).trans
        ((State.bump_quiet _ _ _).trans (State.putWide_quiet _ _ _))).trans rfl

theorem State.recWrite_quiet (s : State) (r : BitVec 128) : Quiet s (s.recWrite r) := by
  unfold State.recWrite
  split
  · exact State.recPut_quiet _ _
  · have h : Quiet s { s with cap := { s.cap with recGap := none } } := rfl
    exact (h.trans (State.recPut_quiet _ _)).trans (State.recPut_quiet _ _)

theorem State.logRing_quiet (s : State) (e : LogEntry) : Quiet s (s.logRing e) := by
  have h (l : FaultLog) : Quiet s { s with log := l } := rfl
  unfold State.logRing
  dsimp only
  split
  · exact (h _).trans (State.raise_quiet _ _ _)
  · exact h _

theorem State.logHost_quiet (s : State) (r : BitVec 128) : Quiet s (s.logHost r) := by
  unfold State.logHost
  split
  · rfl
  · exact (State.bump_quiet _ _ _).trans (State.raise_quiet _ _ _)

theorem State.logCommit_quiet (s : State) (e : LogEntry) : Quiet s (s.logCommit e) := by
  have h := (State.logRing_quiet s e).trans (State.logHost_quiet _ (eventRec s.log.nextSeq e))
  unfold State.logCommit
  dsimp only
  split
  · exact h.trans (State.recWrite_quiet _ _)
  · exact h

theorem State.settleLog_quiet (s : State) : Quiet s s.settleLog := by
  unfold State.settleLog
  dsimp only
  split
  · exact Quiet.refl _
  · exact Quiet.trans (b := { s with log := _ }) rfl (Quiet.foldl _ _ State.logCommit_quiet _)

/-- Time passes: nothing but the log, what the log feeds, and the tick change. -/
theorem State.at_quiet (s : State) (t : Nat) : Quiet { s with now := max s.now t } (s.at t) := State.settleLog_quiet _

/-! ## State.signal -/

@[simp] theorem State.signal_now (s : State) (v : Nat) : (s.signal v).now = s.now := (State.signal_quiet s v).now
@[simp] theorem State.signal_regs (s : State) (v : Nat) : (s.signal v).regs = s.regs := (State.signal_quiet s v).regs
@[simp] theorem State.signal_locks (s : State) (v : Nat) : (s.signal v).locks = s.locks := (State.signal_quiet s v).locks
@[simp] theorem State.signal_mbxS (s : State) (v : Nat) : (s.signal v).mbxS = s.mbxS := (State.signal_quiet s v).mbxS
@[simp] theorem State.signal_mbxG (s : State) (v : Nat) : (s.signal v).mbxG = s.mbxG := (State.signal_quiet s v).mbxG
@[simp] theorem State.signal_mbxH (s : State) (v : Nat) : (s.signal v).mbxH = s.mbxH := (State.signal_quiet s v).mbxH
@[simp] theorem State.signal_lastWrites (s : State) (v : Nat) : (s.signal v).lastWrites = s.lastWrites := (State.signal_quiet s v).lastWrites
@[simp] theorem State.signal_rdata (s : State) (v : Nat) : (s.signal v).rdata = s.rdata := (State.signal_quiet s v).rdata
@[simp] theorem State.signal_crc (s : State) (v : Nat) : (s.signal v).crc = s.crc := (State.signal_quiet s v).crc
@[simp] theorem State.signal_timers (s : State) (v : Nat) : (s.signal v).timers = s.timers := (State.signal_quiet s v).timers
@[simp] theorem State.signal_clk (s : State) (v : Nat) : (s.signal v).clk = s.clk := (State.signal_quiet s v).clk
@[simp] theorem State.signal_mode (s : State) (v : Nat) : (s.signal v).mode = s.mode := (State.signal_quiet s v).mode
@[simp] theorem State.signal_whl (s : State) (v : Nat) : (s.signal v).whl = s.whl := (State.signal_quiet s v).whl
@[simp] theorem State.signal_pix (s : State) (v : Nat) : (s.signal v).pix = s.pix := (State.signal_quiet s v).pix
@[simp] theorem State.signal_emt (s : State) (v : Nat) : (s.signal v).emt = s.emt := (State.signal_quiet s v).emt
@[simp] theorem State.signal_str (s : State) (v : Nat) : (s.signal v).str = s.str := (State.signal_quiet s v).str
@[simp] theorem State.signal_lan (s : State) (v : Nat) : (s.signal v).lan = s.lan := (State.signal_quiet s v).lan
@[simp] theorem State.signal_cal (s : State) (v : Nat) : (s.signal v).cal = s.cal := (State.signal_quiet s v).cal
@[simp] theorem State.signal_kln (s : State) (v : Nat) : (s.signal v).kln = s.kln := (State.signal_quiet s v).kln
@[simp] theorem State.signal_shf (s : State) (v : Nat) : (s.signal v).shf = s.shf := (State.signal_quiet s v).shf
@[simp] theorem State.signal_glz (s : State) (v : Nat) : (s.signal v).glz = s.glz := (State.signal_quiet s v).glz
@[simp] theorem State.signal_pq (s : State) (v : Nat) : (s.signal v).pq = s.pq := (State.signal_quiet s v).pq
@[simp] theorem State.signal_tsu (s : State) (v : Nat) : (s.signal v).tsu = s.tsu := (State.signal_quiet s v).tsu
@[simp] theorem State.signal_coil (s : State) (v : Nat) : (s.signal v).coil = s.coil := (State.signal_quiet s v).coil
@[simp] theorem State.signal_thm (s : State) (v : Nat) : (s.signal v).thm = s.thm := (State.signal_quiet s v).thm
@[simp] theorem State.signal_sfe (s : State) (v : Nat) : (s.signal v).sfe = s.sfe := (State.signal_quiet s v).sfe
@[simp] theorem State.signal_sec (s : State) (v : Nat) : (s.signal v).sec = s.sec := (State.signal_quiet s v).sec
@[simp] theorem State.signal_pins (s : State) (v : Nat) : (s.signal v).pins = s.pins := (State.signal_quiet s v).pins
@[simp] theorem State.signal_freeNext (s : State) (v : Nat) : (s.signal v).freeNext = s.freeNext := (State.signal_quiet s v).freeNext
@[simp] theorem State.signal_pending (s : State) (v : Nat) : (s.signal v).pending = s.pending := (State.signal_quiet s v).pending

/-! ## State.raise -/

@[simp] theorem State.raise_now (s : State) (off : Nat) (f : BitVec 16) : (s.raise off f).now = s.now := (State.raise_quiet s off f).now
@[simp] theorem State.raise_regs (s : State) (off : Nat) (f : BitVec 16) : (s.raise off f).regs = s.regs := (State.raise_quiet s off f).regs
@[simp] theorem State.raise_locks (s : State) (off : Nat) (f : BitVec 16) : (s.raise off f).locks = s.locks := (State.raise_quiet s off f).locks
@[simp] theorem State.raise_mbxS (s : State) (off : Nat) (f : BitVec 16) : (s.raise off f).mbxS = s.mbxS := (State.raise_quiet s off f).mbxS
@[simp] theorem State.raise_mbxG (s : State) (off : Nat) (f : BitVec 16) : (s.raise off f).mbxG = s.mbxG := (State.raise_quiet s off f).mbxG
@[simp] theorem State.raise_mbxH (s : State) (off : Nat) (f : BitVec 16) : (s.raise off f).mbxH = s.mbxH := (State.raise_quiet s off f).mbxH
@[simp] theorem State.raise_lastWrites (s : State) (off : Nat) (f : BitVec 16) : (s.raise off f).lastWrites = s.lastWrites := (State.raise_quiet s off f).lastWrites
@[simp] theorem State.raise_rdata (s : State) (off : Nat) (f : BitVec 16) : (s.raise off f).rdata = s.rdata := (State.raise_quiet s off f).rdata
@[simp] theorem State.raise_crc (s : State) (off : Nat) (f : BitVec 16) : (s.raise off f).crc = s.crc := (State.raise_quiet s off f).crc
@[simp] theorem State.raise_timers (s : State) (off : Nat) (f : BitVec 16) : (s.raise off f).timers = s.timers := (State.raise_quiet s off f).timers
@[simp] theorem State.raise_clk (s : State) (off : Nat) (f : BitVec 16) : (s.raise off f).clk = s.clk := (State.raise_quiet s off f).clk
@[simp] theorem State.raise_mode (s : State) (off : Nat) (f : BitVec 16) : (s.raise off f).mode = s.mode := (State.raise_quiet s off f).mode
@[simp] theorem State.raise_whl (s : State) (off : Nat) (f : BitVec 16) : (s.raise off f).whl = s.whl := (State.raise_quiet s off f).whl
@[simp] theorem State.raise_pix (s : State) (off : Nat) (f : BitVec 16) : (s.raise off f).pix = s.pix := (State.raise_quiet s off f).pix
@[simp] theorem State.raise_emt (s : State) (off : Nat) (f : BitVec 16) : (s.raise off f).emt = s.emt := (State.raise_quiet s off f).emt
@[simp] theorem State.raise_str (s : State) (off : Nat) (f : BitVec 16) : (s.raise off f).str = s.str := (State.raise_quiet s off f).str
@[simp] theorem State.raise_lan (s : State) (off : Nat) (f : BitVec 16) : (s.raise off f).lan = s.lan := (State.raise_quiet s off f).lan
@[simp] theorem State.raise_cal (s : State) (off : Nat) (f : BitVec 16) : (s.raise off f).cal = s.cal := (State.raise_quiet s off f).cal
@[simp] theorem State.raise_kln (s : State) (off : Nat) (f : BitVec 16) : (s.raise off f).kln = s.kln := (State.raise_quiet s off f).kln
@[simp] theorem State.raise_shf (s : State) (off : Nat) (f : BitVec 16) : (s.raise off f).shf = s.shf := (State.raise_quiet s off f).shf
@[simp] theorem State.raise_glz (s : State) (off : Nat) (f : BitVec 16) : (s.raise off f).glz = s.glz := (State.raise_quiet s off f).glz
@[simp] theorem State.raise_pq (s : State) (off : Nat) (f : BitVec 16) : (s.raise off f).pq = s.pq := (State.raise_quiet s off f).pq
@[simp] theorem State.raise_tsu (s : State) (off : Nat) (f : BitVec 16) : (s.raise off f).tsu = s.tsu := (State.raise_quiet s off f).tsu
@[simp] theorem State.raise_coil (s : State) (off : Nat) (f : BitVec 16) : (s.raise off f).coil = s.coil := (State.raise_quiet s off f).coil
@[simp] theorem State.raise_thm (s : State) (off : Nat) (f : BitVec 16) : (s.raise off f).thm = s.thm := (State.raise_quiet s off f).thm
@[simp] theorem State.raise_sfe (s : State) (off : Nat) (f : BitVec 16) : (s.raise off f).sfe = s.sfe := (State.raise_quiet s off f).sfe
@[simp] theorem State.raise_sec (s : State) (off : Nat) (f : BitVec 16) : (s.raise off f).sec = s.sec := (State.raise_quiet s off f).sec
@[simp] theorem State.raise_pins (s : State) (off : Nat) (f : BitVec 16) : (s.raise off f).pins = s.pins := (State.raise_quiet s off f).pins
@[simp] theorem State.raise_freeNext (s : State) (off : Nat) (f : BitVec 16) : (s.raise off f).freeNext = s.freeNext := (State.raise_quiet s off f).freeNext
@[simp] theorem State.raise_pending (s : State) (off : Nat) (f : BitVec 16) : (s.raise off f).pending = s.pending := (State.raise_quiet s off f).pending

/-! ## State.capCond -/

@[simp] theorem State.capCond_now (s : State) (a u f : Nat) (i : Bool) (d : Nat) : (s.capCond a u f i d).now = s.now := (State.capCond_quiet s a u f i d).now
@[simp] theorem State.capCond_regs (s : State) (a u f : Nat) (i : Bool) (d : Nat) : (s.capCond a u f i d).regs = s.regs := (State.capCond_quiet s a u f i d).regs
@[simp] theorem State.capCond_locks (s : State) (a u f : Nat) (i : Bool) (d : Nat) : (s.capCond a u f i d).locks = s.locks := (State.capCond_quiet s a u f i d).locks
@[simp] theorem State.capCond_mbxS (s : State) (a u f : Nat) (i : Bool) (d : Nat) : (s.capCond a u f i d).mbxS = s.mbxS := (State.capCond_quiet s a u f i d).mbxS
@[simp] theorem State.capCond_mbxG (s : State) (a u f : Nat) (i : Bool) (d : Nat) : (s.capCond a u f i d).mbxG = s.mbxG := (State.capCond_quiet s a u f i d).mbxG
@[simp] theorem State.capCond_mbxH (s : State) (a u f : Nat) (i : Bool) (d : Nat) : (s.capCond a u f i d).mbxH = s.mbxH := (State.capCond_quiet s a u f i d).mbxH
@[simp] theorem State.capCond_lastWrites (s : State) (a u f : Nat) (i : Bool) (d : Nat) : (s.capCond a u f i d).lastWrites = s.lastWrites := (State.capCond_quiet s a u f i d).lastWrites
@[simp] theorem State.capCond_rdata (s : State) (a u f : Nat) (i : Bool) (d : Nat) : (s.capCond a u f i d).rdata = s.rdata := (State.capCond_quiet s a u f i d).rdata
@[simp] theorem State.capCond_crc (s : State) (a u f : Nat) (i : Bool) (d : Nat) : (s.capCond a u f i d).crc = s.crc := (State.capCond_quiet s a u f i d).crc
@[simp] theorem State.capCond_timers (s : State) (a u f : Nat) (i : Bool) (d : Nat) : (s.capCond a u f i d).timers = s.timers := (State.capCond_quiet s a u f i d).timers
@[simp] theorem State.capCond_clk (s : State) (a u f : Nat) (i : Bool) (d : Nat) : (s.capCond a u f i d).clk = s.clk := (State.capCond_quiet s a u f i d).clk
@[simp] theorem State.capCond_mode (s : State) (a u f : Nat) (i : Bool) (d : Nat) : (s.capCond a u f i d).mode = s.mode := (State.capCond_quiet s a u f i d).mode
@[simp] theorem State.capCond_whl (s : State) (a u f : Nat) (i : Bool) (d : Nat) : (s.capCond a u f i d).whl = s.whl := (State.capCond_quiet s a u f i d).whl
@[simp] theorem State.capCond_pix (s : State) (a u f : Nat) (i : Bool) (d : Nat) : (s.capCond a u f i d).pix = s.pix := (State.capCond_quiet s a u f i d).pix
@[simp] theorem State.capCond_emt (s : State) (a u f : Nat) (i : Bool) (d : Nat) : (s.capCond a u f i d).emt = s.emt := (State.capCond_quiet s a u f i d).emt
@[simp] theorem State.capCond_str (s : State) (a u f : Nat) (i : Bool) (d : Nat) : (s.capCond a u f i d).str = s.str := (State.capCond_quiet s a u f i d).str
@[simp] theorem State.capCond_lan (s : State) (a u f : Nat) (i : Bool) (d : Nat) : (s.capCond a u f i d).lan = s.lan := (State.capCond_quiet s a u f i d).lan
@[simp] theorem State.capCond_cal (s : State) (a u f : Nat) (i : Bool) (d : Nat) : (s.capCond a u f i d).cal = s.cal := (State.capCond_quiet s a u f i d).cal
@[simp] theorem State.capCond_kln (s : State) (a u f : Nat) (i : Bool) (d : Nat) : (s.capCond a u f i d).kln = s.kln := (State.capCond_quiet s a u f i d).kln
@[simp] theorem State.capCond_shf (s : State) (a u f : Nat) (i : Bool) (d : Nat) : (s.capCond a u f i d).shf = s.shf := (State.capCond_quiet s a u f i d).shf
@[simp] theorem State.capCond_glz (s : State) (a u f : Nat) (i : Bool) (d : Nat) : (s.capCond a u f i d).glz = s.glz := (State.capCond_quiet s a u f i d).glz
@[simp] theorem State.capCond_pq (s : State) (a u f : Nat) (i : Bool) (d : Nat) : (s.capCond a u f i d).pq = s.pq := (State.capCond_quiet s a u f i d).pq
@[simp] theorem State.capCond_tsu (s : State) (a u f : Nat) (i : Bool) (d : Nat) : (s.capCond a u f i d).tsu = s.tsu := (State.capCond_quiet s a u f i d).tsu
@[simp] theorem State.capCond_coil (s : State) (a u f : Nat) (i : Bool) (d : Nat) : (s.capCond a u f i d).coil = s.coil := (State.capCond_quiet s a u f i d).coil
@[simp] theorem State.capCond_thm (s : State) (a u f : Nat) (i : Bool) (d : Nat) : (s.capCond a u f i d).thm = s.thm := (State.capCond_quiet s a u f i d).thm
@[simp] theorem State.capCond_sfe (s : State) (a u f : Nat) (i : Bool) (d : Nat) : (s.capCond a u f i d).sfe = s.sfe := (State.capCond_quiet s a u f i d).sfe
@[simp] theorem State.capCond_sec (s : State) (a u f : Nat) (i : Bool) (d : Nat) : (s.capCond a u f i d).sec = s.sec := (State.capCond_quiet s a u f i d).sec
@[simp] theorem State.capCond_pins (s : State) (a u f : Nat) (i : Bool) (d : Nat) : (s.capCond a u f i d).pins = s.pins := (State.capCond_quiet s a u f i d).pins
@[simp] theorem State.capCond_freeNext (s : State) (a u f : Nat) (i : Bool) (d : Nat) : (s.capCond a u f i d).freeNext = s.freeNext := (State.capCond_quiet s a u f i d).freeNext
@[simp] theorem State.capCond_pending (s : State) (a u f : Nat) (i : Bool) (d : Nat) : (s.capCond a u f i d).pending = s.pending := (State.capCond_quiet s a u f i d).pending

/-! ## State.logPush -/

@[simp] theorem State.logPush_now (s : State) (e : LogEntry) : (s.logPush e).now = s.now := (State.logPush_quiet s e).now
@[simp] theorem State.logPush_regs (s : State) (e : LogEntry) : (s.logPush e).regs = s.regs := (State.logPush_quiet s e).regs
@[simp] theorem State.logPush_locks (s : State) (e : LogEntry) : (s.logPush e).locks = s.locks := (State.logPush_quiet s e).locks
@[simp] theorem State.logPush_mbxS (s : State) (e : LogEntry) : (s.logPush e).mbxS = s.mbxS := (State.logPush_quiet s e).mbxS
@[simp] theorem State.logPush_mbxG (s : State) (e : LogEntry) : (s.logPush e).mbxG = s.mbxG := (State.logPush_quiet s e).mbxG
@[simp] theorem State.logPush_mbxH (s : State) (e : LogEntry) : (s.logPush e).mbxH = s.mbxH := (State.logPush_quiet s e).mbxH
@[simp] theorem State.logPush_lastWrites (s : State) (e : LogEntry) : (s.logPush e).lastWrites = s.lastWrites := (State.logPush_quiet s e).lastWrites
@[simp] theorem State.logPush_rdata (s : State) (e : LogEntry) : (s.logPush e).rdata = s.rdata := (State.logPush_quiet s e).rdata
@[simp] theorem State.logPush_crc (s : State) (e : LogEntry) : (s.logPush e).crc = s.crc := (State.logPush_quiet s e).crc
@[simp] theorem State.logPush_timers (s : State) (e : LogEntry) : (s.logPush e).timers = s.timers := (State.logPush_quiet s e).timers
@[simp] theorem State.logPush_clk (s : State) (e : LogEntry) : (s.logPush e).clk = s.clk := (State.logPush_quiet s e).clk
@[simp] theorem State.logPush_mode (s : State) (e : LogEntry) : (s.logPush e).mode = s.mode := (State.logPush_quiet s e).mode
@[simp] theorem State.logPush_whl (s : State) (e : LogEntry) : (s.logPush e).whl = s.whl := (State.logPush_quiet s e).whl
@[simp] theorem State.logPush_pix (s : State) (e : LogEntry) : (s.logPush e).pix = s.pix := (State.logPush_quiet s e).pix
@[simp] theorem State.logPush_emt (s : State) (e : LogEntry) : (s.logPush e).emt = s.emt := (State.logPush_quiet s e).emt
@[simp] theorem State.logPush_str (s : State) (e : LogEntry) : (s.logPush e).str = s.str := (State.logPush_quiet s e).str
@[simp] theorem State.logPush_lan (s : State) (e : LogEntry) : (s.logPush e).lan = s.lan := (State.logPush_quiet s e).lan
@[simp] theorem State.logPush_cal (s : State) (e : LogEntry) : (s.logPush e).cal = s.cal := (State.logPush_quiet s e).cal
@[simp] theorem State.logPush_kln (s : State) (e : LogEntry) : (s.logPush e).kln = s.kln := (State.logPush_quiet s e).kln
@[simp] theorem State.logPush_shf (s : State) (e : LogEntry) : (s.logPush e).shf = s.shf := (State.logPush_quiet s e).shf
@[simp] theorem State.logPush_glz (s : State) (e : LogEntry) : (s.logPush e).glz = s.glz := (State.logPush_quiet s e).glz
@[simp] theorem State.logPush_pq (s : State) (e : LogEntry) : (s.logPush e).pq = s.pq := (State.logPush_quiet s e).pq
@[simp] theorem State.logPush_tsu (s : State) (e : LogEntry) : (s.logPush e).tsu = s.tsu := (State.logPush_quiet s e).tsu
@[simp] theorem State.logPush_coil (s : State) (e : LogEntry) : (s.logPush e).coil = s.coil := (State.logPush_quiet s e).coil
@[simp] theorem State.logPush_thm (s : State) (e : LogEntry) : (s.logPush e).thm = s.thm := (State.logPush_quiet s e).thm
@[simp] theorem State.logPush_sfe (s : State) (e : LogEntry) : (s.logPush e).sfe = s.sfe := (State.logPush_quiet s e).sfe
@[simp] theorem State.logPush_sec (s : State) (e : LogEntry) : (s.logPush e).sec = s.sec := (State.logPush_quiet s e).sec
@[simp] theorem State.logPush_pins (s : State) (e : LogEntry) : (s.logPush e).pins = s.pins := (State.logPush_quiet s e).pins
@[simp] theorem State.logPush_freeNext (s : State) (e : LogEntry) : (s.logPush e).freeNext = s.freeNext := (State.logPush_quiet s e).freeNext
@[simp] theorem State.logPush_pending (s : State) (e : LogEntry) : (s.logPush e).pending = s.pending := (State.logPush_quiet s e).pending

/-! ## State.event -/

@[simp] theorem State.event_now (s : State) (off b : Nat) (i : Info) : (s.event off b i).now = s.now := (State.event_quiet s off b i).now
@[simp] theorem State.event_regs (s : State) (off b : Nat) (i : Info) : (s.event off b i).regs = s.regs := (State.event_quiet s off b i).regs
@[simp] theorem State.event_locks (s : State) (off b : Nat) (i : Info) : (s.event off b i).locks = s.locks := (State.event_quiet s off b i).locks
@[simp] theorem State.event_mbxS (s : State) (off b : Nat) (i : Info) : (s.event off b i).mbxS = s.mbxS := (State.event_quiet s off b i).mbxS
@[simp] theorem State.event_mbxG (s : State) (off b : Nat) (i : Info) : (s.event off b i).mbxG = s.mbxG := (State.event_quiet s off b i).mbxG
@[simp] theorem State.event_mbxH (s : State) (off b : Nat) (i : Info) : (s.event off b i).mbxH = s.mbxH := (State.event_quiet s off b i).mbxH
@[simp] theorem State.event_lastWrites (s : State) (off b : Nat) (i : Info) : (s.event off b i).lastWrites = s.lastWrites := (State.event_quiet s off b i).lastWrites
@[simp] theorem State.event_rdata (s : State) (off b : Nat) (i : Info) : (s.event off b i).rdata = s.rdata := (State.event_quiet s off b i).rdata
@[simp] theorem State.event_crc (s : State) (off b : Nat) (i : Info) : (s.event off b i).crc = s.crc := (State.event_quiet s off b i).crc
@[simp] theorem State.event_timers (s : State) (off b : Nat) (i : Info) : (s.event off b i).timers = s.timers := (State.event_quiet s off b i).timers
@[simp] theorem State.event_clk (s : State) (off b : Nat) (i : Info) : (s.event off b i).clk = s.clk := (State.event_quiet s off b i).clk
@[simp] theorem State.event_mode (s : State) (off b : Nat) (i : Info) : (s.event off b i).mode = s.mode := (State.event_quiet s off b i).mode
@[simp] theorem State.event_whl (s : State) (off b : Nat) (i : Info) : (s.event off b i).whl = s.whl := (State.event_quiet s off b i).whl
@[simp] theorem State.event_pix (s : State) (off b : Nat) (i : Info) : (s.event off b i).pix = s.pix := (State.event_quiet s off b i).pix
@[simp] theorem State.event_emt (s : State) (off b : Nat) (i : Info) : (s.event off b i).emt = s.emt := (State.event_quiet s off b i).emt
@[simp] theorem State.event_str (s : State) (off b : Nat) (i : Info) : (s.event off b i).str = s.str := (State.event_quiet s off b i).str
@[simp] theorem State.event_lan (s : State) (off b : Nat) (i : Info) : (s.event off b i).lan = s.lan := (State.event_quiet s off b i).lan
@[simp] theorem State.event_cal (s : State) (off b : Nat) (i : Info) : (s.event off b i).cal = s.cal := (State.event_quiet s off b i).cal
@[simp] theorem State.event_kln (s : State) (off b : Nat) (i : Info) : (s.event off b i).kln = s.kln := (State.event_quiet s off b i).kln
@[simp] theorem State.event_shf (s : State) (off b : Nat) (i : Info) : (s.event off b i).shf = s.shf := (State.event_quiet s off b i).shf
@[simp] theorem State.event_glz (s : State) (off b : Nat) (i : Info) : (s.event off b i).glz = s.glz := (State.event_quiet s off b i).glz
@[simp] theorem State.event_pq (s : State) (off b : Nat) (i : Info) : (s.event off b i).pq = s.pq := (State.event_quiet s off b i).pq
@[simp] theorem State.event_tsu (s : State) (off b : Nat) (i : Info) : (s.event off b i).tsu = s.tsu := (State.event_quiet s off b i).tsu
@[simp] theorem State.event_coil (s : State) (off b : Nat) (i : Info) : (s.event off b i).coil = s.coil := (State.event_quiet s off b i).coil
@[simp] theorem State.event_thm (s : State) (off b : Nat) (i : Info) : (s.event off b i).thm = s.thm := (State.event_quiet s off b i).thm
@[simp] theorem State.event_sfe (s : State) (off b : Nat) (i : Info) : (s.event off b i).sfe = s.sfe := (State.event_quiet s off b i).sfe
@[simp] theorem State.event_sec (s : State) (off b : Nat) (i : Info) : (s.event off b i).sec = s.sec := (State.event_quiet s off b i).sec
@[simp] theorem State.event_pins (s : State) (off b : Nat) (i : Info) : (s.event off b i).pins = s.pins := (State.event_quiet s off b i).pins
@[simp] theorem State.event_freeNext (s : State) (off b : Nat) (i : Info) : (s.event off b i).freeNext = s.freeNext := (State.event_quiet s off b i).freeNext
@[simp] theorem State.event_pending (s : State) (off b : Nat) (i : Info) : (s.event off b i).pending = s.pending := (State.event_quiet s off b i).pending

/-! ## State.eventNoFlag -/

@[simp] theorem State.eventNoFlag_now (s : State) (k n : Nat) (i : Info) : (s.eventNoFlag k n i).now = s.now := (State.eventNoFlag_quiet s k n i).now
@[simp] theorem State.eventNoFlag_regs (s : State) (k n : Nat) (i : Info) : (s.eventNoFlag k n i).regs = s.regs := (State.eventNoFlag_quiet s k n i).regs
@[simp] theorem State.eventNoFlag_locks (s : State) (k n : Nat) (i : Info) : (s.eventNoFlag k n i).locks = s.locks := (State.eventNoFlag_quiet s k n i).locks
@[simp] theorem State.eventNoFlag_mbxS (s : State) (k n : Nat) (i : Info) : (s.eventNoFlag k n i).mbxS = s.mbxS := (State.eventNoFlag_quiet s k n i).mbxS
@[simp] theorem State.eventNoFlag_mbxG (s : State) (k n : Nat) (i : Info) : (s.eventNoFlag k n i).mbxG = s.mbxG := (State.eventNoFlag_quiet s k n i).mbxG
@[simp] theorem State.eventNoFlag_mbxH (s : State) (k n : Nat) (i : Info) : (s.eventNoFlag k n i).mbxH = s.mbxH := (State.eventNoFlag_quiet s k n i).mbxH
@[simp] theorem State.eventNoFlag_lastWrites (s : State) (k n : Nat) (i : Info) : (s.eventNoFlag k n i).lastWrites = s.lastWrites := (State.eventNoFlag_quiet s k n i).lastWrites
@[simp] theorem State.eventNoFlag_rdata (s : State) (k n : Nat) (i : Info) : (s.eventNoFlag k n i).rdata = s.rdata := (State.eventNoFlag_quiet s k n i).rdata
@[simp] theorem State.eventNoFlag_crc (s : State) (k n : Nat) (i : Info) : (s.eventNoFlag k n i).crc = s.crc := (State.eventNoFlag_quiet s k n i).crc
@[simp] theorem State.eventNoFlag_timers (s : State) (k n : Nat) (i : Info) : (s.eventNoFlag k n i).timers = s.timers := (State.eventNoFlag_quiet s k n i).timers
@[simp] theorem State.eventNoFlag_clk (s : State) (k n : Nat) (i : Info) : (s.eventNoFlag k n i).clk = s.clk := (State.eventNoFlag_quiet s k n i).clk
@[simp] theorem State.eventNoFlag_mode (s : State) (k n : Nat) (i : Info) : (s.eventNoFlag k n i).mode = s.mode := (State.eventNoFlag_quiet s k n i).mode
@[simp] theorem State.eventNoFlag_whl (s : State) (k n : Nat) (i : Info) : (s.eventNoFlag k n i).whl = s.whl := (State.eventNoFlag_quiet s k n i).whl
@[simp] theorem State.eventNoFlag_pix (s : State) (k n : Nat) (i : Info) : (s.eventNoFlag k n i).pix = s.pix := (State.eventNoFlag_quiet s k n i).pix
@[simp] theorem State.eventNoFlag_emt (s : State) (k n : Nat) (i : Info) : (s.eventNoFlag k n i).emt = s.emt := (State.eventNoFlag_quiet s k n i).emt
@[simp] theorem State.eventNoFlag_str (s : State) (k n : Nat) (i : Info) : (s.eventNoFlag k n i).str = s.str := (State.eventNoFlag_quiet s k n i).str
@[simp] theorem State.eventNoFlag_lan (s : State) (k n : Nat) (i : Info) : (s.eventNoFlag k n i).lan = s.lan := (State.eventNoFlag_quiet s k n i).lan
@[simp] theorem State.eventNoFlag_cal (s : State) (k n : Nat) (i : Info) : (s.eventNoFlag k n i).cal = s.cal := (State.eventNoFlag_quiet s k n i).cal
@[simp] theorem State.eventNoFlag_kln (s : State) (k n : Nat) (i : Info) : (s.eventNoFlag k n i).kln = s.kln := (State.eventNoFlag_quiet s k n i).kln
@[simp] theorem State.eventNoFlag_shf (s : State) (k n : Nat) (i : Info) : (s.eventNoFlag k n i).shf = s.shf := (State.eventNoFlag_quiet s k n i).shf
@[simp] theorem State.eventNoFlag_glz (s : State) (k n : Nat) (i : Info) : (s.eventNoFlag k n i).glz = s.glz := (State.eventNoFlag_quiet s k n i).glz
@[simp] theorem State.eventNoFlag_pq (s : State) (k n : Nat) (i : Info) : (s.eventNoFlag k n i).pq = s.pq := (State.eventNoFlag_quiet s k n i).pq
@[simp] theorem State.eventNoFlag_tsu (s : State) (k n : Nat) (i : Info) : (s.eventNoFlag k n i).tsu = s.tsu := (State.eventNoFlag_quiet s k n i).tsu
@[simp] theorem State.eventNoFlag_coil (s : State) (k n : Nat) (i : Info) : (s.eventNoFlag k n i).coil = s.coil := (State.eventNoFlag_quiet s k n i).coil
@[simp] theorem State.eventNoFlag_thm (s : State) (k n : Nat) (i : Info) : (s.eventNoFlag k n i).thm = s.thm := (State.eventNoFlag_quiet s k n i).thm
@[simp] theorem State.eventNoFlag_sfe (s : State) (k n : Nat) (i : Info) : (s.eventNoFlag k n i).sfe = s.sfe := (State.eventNoFlag_quiet s k n i).sfe
@[simp] theorem State.eventNoFlag_sec (s : State) (k n : Nat) (i : Info) : (s.eventNoFlag k n i).sec = s.sec := (State.eventNoFlag_quiet s k n i).sec
@[simp] theorem State.eventNoFlag_pins (s : State) (k n : Nat) (i : Info) : (s.eventNoFlag k n i).pins = s.pins := (State.eventNoFlag_quiet s k n i).pins
@[simp] theorem State.eventNoFlag_freeNext (s : State) (k n : Nat) (i : Info) : (s.eventNoFlag k n i).freeNext = s.freeNext := (State.eventNoFlag_quiet s k n i).freeNext
@[simp] theorem State.eventNoFlag_pending (s : State) (k n : Nat) (i : Info) : (s.eventNoFlag k n i).pending = s.pending := (State.eventNoFlag_quiet s k n i).pending

/-! ## State.faultEntry -/

@[simp] theorem State.faultEntry_now (s : State) (c : Nat) (i : Info) : (s.faultEntry c i).now = s.now := (State.faultEntry_quiet s c i).now
@[simp] theorem State.faultEntry_regs (s : State) (c : Nat) (i : Info) : (s.faultEntry c i).regs = s.regs := (State.faultEntry_quiet s c i).regs
@[simp] theorem State.faultEntry_locks (s : State) (c : Nat) (i : Info) : (s.faultEntry c i).locks = s.locks := (State.faultEntry_quiet s c i).locks
@[simp] theorem State.faultEntry_mbxS (s : State) (c : Nat) (i : Info) : (s.faultEntry c i).mbxS = s.mbxS := (State.faultEntry_quiet s c i).mbxS
@[simp] theorem State.faultEntry_mbxG (s : State) (c : Nat) (i : Info) : (s.faultEntry c i).mbxG = s.mbxG := (State.faultEntry_quiet s c i).mbxG
@[simp] theorem State.faultEntry_mbxH (s : State) (c : Nat) (i : Info) : (s.faultEntry c i).mbxH = s.mbxH := (State.faultEntry_quiet s c i).mbxH
@[simp] theorem State.faultEntry_lastWrites (s : State) (c : Nat) (i : Info) : (s.faultEntry c i).lastWrites = s.lastWrites := (State.faultEntry_quiet s c i).lastWrites
@[simp] theorem State.faultEntry_rdata (s : State) (c : Nat) (i : Info) : (s.faultEntry c i).rdata = s.rdata := (State.faultEntry_quiet s c i).rdata
@[simp] theorem State.faultEntry_crc (s : State) (c : Nat) (i : Info) : (s.faultEntry c i).crc = s.crc := (State.faultEntry_quiet s c i).crc
@[simp] theorem State.faultEntry_timers (s : State) (c : Nat) (i : Info) : (s.faultEntry c i).timers = s.timers := (State.faultEntry_quiet s c i).timers
@[simp] theorem State.faultEntry_clk (s : State) (c : Nat) (i : Info) : (s.faultEntry c i).clk = s.clk := (State.faultEntry_quiet s c i).clk
@[simp] theorem State.faultEntry_mode (s : State) (c : Nat) (i : Info) : (s.faultEntry c i).mode = s.mode := (State.faultEntry_quiet s c i).mode
@[simp] theorem State.faultEntry_whl (s : State) (c : Nat) (i : Info) : (s.faultEntry c i).whl = s.whl := (State.faultEntry_quiet s c i).whl
@[simp] theorem State.faultEntry_pix (s : State) (c : Nat) (i : Info) : (s.faultEntry c i).pix = s.pix := (State.faultEntry_quiet s c i).pix
@[simp] theorem State.faultEntry_emt (s : State) (c : Nat) (i : Info) : (s.faultEntry c i).emt = s.emt := (State.faultEntry_quiet s c i).emt
@[simp] theorem State.faultEntry_str (s : State) (c : Nat) (i : Info) : (s.faultEntry c i).str = s.str := (State.faultEntry_quiet s c i).str
@[simp] theorem State.faultEntry_lan (s : State) (c : Nat) (i : Info) : (s.faultEntry c i).lan = s.lan := (State.faultEntry_quiet s c i).lan
@[simp] theorem State.faultEntry_cal (s : State) (c : Nat) (i : Info) : (s.faultEntry c i).cal = s.cal := (State.faultEntry_quiet s c i).cal
@[simp] theorem State.faultEntry_kln (s : State) (c : Nat) (i : Info) : (s.faultEntry c i).kln = s.kln := (State.faultEntry_quiet s c i).kln
@[simp] theorem State.faultEntry_shf (s : State) (c : Nat) (i : Info) : (s.faultEntry c i).shf = s.shf := (State.faultEntry_quiet s c i).shf
@[simp] theorem State.faultEntry_glz (s : State) (c : Nat) (i : Info) : (s.faultEntry c i).glz = s.glz := (State.faultEntry_quiet s c i).glz
@[simp] theorem State.faultEntry_pq (s : State) (c : Nat) (i : Info) : (s.faultEntry c i).pq = s.pq := (State.faultEntry_quiet s c i).pq
@[simp] theorem State.faultEntry_tsu (s : State) (c : Nat) (i : Info) : (s.faultEntry c i).tsu = s.tsu := (State.faultEntry_quiet s c i).tsu
@[simp] theorem State.faultEntry_coil (s : State) (c : Nat) (i : Info) : (s.faultEntry c i).coil = s.coil := (State.faultEntry_quiet s c i).coil
@[simp] theorem State.faultEntry_thm (s : State) (c : Nat) (i : Info) : (s.faultEntry c i).thm = s.thm := (State.faultEntry_quiet s c i).thm
@[simp] theorem State.faultEntry_sfe (s : State) (c : Nat) (i : Info) : (s.faultEntry c i).sfe = s.sfe := (State.faultEntry_quiet s c i).sfe
@[simp] theorem State.faultEntry_sec (s : State) (c : Nat) (i : Info) : (s.faultEntry c i).sec = s.sec := (State.faultEntry_quiet s c i).sec
@[simp] theorem State.faultEntry_pins (s : State) (c : Nat) (i : Info) : (s.faultEntry c i).pins = s.pins := (State.faultEntry_quiet s c i).pins
@[simp] theorem State.faultEntry_freeNext (s : State) (c : Nat) (i : Info) : (s.faultEntry c i).freeNext = s.freeNext := (State.faultEntry_quiet s c i).freeNext
@[simp] theorem State.faultEntry_pending (s : State) (c : Nat) (i : Info) : (s.faultEntry c i).pending = s.pending := (State.faultEntry_quiet s c i).pending

/-! ## State.faultCe -/

@[simp] theorem State.faultCe_now (s : State) (c : Nat) (i : Info) : (s.faultCe c i).now = s.now := (State.faultCe_quiet s c i).now
@[simp] theorem State.faultCe_regs (s : State) (c : Nat) (i : Info) : (s.faultCe c i).regs = s.regs := (State.faultCe_quiet s c i).regs
@[simp] theorem State.faultCe_locks (s : State) (c : Nat) (i : Info) : (s.faultCe c i).locks = s.locks := (State.faultCe_quiet s c i).locks
@[simp] theorem State.faultCe_mbxS (s : State) (c : Nat) (i : Info) : (s.faultCe c i).mbxS = s.mbxS := (State.faultCe_quiet s c i).mbxS
@[simp] theorem State.faultCe_mbxG (s : State) (c : Nat) (i : Info) : (s.faultCe c i).mbxG = s.mbxG := (State.faultCe_quiet s c i).mbxG
@[simp] theorem State.faultCe_mbxH (s : State) (c : Nat) (i : Info) : (s.faultCe c i).mbxH = s.mbxH := (State.faultCe_quiet s c i).mbxH
@[simp] theorem State.faultCe_lastWrites (s : State) (c : Nat) (i : Info) : (s.faultCe c i).lastWrites = s.lastWrites := (State.faultCe_quiet s c i).lastWrites
@[simp] theorem State.faultCe_rdata (s : State) (c : Nat) (i : Info) : (s.faultCe c i).rdata = s.rdata := (State.faultCe_quiet s c i).rdata
@[simp] theorem State.faultCe_crc (s : State) (c : Nat) (i : Info) : (s.faultCe c i).crc = s.crc := (State.faultCe_quiet s c i).crc
@[simp] theorem State.faultCe_timers (s : State) (c : Nat) (i : Info) : (s.faultCe c i).timers = s.timers := (State.faultCe_quiet s c i).timers
@[simp] theorem State.faultCe_clk (s : State) (c : Nat) (i : Info) : (s.faultCe c i).clk = s.clk := (State.faultCe_quiet s c i).clk
@[simp] theorem State.faultCe_mode (s : State) (c : Nat) (i : Info) : (s.faultCe c i).mode = s.mode := (State.faultCe_quiet s c i).mode
@[simp] theorem State.faultCe_whl (s : State) (c : Nat) (i : Info) : (s.faultCe c i).whl = s.whl := (State.faultCe_quiet s c i).whl
@[simp] theorem State.faultCe_pix (s : State) (c : Nat) (i : Info) : (s.faultCe c i).pix = s.pix := (State.faultCe_quiet s c i).pix
@[simp] theorem State.faultCe_emt (s : State) (c : Nat) (i : Info) : (s.faultCe c i).emt = s.emt := (State.faultCe_quiet s c i).emt
@[simp] theorem State.faultCe_str (s : State) (c : Nat) (i : Info) : (s.faultCe c i).str = s.str := (State.faultCe_quiet s c i).str
@[simp] theorem State.faultCe_lan (s : State) (c : Nat) (i : Info) : (s.faultCe c i).lan = s.lan := (State.faultCe_quiet s c i).lan
@[simp] theorem State.faultCe_cal (s : State) (c : Nat) (i : Info) : (s.faultCe c i).cal = s.cal := (State.faultCe_quiet s c i).cal
@[simp] theorem State.faultCe_kln (s : State) (c : Nat) (i : Info) : (s.faultCe c i).kln = s.kln := (State.faultCe_quiet s c i).kln
@[simp] theorem State.faultCe_shf (s : State) (c : Nat) (i : Info) : (s.faultCe c i).shf = s.shf := (State.faultCe_quiet s c i).shf
@[simp] theorem State.faultCe_glz (s : State) (c : Nat) (i : Info) : (s.faultCe c i).glz = s.glz := (State.faultCe_quiet s c i).glz
@[simp] theorem State.faultCe_pq (s : State) (c : Nat) (i : Info) : (s.faultCe c i).pq = s.pq := (State.faultCe_quiet s c i).pq
@[simp] theorem State.faultCe_tsu (s : State) (c : Nat) (i : Info) : (s.faultCe c i).tsu = s.tsu := (State.faultCe_quiet s c i).tsu
@[simp] theorem State.faultCe_coil (s : State) (c : Nat) (i : Info) : (s.faultCe c i).coil = s.coil := (State.faultCe_quiet s c i).coil
@[simp] theorem State.faultCe_thm (s : State) (c : Nat) (i : Info) : (s.faultCe c i).thm = s.thm := (State.faultCe_quiet s c i).thm
@[simp] theorem State.faultCe_sfe (s : State) (c : Nat) (i : Info) : (s.faultCe c i).sfe = s.sfe := (State.faultCe_quiet s c i).sfe
@[simp] theorem State.faultCe_sec (s : State) (c : Nat) (i : Info) : (s.faultCe c i).sec = s.sec := (State.faultCe_quiet s c i).sec
@[simp] theorem State.faultCe_pins (s : State) (c : Nat) (i : Info) : (s.faultCe c i).pins = s.pins := (State.faultCe_quiet s c i).pins
@[simp] theorem State.faultCe_freeNext (s : State) (c : Nat) (i : Info) : (s.faultCe c i).freeNext = s.freeNext := (State.faultCe_quiet s c i).freeNext
@[simp] theorem State.faultCe_pending (s : State) (c : Nat) (i : Info) : (s.faultCe c i).pending = s.pending := (State.faultCe_quiet s c i).pending

/-! ## State.fault -/

@[simp] theorem State.fault_now (s : State) (c off : Nat) (f : BitVec 16) (i : Info) : (s.fault c off f i).now = s.now := (State.fault_quiet s c off f i).now
@[simp] theorem State.fault_regs (s : State) (c off : Nat) (f : BitVec 16) (i : Info) : (s.fault c off f i).regs = s.regs := (State.fault_quiet s c off f i).regs
@[simp] theorem State.fault_locks (s : State) (c off : Nat) (f : BitVec 16) (i : Info) : (s.fault c off f i).locks = s.locks := (State.fault_quiet s c off f i).locks
@[simp] theorem State.fault_mbxS (s : State) (c off : Nat) (f : BitVec 16) (i : Info) : (s.fault c off f i).mbxS = s.mbxS := (State.fault_quiet s c off f i).mbxS
@[simp] theorem State.fault_mbxG (s : State) (c off : Nat) (f : BitVec 16) (i : Info) : (s.fault c off f i).mbxG = s.mbxG := (State.fault_quiet s c off f i).mbxG
@[simp] theorem State.fault_mbxH (s : State) (c off : Nat) (f : BitVec 16) (i : Info) : (s.fault c off f i).mbxH = s.mbxH := (State.fault_quiet s c off f i).mbxH
@[simp] theorem State.fault_lastWrites (s : State) (c off : Nat) (f : BitVec 16) (i : Info) : (s.fault c off f i).lastWrites = s.lastWrites := (State.fault_quiet s c off f i).lastWrites
@[simp] theorem State.fault_rdata (s : State) (c off : Nat) (f : BitVec 16) (i : Info) : (s.fault c off f i).rdata = s.rdata := (State.fault_quiet s c off f i).rdata
@[simp] theorem State.fault_crc (s : State) (c off : Nat) (f : BitVec 16) (i : Info) : (s.fault c off f i).crc = s.crc := (State.fault_quiet s c off f i).crc
@[simp] theorem State.fault_timers (s : State) (c off : Nat) (f : BitVec 16) (i : Info) : (s.fault c off f i).timers = s.timers := (State.fault_quiet s c off f i).timers
@[simp] theorem State.fault_clk (s : State) (c off : Nat) (f : BitVec 16) (i : Info) : (s.fault c off f i).clk = s.clk := (State.fault_quiet s c off f i).clk
@[simp] theorem State.fault_mode (s : State) (c off : Nat) (f : BitVec 16) (i : Info) : (s.fault c off f i).mode = s.mode := (State.fault_quiet s c off f i).mode
@[simp] theorem State.fault_whl (s : State) (c off : Nat) (f : BitVec 16) (i : Info) : (s.fault c off f i).whl = s.whl := (State.fault_quiet s c off f i).whl
@[simp] theorem State.fault_pix (s : State) (c off : Nat) (f : BitVec 16) (i : Info) : (s.fault c off f i).pix = s.pix := (State.fault_quiet s c off f i).pix
@[simp] theorem State.fault_emt (s : State) (c off : Nat) (f : BitVec 16) (i : Info) : (s.fault c off f i).emt = s.emt := (State.fault_quiet s c off f i).emt
@[simp] theorem State.fault_str (s : State) (c off : Nat) (f : BitVec 16) (i : Info) : (s.fault c off f i).str = s.str := (State.fault_quiet s c off f i).str
@[simp] theorem State.fault_lan (s : State) (c off : Nat) (f : BitVec 16) (i : Info) : (s.fault c off f i).lan = s.lan := (State.fault_quiet s c off f i).lan
@[simp] theorem State.fault_cal (s : State) (c off : Nat) (f : BitVec 16) (i : Info) : (s.fault c off f i).cal = s.cal := (State.fault_quiet s c off f i).cal
@[simp] theorem State.fault_kln (s : State) (c off : Nat) (f : BitVec 16) (i : Info) : (s.fault c off f i).kln = s.kln := (State.fault_quiet s c off f i).kln
@[simp] theorem State.fault_shf (s : State) (c off : Nat) (f : BitVec 16) (i : Info) : (s.fault c off f i).shf = s.shf := (State.fault_quiet s c off f i).shf
@[simp] theorem State.fault_glz (s : State) (c off : Nat) (f : BitVec 16) (i : Info) : (s.fault c off f i).glz = s.glz := (State.fault_quiet s c off f i).glz
@[simp] theorem State.fault_pq (s : State) (c off : Nat) (f : BitVec 16) (i : Info) : (s.fault c off f i).pq = s.pq := (State.fault_quiet s c off f i).pq
@[simp] theorem State.fault_tsu (s : State) (c off : Nat) (f : BitVec 16) (i : Info) : (s.fault c off f i).tsu = s.tsu := (State.fault_quiet s c off f i).tsu
@[simp] theorem State.fault_coil (s : State) (c off : Nat) (f : BitVec 16) (i : Info) : (s.fault c off f i).coil = s.coil := (State.fault_quiet s c off f i).coil
@[simp] theorem State.fault_thm (s : State) (c off : Nat) (f : BitVec 16) (i : Info) : (s.fault c off f i).thm = s.thm := (State.fault_quiet s c off f i).thm
@[simp] theorem State.fault_sfe (s : State) (c off : Nat) (f : BitVec 16) (i : Info) : (s.fault c off f i).sfe = s.sfe := (State.fault_quiet s c off f i).sfe
@[simp] theorem State.fault_sec (s : State) (c off : Nat) (f : BitVec 16) (i : Info) : (s.fault c off f i).sec = s.sec := (State.fault_quiet s c off f i).sec
@[simp] theorem State.fault_pins (s : State) (c off : Nat) (f : BitVec 16) (i : Info) : (s.fault c off f i).pins = s.pins := (State.fault_quiet s c off f i).pins
@[simp] theorem State.fault_freeNext (s : State) (c off : Nat) (f : BitVec 16) (i : Info) : (s.fault c off f i).freeNext = s.freeNext := (State.fault_quiet s c off f i).freeNext
@[simp] theorem State.fault_pending (s : State) (c off : Nat) (f : BitVec 16) (i : Info) : (s.fault c off f i).pending = s.pending := (State.fault_quiet s c off f i).pending

/-! ## State.paramClamp -/

@[simp] theorem State.paramClamp_now (s : State) (a v p : Nat) : (s.paramClamp a v p).now = s.now := (State.paramClamp_quiet s a v p).now
@[simp] theorem State.paramClamp_regs (s : State) (a v p : Nat) : (s.paramClamp a v p).regs = s.regs := (State.paramClamp_quiet s a v p).regs
@[simp] theorem State.paramClamp_locks (s : State) (a v p : Nat) : (s.paramClamp a v p).locks = s.locks := (State.paramClamp_quiet s a v p).locks
@[simp] theorem State.paramClamp_mbxS (s : State) (a v p : Nat) : (s.paramClamp a v p).mbxS = s.mbxS := (State.paramClamp_quiet s a v p).mbxS
@[simp] theorem State.paramClamp_mbxG (s : State) (a v p : Nat) : (s.paramClamp a v p).mbxG = s.mbxG := (State.paramClamp_quiet s a v p).mbxG
@[simp] theorem State.paramClamp_mbxH (s : State) (a v p : Nat) : (s.paramClamp a v p).mbxH = s.mbxH := (State.paramClamp_quiet s a v p).mbxH
@[simp] theorem State.paramClamp_lastWrites (s : State) (a v p : Nat) : (s.paramClamp a v p).lastWrites = s.lastWrites := (State.paramClamp_quiet s a v p).lastWrites
@[simp] theorem State.paramClamp_rdata (s : State) (a v p : Nat) : (s.paramClamp a v p).rdata = s.rdata := (State.paramClamp_quiet s a v p).rdata
@[simp] theorem State.paramClamp_crc (s : State) (a v p : Nat) : (s.paramClamp a v p).crc = s.crc := (State.paramClamp_quiet s a v p).crc
@[simp] theorem State.paramClamp_timers (s : State) (a v p : Nat) : (s.paramClamp a v p).timers = s.timers := (State.paramClamp_quiet s a v p).timers
@[simp] theorem State.paramClamp_clk (s : State) (a v p : Nat) : (s.paramClamp a v p).clk = s.clk := (State.paramClamp_quiet s a v p).clk
@[simp] theorem State.paramClamp_mode (s : State) (a v p : Nat) : (s.paramClamp a v p).mode = s.mode := (State.paramClamp_quiet s a v p).mode
@[simp] theorem State.paramClamp_whl (s : State) (a v p : Nat) : (s.paramClamp a v p).whl = s.whl := (State.paramClamp_quiet s a v p).whl
@[simp] theorem State.paramClamp_pix (s : State) (a v p : Nat) : (s.paramClamp a v p).pix = s.pix := (State.paramClamp_quiet s a v p).pix
@[simp] theorem State.paramClamp_emt (s : State) (a v p : Nat) : (s.paramClamp a v p).emt = s.emt := (State.paramClamp_quiet s a v p).emt
@[simp] theorem State.paramClamp_str (s : State) (a v p : Nat) : (s.paramClamp a v p).str = s.str := (State.paramClamp_quiet s a v p).str
@[simp] theorem State.paramClamp_lan (s : State) (a v p : Nat) : (s.paramClamp a v p).lan = s.lan := (State.paramClamp_quiet s a v p).lan
@[simp] theorem State.paramClamp_cal (s : State) (a v p : Nat) : (s.paramClamp a v p).cal = s.cal := (State.paramClamp_quiet s a v p).cal
@[simp] theorem State.paramClamp_kln (s : State) (a v p : Nat) : (s.paramClamp a v p).kln = s.kln := (State.paramClamp_quiet s a v p).kln
@[simp] theorem State.paramClamp_shf (s : State) (a v p : Nat) : (s.paramClamp a v p).shf = s.shf := (State.paramClamp_quiet s a v p).shf
@[simp] theorem State.paramClamp_glz (s : State) (a v p : Nat) : (s.paramClamp a v p).glz = s.glz := (State.paramClamp_quiet s a v p).glz
@[simp] theorem State.paramClamp_pq (s : State) (a v p : Nat) : (s.paramClamp a v p).pq = s.pq := (State.paramClamp_quiet s a v p).pq
@[simp] theorem State.paramClamp_tsu (s : State) (a v p : Nat) : (s.paramClamp a v p).tsu = s.tsu := (State.paramClamp_quiet s a v p).tsu
@[simp] theorem State.paramClamp_coil (s : State) (a v p : Nat) : (s.paramClamp a v p).coil = s.coil := (State.paramClamp_quiet s a v p).coil
@[simp] theorem State.paramClamp_thm (s : State) (a v p : Nat) : (s.paramClamp a v p).thm = s.thm := (State.paramClamp_quiet s a v p).thm
@[simp] theorem State.paramClamp_sfe (s : State) (a v p : Nat) : (s.paramClamp a v p).sfe = s.sfe := (State.paramClamp_quiet s a v p).sfe
@[simp] theorem State.paramClamp_sec (s : State) (a v p : Nat) : (s.paramClamp a v p).sec = s.sec := (State.paramClamp_quiet s a v p).sec
@[simp] theorem State.paramClamp_pins (s : State) (a v p : Nat) : (s.paramClamp a v p).pins = s.pins := (State.paramClamp_quiet s a v p).pins
@[simp] theorem State.paramClamp_freeNext (s : State) (a v p : Nat) : (s.paramClamp a v p).freeNext = s.freeNext := (State.paramClamp_quiet s a v p).freeNext
@[simp] theorem State.paramClamp_pending (s : State) (a v p : Nat) : (s.paramClamp a v p).pending = s.pending := (State.paramClamp_quiet s a v p).pending

/-! ## State.lenClamp -/

@[simp] theorem State.lenClamp_now (s : State) (a v p : Nat) : (s.lenClamp a v p).now = s.now := (State.lenClamp_quiet s a v p).now
@[simp] theorem State.lenClamp_regs (s : State) (a v p : Nat) : (s.lenClamp a v p).regs = s.regs := (State.lenClamp_quiet s a v p).regs
@[simp] theorem State.lenClamp_locks (s : State) (a v p : Nat) : (s.lenClamp a v p).locks = s.locks := (State.lenClamp_quiet s a v p).locks
@[simp] theorem State.lenClamp_mbxS (s : State) (a v p : Nat) : (s.lenClamp a v p).mbxS = s.mbxS := (State.lenClamp_quiet s a v p).mbxS
@[simp] theorem State.lenClamp_mbxG (s : State) (a v p : Nat) : (s.lenClamp a v p).mbxG = s.mbxG := (State.lenClamp_quiet s a v p).mbxG
@[simp] theorem State.lenClamp_mbxH (s : State) (a v p : Nat) : (s.lenClamp a v p).mbxH = s.mbxH := (State.lenClamp_quiet s a v p).mbxH
@[simp] theorem State.lenClamp_lastWrites (s : State) (a v p : Nat) : (s.lenClamp a v p).lastWrites = s.lastWrites := (State.lenClamp_quiet s a v p).lastWrites
@[simp] theorem State.lenClamp_rdata (s : State) (a v p : Nat) : (s.lenClamp a v p).rdata = s.rdata := (State.lenClamp_quiet s a v p).rdata
@[simp] theorem State.lenClamp_crc (s : State) (a v p : Nat) : (s.lenClamp a v p).crc = s.crc := (State.lenClamp_quiet s a v p).crc
@[simp] theorem State.lenClamp_timers (s : State) (a v p : Nat) : (s.lenClamp a v p).timers = s.timers := (State.lenClamp_quiet s a v p).timers
@[simp] theorem State.lenClamp_clk (s : State) (a v p : Nat) : (s.lenClamp a v p).clk = s.clk := (State.lenClamp_quiet s a v p).clk
@[simp] theorem State.lenClamp_mode (s : State) (a v p : Nat) : (s.lenClamp a v p).mode = s.mode := (State.lenClamp_quiet s a v p).mode
@[simp] theorem State.lenClamp_whl (s : State) (a v p : Nat) : (s.lenClamp a v p).whl = s.whl := (State.lenClamp_quiet s a v p).whl
@[simp] theorem State.lenClamp_pix (s : State) (a v p : Nat) : (s.lenClamp a v p).pix = s.pix := (State.lenClamp_quiet s a v p).pix
@[simp] theorem State.lenClamp_emt (s : State) (a v p : Nat) : (s.lenClamp a v p).emt = s.emt := (State.lenClamp_quiet s a v p).emt
@[simp] theorem State.lenClamp_str (s : State) (a v p : Nat) : (s.lenClamp a v p).str = s.str := (State.lenClamp_quiet s a v p).str
@[simp] theorem State.lenClamp_lan (s : State) (a v p : Nat) : (s.lenClamp a v p).lan = s.lan := (State.lenClamp_quiet s a v p).lan
@[simp] theorem State.lenClamp_cal (s : State) (a v p : Nat) : (s.lenClamp a v p).cal = s.cal := (State.lenClamp_quiet s a v p).cal
@[simp] theorem State.lenClamp_kln (s : State) (a v p : Nat) : (s.lenClamp a v p).kln = s.kln := (State.lenClamp_quiet s a v p).kln
@[simp] theorem State.lenClamp_shf (s : State) (a v p : Nat) : (s.lenClamp a v p).shf = s.shf := (State.lenClamp_quiet s a v p).shf
@[simp] theorem State.lenClamp_glz (s : State) (a v p : Nat) : (s.lenClamp a v p).glz = s.glz := (State.lenClamp_quiet s a v p).glz
@[simp] theorem State.lenClamp_pq (s : State) (a v p : Nat) : (s.lenClamp a v p).pq = s.pq := (State.lenClamp_quiet s a v p).pq
@[simp] theorem State.lenClamp_tsu (s : State) (a v p : Nat) : (s.lenClamp a v p).tsu = s.tsu := (State.lenClamp_quiet s a v p).tsu
@[simp] theorem State.lenClamp_coil (s : State) (a v p : Nat) : (s.lenClamp a v p).coil = s.coil := (State.lenClamp_quiet s a v p).coil
@[simp] theorem State.lenClamp_thm (s : State) (a v p : Nat) : (s.lenClamp a v p).thm = s.thm := (State.lenClamp_quiet s a v p).thm
@[simp] theorem State.lenClamp_sfe (s : State) (a v p : Nat) : (s.lenClamp a v p).sfe = s.sfe := (State.lenClamp_quiet s a v p).sfe
@[simp] theorem State.lenClamp_sec (s : State) (a v p : Nat) : (s.lenClamp a v p).sec = s.sec := (State.lenClamp_quiet s a v p).sec
@[simp] theorem State.lenClamp_pins (s : State) (a v p : Nat) : (s.lenClamp a v p).pins = s.pins := (State.lenClamp_quiet s a v p).pins
@[simp] theorem State.lenClamp_freeNext (s : State) (a v p : Nat) : (s.lenClamp a v p).freeNext = s.freeNext := (State.lenClamp_quiet s a v p).freeNext
@[simp] theorem State.lenClamp_pending (s : State) (a v p : Nat) : (s.lenClamp a v p).pending = s.pending := (State.lenClamp_quiet s a v p).pending

/-! ## State.accessErr -/

@[simp] theorem State.accessErr_now (s : State) (off p : Nat) : (s.accessErr off p).now = s.now := (State.accessErr_quiet s off p).now
@[simp] theorem State.accessErr_regs (s : State) (off p : Nat) : (s.accessErr off p).regs = s.regs := (State.accessErr_quiet s off p).regs
@[simp] theorem State.accessErr_locks (s : State) (off p : Nat) : (s.accessErr off p).locks = s.locks := (State.accessErr_quiet s off p).locks
@[simp] theorem State.accessErr_mbxS (s : State) (off p : Nat) : (s.accessErr off p).mbxS = s.mbxS := (State.accessErr_quiet s off p).mbxS
@[simp] theorem State.accessErr_mbxG (s : State) (off p : Nat) : (s.accessErr off p).mbxG = s.mbxG := (State.accessErr_quiet s off p).mbxG
@[simp] theorem State.accessErr_mbxH (s : State) (off p : Nat) : (s.accessErr off p).mbxH = s.mbxH := (State.accessErr_quiet s off p).mbxH
@[simp] theorem State.accessErr_lastWrites (s : State) (off p : Nat) : (s.accessErr off p).lastWrites = s.lastWrites := (State.accessErr_quiet s off p).lastWrites
@[simp] theorem State.accessErr_rdata (s : State) (off p : Nat) : (s.accessErr off p).rdata = s.rdata := (State.accessErr_quiet s off p).rdata
@[simp] theorem State.accessErr_crc (s : State) (off p : Nat) : (s.accessErr off p).crc = s.crc := (State.accessErr_quiet s off p).crc
@[simp] theorem State.accessErr_timers (s : State) (off p : Nat) : (s.accessErr off p).timers = s.timers := (State.accessErr_quiet s off p).timers
@[simp] theorem State.accessErr_clk (s : State) (off p : Nat) : (s.accessErr off p).clk = s.clk := (State.accessErr_quiet s off p).clk
@[simp] theorem State.accessErr_mode (s : State) (off p : Nat) : (s.accessErr off p).mode = s.mode := (State.accessErr_quiet s off p).mode
@[simp] theorem State.accessErr_whl (s : State) (off p : Nat) : (s.accessErr off p).whl = s.whl := (State.accessErr_quiet s off p).whl
@[simp] theorem State.accessErr_pix (s : State) (off p : Nat) : (s.accessErr off p).pix = s.pix := (State.accessErr_quiet s off p).pix
@[simp] theorem State.accessErr_emt (s : State) (off p : Nat) : (s.accessErr off p).emt = s.emt := (State.accessErr_quiet s off p).emt
@[simp] theorem State.accessErr_str (s : State) (off p : Nat) : (s.accessErr off p).str = s.str := (State.accessErr_quiet s off p).str
@[simp] theorem State.accessErr_lan (s : State) (off p : Nat) : (s.accessErr off p).lan = s.lan := (State.accessErr_quiet s off p).lan
@[simp] theorem State.accessErr_cal (s : State) (off p : Nat) : (s.accessErr off p).cal = s.cal := (State.accessErr_quiet s off p).cal
@[simp] theorem State.accessErr_kln (s : State) (off p : Nat) : (s.accessErr off p).kln = s.kln := (State.accessErr_quiet s off p).kln
@[simp] theorem State.accessErr_shf (s : State) (off p : Nat) : (s.accessErr off p).shf = s.shf := (State.accessErr_quiet s off p).shf
@[simp] theorem State.accessErr_glz (s : State) (off p : Nat) : (s.accessErr off p).glz = s.glz := (State.accessErr_quiet s off p).glz
@[simp] theorem State.accessErr_pq (s : State) (off p : Nat) : (s.accessErr off p).pq = s.pq := (State.accessErr_quiet s off p).pq
@[simp] theorem State.accessErr_tsu (s : State) (off p : Nat) : (s.accessErr off p).tsu = s.tsu := (State.accessErr_quiet s off p).tsu
@[simp] theorem State.accessErr_coil (s : State) (off p : Nat) : (s.accessErr off p).coil = s.coil := (State.accessErr_quiet s off p).coil
@[simp] theorem State.accessErr_thm (s : State) (off p : Nat) : (s.accessErr off p).thm = s.thm := (State.accessErr_quiet s off p).thm
@[simp] theorem State.accessErr_sfe (s : State) (off p : Nat) : (s.accessErr off p).sfe = s.sfe := (State.accessErr_quiet s off p).sfe
@[simp] theorem State.accessErr_sec (s : State) (off p : Nat) : (s.accessErr off p).sec = s.sec := (State.accessErr_quiet s off p).sec
@[simp] theorem State.accessErr_pins (s : State) (off p : Nat) : (s.accessErr off p).pins = s.pins := (State.accessErr_quiet s off p).pins
@[simp] theorem State.accessErr_freeNext (s : State) (off p : Nat) : (s.accessErr off p).freeNext = s.freeNext := (State.accessErr_quiet s off p).freeNext
@[simp] theorem State.accessErr_pending (s : State) (off p : Nat) : (s.accessErr off p).pending = s.pending := (State.accessErr_quiet s off p).pending

/-! ## State.updWide -/

@[simp] theorem State.updWide_now (s : State) (id : Nat) (u : WideUpd) : (s.updWide id u).now = s.now := (State.updWide_quiet s id u).now
@[simp] theorem State.updWide_regs (s : State) (id : Nat) (u : WideUpd) : (s.updWide id u).regs = s.regs := (State.updWide_quiet s id u).regs
@[simp] theorem State.updWide_locks (s : State) (id : Nat) (u : WideUpd) : (s.updWide id u).locks = s.locks := (State.updWide_quiet s id u).locks
@[simp] theorem State.updWide_mbxS (s : State) (id : Nat) (u : WideUpd) : (s.updWide id u).mbxS = s.mbxS := (State.updWide_quiet s id u).mbxS
@[simp] theorem State.updWide_mbxG (s : State) (id : Nat) (u : WideUpd) : (s.updWide id u).mbxG = s.mbxG := (State.updWide_quiet s id u).mbxG
@[simp] theorem State.updWide_mbxH (s : State) (id : Nat) (u : WideUpd) : (s.updWide id u).mbxH = s.mbxH := (State.updWide_quiet s id u).mbxH
@[simp] theorem State.updWide_lastWrites (s : State) (id : Nat) (u : WideUpd) : (s.updWide id u).lastWrites = s.lastWrites := (State.updWide_quiet s id u).lastWrites
@[simp] theorem State.updWide_rdata (s : State) (id : Nat) (u : WideUpd) : (s.updWide id u).rdata = s.rdata := (State.updWide_quiet s id u).rdata
@[simp] theorem State.updWide_crc (s : State) (id : Nat) (u : WideUpd) : (s.updWide id u).crc = s.crc := (State.updWide_quiet s id u).crc
@[simp] theorem State.updWide_timers (s : State) (id : Nat) (u : WideUpd) : (s.updWide id u).timers = s.timers := (State.updWide_quiet s id u).timers
@[simp] theorem State.updWide_clk (s : State) (id : Nat) (u : WideUpd) : (s.updWide id u).clk = s.clk := (State.updWide_quiet s id u).clk
@[simp] theorem State.updWide_mode (s : State) (id : Nat) (u : WideUpd) : (s.updWide id u).mode = s.mode := (State.updWide_quiet s id u).mode
@[simp] theorem State.updWide_whl (s : State) (id : Nat) (u : WideUpd) : (s.updWide id u).whl = s.whl := (State.updWide_quiet s id u).whl
@[simp] theorem State.updWide_pix (s : State) (id : Nat) (u : WideUpd) : (s.updWide id u).pix = s.pix := (State.updWide_quiet s id u).pix
@[simp] theorem State.updWide_emt (s : State) (id : Nat) (u : WideUpd) : (s.updWide id u).emt = s.emt := (State.updWide_quiet s id u).emt
@[simp] theorem State.updWide_str (s : State) (id : Nat) (u : WideUpd) : (s.updWide id u).str = s.str := (State.updWide_quiet s id u).str
@[simp] theorem State.updWide_lan (s : State) (id : Nat) (u : WideUpd) : (s.updWide id u).lan = s.lan := (State.updWide_quiet s id u).lan
@[simp] theorem State.updWide_cal (s : State) (id : Nat) (u : WideUpd) : (s.updWide id u).cal = s.cal := (State.updWide_quiet s id u).cal
@[simp] theorem State.updWide_kln (s : State) (id : Nat) (u : WideUpd) : (s.updWide id u).kln = s.kln := (State.updWide_quiet s id u).kln
@[simp] theorem State.updWide_shf (s : State) (id : Nat) (u : WideUpd) : (s.updWide id u).shf = s.shf := (State.updWide_quiet s id u).shf
@[simp] theorem State.updWide_glz (s : State) (id : Nat) (u : WideUpd) : (s.updWide id u).glz = s.glz := (State.updWide_quiet s id u).glz
@[simp] theorem State.updWide_pq (s : State) (id : Nat) (u : WideUpd) : (s.updWide id u).pq = s.pq := (State.updWide_quiet s id u).pq
@[simp] theorem State.updWide_tsu (s : State) (id : Nat) (u : WideUpd) : (s.updWide id u).tsu = s.tsu := (State.updWide_quiet s id u).tsu
@[simp] theorem State.updWide_coil (s : State) (id : Nat) (u : WideUpd) : (s.updWide id u).coil = s.coil := (State.updWide_quiet s id u).coil
@[simp] theorem State.updWide_thm (s : State) (id : Nat) (u : WideUpd) : (s.updWide id u).thm = s.thm := (State.updWide_quiet s id u).thm
@[simp] theorem State.updWide_sfe (s : State) (id : Nat) (u : WideUpd) : (s.updWide id u).sfe = s.sfe := (State.updWide_quiet s id u).sfe
@[simp] theorem State.updWide_sec (s : State) (id : Nat) (u : WideUpd) : (s.updWide id u).sec = s.sec := (State.updWide_quiet s id u).sec
@[simp] theorem State.updWide_pins (s : State) (id : Nat) (u : WideUpd) : (s.updWide id u).pins = s.pins := (State.updWide_quiet s id u).pins
@[simp] theorem State.updWide_freeNext (s : State) (id : Nat) (u : WideUpd) : (s.updWide id u).freeNext = s.freeNext := (State.updWide_quiet s id u).freeNext
@[simp] theorem State.updWide_pending (s : State) (id : Nat) (u : WideUpd) : (s.updWide id u).pending = s.pending := (State.updWide_quiet s id u).pending

/-! ## State.putWide -/

@[simp] theorem State.putWide_now (s : State) (id v : Nat) : (s.putWide id v).now = s.now := (State.putWide_quiet s id v).now
@[simp] theorem State.putWide_regs (s : State) (id v : Nat) : (s.putWide id v).regs = s.regs := (State.putWide_quiet s id v).regs
@[simp] theorem State.putWide_locks (s : State) (id v : Nat) : (s.putWide id v).locks = s.locks := (State.putWide_quiet s id v).locks
@[simp] theorem State.putWide_mbxS (s : State) (id v : Nat) : (s.putWide id v).mbxS = s.mbxS := (State.putWide_quiet s id v).mbxS
@[simp] theorem State.putWide_mbxG (s : State) (id v : Nat) : (s.putWide id v).mbxG = s.mbxG := (State.putWide_quiet s id v).mbxG
@[simp] theorem State.putWide_mbxH (s : State) (id v : Nat) : (s.putWide id v).mbxH = s.mbxH := (State.putWide_quiet s id v).mbxH
@[simp] theorem State.putWide_lastWrites (s : State) (id v : Nat) : (s.putWide id v).lastWrites = s.lastWrites := (State.putWide_quiet s id v).lastWrites
@[simp] theorem State.putWide_rdata (s : State) (id v : Nat) : (s.putWide id v).rdata = s.rdata := (State.putWide_quiet s id v).rdata
@[simp] theorem State.putWide_crc (s : State) (id v : Nat) : (s.putWide id v).crc = s.crc := (State.putWide_quiet s id v).crc
@[simp] theorem State.putWide_timers (s : State) (id v : Nat) : (s.putWide id v).timers = s.timers := (State.putWide_quiet s id v).timers
@[simp] theorem State.putWide_clk (s : State) (id v : Nat) : (s.putWide id v).clk = s.clk := (State.putWide_quiet s id v).clk
@[simp] theorem State.putWide_mode (s : State) (id v : Nat) : (s.putWide id v).mode = s.mode := (State.putWide_quiet s id v).mode
@[simp] theorem State.putWide_whl (s : State) (id v : Nat) : (s.putWide id v).whl = s.whl := (State.putWide_quiet s id v).whl
@[simp] theorem State.putWide_pix (s : State) (id v : Nat) : (s.putWide id v).pix = s.pix := (State.putWide_quiet s id v).pix
@[simp] theorem State.putWide_emt (s : State) (id v : Nat) : (s.putWide id v).emt = s.emt := (State.putWide_quiet s id v).emt
@[simp] theorem State.putWide_str (s : State) (id v : Nat) : (s.putWide id v).str = s.str := (State.putWide_quiet s id v).str
@[simp] theorem State.putWide_lan (s : State) (id v : Nat) : (s.putWide id v).lan = s.lan := (State.putWide_quiet s id v).lan
@[simp] theorem State.putWide_cal (s : State) (id v : Nat) : (s.putWide id v).cal = s.cal := (State.putWide_quiet s id v).cal
@[simp] theorem State.putWide_kln (s : State) (id v : Nat) : (s.putWide id v).kln = s.kln := (State.putWide_quiet s id v).kln
@[simp] theorem State.putWide_shf (s : State) (id v : Nat) : (s.putWide id v).shf = s.shf := (State.putWide_quiet s id v).shf
@[simp] theorem State.putWide_glz (s : State) (id v : Nat) : (s.putWide id v).glz = s.glz := (State.putWide_quiet s id v).glz
@[simp] theorem State.putWide_pq (s : State) (id v : Nat) : (s.putWide id v).pq = s.pq := (State.putWide_quiet s id v).pq
@[simp] theorem State.putWide_tsu (s : State) (id v : Nat) : (s.putWide id v).tsu = s.tsu := (State.putWide_quiet s id v).tsu
@[simp] theorem State.putWide_coil (s : State) (id v : Nat) : (s.putWide id v).coil = s.coil := (State.putWide_quiet s id v).coil
@[simp] theorem State.putWide_thm (s : State) (id v : Nat) : (s.putWide id v).thm = s.thm := (State.putWide_quiet s id v).thm
@[simp] theorem State.putWide_sfe (s : State) (id v : Nat) : (s.putWide id v).sfe = s.sfe := (State.putWide_quiet s id v).sfe
@[simp] theorem State.putWide_sec (s : State) (id v : Nat) : (s.putWide id v).sec = s.sec := (State.putWide_quiet s id v).sec
@[simp] theorem State.putWide_pins (s : State) (id v : Nat) : (s.putWide id v).pins = s.pins := (State.putWide_quiet s id v).pins
@[simp] theorem State.putWide_freeNext (s : State) (id v : Nat) : (s.putWide id v).freeNext = s.freeNext := (State.putWide_quiet s id v).freeNext
@[simp] theorem State.putWide_pending (s : State) (id v : Nat) : (s.putWide id v).pending = s.pending := (State.putWide_quiet s id v).pending

/-! ## State.bump -/

@[simp] theorem State.bump_now (s : State) (id n : Nat) : (s.bump id n).now = s.now := (State.bump_quiet s id n).now
@[simp] theorem State.bump_regs (s : State) (id n : Nat) : (s.bump id n).regs = s.regs := (State.bump_quiet s id n).regs
@[simp] theorem State.bump_locks (s : State) (id n : Nat) : (s.bump id n).locks = s.locks := (State.bump_quiet s id n).locks
@[simp] theorem State.bump_mbxS (s : State) (id n : Nat) : (s.bump id n).mbxS = s.mbxS := (State.bump_quiet s id n).mbxS
@[simp] theorem State.bump_mbxG (s : State) (id n : Nat) : (s.bump id n).mbxG = s.mbxG := (State.bump_quiet s id n).mbxG
@[simp] theorem State.bump_mbxH (s : State) (id n : Nat) : (s.bump id n).mbxH = s.mbxH := (State.bump_quiet s id n).mbxH
@[simp] theorem State.bump_lastWrites (s : State) (id n : Nat) : (s.bump id n).lastWrites = s.lastWrites := (State.bump_quiet s id n).lastWrites
@[simp] theorem State.bump_rdata (s : State) (id n : Nat) : (s.bump id n).rdata = s.rdata := (State.bump_quiet s id n).rdata
@[simp] theorem State.bump_crc (s : State) (id n : Nat) : (s.bump id n).crc = s.crc := (State.bump_quiet s id n).crc
@[simp] theorem State.bump_timers (s : State) (id n : Nat) : (s.bump id n).timers = s.timers := (State.bump_quiet s id n).timers
@[simp] theorem State.bump_clk (s : State) (id n : Nat) : (s.bump id n).clk = s.clk := (State.bump_quiet s id n).clk
@[simp] theorem State.bump_mode (s : State) (id n : Nat) : (s.bump id n).mode = s.mode := (State.bump_quiet s id n).mode
@[simp] theorem State.bump_whl (s : State) (id n : Nat) : (s.bump id n).whl = s.whl := (State.bump_quiet s id n).whl
@[simp] theorem State.bump_pix (s : State) (id n : Nat) : (s.bump id n).pix = s.pix := (State.bump_quiet s id n).pix
@[simp] theorem State.bump_emt (s : State) (id n : Nat) : (s.bump id n).emt = s.emt := (State.bump_quiet s id n).emt
@[simp] theorem State.bump_str (s : State) (id n : Nat) : (s.bump id n).str = s.str := (State.bump_quiet s id n).str
@[simp] theorem State.bump_lan (s : State) (id n : Nat) : (s.bump id n).lan = s.lan := (State.bump_quiet s id n).lan
@[simp] theorem State.bump_cal (s : State) (id n : Nat) : (s.bump id n).cal = s.cal := (State.bump_quiet s id n).cal
@[simp] theorem State.bump_kln (s : State) (id n : Nat) : (s.bump id n).kln = s.kln := (State.bump_quiet s id n).kln
@[simp] theorem State.bump_shf (s : State) (id n : Nat) : (s.bump id n).shf = s.shf := (State.bump_quiet s id n).shf
@[simp] theorem State.bump_glz (s : State) (id n : Nat) : (s.bump id n).glz = s.glz := (State.bump_quiet s id n).glz
@[simp] theorem State.bump_pq (s : State) (id n : Nat) : (s.bump id n).pq = s.pq := (State.bump_quiet s id n).pq
@[simp] theorem State.bump_tsu (s : State) (id n : Nat) : (s.bump id n).tsu = s.tsu := (State.bump_quiet s id n).tsu
@[simp] theorem State.bump_coil (s : State) (id n : Nat) : (s.bump id n).coil = s.coil := (State.bump_quiet s id n).coil
@[simp] theorem State.bump_thm (s : State) (id n : Nat) : (s.bump id n).thm = s.thm := (State.bump_quiet s id n).thm
@[simp] theorem State.bump_sfe (s : State) (id n : Nat) : (s.bump id n).sfe = s.sfe := (State.bump_quiet s id n).sfe
@[simp] theorem State.bump_sec (s : State) (id n : Nat) : (s.bump id n).sec = s.sec := (State.bump_quiet s id n).sec
@[simp] theorem State.bump_pins (s : State) (id n : Nat) : (s.bump id n).pins = s.pins := (State.bump_quiet s id n).pins
@[simp] theorem State.bump_freeNext (s : State) (id n : Nat) : (s.bump id n).freeNext = s.freeNext := (State.bump_quiet s id n).freeNext
@[simp] theorem State.bump_pending (s : State) (id n : Nat) : (s.bump id n).pending = s.pending := (State.bump_quiet s id n).pending

/-! ## State.memPut -/

@[simp] theorem State.memPut_now (s : State) (a n v : Nat) : (s.memPut a n v).now = s.now := (State.memPut_quiet s a n v).now
@[simp] theorem State.memPut_regs (s : State) (a n v : Nat) : (s.memPut a n v).regs = s.regs := (State.memPut_quiet s a n v).regs
@[simp] theorem State.memPut_locks (s : State) (a n v : Nat) : (s.memPut a n v).locks = s.locks := (State.memPut_quiet s a n v).locks
@[simp] theorem State.memPut_mbxS (s : State) (a n v : Nat) : (s.memPut a n v).mbxS = s.mbxS := (State.memPut_quiet s a n v).mbxS
@[simp] theorem State.memPut_mbxG (s : State) (a n v : Nat) : (s.memPut a n v).mbxG = s.mbxG := (State.memPut_quiet s a n v).mbxG
@[simp] theorem State.memPut_mbxH (s : State) (a n v : Nat) : (s.memPut a n v).mbxH = s.mbxH := (State.memPut_quiet s a n v).mbxH
@[simp] theorem State.memPut_lastWrites (s : State) (a n v : Nat) : (s.memPut a n v).lastWrites = s.lastWrites := (State.memPut_quiet s a n v).lastWrites
@[simp] theorem State.memPut_rdata (s : State) (a n v : Nat) : (s.memPut a n v).rdata = s.rdata := (State.memPut_quiet s a n v).rdata
@[simp] theorem State.memPut_crc (s : State) (a n v : Nat) : (s.memPut a n v).crc = s.crc := (State.memPut_quiet s a n v).crc
@[simp] theorem State.memPut_timers (s : State) (a n v : Nat) : (s.memPut a n v).timers = s.timers := (State.memPut_quiet s a n v).timers
@[simp] theorem State.memPut_clk (s : State) (a n v : Nat) : (s.memPut a n v).clk = s.clk := (State.memPut_quiet s a n v).clk
@[simp] theorem State.memPut_mode (s : State) (a n v : Nat) : (s.memPut a n v).mode = s.mode := (State.memPut_quiet s a n v).mode
@[simp] theorem State.memPut_whl (s : State) (a n v : Nat) : (s.memPut a n v).whl = s.whl := (State.memPut_quiet s a n v).whl
@[simp] theorem State.memPut_pix (s : State) (a n v : Nat) : (s.memPut a n v).pix = s.pix := (State.memPut_quiet s a n v).pix
@[simp] theorem State.memPut_emt (s : State) (a n v : Nat) : (s.memPut a n v).emt = s.emt := (State.memPut_quiet s a n v).emt
@[simp] theorem State.memPut_str (s : State) (a n v : Nat) : (s.memPut a n v).str = s.str := (State.memPut_quiet s a n v).str
@[simp] theorem State.memPut_lan (s : State) (a n v : Nat) : (s.memPut a n v).lan = s.lan := (State.memPut_quiet s a n v).lan
@[simp] theorem State.memPut_cal (s : State) (a n v : Nat) : (s.memPut a n v).cal = s.cal := (State.memPut_quiet s a n v).cal
@[simp] theorem State.memPut_kln (s : State) (a n v : Nat) : (s.memPut a n v).kln = s.kln := (State.memPut_quiet s a n v).kln
@[simp] theorem State.memPut_shf (s : State) (a n v : Nat) : (s.memPut a n v).shf = s.shf := (State.memPut_quiet s a n v).shf
@[simp] theorem State.memPut_glz (s : State) (a n v : Nat) : (s.memPut a n v).glz = s.glz := (State.memPut_quiet s a n v).glz
@[simp] theorem State.memPut_pq (s : State) (a n v : Nat) : (s.memPut a n v).pq = s.pq := (State.memPut_quiet s a n v).pq
@[simp] theorem State.memPut_tsu (s : State) (a n v : Nat) : (s.memPut a n v).tsu = s.tsu := (State.memPut_quiet s a n v).tsu
@[simp] theorem State.memPut_coil (s : State) (a n v : Nat) : (s.memPut a n v).coil = s.coil := (State.memPut_quiet s a n v).coil
@[simp] theorem State.memPut_thm (s : State) (a n v : Nat) : (s.memPut a n v).thm = s.thm := (State.memPut_quiet s a n v).thm
@[simp] theorem State.memPut_sfe (s : State) (a n v : Nat) : (s.memPut a n v).sfe = s.sfe := (State.memPut_quiet s a n v).sfe
@[simp] theorem State.memPut_sec (s : State) (a n v : Nat) : (s.memPut a n v).sec = s.sec := (State.memPut_quiet s a n v).sec
@[simp] theorem State.memPut_pins (s : State) (a n v : Nat) : (s.memPut a n v).pins = s.pins := (State.memPut_quiet s a n v).pins
@[simp] theorem State.memPut_freeNext (s : State) (a n v : Nat) : (s.memPut a n v).freeNext = s.freeNext := (State.memPut_quiet s a n v).freeNext
@[simp] theorem State.memPut_pending (s : State) (a n v : Nat) : (s.memPut a n v).pending = s.pending := (State.memPut_quiet s a n v).pending

/-! ## State.portFault -/

@[simp] theorem State.portFault_now (s : State) (p l c q : Nat) : (s.portFault p l c q).now = s.now := (State.portFault_quiet s p l c q).now
@[simp] theorem State.portFault_regs (s : State) (p l c q : Nat) : (s.portFault p l c q).regs = s.regs := (State.portFault_quiet s p l c q).regs
@[simp] theorem State.portFault_locks (s : State) (p l c q : Nat) : (s.portFault p l c q).locks = s.locks := (State.portFault_quiet s p l c q).locks
@[simp] theorem State.portFault_mbxS (s : State) (p l c q : Nat) : (s.portFault p l c q).mbxS = s.mbxS := (State.portFault_quiet s p l c q).mbxS
@[simp] theorem State.portFault_mbxG (s : State) (p l c q : Nat) : (s.portFault p l c q).mbxG = s.mbxG := (State.portFault_quiet s p l c q).mbxG
@[simp] theorem State.portFault_mbxH (s : State) (p l c q : Nat) : (s.portFault p l c q).mbxH = s.mbxH := (State.portFault_quiet s p l c q).mbxH
@[simp] theorem State.portFault_lastWrites (s : State) (p l c q : Nat) : (s.portFault p l c q).lastWrites = s.lastWrites := (State.portFault_quiet s p l c q).lastWrites
@[simp] theorem State.portFault_rdata (s : State) (p l c q : Nat) : (s.portFault p l c q).rdata = s.rdata := (State.portFault_quiet s p l c q).rdata
@[simp] theorem State.portFault_crc (s : State) (p l c q : Nat) : (s.portFault p l c q).crc = s.crc := (State.portFault_quiet s p l c q).crc
@[simp] theorem State.portFault_timers (s : State) (p l c q : Nat) : (s.portFault p l c q).timers = s.timers := (State.portFault_quiet s p l c q).timers
@[simp] theorem State.portFault_clk (s : State) (p l c q : Nat) : (s.portFault p l c q).clk = s.clk := (State.portFault_quiet s p l c q).clk
@[simp] theorem State.portFault_mode (s : State) (p l c q : Nat) : (s.portFault p l c q).mode = s.mode := (State.portFault_quiet s p l c q).mode
@[simp] theorem State.portFault_whl (s : State) (p l c q : Nat) : (s.portFault p l c q).whl = s.whl := (State.portFault_quiet s p l c q).whl
@[simp] theorem State.portFault_pix (s : State) (p l c q : Nat) : (s.portFault p l c q).pix = s.pix := (State.portFault_quiet s p l c q).pix
@[simp] theorem State.portFault_emt (s : State) (p l c q : Nat) : (s.portFault p l c q).emt = s.emt := (State.portFault_quiet s p l c q).emt
@[simp] theorem State.portFault_str (s : State) (p l c q : Nat) : (s.portFault p l c q).str = s.str := (State.portFault_quiet s p l c q).str
@[simp] theorem State.portFault_lan (s : State) (p l c q : Nat) : (s.portFault p l c q).lan = s.lan := (State.portFault_quiet s p l c q).lan
@[simp] theorem State.portFault_cal (s : State) (p l c q : Nat) : (s.portFault p l c q).cal = s.cal := (State.portFault_quiet s p l c q).cal
@[simp] theorem State.portFault_kln (s : State) (p l c q : Nat) : (s.portFault p l c q).kln = s.kln := (State.portFault_quiet s p l c q).kln
@[simp] theorem State.portFault_shf (s : State) (p l c q : Nat) : (s.portFault p l c q).shf = s.shf := (State.portFault_quiet s p l c q).shf
@[simp] theorem State.portFault_glz (s : State) (p l c q : Nat) : (s.portFault p l c q).glz = s.glz := (State.portFault_quiet s p l c q).glz
@[simp] theorem State.portFault_pq (s : State) (p l c q : Nat) : (s.portFault p l c q).pq = s.pq := (State.portFault_quiet s p l c q).pq
@[simp] theorem State.portFault_tsu (s : State) (p l c q : Nat) : (s.portFault p l c q).tsu = s.tsu := (State.portFault_quiet s p l c q).tsu
@[simp] theorem State.portFault_coil (s : State) (p l c q : Nat) : (s.portFault p l c q).coil = s.coil := (State.portFault_quiet s p l c q).coil
@[simp] theorem State.portFault_thm (s : State) (p l c q : Nat) : (s.portFault p l c q).thm = s.thm := (State.portFault_quiet s p l c q).thm
@[simp] theorem State.portFault_sfe (s : State) (p l c q : Nat) : (s.portFault p l c q).sfe = s.sfe := (State.portFault_quiet s p l c q).sfe
@[simp] theorem State.portFault_sec (s : State) (p l c q : Nat) : (s.portFault p l c q).sec = s.sec := (State.portFault_quiet s p l c q).sec
@[simp] theorem State.portFault_pins (s : State) (p l c q : Nat) : (s.portFault p l c q).pins = s.pins := (State.portFault_quiet s p l c q).pins
@[simp] theorem State.portFault_freeNext (s : State) (p l c q : Nat) : (s.portFault p l c q).freeNext = s.freeNext := (State.portFault_quiet s p l c q).freeNext
@[simp] theorem State.portFault_pending (s : State) (p l c q : Nat) : (s.portFault p l c q).pending = s.pending := (State.portFault_quiet s p l c q).pending

/-! ## State.settleLog -/

@[simp] theorem State.settleLog_now (s : State) : (s.settleLog).now = s.now := (State.settleLog_quiet s).now
@[simp] theorem State.settleLog_regs (s : State) : (s.settleLog).regs = s.regs := (State.settleLog_quiet s).regs
@[simp] theorem State.settleLog_locks (s : State) : (s.settleLog).locks = s.locks := (State.settleLog_quiet s).locks
@[simp] theorem State.settleLog_mbxS (s : State) : (s.settleLog).mbxS = s.mbxS := (State.settleLog_quiet s).mbxS
@[simp] theorem State.settleLog_mbxG (s : State) : (s.settleLog).mbxG = s.mbxG := (State.settleLog_quiet s).mbxG
@[simp] theorem State.settleLog_mbxH (s : State) : (s.settleLog).mbxH = s.mbxH := (State.settleLog_quiet s).mbxH
@[simp] theorem State.settleLog_lastWrites (s : State) : (s.settleLog).lastWrites = s.lastWrites := (State.settleLog_quiet s).lastWrites
@[simp] theorem State.settleLog_rdata (s : State) : (s.settleLog).rdata = s.rdata := (State.settleLog_quiet s).rdata
@[simp] theorem State.settleLog_crc (s : State) : (s.settleLog).crc = s.crc := (State.settleLog_quiet s).crc
@[simp] theorem State.settleLog_timers (s : State) : (s.settleLog).timers = s.timers := (State.settleLog_quiet s).timers
@[simp] theorem State.settleLog_clk (s : State) : (s.settleLog).clk = s.clk := (State.settleLog_quiet s).clk
@[simp] theorem State.settleLog_mode (s : State) : (s.settleLog).mode = s.mode := (State.settleLog_quiet s).mode
@[simp] theorem State.settleLog_whl (s : State) : (s.settleLog).whl = s.whl := (State.settleLog_quiet s).whl
@[simp] theorem State.settleLog_pix (s : State) : (s.settleLog).pix = s.pix := (State.settleLog_quiet s).pix
@[simp] theorem State.settleLog_emt (s : State) : (s.settleLog).emt = s.emt := (State.settleLog_quiet s).emt
@[simp] theorem State.settleLog_str (s : State) : (s.settleLog).str = s.str := (State.settleLog_quiet s).str
@[simp] theorem State.settleLog_lan (s : State) : (s.settleLog).lan = s.lan := (State.settleLog_quiet s).lan
@[simp] theorem State.settleLog_cal (s : State) : (s.settleLog).cal = s.cal := (State.settleLog_quiet s).cal
@[simp] theorem State.settleLog_kln (s : State) : (s.settleLog).kln = s.kln := (State.settleLog_quiet s).kln
@[simp] theorem State.settleLog_shf (s : State) : (s.settleLog).shf = s.shf := (State.settleLog_quiet s).shf
@[simp] theorem State.settleLog_glz (s : State) : (s.settleLog).glz = s.glz := (State.settleLog_quiet s).glz
@[simp] theorem State.settleLog_pq (s : State) : (s.settleLog).pq = s.pq := (State.settleLog_quiet s).pq
@[simp] theorem State.settleLog_tsu (s : State) : (s.settleLog).tsu = s.tsu := (State.settleLog_quiet s).tsu
@[simp] theorem State.settleLog_coil (s : State) : (s.settleLog).coil = s.coil := (State.settleLog_quiet s).coil
@[simp] theorem State.settleLog_thm (s : State) : (s.settleLog).thm = s.thm := (State.settleLog_quiet s).thm
@[simp] theorem State.settleLog_sfe (s : State) : (s.settleLog).sfe = s.sfe := (State.settleLog_quiet s).sfe
@[simp] theorem State.settleLog_sec (s : State) : (s.settleLog).sec = s.sec := (State.settleLog_quiet s).sec
@[simp] theorem State.settleLog_pins (s : State) : (s.settleLog).pins = s.pins := (State.settleLog_quiet s).pins
@[simp] theorem State.settleLog_freeNext (s : State) : (s.settleLog).freeNext = s.freeNext := (State.settleLog_quiet s).freeNext
@[simp] theorem State.settleLog_pending (s : State) : (s.settleLog).pending = s.pending := (State.settleLog_quiet s).pending

/-! ## State.at -/

@[simp] theorem State.at_now (s : State) (t : Nat) : (s.at t).now = max s.now t := (State.at_quiet s t).now
@[simp] theorem State.at_regs (s : State) (t : Nat) : (s.at t).regs = s.regs := (State.at_quiet s t).regs
@[simp] theorem State.at_locks (s : State) (t : Nat) : (s.at t).locks = s.locks := (State.at_quiet s t).locks
@[simp] theorem State.at_mbxS (s : State) (t : Nat) : (s.at t).mbxS = s.mbxS := (State.at_quiet s t).mbxS
@[simp] theorem State.at_mbxG (s : State) (t : Nat) : (s.at t).mbxG = s.mbxG := (State.at_quiet s t).mbxG
@[simp] theorem State.at_mbxH (s : State) (t : Nat) : (s.at t).mbxH = s.mbxH := (State.at_quiet s t).mbxH
@[simp] theorem State.at_lastWrites (s : State) (t : Nat) : (s.at t).lastWrites = s.lastWrites := (State.at_quiet s t).lastWrites
@[simp] theorem State.at_rdata (s : State) (t : Nat) : (s.at t).rdata = s.rdata := (State.at_quiet s t).rdata
@[simp] theorem State.at_crc (s : State) (t : Nat) : (s.at t).crc = s.crc := (State.at_quiet s t).crc
@[simp] theorem State.at_timers (s : State) (t : Nat) : (s.at t).timers = s.timers := (State.at_quiet s t).timers
@[simp] theorem State.at_clk (s : State) (t : Nat) : (s.at t).clk = s.clk := (State.at_quiet s t).clk
@[simp] theorem State.at_mode (s : State) (t : Nat) : (s.at t).mode = s.mode := (State.at_quiet s t).mode
@[simp] theorem State.at_whl (s : State) (t : Nat) : (s.at t).whl = s.whl := (State.at_quiet s t).whl
@[simp] theorem State.at_pix (s : State) (t : Nat) : (s.at t).pix = s.pix := (State.at_quiet s t).pix
@[simp] theorem State.at_emt (s : State) (t : Nat) : (s.at t).emt = s.emt := (State.at_quiet s t).emt
@[simp] theorem State.at_str (s : State) (t : Nat) : (s.at t).str = s.str := (State.at_quiet s t).str
@[simp] theorem State.at_lan (s : State) (t : Nat) : (s.at t).lan = s.lan := (State.at_quiet s t).lan
@[simp] theorem State.at_cal (s : State) (t : Nat) : (s.at t).cal = s.cal := (State.at_quiet s t).cal
@[simp] theorem State.at_kln (s : State) (t : Nat) : (s.at t).kln = s.kln := (State.at_quiet s t).kln
@[simp] theorem State.at_shf (s : State) (t : Nat) : (s.at t).shf = s.shf := (State.at_quiet s t).shf
@[simp] theorem State.at_glz (s : State) (t : Nat) : (s.at t).glz = s.glz := (State.at_quiet s t).glz
@[simp] theorem State.at_pq (s : State) (t : Nat) : (s.at t).pq = s.pq := (State.at_quiet s t).pq
@[simp] theorem State.at_tsu (s : State) (t : Nat) : (s.at t).tsu = s.tsu := (State.at_quiet s t).tsu
@[simp] theorem State.at_coil (s : State) (t : Nat) : (s.at t).coil = s.coil := (State.at_quiet s t).coil
@[simp] theorem State.at_thm (s : State) (t : Nat) : (s.at t).thm = s.thm := (State.at_quiet s t).thm
@[simp] theorem State.at_sfe (s : State) (t : Nat) : (s.at t).sfe = s.sfe := (State.at_quiet s t).sfe
@[simp] theorem State.at_sec (s : State) (t : Nat) : (s.at t).sec = s.sec := (State.at_quiet s t).sec
@[simp] theorem State.at_pins (s : State) (t : Nat) : (s.at t).pins = s.pins := (State.at_quiet s t).pins
@[simp] theorem State.at_freeNext (s : State) (t : Nat) : (s.at t).freeNext = s.freeNext := (State.at_quiet s t).freeNext
@[simp] theorem State.at_pending (s : State) (t : Nat) : (s.at t).pending = s.pending := (State.at_quiet s t).pending

end Sys2Proof.Machine
end

