-- ==== Sys2Proof/Laws/Memory.lean ====
section
/-! SUPPORT. The memory behind the region table: a byte read after a write, and the canonical form that every memory
operation keeps. -/

namespace Sys2Proof.Machine

/-! ## Physical bytes -/

@[simp] theorem Mem.setByte_base (m : Mem) (p q : Nat) (v : Byte) : (m.setByte p v).base q = m.base q := rfl

/-- A byte reads as last written; writing one leaves the others alone. -/
theorem Mem.byteAt_setByte (m : Mem) (p q : Nat) (v : Byte) :
    (m.setByte p v).byteAt q = if q = p then v else m.byteAt q := by
  unfold Mem.byteAt
  rw [Mem.setByte_base]
  simp only [Mem.setByte, fget_fset]
  split
  · subst q; rw [BitVec.xor_assoc, BitVec.xor_self, BitVec.xor_zero]
  · rfl

/-! ## Logical bytes -/

theorem ppageOf_strict (mapped : List Nat) : StrictMono (ppageOf mapped) := by
  unfold ppageOf
  induction mapped with
  | nil => exact fun a b h => h
  | cons q l ih =>
    intro a b h
    simp only [List.foldl_cons]
    apply ih
    split <;> split <;> omega

/-- Two logical addresses lie at two physical addresses. -/
theorem State.physOf_inj (s : State) {a b : Nat} (h : s.physOf a = s.physOf b) : a = b := by
  unfold State.physOf at h
  have hp : 0 < pageBytes := by decide
  have ha := Nat.mod_lt a hp
  have hb := Nat.mod_lt b hp
  have e : ppageOf s.mem.mapped (a / pageBytes) = ppageOf s.mem.mapped (b / pageBytes) := by
    have h1 := congrArg (· / pageBytes) h
    simp only [Nat.mul_comm _ pageBytes, Nat.mul_add_div hp, Nat.div_eq_of_lt ha, Nat.div_eq_of_lt hb] at h1
    simpa using h1
  have q := (ppageOf_strict s.mem.mapped).injective e
  have m : a % pageBytes = b % pageBytes := by rw [e] at h; omega
  have da := Nat.div_add_mod a pageBytes
  have db := Nat.div_add_mod b pageBytes
  rw [q, m] at da
  omega

/-- One byte written at a logical address. -/
theorem State.memByte_set (s : State) (a b : Nat) (v : Byte) :
    State.memByte { s with mem := s.mem.setByte (s.physOf a) v } b = if b = a then v else s.memByte b := by
  unfold State.memByte
  have h : State.physOf { s with mem := s.mem.setByte (s.physOf a) v } b = s.physOf b := rfl
  rw [h, Mem.byteAt_setByte]
  by_cases hb : b = a
  · simp [hb]
  · have : s.physOf b ≠ s.physOf a := fun e => hb (s.physOf_inj e)
    simp [hb, this]

theorem State.memPut_zero (s : State) (a v : Nat) : s.memPut a 0 v = s := rfl

theorem State.memPut_succ (s : State) (a n v : Nat) :
    s.memPut a (n + 1) v = { s.memPut a n v with
      mem := (s.memPut a n v).mem.setByte ((s.memPut a n v).physOf (a + n)) (BitVec.ofNat 8 (v / 256 ^ n)) } := by
  unfold State.memPut forN
  rw [List.range_succ, List.foldl_append]
  rfl

/-- A write of `n` bytes: each reads back, and every other byte reads as before. -/
theorem State.memByte_memPut (s : State) (a v b : Nat) : ∀ n : Nat,
    (s.memPut a n v).memByte b = if a ≤ b ∧ b < a + n then BitVec.ofNat 8 (v / 256 ^ (b - a)) else s.memByte b
  | 0 => by
    have : ¬ (a ≤ b ∧ b < a + 0) := by omega
    rw [State.memPut_zero, if_neg this]
  | n + 1 => by
    rw [State.memPut_succ, State.memByte_set, State.memByte_memPut s a v b n]
    by_cases h : b = a + n
    · subst h; simp
    · by_cases k : a ≤ b ∧ b < a + n
      · have : a ≤ b ∧ b < a + (n + 1) := ⟨k.1, by omega⟩
        simp [h, k, this]
      · have : ¬ (a ≤ b ∧ b < a + (n + 1)) := by omega
        simp [h, k, this]

/-! ## The canonical form -/

theorem Mem.wf_setByte (m : Mem) (p : Nat) (v : Byte) (h : m.wf = true) : (m.setByte p v).wf = true :=
  fwf_fset 0 m.bytes p _ h

theorem State.memPut_wf (s : State) (a v : Nat) (h : s.mem.wf = true) : ∀ n, (s.memPut a n v).mem.wf = true
  | 0 => h
  | n + 1 => by
    rw [State.memPut_succ]
    exact Mem.wf_setByte _ _ _ (State.memPut_wf s a v h n)

theorem State.memOpen_wf (s : State) (p : Nat) (h : s.mem.wf = true) : (s.memOpen p).mem.wf = true :=
  fwf_filter 0 _ _ h

@[simp] theorem State.signal_mem (s : State) (v : Nat) : (s.signal v).mem = s.mem := by
  unfold State.signal State.sendMsi State.post
  dsimp only
  (repeat' split) <;> rfl

@[simp] theorem State.raise_mem (s : State) (off : Nat) (f : BitVec 16) : (s.raise off f).mem = s.mem := by
  unfold State.raise
  dsimp only
  (repeat' split) <;> simp only [State.signal_mem]

@[simp] theorem State.capCond_mem (s : State) (a u f : Nat) (i : Bool) (d : Nat) : (s.capCond a u f i d).mem = s.mem := by
  unfold State.capCond
  split <;> rfl

@[simp] theorem State.logPush_mem (s : State) (e : LogEntry) : (s.logPush e).mem = s.mem := by
  unfold State.logPush
  simp only [State.signal_mem]
  split <;> simp only [State.capCond_mem]

/-- An event leaves the memory as it is: its record is written when the log settles. -/
@[simp] theorem State.event_mem (s : State) (off b : Nat) (i : Info) : (s.event off b i).mem = s.mem := by
  unfold State.event
  rw [State.logPush_mem, State.raise_mem]

theorem State.rgnBuild_wf (s : State) (h : s.mem.wf = true) : s.rgnBuild.mem.wf = true := by
  unfold State.rgnBuild
  split
  · rw [State.event_mem]; exact h
  · rw [State.event_mem]; exact fwf_filter 0 _ _ h

theorem State.granule_wf (s : State) (r : MemReq) (h : s.mem.wf = true) : (s.granule r).mem.wf = true := by
  unfold State.granule
  have hb : ∀ (x : State) (id n : Nat), (x.bump id n).mem = x.mem := by
    intro x id n
    unfold State.bump State.updWide
    dsimp only
    (repeat' split) <;> rfl
  have hq : (State.bump (s.modPort r.port (fun p => { p with next := some (r.laddr + 64), done := p.done + 1, warned := false }))
      (Id.MEM_BW + r.port) 64).mem.wf = true := by rw [hb]; exact h
  dsimp only
  split
  · exact State.memPut_wf _ _ _ hq _
  · exact hq

theorem reset_memory_wf : State.reset.mem.wf = true := by decide

end Sys2Proof.Machine
end

