-- ==== Sys2Proof/Laws/Frames.lean ====
section
/-! SUPPORT. Frames compose; what a shared operation may touch, as a frame; completion from exec's answer. -/

namespace Sys2Proof.Machine

theorem Completes.of_next {c : Instr} {s u : State} {P : State → Prop} (h : exec c s = .next u) (hp : P u) :
    Completes c s P := ⟨u, h, hp⟩

theorem Unchanged.refl (but : List Part) (s : State) : Unchanged but s s := by
  intro p _
  cases p <;> rfl

theorem Unchanged.trans {but : List Part} {a b c : State} (h : Unchanged but a b) (k : Unchanged but b c) :
    Unchanged but a c := by
  intro p hp
  have x := h p hp
  have y := k p hp
  cases p <;> exact y.trans x

theorem Unchanged.mono {but more : List Part} {a b : State} (h : Unchanged but a b) (k : but ⊆ more) :
    Unchanged more a b := fun p hp => h p (fun hb => hp (k hb))

/-- Recording an event or counting changes only these parts. -/
theorem Quiet.unchanged {s u : State} (h : Quiet s u) : Unchanged [.log, .stat, .wide, .deferred, .recent, .hif, .mem, .cap] s u := by
  intro p hp
  unfold Quiet at h
  cases p <;> first | exact absurd (by decide) hp | (rw [h]; rfl)

theorem State.at_unchanged (s : State) (t : Nat) : Unchanged recording s (s.at t) := by
  intro p hp
  have h := State.at_quiet s t
  unfold Quiet at h
  cases p <;> first | exact absurd (by decide) hp | (rw [h]; rfl)

/-- Nothing waits to be logged: time changes the tick alone. -/
theorem State.at_idle (s : State) (t : Nat) (h : s.log.pend = []) : s.at t = { s with now := max s.now t } := by
  unfold State.at State.settleLog
  simp [h]

theorem State.at_reg (s : State) (t off : Nat) : (s.at t).reg off = s.reg off := by
  unfold State.reg
  rw [State.at_regs]

end Sys2Proof.Machine
end

