-- ==== Sys2Proof/Laws/Fabric.lean ====
section
/-! SUPPORT. The register fabric: which registers exist, what a register write comes to, one register after a write. -/

namespace Sys2Proof.Machine

/-- No register lies in the program banks. -/
theorem bank_unmapped {off : Nat} (h : 0x208000 ≤ off ∧ off < 0x248000) : rowAt off = none := by
  have hd : off / 0x100000 = 2 := by omega
  unfold rowAt rowsAt
  simp only [hd]
  unfold whlRows row
  simp only [List.find?_eq_none, List.mem_cons, List.not_mem_nil, or_false]
  intro r hr
  rcases hr with rfl | rfl | rfl | rfl | rfl | rfl | rfl <;>
    (simp only [Row.has]; split <;> simp; omega)

theorem mapped_not_bank {off : Nat} {r : Row} (h : rowAt off = some r) : ¬(0x208000 ≤ off ∧ off < 0x248000) := by
  intro hb
  rw [bank_unmapped hb] at h
  cases h

@[simp] theorem State.at_reaches (s : State) (t off : Nat) : (s.at t).reaches off = s.reaches off := by
  unfold State.reaches State.gated
  simp

@[simp] theorem State.at_gated (s : State) (t : Nat) : (s.at t).gated = s.gated := by
  unfold State.gated
  simp

@[simp] theorem State.at_committed (s : State) (t off : Nat) : (s.at t).committed off = s.committed off := by
  unfold State.committed
  simp

@[simp] theorem State.at_guardLocks (s : State) (t off : Nat) (r : Row) : (s.at t).guardLocks off r = s.guardLocks off r := by
  unfold State.guardLocks
  simp

/-- A full-word write of a register in reach that the path may write acts by the register's type. -/
theorem State.regWrite_mapped {s : State} {p : Path} {off : Nat} {r : Row} (val : Word) (ha : off % 4 = 0)
    (hr : s.reaches off = true) (hm : rowAt off = some r) (hp : r.path.ok p = true) (hg : s.guardLocks off r = false) :
    s.regWrite p off 4 val = s.typeWrite p off r val := by
  unfold State.regWrite
  dsimp only
  rw [if_neg (by simp [hr]), if_neg (by omega), if_neg (mapped_not_bank hm), hm]
  simp [hp, hg]

/-- The sweep's copies aside, a register write touches that register only. -/
theorem State.sweepKeep_regs (s : State) (off : Nat) : (s.sweepKeep off).regs = s.regs := by
  unfold State.sweepKeep
  split
  · rfl
  · split <;> rfl

theorem State.setReg_reg (s : State) (off o : Nat) (v : BitVec 16) :
    (s.setReg off v).reg o = if o = off then v else s.reg o := by
  unfold State.setReg State.reg
  dsimp only
  rw [State.sweepKeep_regs]
  by_cases h : o = off
  · subst h; simp
  · rw [fget_fset_ne _ _ _ _ h, if_neg h]

end Sys2Proof.Machine
end

