-- ==== Sys2Proof/Laws/Wheel.lean ====
section
/-! SUPPORT. The Wheel: issue, completion, register writes, faults, as later proofs cite them. -/

namespace Sys2Proof.Machine

theorem State.at_max (s : State) (x : Nat) : s.at (max s.now x) = s.at x := by
  unfold State.at
  rw [show max s.now (max s.now x) = max s.now x by omega]

@[simp] theorem State.at_canIssue (s : State) (t : Nat) : (s.at t).canIssue = s.canIssue := by
  unfold State.canIssue
  simp

@[simp] theorem State.at_fetchOp (s : State) (t : Nat) : (s.at t).fetchOp = s.fetchOp := by
  unfold State.fetchOp State.instrAt
  simp

@[simp] theorem State.at_wreg (s : State) (t i : Nat) : (s.at t).wreg i = s.wreg i := by
  unfold State.wreg
  simp

@[simp] theorem State.at_src (s : State) (t : Nat) (b : Src) : (s.at t).src b = s.src b := by
  cases b <;> simp [State.src]

@[simp] theorem State.at_nextPc (s : State) (t : Nat) : (s.at t).nextPc = s.nextPc := by
  unfold State.nextPc
  simp

@[simp] theorem State.at_wheelRuns (s : State) (t : Nat) : (s.at t).wheelRuns = s.wheelRuns := by
  unfold State.wheelRuns
  simp

/-- The command of the instruction that is next to issue runs it at its issue tick. -/
theorem State.issue_eq {s : State} {op : Wop} (t : Nat) (f : State → Wop → State) (h : s.issues op) :
    s.issue t f = f (s.at (s.issueTick t)) op := by
  unfold State.issue State.issueAt State.issueTick
  rw [State.at_max]
  simp [h.1, h.2]

/-- Completion without a taken branch, where the program goes on. -/
theorem State.retire_eq {s : State} (cycles : Nat) (h : s.nextPc < 16384) :
    s.retire cycles = s.modWhl (fun w => { w with
      pc := s.nextPc, loops := (loopEnd s.whl.pc s.whl.loops).2, readyAt := s.now + 2 * cycles }) := by
  unfold State.nextPc at h ⊢
  unfold State.retire State.goto
  dsimp only
  rw [if_pos h]

@[simp] theorem State.setW_wreg (s : State) (i j : Nat) (v : Word) :
    (s.setW i v).wreg j = if j = i then v else s.wreg j := by
  simp [State.setW, State.wreg, fget_fset]

@[simp] theorem State.modWhl_nextPc (s : State) (f : Wheel → Wheel) :
    (s.modWhl f).nextPc = (loopEnd (f s.whl).pc (f s.whl).loops).1 := rfl

@[simp] theorem State.setW_nextPc (s : State) (i : Nat) (v : Word) : (s.setW i v).nextPc = s.nextPc := rfl

theorem State.modWhl_unchanged (s : State) (f : Wheel → Wheel) : Unchanged [.whl] s (s.modWhl f) := by
  intro p hp
  cases p <;> first | rfl | simp at hp

theorem State.setW_unchanged (s : State) (i : Nat) (v : Word) : Unchanged [.whl] s (s.setW i v) :=
  State.modWhl_unchanged s _

theorem State.haltWheel_faulted (s : State) : (s.haltWheel true).whl.state = .faulted := by
  simp [State.haltWheel]

end Sys2Proof.Machine
end

