-- ==== Sys2Proof/WellFormed.lean ====
section
/-! DEFINITION. Which commands are well formed: operands that the spec bounds lie inside their bounds. -/

namespace Sys2Proof

/-- A BAR0 offset (R413: 64 MiB). -/
def offOk (off : Nat) : Bool := decide (off < 0x4000000)

/-- An access size in bytes. -/
def sizeOk (size : Nat) : Bool := decide (size = 1) || decide (size = 2) || decide (size = 4)

/-- A 10-bit sample of the pulse monitor (R173). -/
def sampleOk (n : Nat) : Bool := decide (n < 1024)

/-- A Coil address 1 to 16, or the 0 of a unit without one (R4, R392). -/
def addrOk (a : Nat) : Bool := decide (a ≤ 16)

/-- One memory request: a requester port (R327), a granule of the 128 GiB logical space (R320). -/
def memReqOk (r : MemReq) : Bool :=
  decide (r.port < 10) && decide (r.laddr < 137438953472) && decide (r.laddr % 64 = 0)

/-- A descriptor's length is whole granules (R424). -/
def ceDescOk (d : CeDesc) : Bool := decide (d.len % 64 = 0) && decide (d.statusPos < 67108864)

/-- What a BOOT stage reported: reasons 0 to 7 (R469), pages of the data space (R320). -/
def bootResultOk : BootResult → Bool
  | .pass => true
  | .failed => true
  | .verified a b => decide (a < 8) && decide (b < 8)
  | .tested pages => pages.all (fun p => decide (p < 61440))

/-- Well-formedness of a command. -/
def wellFormed : Instr → Bool
  | .registerWrite _ _ off size _ => offOk off && sizeOk size
  | .statusClear _ _ off _ => offOk off
  | .lockWrite _ _ off _ => offOk off
  | .fifoHwmRead _ _ off size => offOk off && sizeOk size
  | .programBankWrite _ _ off size _ => offOk off && sizeOk size
  | .coneWrite _ _ off _ => offOk off
  | .ringActivate _ _ off _ => offOk off
  | .ringRdWrite _ _ off _ => offOk off
  | .heldEventsRecorded _ off => offOk off
  | .bandSweepDone _ _ bands => decide (bands.length = 32)
  | .bootStageComplete _ r => bootResultOk r
  | .monitorObservation _ samples => decide (samples.length = 64) && samples.all sampleOk
  | .monitorTriggerSample _ a b fine => sampleOk a && sampleOk b && decide (fine < 1024)
  | .waveCaptureDeadline _ _ lanes => decide (lanes ≤ 64)
  | .memGranule _ _ reqs => reqs.all memReqOk
  | .loopUpdate _ measured => decide (measured < 65536)
  | .sfeCalDone _ coeffs => decide (coeffs.length = 8)
  | .token _ _ _ list _ _ => list.all addrOk
  | .tokenEnd _ _ _ list => list.all addrOk
  | .topo _ _ list => decide (list.length ≤ 24) && list.all addrOk
  | .resp _ _ status _ => decide (status < 4)
  | .ceDescriptor _ d => ceDescOk d
  | .ceResume _ _ d => ceDescOk d
  | .bar2Access _ addr _ _ => decide (addr < 137438953472)
  | .pcieLinkUp _ speed width => decide (speed ≤ 5) && decide (width ≤ 4)
  | _ => true

end Sys2Proof
end

