-- ==== Sys2Proof/Tests/Slice0.lean ====
section
/-! SUPPORT. The model's own tests: ill-formed commands are refused, Wheel words read as written, one small step per family,
and for every obligation with hypotheses states and operands that meet them, clause by clause. -/

open Sys2Proof Sys2Proof.Machine

namespace Sys2Proof.Tests

/-! ## Helpers -/

/-- The reset state in another mode. -/
def inMode (m : Mode) (s : State := State.reset) : State := { s with mode := { s.mode with active := m } }

/-- A state on the VCO. -/
def onVco (s : State := State.reset) : State := { s with clk := { s.clk with state := .locked, serdesRef := true } }

/-- A running Wheel with `op` as its next instruction. -/
def run (op : Wop) (s : State := onVco (inMode .scan)) : State :=
  { s with whl := { s.whl with state := .running, mem := [(0, BitVec.ofNat 32 (encodeWop op)), (1, BitVec.ofNat 32 (encodeWop op / 2 ^ 32))] } }

/-- Change the Wheel. -/
def whl (f : Wheel → Wheel) (s : State) : State := { s with whl := f s.whl }

/-- A state with register `off` at `v`. -/
def setr (off : Nat) (v : BitVec 16) (s : State := State.reset) : State := s.setReg off v

/-- The next state of a command, or the state before it. -/
def after (c : Instr) (s : State) : State :=
  match exec c s with
  | .next u => u
  | .fault _ => s
  | .refused _ => s

/-! ## Ill-formed commands -/

theorem test_wf_registerWrite_off : wellFormed (.registerWrite 0 .host 0x4000000 4 0) = false := by decide
theorem test_wf_registerWrite_size : wellFormed (.registerWrite 0 .host 0 3 0) = false := by decide
theorem test_wf_registerWrite_ok : wellFormed (.registerWrite 0 .host 0x3FFFFFC 4 0) = true := by decide
theorem test_wf_statusClear : wellFormed (.statusClear 0 .host 0x4000000 0) = false := by decide
theorem test_wf_lockWrite : wellFormed (.lockWrite 0 .host 0x4000000 0) = false := by decide
theorem test_wf_fifoHwmRead : wellFormed (.fifoHwmRead 0 .host 0x4000000 4) = false := by decide
theorem test_wf_fifoHwmRead_size : wellFormed (.fifoHwmRead 0 .host 0 8) = false := by decide
theorem test_wf_programBankWrite : wellFormed (.programBankWrite 0 .host 0x4000000 4 0) = false := by decide
theorem test_wf_programBankWrite_size : wellFormed (.programBankWrite 0 .host 0 0 0) = false := by decide
theorem test_wf_coneWrite : wellFormed (.coneWrite 0 .host 0x4000000 0) = false := by decide
theorem test_wf_ringActivate : wellFormed (.ringActivate 0 .host 0x4000000 0) = false := by decide
theorem test_wf_ringRdWrite : wellFormed (.ringRdWrite 0 .host 0x4000000 0) = false := by decide
theorem test_wf_heldEventsRecorded : wellFormed (.heldEventsRecorded 0 0x4000000) = false := by decide
theorem test_wf_bandSweepDone : wellFormed (.bandSweepDone 0 true [0]) = false := by decide
theorem test_wf_bootStage_reason : wellFormed (.bootStageComplete 0 (.verified 8 0)) = false := by decide
theorem test_wf_bootStage_reason2 : wellFormed (.bootStageComplete 0 (.verified 0 8)) = false := by decide
theorem test_wf_bootStage_page : wellFormed (.bootStageComplete 0 (.tested [61440])) = false := by decide
theorem test_wf_monitorObservation_length : wellFormed (.monitorObservation 0 [0]) = false := by decide
theorem test_wf_monitorObservation_sample : wellFormed (.monitorObservation 0 (List.replicate 64 1024)) = false := by decide
theorem test_wf_monitorObservation_ok : wellFormed (.monitorObservation 0 (List.replicate 64 1023)) = true := by decide
theorem test_wf_monitorTriggerSample_a : wellFormed (.monitorTriggerSample 0 1024 0 0) = false := by decide
theorem test_wf_monitorTriggerSample_b : wellFormed (.monitorTriggerSample 0 0 1024 0) = false := by decide
theorem test_wf_monitorTriggerSample_fine : wellFormed (.monitorTriggerSample 0 0 0 1024) = false := by decide
theorem test_wf_waveCaptureDeadline : wellFormed (.waveCaptureDeadline 0 0 65) = false := by decide
theorem test_wf_memGranule_port : ∀ r : MemReq, r.port = 10 → wellFormed (.memGranule 0 0 [r]) = false := by
  intro r h; simp [wellFormed, memReqOk, h]
theorem test_wf_memGranule_granule : ∀ r : MemReq, r.laddr = 65 → wellFormed (.memGranule 0 0 [r]) = false := by
  intro r h; simp [wellFormed, memReqOk, h]
theorem test_wf_memGranule_space : ∀ r : MemReq, r.laddr = 137438953472 → wellFormed (.memGranule 0 0 [r]) = false := by
  intro r h; simp [wellFormed, memReqOk, h]
theorem test_wf_loopUpdate : wellFormed (.loopUpdate 0 65536) = false := by decide
theorem test_wf_sfeCalDone : wellFormed (.sfeCalDone 0 []) = false := by decide
theorem test_wf_token : wellFormed (.token 0 0 0 [17] false 0) = false := by decide
theorem test_wf_token_zero : wellFormed (.token 0 0 0 [1, 0, 16] false 0) = true := by decide
theorem test_wf_tokenEnd : wellFormed (.tokenEnd 0 0 0 [17]) = false := by decide
theorem test_wf_topo : wellFormed (.topo 0 false (List.replicate 25 1)) = false := by decide
theorem test_wf_topo_addr : wellFormed (.topo 0 false [17]) = false := by decide
theorem test_wf_resp : wellFormed (.resp 0 0 4 0) = false := by decide
theorem test_wf_ceDescriptor_len : ∀ d : CeDesc, d.len = 65 → wellFormed (.ceDescriptor 0 d) = false := by
  intro d h; simp [wellFormed, ceDescOk, h]
theorem test_wf_ceDescriptor_pos : ∀ d : CeDesc, d.statusPos = 67108864 → wellFormed (.ceDescriptor 0 d) = false := by
  intro d h; simp [wellFormed, ceDescOk, h]
theorem test_wf_ceResume : ∀ d : CeDesc, d.len = 65 → wellFormed (.ceResume 0 .host d) = false := by
  intro d h; simp [wellFormed, ceDescOk, h]
theorem test_wf_bar2Access : wellFormed (.bar2Access 0 137438953472 none .clean) = false := by decide
theorem test_wf_pcieLinkUp_speed : wellFormed (.pcieLinkUp 0 6 4) = false := by decide
theorem test_wf_pcieLinkUp_width : wellFormed (.pcieLinkUp 0 5 5) = false := by decide

/-! ## Hypotheses met: the register fabric -/

theorem wit_OnlyAccessesOutsideTheBarsStop : (0x4000000 : Nat) ≤ 0x4000000 ∧ (2 : Nat) ^ 37 ≤ 2 ^ 37 ∧
    (∀ t p o z v, Instr.linkEvent 0 = .registerWrite t p o z v → o < 0x4000000) := by
  exact ⟨by decide, by decide, by intro t p o z v h; cases h⟩

theorem wit_MaskedWrite : ∃ r, Reg.GLB_TIM_CTL < 0x4000000 ∧ Reg.GLB_TIM_CTL % 4 = 0 ∧ State.reset.reaches Reg.GLB_TIM_CTL = true ∧
    rowAt Reg.GLB_TIM_CTL = some r ∧ r.typ = .c ∧ r.path.ok .host = true ∧ State.reset.guardLocks Reg.GLB_TIM_CTL r = false ∧
    Reg.GLB_TIM_CTL ≠ Reg.GLB_MBX_SEL ∧ Reg.GLB_TIM_CTL ≠ Reg.GLB_MODE_TARGET ∧ Reg.GLB_TIM_CTL / 0x100000 ≠ 15 ∧
    isRingReg Reg.GLB_TIM_CTL 0 = false ∧ isRingReg Reg.GLB_TIM_CTL 8 = false ∧
    State.reset.lastWrites.find? (fun w => decide (w.off = Reg.GLB_TIM_CTL) && (State.reset.at 5).sameCycle w.at_ (State.reset.at 5).now)
      = none ∧ bitsOf (0x0000FFFF : Word).toNat 31 16 = 0 ∧ State.reset.pins.inReset = false ∧
    pathCode .greenware < pathCode .host := ⟨_, by decide, by decide, by decide, rfl, by decide⟩

theorem wit_DiscardedAccesses : State.reset.reaches 0x0 = true ∧ (1 : Nat) < 4 ∧ rowAt 0x3FFFFFC = none ∧
    State.reset.reaches 0x3FFFFFC = true ∧
    (∃ r, rowAt Reg.MEM_RGN_SIZE = some r ∧ r.path.ok .host = false ∧ ¬(0x208000 ≤ Reg.MEM_RGN_SIZE ∧ Reg.MEM_RGN_SIZE < 0x248000)) ∧
    ∃ r, rowAt Reg.THM_TEMP = some r ∧ r.typ = .v ∧ r.path.ok .host = true ∧ State.reset.guardLocks Reg.THM_TEMP r = false ∧
      State.reset.reaches Reg.THM_TEMP = true ∧ Reg.THM_TEMP % 4 = 0 :=
  ⟨by decide, by decide, rfl, by decide, ⟨_, rfl, by decide⟩, ⟨_, rfl, by decide⟩⟩

theorem wit_StatusClear : ∃ r, rowAt Reg.WHL_STAT = some r ∧ r.typ = .s ∧ r.path.ok .host = true ∧ Reg.WHL_STAT % 4 = 0 ∧
    State.reset.reaches Reg.WHL_STAT = true ∧ State.reset.guardLocks Reg.WHL_STAT r = false ∧
    -- no event yet: the sequence number is 0
    (State.reset.at 9).sreg Reg.WHL_STAT = {} ∧ (0x0000FFFF : Word).extractLsb' 16 16 = (0 : BitVec 16) ∧
    -- an event in this cycle: the check is against the number before it
    (((State.reset.event Reg.WHL_STAT 4 {}).at 0).sreg Reg.WHL_STAT).last = some 0 ∧
    (0x00000010 : Word).extractLsb' 16 16 = (((State.reset.event Reg.WHL_STAT 4 {}).at 0).sreg Reg.WHL_STAT).seq - 1 :=
  ⟨_, rfl, by decide⟩

theorem wit_Events : (0 : Nat) < 8 ∧ ({} : SReg).held = 0 ∧ ({} : SReg).last = none ∧
    ({ last := some 0 } : SReg).last = some 0 ∧ 0 + 16 * 8 ≤ 128 ∧ (0 : Nat) / 8 < 127 / 8 ∧ 127 < 0 + 16 * 8 ∧
    (1 : BitVec 16) ≠ 0 := by decide

theorem wit_LockWrite : ∃ r, rowAt Reg.GLB_TIMMUX = some r ∧ r.typ = .l ∧ r.path.ok .host = true ∧ Reg.GLB_TIMMUX % 4 = 0 ∧
    State.reset.reaches Reg.GLB_TIMMUX = true ∧ State.reset.guardLocks Reg.GLB_TIMMUX r = false ∧
    State.reset.committed Reg.GLB_TIMMUX = false ∧
    (after (.lockWrite 0 .host Reg.GLB_TIMMUX 7) State.reset).committed Reg.GLB_TIMMUX = true ∧
    (after (.lockWrite 0 .host Reg.GLB_TIMMUX 7) State.reset).reaches Reg.GLB_TIMMUX = true := ⟨_, rfl, by decide⟩

theorem wit_Reads : (0x3FFFFFF : Nat) < 0x4000000 ∧ (7 : Nat) < 8 ∧ State.reset.gated = false ∧ rowAt 0x3FFFFFC = none ∧
    State.reset.reaches 0x3FFFFFC = true ∧ 0x3FFFFFC % 4 = 0 := by decide

theorem wit_MailboxRead : let s := State.reset.setMbx .host { sel := 0x1802 }
    s.pins.inReset = false ∧ (idAt (s.mbx .host).sel.toNat).isSome = true ∧
    (((s.at 3).thaw .host).mbxTake (s.mbx .host).sel.toNat).2.isSome = true ∧
    (idAt (State.reset.mbx .host).sel.toNat).isSome = (idAt 0).isSome ∧
    (idAt 0xFFFF).isSome = false ∧ ((s.setMbx .host { valid := true }).mbx .host).valid = true := by decide

theorem wit_Freeze : let s := State.reset.setMbx .host { sel := 0x1802, valid := true, frozen := some (0x1802, 0) }
    (s.mbx .host).frozen = some (0x1802, 0) ∧ (s.mbx .saggar).frozen = none ∧ (s.mbx .greenware).frozen = none ∧
    s.deferred = [] ∧ (0 : Nat) < 1 ∧ 0 < idBits 0x1802 ∧ idBits 0x1802 ≤ 128 ∧ (s.wideRaw 0x1802).toNat < 2 ^ idBits 0x1802 := by
  decide

theorem wit_MailboxWrite : let s (id : BitVec 16) := State.reset.setMbx .host { sel := id }
    (s 0xFFFF).pins.inReset = false ∧ ((s 0xFFFF).mbx .host).frozen = none ∧ (s 0xFFFF).deferred = [] ∧ (s 0xFFFF).recent = [] ∧
    (s 0xFFFF).log.pend = [] ∧ idAt 0xFFFF = none ∧
    (∃ r, idAt Id.SEC_VERIFY_POS = some r ∧ writeErr r.acc Id.SEC_VERIFY_POS .host = 2) ∧
    (∃ r, idAt Id.EMT_EBM_FAST_CAP = some r ∧ writeErr r.acc Id.EMT_EBM_FAST_CAP .host = 4) ∧
    (∃ r, idAt Id.EMT_EBM_FAST_CAP = some r ∧ writeErr r.acc Id.EMT_EBM_FAST_CAP .saggar = 0 ∧
      ({ State.reset with locks := [(Reg.EMT_EBM_LOCK, 1)] } : State).stateErr Id.EMT_EBM_FAST_CAP ≠ 0) ∧
    (∃ r, idAt Id.GLB_TIM_PERIOD = some r ∧ writeErr r.acc Id.GLB_TIM_PERIOD .host = 0 ∧ State.reset.stateErr Id.GLB_TIM_PERIOD = 0 ∧
      Id.GLB_TIM_PERIOD ≠ Id.SEC_UPD_DATA ∧ ¬(Id.WHL_W ≤ Id.GLB_TIM_PERIOD ∧ Id.GLB_TIM_PERIOD < Id.WHL_W + 16) ∧
      ¬(Id.COIL_NODE ≤ Id.GLB_TIM_PERIOD ∧ Id.GLB_TIM_PERIOD < Id.COIL_NODE + 16)) ∧ State.reset.wheelRuns = false :=
  ⟨by decide, by decide, by decide, by decide, by decide, rfl, ⟨_, rfl, by decide⟩, ⟨_, rfl, by decide⟩, ⟨_, rfl, by decide⟩,
    ⟨_, rfl, by decide⟩, by decide⟩

theorem wit_Sweeps : State.reset.gated = false ∧
    (let s : State := { State.reset with crc := { State.reset.crc with sweep := some { start := 0 } } }
     s.crc.sweep = some { start := 0 } ∧ s.isFrozen Id.GLB_CFG_CRC_LAST = false ∧ s.mode.active ≠ .guard) ∧
    (let s : State := inMode .guard { State.reset with crc := { State.reset.crc with
        sweep := some { start := 0 }, compares := true, refValid := true } }
     s.crc.sweep = some { start := 0 } ∧ s.mode.active = .guard ∧ s.crc.compares = true ∧ s.crc.refValid = true) ∧
    State.reset.crc.cmd = none ∧
    (let s : State := { State.reset with crc := { State.reset.crc with cmd := some { start := 0 } } }
     s.crc.cmd = some { start := 0 } ∧ s.isFrozen Id.GLB_CFG_CRC_CUR = false) ∧
    (let s : State := { setr Reg.GLB_TIMMUX 7 with locks := [(Reg.GLB_TIMMUX, 1)], timers := [(0, { run := true, next := some 40 })] }
     (s.timer 0).next = some 40 ∧ s.timCode 0 = 7 ∧ s.gated = false ∧ (s.at (s.hclkDue 40 40)).sameCycle s.whl.evAt
       (s.at (s.hclkDue 40 40)).now = false ∧ s.bit (Reg.GLB_TIM_CTL + 4 * 0) 1 = false) ∧
    (setr Reg.GLB_TIM_CTL 2).bit (Reg.GLB_TIM_CTL + 4 * 0) 1 = true := by decide

theorem wit_WheelWords : (Wop.jmp (.imm 16383)).wf = true ∧ decodeWop 0x0100000000000005 = some (.jmp (.imm 5)) ∧
    (0x0100000000000005 : Nat) < 2 ^ 64 := by decide

/-! ## Hypotheses met: the Wheel -/

/-- `State.issues` as a test. -/
def iss (s : State) (op : Wop) : Bool := s.canIssue && decide (s.fetchOp = some op)

theorem iss_issues (s : State) (op : Wop) (h : iss s op = true) : s.issues op := by
  simpa [iss, State.issues] using h

theorem wit_Arithmetic : iss (run (.alu .cmp 0 15 (.reg 15))) (.alu .cmp 0 15 (.reg 15)) = true ∧
    (run (.alu .cmp 0 15 (.reg 15))).nextPc < 16384 := by decide

theorem wit_LoadsAndMoves : iss (run (.ldi 15 0xFFFFFFFF)) (.ldi 15 0xFFFFFFFF) = true ∧ iss (run (.mov 15 0)) (.mov 15 0) = true ∧
    (run (.mov 15 0)).nextPc < 16384 := by decide

theorem wit_Branches : iss (run (.br 0 16383)) (.br 0 16383) = true ∧ iss (run (.br 8 3)) (.br 8 3) = true ∧
    (run (.br 8 3)).whl.c = false ∧ (run (.br 8 3)).whl.z = false ∧ (run (.br 8 3)).nextPc < 16384 ∧
    iss (run (.jmp (.imm 16383))) (.jmp (.imm 16383)) = true ∧ ((run (.jmp (.imm 16383))).src (.imm 16383)).toNat < 16384 ∧
    (let s := whl (fun w => { w with regs := [(1, 16384)] }) (run (.jmp (.reg 1)))
     iss s (.jmp (.reg 1)) = true ∧ 16384 ≤ (s.src (.reg 1)).toNat) := by decide

theorem wit_Calls : let s := run (.call (.imm 16383))
    let r := run (.call (.reg 1))
    let l := run (.loop (.reg 2) 16382)
    let ctr : LoopCtr := { left := 2, first := 0, last := 9 }
    iss s (.call (.imm 16383)) = true ∧ (s.src (.imm 16383)).toNat < 16384 ∧
    (whl (fun w => { w with rets := List.replicate 7 0 }) s).whl.rets.length < 8 ∧
    iss (whl (fun w => { w with rets := [16383] }) (run .ret)) .ret = true ∧
    iss (whl (fun w => { w with regs := [(1, 16384)] }) r) (.call (.reg 1)) = true ∧
    16384 ≤ ((whl (fun w => { w with regs := [(1, 16384)] }) r).src (.reg 1)).toNat ∧
    iss (whl (fun w => { w with rets := List.replicate 8 0 }) s) (.call (.imm 16383)) = true ∧
    8 ≤ (whl (fun w => { w with rets := List.replicate 8 0 }) s).whl.rets.length ∧
    iss (run .ret) .ret = true ∧ (run .ret).whl.rets = [] ∧
    iss l (.loop (.reg 2) 16382) = true ∧ l.whl.pc < 16382 ∧ (l.src (.reg 2)).toNat = 0 ∧
    0 < ((whl (fun w => { w with regs := [(2, 1)], loops := [ctr, ctr, ctr] }) l).src (.reg 2)).toNat ∧
    iss (whl (fun w => { w with regs := [(2, 1)], loops := [ctr, ctr, ctr] }) l) (.loop (.reg 2) 16382) = true ∧
    iss (run (.loop (.reg 2) 0)) (.loop (.reg 2) 0) = true ∧ 0 ≤ (run (.loop (.reg 2) 0)).whl.pc ∧
    iss (whl (fun w => { w with regs := [(2, 1)], loops := [ctr, ctr, ctr, ctr] }) l) (.loop (.reg 2) 16382) = true := by decide

theorem wit_Waitev : let op := Wop.waitev 3 5 0x81
    let ev := whl (fun w => { w with hostev := 0x80 })
    let wt := whl (fun w => { w with state := .waiting, wait := some (.hostEv 3 0x81 100) })
    iss (ev (run op)) op = true ∧ (ev (run op)).evPending 0x81 = true ∧ (ev (run op)).nextPc < 16384 ∧
    iss (run (.waitev 3 0 0x81)) (.waitev 3 0 0x81) = true ∧ (run (.waitev 3 0 0x81)).evPending 0x81 = false ∧
    iss (run op) op = true ∧ (run op).evPending 0x81 = false ∧
    (wt (ev (run op))).whl.wait = some (.hostEv 3 0x81 100) ∧ (wt (ev (run op))).evPending 0x81 = true ∧
    max (wt (ev (run op))).now 100 ≤ 100 ∧ (wt (run op)).nextPc < 16384 := by decide

theorem wit_Sync : let op := Wop.sync 3 1 15 0 7
    let cb := fun s => s.setReg Reg.COIL_CTL 8
    let wt := whl (fun w => { w with state := .waiting, wait := some (.sync 3 0 15 7 100) })
    iss (run op) op = true ∧ (run op).bit Reg.COIL_CTL 3 = false ∧ (run op).nextPc < 16384 ∧
    iss (run (.sync 3 2 0 0 7)) (.sync 3 2 0 0 7) = true ∧
    ((run (.sync 3 2 0 0 7)).at ((run (.sync 3 2 0 0 7)).issueTick 0)).syncNow 2 0 = none ∧
    (cb (run op)).bit Reg.COIL_CTL 3 = true ∧ iss (cb (run op)) op = true ∧
    iss (run (.sync 3 2 9 0 7)) (.sync 3 2 9 0 7) = true ∧
    ((run (.sync 3 2 9 0 7)).at ((run (.sync 3 2 9 0 7)).issueTick 0)).syncNow 2 0 = none ∧
    (wt (run op)).whl.wait = some (.sync 3 0 15 7 100) ∧ max (wt (run op)).now 100 ≤ 100 ∧ (wt (run op)).nextPc < 16384 := by
  decide

theorem wit_Shots : let op := Wop.shot (.imm 1) 0 0 0
    let e (sl : Option Nat) : QEntry := { act := .mark 0 0 0, slot := sl, pc := 0 }
    let s := run op
    let n (k : Nat) := whl (fun w => { w with issShots := k }) s
    iss (n 7) op = true ∧ ((n 7).at ((n 7).issueTick 0)).queueUsed.length < 64 ∧
    ((n 7).at ((n 7).issueTick 0)).inReach ((n 7).at ((n 7).issueTick 0)).shotSlot = true ∧ (n 7).nextPc < 16384 ∧
    0 < (n 7).whl.period ∧ iss (n 8) op = true ∧
    (let f := whl (fun w => { w with prevClose := 10 ^ 9 }) s
     iss f op = true ∧ (f.at (f.issueTick 0)).inReach (f.at (f.issueTick 0)).shotSlot = false) ∧
    (let f := whl (fun w => { w with queue := List.replicate 64 (e none) }) s
     iss f op = true ∧ 64 ≤ (f.at (f.issueTick 0)).queueUsed.length ∧ ∀ x ∈ (f.at (f.issueTick 0)).queueUsed, x.slot = none) ∧
    (let f := whl (fun w => { w with queue := List.replicate 64 (e (some 99999)) }) s
     iss f op = true ∧ 64 ≤ (f.at (f.issueTick 0)).queueUsed.length ∧ ∃ x ∈ (f.at (f.issueTick 0)).queueUsed, x.slot ≠ none) := by
  decide

/-- An instruction issues with a place in the queue. -/
def room (s : State) (op : Wop) : Bool :=
  iss s op && decide (s.nextPc < 16384) && decide ((s.at (s.issueTick 0)).queueUsed.length < 64)

theorem wit_Actions :
    let past := whl (fun w => { w with afterPix := false, lastSlot := some 0 })
    let g := Wop.gate 5 0xFFFF 0x2000 0x100
    let z := Wop.zoom 0 1 5 0xFFFF 8191
    let p (k : Nat) := Wop.setp (.imm 7) true (.imm 0) k
    room (run g) g = true ∧ (run g).attachSlot = none ∧ room (past (run g)) g = true ∧
    (past (run g)).attachSlot = some 0 ∧ (past (run g)).slotStarted 0 = true ∧
    bitOf ((whl (fun w => { w with regs := [(5, 1)] }) (past (run g))).wreg 5).toNat (0 / 16) = true ∧
    bitOf (BitVec.ofNat 16 0xFFFF).toNat (0 % 16) = true ∧
    room (run (.step 1 (.reg 2) 0)) (.step 1 (.reg 2) 0) = true ∧ room (run (.mark 1 5 9999)) (.mark 1 5 9999) = true ∧
    room (run z) z = true ∧ (run z).whl.afterPix = true ∧
    room (past (run z)) z = true ∧ (past (run z)).whl.afterPix = false ∧ (past (run z)).zoomSlot = none ∧
    room (past (run (p 0x401))) (p 0x401) = true ∧ (setpParam 0x401).isSome = true ∧ room (run (p 0x401)) (p 0x401) = true ∧
    setpParam 0xFFF = none ∧ room (run (p 0xFFF)) (p 0xFFF) = true ∧
    room (run (.pix true (.imm 8191) (.imm 1023))) (.pix true (.imm 8191) (.imm 1023)) = true := by decide

theorem wit_Budget : let op := Wop.budget 7 (.imm 31) 2 1
    let r := Wop.budget 7 (.reg 1) 2 1
    iss (run op) op = true ∧ ((run op).src (.imm 31)).toNat ≤ 31 ∧ (run op).nextPc < 16384 ∧
    iss (whl (fun w => { w with regs := [(1, 32)] }) (run r)) r = true ∧
    31 < ((whl (fun w => { w with regs := [(1, 32)] }) (run r)).src (.reg 1)).toNat := by decide

theorem wit_Halt : let s := run .halt
    iss s .halt = true ∧ s.whl.issShots = 0 ∧ s.whl.anyPix = false ∧
    (let f := whl (fun w => { w with anyPix := true, prevClose := 1 }) s
     iss f .halt = true ∧ f.whl.issShots = 0 ∧ f.whl.anyPix = true ∧ f.issueTick 0 < f.whl.prevClose) ∧
    (let f := whl (fun w => { w with issShots := 1 }) s
     iss f .halt = true ∧ f.whl.issShots ≠ 0) := by decide

theorem wit_WheelCommands : let s := onVco (inMode .scan)
    s.gated = false ∧ s.mode.active.scanning = true ∧ s.wheelRuns = false ∧ s.whl.armed = false ∧ (s.at 0).armSeen = false ∧
    (s.at 0).startWaits = false ∧ State.reset.gated = false ∧ State.reset.mode.active.scanning = false ∧
    (run .halt).gated = false ∧ (run .halt).wheelRuns = true ∧ s.mode.active ≠ .guard ∧
    (inMode .guard).gated = false ∧ (inMode .guard).mode.active = .guard ∧
    (s.at 100).sameCycle s.whl.evAt (s.at 100).now = false ∧
    (setr (Reg.GLB_PINMUX + 12) 0x7000).mfpCode (15 + 0) = 7 ∧ (65535 : Nat) < 65536 ∧ 65535 / 32768 ≠ s.whl.bank ∧
    32767 / 32768 = s.whl.bank ∧ (whl (fun w => { w with state := .running }) s).canIssue = true ∧
    (whl (fun w => { w with state := .running }) s).fetchOp = none := by decide

/-! ## Hypotheses met: clocks and modes -/

/-- Change the clock block. -/
def clk (f : Clock → Clock) (s : State := State.reset) : State := { s with clk := f s.clk }

/-- Change the mode block. -/
def md (f : Modes → Modes) (s : State := State.reset) : State := { s with mode := f s.mode }

/-- A REFIN selection and path that R51 allows. -/
def refOk (v : BitVec 16) : Bool := (pfdTicks ((setr Reg.CLK_REF_CTL v).fld Reg.CLK_REF_CTL 1 0) ((setr Reg.CLK_REF_CTL v).fld
  Reg.CLK_REF_CTL 3 2)).isSome

/-- Below Cone 3. -/
def cool (s : State) : State := { s with thm := { s.thm with cone3Live := false } }

theorem wit_Locks :
    let q := clk (fun c => { c with state := .qualify })
    let sw := clk (fun c => { c with sweeping := true })
    State.reset.gated = false ∧ State.reset.clk.state = .bclk ∧ State.reset.clk.sweeping = false ∧
    ((List.range 16).any (fun v => refOk (BitVec.ofNat 16 v)) = true ∧ (List.range 16).any (fun v => !refOk (BitVec.ofNat 16 v)) = true) ∧
    ¬((onVco).clk.state = .bclk ∨ (onVco).clk.state = .powerDown) ∧ q.locking = true ∧ 0 ≤ q.clk.seqAt + usT 2060 ∧
    (q.at (max 0 (q.clk.seqAt + usT 97))).bandPick = none ∧
    (let b := { q with wide := [(Id.CLK_VCO_BAND + 31, BitVec.ofNat 128 (6400 * 65536))] }
     b.locking = true ∧ (b.at (max 0 (b.clk.seqAt + usT 97))).bandPick = some 31) ∧
    sw.clk.sweeping = true ∧ (∀ k, k < 32 → sw.isFrozen (Id.CLK_VCO_BAND + k) = false) ∧
    onVco.gated = false ∧ Machine.State.onVco (onVco) = true ∧ (onVco).isFrozen Id.CLK_PHASE = false ∧ (0 : Nat) < 1 := by decide

theorem wit_Holdover :
    let l := onVco (setr Reg.CLK_HOLD_CTL 100)
    let h := clk (fun c => { c with state := .holdover }) (setr Reg.CLK_HOLD_CTL 100)
    let r := clk (fun c => { c with requalAt := some 0 }) h
    l.clk.state = .locked ∧ l.pins.inReset = false ∧ h.clk.state = .holdover ∧ h.pins.inReset = false ∧
    r.clk.requalAt = some 0 ∧ r.clk.state = .holdover ∧
    (clk (fun c => { c with state := .slewing })).clk.state = .slewing ∧
    (clk (fun c => { c with state := .realign, realignFire := true })).clk.realignFire = true ∧
    (clk (fun c => { c with state := .realign, realignFire := true })).coilTime = false ∧
    State.reset.onVco = false := by decide

theorem wit_HoldoverLimit : ∃ v : BitVec 16, (onVco (setr Reg.CLK_HOLD_CTL v)).holdMax ≠ 0 ∧
    (let h := clk (fun c => { c with state := .holdover, requalAt := some 0 }) (setr Reg.CLK_HOLD_CTL v)
     max 0 (0 + msT 1) / h.pfd < (h.clk.holdAt + h.holdMax) / h.pfd) := ⟨0xFFFF, by decide⟩

theorem wit_ModeTargets : State.reset.pins.inReset = false ∧ bitsOf (0x00070003 : Word).toNat 18 16 = 7 ∧
    State.reset.lastWrites.find? (fun w => decide (w.off = Reg.GLB_MODE_TARGET) && (State.reset.at 0).sameCycle w.at_
      (State.reset.at 0).now) = none ∧ Mode.ofCode (bitsOf (0x00070003 : Word).toNat 2 0) = .ready ∧
    Mode.ofCode (bitsOf (0x00070007 : Word).toNat 2 0) = .safe ∧ Mode.ofCode (bitsOf (0x00070004 : Word).toNat 2 0) = .scan ∧
    (inMode .ready).modeRefusal .scan ≠ 0 ∧
    (let s := { onVco (inMode .ready) with mem := { State.reset.mem with valid := true } }
     s.modeRefusal .scan = 0 ∧ s.mode.active = .ready) ∧
    State.reset.mode.active = .boot ∧ (inMode .standby).mode.active = .standby ∧ (inMode .standby).mode.standbyStep ≠ 5 := by decide

theorem wit_Refusals :
    let v := fun (s : State) => { onVco s with mem := { s.mem with valid := true } }
    let c := fun (s : State) => { v s with crc := { s.crc with refValid := true } }
    (inMode .safe).mode.active = .safe ∧ (inMode .ready).onVco = false ∧ (inMode .ready).mode.active = .ready ∧
    (onVco (inMode .ready)).mem.valid = false ∧ (v (inMode .ready)).crc.refValid = false ∧ (v (inMode .ready)).mem.valid = true ∧
    (c (inMode .ready)).crc.refValid = true ∧ (c (inMode .ready)).fieldValid = false ∧
    ({ c (inMode .ready) with cap := { State.reset.cap with refWritten := true, sweepOk := true, rangesOk := true } } : State).fieldValid
      = true := by decide

theorem wit_Boundaries :
    let e := whl (fun w => { w with state := .running, eofAt := some 5000 })
      (md (fun m => { m with pending := true, active := .scan }) (onVco (setr Reg.GLB_MODE_TARGET 3)))
    let f := whl (fun w => { w with sampled := true }) e
    e.whl.eofAt = some 5000 ∧ e.whl.sampled = false ∧ f.whl.sampled = true ∧ f.whl.queue = [] ∧ f.mode.decided = none ∧
    f.isFrozen Id.WHL_FRAME_COUNT = false ∧ f.wheelRuns = true ∧
    (md (fun m => { m with decided := some .ready })).mode.decided = some .ready ∧ e.modeRefusal .ready = 0 ∧
    (e.at (max 0 (5000 - 1024))).pendBefore = some .ready ∧ e.mode.active ≠ .standby ∧
    ((whl (fun w => { w with armed := true }) e).at 4000).armSeen = true ∧ (e.at 3976).armSeen = false ∧
    (let i := whl (fun w => { w with state := .idle, eofAt := none }) e
     i.wheelRuns = false ∧ i.whl.armed = false ∧ (i.at 4000).pendBefore = some .ready ∧ i.modeRefusal .ready = 0) ∧
    e.pendTarget = some .ready ∧ (e.at (max 0 e.skewDue)).skewLoses = false ∧ emissionRank .ready < emissionRank .scan ∧
    (let i := md (fun m => { m with pending := true, active := .ready }) (onVco (setr Reg.GLB_MODE_TARGET 4))
     i.pendTarget = some .scan ∧ (i.at (max 0 i.skewDue)).skewLoses = false ∧
       emissionRank i.mode.active ≤ emissionRank .scan) := by decide

theorem wit_ResetAndBoot :
    let b := md (fun m => { m with running := true })
    let r : State := { State.reset with pins := { State.reset.pins with inReset := true } }
    r.pins.inReset = true ∧ b.mode.active = .boot ∧ b.mode.running = true ∧ b.mode.stage = 0 ∧
    (md (fun m => { m with running := true, stage := 4 })).mode.stage = 4 ∧
    (onVco (md (fun m => { m with running := true, stage := 3 }))).onVco = true ∧
    (md (fun m => { m with running := true, stage := 7 })).mode.stage = 7 ∧ b.pins.inReset = false ∧
    (let s := md (fun m => { m with active := .safe, failCode := 3 })
     s.mode.active = .safe ∧ 3 ≤ s.mode.failCode ∧ s.mode.failCode ≤ 6 ∧ s.pins.inReset = false) ∧
    State.reset.mode.active ≠ .safe ∧ (6 : Nat) < 7 ∧
    ((cool (inMode .safe)).at 0).safeLive = 0 ∧ ((cool (inMode .safe)).at 0).causeNow = false ∧
    Machine.State.onVco (onVco (cool (inMode .safe))) = true ∧
    (let s := { onVco (cool (md (fun m => { m with active := .safe, bootDone := true }))) with mem := { State.reset.mem with valid := true } }
     s.mode.bootDone = true ∧ s.onVco = true ∧ s.mem.valid = true ∧ s.mem.lost = false ∧ (s.at 0).safeLive = 0) ∧
    (State.reset.at 0).safeLive ≠ 0 := by decide

theorem wit_Standby :
    let s (n : Nat) := md (fun m => { m with active := .standby, standbyStep := n })
    (s 1).mode.active = .standby ∧ (s 1).mode.standbyStep ≠ 0 ∧ (s 1).mode.standbyStep ≠ 5 ∧ (s 1).mode.waking = false ∧
    (let p := clk (fun c => { c with state := .powerDown }) (s 5)
     p.clk.state = .powerDown ∧ p.clk.sweeping = false ∧ p.mode.standbyStep = 5) ∧
    (let e := onVco (md (fun m => { m with waking := true }) (s 0))
     e.mode.waking = true ∧ e.onVco = true ∧ e.mode.standbyStep = 0 ∧ e.mode.active = .standby) := by decide

theorem wit_StandbyRef : ∃ v : BitVec 16, (pfdTicks ((setr Reg.CLK_REF_CTL v (md (fun m => { m with active := .standby }))).fld
    Reg.CLK_REF_CTL 1 0) ((setr Reg.CLK_REF_CTL v (md (fun m => { m with active := .standby }))).fld Reg.CLK_REF_CTL 3 2)).isSome = true :=
  ⟨2, by decide⟩

/-! ## Hypotheses met: timeline, emission, steering, lanes, calibration -/

/-- Change the emission block. -/
def em (f : Emission → Emission) (s : State := State.reset) : State := { s with emt := f s.emt }

/-- Change the steering block. -/
def st (f : Steering → Steering) (s : State := State.reset) : State := { s with str := f s.str }

/-- Change the lanes. -/
def ln (f : Lanes → Lanes) (s : State := State.reset) : State := { s with lan := f s.lan }

/-- Change the calibration. -/
def cl (f : Calib → Calib) (s : State := State.reset) : State := { s with cal := f s.cal }

/-- A shot at slot 1,000. -/
def shot1 : Shot := { slot := 1000, mask := 3, prof := 0, stag := 0, code := 0, pc := 0, idx := 0, pix := 0 }

theorem wit_Timeline :
    let d : Shot := { shot1 with decided := true, granted := 1 }
    let u := whl (fun w => { w with shots := [shot1] }) (run .halt)
    let v := whl (fun w => { w with shots := [d] }) (run .halt)
    let q (a : Action) := whl (fun w => { w with queue := [{ act := a, slot := some 1000, pc := 0 }] }) (run .halt)
    u.whl.shots.find? (fun h => !h.decided) = some shot1 ∧ u.whl.eofAt = none ∧ v.whl.shots = [d] ∧ d.decided = true ∧ v.nextPix = none ∧
    ((q (.step 0 5 3)).nextTimed (QEntry.timed false)).isSome = true ∧ ((q (.mark 1 2 3)).nextTimed (QEntry.timed true)).isSome = true ∧
    (q (.pix 5000 true 1 1 0)).nextPix = some (5000, { act := .pix 5000 true 1 1 0, slot := some 1000, pc := 0 }) ∧
    (∀ k, k < 8 → ((q (.pix 5000 true 1 1 0)).kiln k).queue = [] ∧ ((q (.pix 5000 true 1 1 0)).kiln k).capState ≠ 1) := by decide

theorem wit_Queues :
    let r : BitVec 128 := 1
    let con : Consumer := { unread := [r] }
    let q (c : Nat) : State := { State.reset with pq := State.reset.pq.setCon c con }
    let ring : State := { q 0 with hif := { State.reset.hif with rings := [(0, { active := true, pages := 1 })] } }
    let sr : SReg := { last := some 0, held := 4 }
    ring.pq.host.unread = [r] ∧ (ring.at 0).ringRoom 0 ≠ 0 ∧ (q 1).pq.rec_.unread = [r] ∧ (State.reset.pq.con 2).unread = [] ∧
    (let s : State := { State.reset with stat := [(Reg.WHL_STAT, sr)] }
     fget ({} : SReg) s.stat Reg.WHL_STAT = sr ∧ sr.held ≠ 0 ∧ (s.at (max 0 (0 + 16 * s.pclk))).stat = s.stat) ∧
    ({ State.reset with pix := { State.reset.pix with first := some 9000 } } : State).pix.first = some 9000 ∧
    State.reset.gated = false ∧ (inMode .safe).mode.active = .safe ∧ State.reset.wheelRuns = false ∧
    ((whl (fun w => { w with armed := true }) State.reset).at 4000).armSeen = true ∧ (run .halt).wheelRuns = true := by decide

theorem wit_Proofs :
    let p : Proof := { k := 31, slot := 1000 }
    let g : Proof := { p with decided := true, granted := true }
    let o : Obs := { k := 31, proof := false, at_ := 0, code := 0, width := 20, started := true }
    let c0 : State → State := fun s => { s with thm := { s.thm with c3 := false } }
    let m : State := c0 (onVco (em (fun e => { e with obs := some o, refbufReady := true }) (setr Reg.EMT_MON_CTL 6)))
    (em (fun e => { e with proofs := [p] })).emt.proofs.find? (fun q => decide (q.k = 31) && !q.decided) = some p ∧
    (em (fun e => { e with proofs := [g] })).emt.proofs.find? (fun q => decide (q.k = 31) && q.granted) = some g ∧
    needsProof 3 = true ∧ needsProof 2 = false ∧ State.reset.emt.obs = none ∧
    m.emt.obs = some o ∧ o.started = true ∧ m.monRuns = true ∧ m.emt.refbufReady = true ∧ o.k < 32 ∧
    (let a := setr Reg.CAP_TRIG_EN 4 (setr Reg.EMT_MON_TRIG 0 m)
     a.bit Reg.EMT_MON_CTL 2 = true ∧ a.monRuns = true ∧ a.fld Reg.EMT_MON_TRIG 9 0 < 1023 ∧ a.bit Reg.CAP_TRIG_EN 2 = true) ∧
    State.reset.bit Reg.EMT_MON_CTL 2 = false := by decide

set_option maxRecDepth 8000 in
theorem wit_Driver :
    let s := onVco (em (fun e => { e with dirty := true, tblNext := 31 }))
    (s.emt.tblFrame = true ∨ s.emt.dirty = true) ∧ s.emt.tblNext < 32 ∧ s.onVco = true ∧
    (State.reset.emt.tblFrame = false ∧ State.reset.emt.dirty = false) ∧
    crc8 120 (tableBits 31 (fget 0 s.emt.codeSnap 31)) < 256 ∧ s.emt.tblTried = false ∧ s.gated = false ∧
    (fget (0, 0) s.emt.buckets (bucketKey 31 7 1)).2 ≤ s.emt.refills ∧
    (em (fun e => { e with refbufAt := some 7 })).emt.refbufAt = some 7 := by decide

theorem wit_Steering :
    let e := st (fun x => { x with ax1 := { x.ax1 with enabled := true } })
    let r := st (fun x => { x with ax0 := { x.ax0 with enabled := true, st := 3 }, indexSeen := true, count := 5 })
    (e.ax 1).enabled = true ∧ bitsOf (0xA0000000 : Word).toNat 31 28 = 0b1010 ∧ bitsOf (0 : Word).toNat 31 28 ≠ 0b1010 ∧
    (State.reset.ax 0).enabled = false ∧ State.reset.str.idxAt = none ∧ State.reset.str.idxAt ≠ some 3 ∧ r.str.count < r.cpr ∧
    (r.ax 0).enabled = true ∧ (r.ax 0).st ≠ 0 ∧ r.str.edgeNow ≠ some 9 ∧ r.str.indexSeen = true ∧ (r.ax 0).st ≠ 4 ∧
    r.fld Reg.STR_AX0_TMO 5 4 < ((r.str.count : Int) - (r.cpr - 1)).natAbs ∧
    (let x := st (fun x => { x with count := r.cpr - 1 }) r
     ((x.str.count : Int) - (x.cpr - 1)).natAbs ≤ x.fld Reg.STR_AX0_TMO 5 4) := by decide

theorem wit_Axes :
    let a0 (n : Nat) := st (fun x => { x with ax0 := { x.ax0 with enabled := true, st := n } })
    let a1 (n : Nat) (e : Int) := st (fun x => { x with ax1 := { x.ax1 with enabled := true, st := n, e := e, window := some 9 } })
    ((a0 2).ax 0).st = 2 ∧ ((a0 2).ax 0).entry = false ∧ (State.reset.ax 0).st ≠ 2 ∧ ((a0 3).ax 0).st = 3 ∧ ((a0 3).at 0).noEdge = true ∧
    ((a1 2 0).ax 1).window = some 9 ∧ ((a1 2 0).ax 1).st = 2 ∧ ((a1 2 0).ax 1).e.natAbs ≤ ((a1 2 0).reg Reg.STR_AX1_ERR).toNat ∧
    ((a1 2 65536).reg Reg.STR_AX1_ERR).toNat < ((a1 2 65536).ax 1).e.natAbs ∧
    State.reset.gated = false ∧ State.reset.lastWrites = [] ∧ (State.reset.ax 0).enabled = false ∧
    (inMode .ready).axCfgBad 1 = false ∧ (inMode .ready).axModeOk = true ∧ (onVco (inMode .ready)).axClockLost = false ∧
    (setr Reg.STR_AX0_OFS 0xFFFF).axCfgBad 0 = true ∧
    ((a0 4).ax 0).st = 4 ∧ ((onVco (a0 4)).at 0).axPersists 0 = false ∧
    (st (fun x => { x with tr0 := { x.tr0 with st := 1 } })).str.tr0.st = 1 ∧
    (st (fun x => { x with tr0 := { x.tr0 with st := 2, postLeft := 0 } })).str.tr0.postLeft = 0 ∧ (State.reset.tr 0).st ≠ 2 := by decide

theorem wit_Lanes :
    let on := onVco (ln (fun x => { x with secOn := 0xFF }))
    let sh : Shot := { shot1 with slot := 0, decided := true, granted := 3 }
    let cur := whl (fun w => { w with cur := some sh, state := .running }) (ln (fun x => { x with lane := [(511, { gClose := 512 })] }) on)
    let b := cur.at 5
    fget 0 on.lan.settleAt 7 = 0 ∧ (b.laneOff 511 = false ∧ b.sectorLive 7 = true ∧ b.blanked 31 = false ∧ (b.lane 511).deadTo ≤ 5120) ∧
    ¬((cur.lane 511).rngFrom ≤ b.now ∧ b.now < (cur.lane 511).rngTo) ∧ ¬((cur.lane 511).thrFrom ≤ b.now ∧ b.now < (cur.lane 511).thrTo) ∧
    (b.refillLane 511).hasToken 511 = true ∧ b.inGate 511 = some 5 ∧ (cur.kiln 7).queue = [] ∧ cur.whl.cur = some sh ∧
    (let x := ln (fun x => { x with lane := [(511, { used := 99 })] }) on
     ((x.at 5).refillLane 511).hasToken 511 = false) ∧
    State.reset.laneOff 0 = true ∧ on.laneOff 511 = false ∧ on.sectorLive 7 = true ∧
    (let x := em (fun e => { e with pulses := [{ k := 31, at_ := 3, half := 20 }] }) (setr (secOff Reg.LAN_REF_CTL 7 + 12) 3 cur)
     x.fld (secOff Reg.LAN_REF_CTL (31 / 4) + 4 * (31 % 4)) 1 0 = 3 ∧ x.sectorLive (31 / 4) = true ∧ sh.slot ≤ (x.at 512).now ∧
       (x.at 512).now ≤ sh.slot + 512 ∧ x.fired sh 31 = true) ∧
    (let x := cl (fun c => { c with swapAt := some 5, next := [(511, { trim := 1 })] }) on
     (x.at (max 0 (x.nextBoundary.getD 0 - 128))).thrWillChange 511 = true) ∧
    (on.at 896).thrWillChange 511 = false ∧
    (let x := ln (fun x => { x with lane := [(511, { gainNext := some 1 })] }) on
     (((x.lane 511).gainForced.orElse (fun _ => (x.lane 511).gainNext)).getD (x.lane 511).gain) ≠ (x.lane 511).gain ∧ x.laneOff 511 = false) ∧
    fget 0 (ln (fun x => { x with settleAt := [(7, 9)] })).lan.settleAt 7 ≠ 0 ∧ (run .halt).wheelRuns = true ∧
    on.wheelRuns = false ∧ on.onVco = true ∧ (on.lane 511).floor ≤ (on.lane 511).ceil := by decide

theorem wit_Calibration :
    let on := fun (m : Mode) => onVco (inMode m (ln (fun x => { x with secOn := 0xFF }) (setr Reg.CAL_HITS 255 (setr Reg.CAL_WIN 255))))
    let c (n : Nat) := cl (fun c => { c with st := n, inRun := 0xFF }) (on .ready)
    (setr Reg.CAL_CTL 1 (on .ready)).bit Reg.CAL_CTL 0 = true ∧ (on .ready).cal.st = 0 ∧ (on .ready).calModeOk = true ∧
    ((on .ready).at 0).calDue = true ∧ 0 < (on .ready).fld Reg.CAL_HITS 7 0 ∧ 0 < (on .ready).fld Reg.CAL_WIN 7 0 ∧
    State.reset.bit Reg.CAL_CTL 0 = (State.reset.bit Reg.CAL_CTL 0) ∧ (on .ready).gated = false ∧ (on .ready).mode.active = .ready ∧
    0 < (setr Reg.CAL_RUN_MASK 255).fld Reg.CAL_RUN_MASK 7 0 ∧ State.reset.mode.active ≠ .ready ∧ State.reset.mode.active ≠ .service ∧
    2 ≤ (c 2).cal.st ∧ (c 1).cal.st = 1 ∧ (c 0).cal.st ≠ 1 ∧ (c 1).calIn 511 = true ∧ ((c 1).calRun 511).done = false ∧
    (c 1).laneOff 511 = false ∧ ((c 1).calRun 511).n < (c 1).calHitLimit ∧ State.reset.laneOff 511 = true ∧ (c 3).cal.st = 3 := by decide

set_option maxRecDepth 8000 in
theorem wit_CalibrationLanes : let s := onVco (ln (fun x => { x with secOn := 0xFF }))
    ∀ l, l < 512 → s.laneOff l = false := by decide

/-! ## Hypotheses met: Kilns, Shelf, Glaze, memory -/

/-- Change the Kiln of sector 7. -/
def kl (f : Kiln → Kiln) (s : State := State.reset) : State := s.modKiln 7 f

/-- Change the Glaze pipeline of sector 7. -/
def gz (f : Glaze → Glaze) (s : State := State.reset) : State := s.modGlaze 7 f

/-- Change the memory block. -/
def me (f : Mem → Mem) (s : State := State.reset) : State := { s with mem := f s.mem }

/-- An event of lane 63 and a hand-off. -/
def ev1 : KEvent := { j := 63, slot := 1000, c := 5, f := 1023 }

theorem wit_Kilns :
    let q := kl (fun x => { x with queue := [ev1] })
    let o : State := { q with pix := { q.pix with first := some 1000 } }
    let hd : Hand := { pix := {}, j := 63, start := 7 }
    let c (n : Nat) := kl (fun x => { x with capState := n, clearAt := some 9 })
    (State.reset.kiln 7).queue = [] ∧ (o.kiln 7).queue = [ev1] ∧ o.pix.first = some 1000 ∧ (1000 : Nat) ≤ ev1.slot ∧
    (∀ a, q.pix.first = some a → ev1.slot < a) ∧ (whl (fun w => { w with shots := [shot1] }) State.reset).openingSlot = some 1000 ∧
    State.reset.openingSlot = none ∧ ((kl (fun x => { x with hands := [hd] })).kiln 7).hands = [hd] ∧ hd.j = 63 ∧
    (∀ h ∈ (State.reset.kiln 7).hands.head?, h.j ≠ 63) ∧ ((c 1).kiln 7).capState = 1 ∧ max (c 1).now 36000 ≤ (c 1).waveDeadline 7 ∧
    (c 1).waveDeadline 7 < max (c 1).now 36001 ∧ ((c 0).kiln 7).capState ≠ 1 ∧ ((c 2).kiln 7).capState = 2 ∧
    ((c 2).kiln 7).clearAt = some 9 ∧ ((c 0).kiln 7).clearAt = some 9 ∧ ((c 0).kiln 7).capState = 0 := by
  refine ⟨by decide, by decide, by decide, by decide, ?_, by decide, by decide, by decide, by decide, ?_, by decide, by decide,
    by decide, by decide, by decide, by decide, by decide, by decide⟩
  · intro a h; exact absurd (show (none : Option Nat) = some a from h) (by simp)
  · intro h hh; exact absurd hh (by simp [State.kiln, State.reset, fget])

theorem wit_ShelfReads :
    let on : State := { State.reset with shf := { State.reset.shf with cells := 1 } }
    let r : ShelfHdr := { got := true }
    let f := kl (fun x => { x with fetch := [(63, r)] }) on
    on.shelfOn = true ∧ (on.kiln 7).predCell < on.shf.cells ∧ State.reset.shelfOn = false ∧ on.shf.depth ≠ 0 ∧
    f.binsFor 7 63 = some 3 ∧ on.binsFor 7 63 = none ∧ State.reset.gated = false ∧
    ({ on with shf := { on.shf with depth := 0 } } : State).shf.depth = 0 := by decide

set_option maxRecDepth 20000 in
theorem wit_ShelfBacks :
    let on : State := { State.reset with shf := { State.reset.shf with cells := 1 } }
    let q : GJob := { j := 63, at_ := 5, pix := { hasPix := true } }
    let p := gz (fun g => { g with jobs := [q] }) on
    let w : ShelfWb := { pix := 0, j := 63, addr := 64, len := 64, val := 1, ready := true }
    let x : State := { on with shf := { on.shf with staging := [(7, [w])] } }
    (p.glaze 7).jobs.find? (fun q => decide (q.j = 63) && !q.wb) = some q ∧ q.void = 0 ∧ q.pix.hasPix = true ∧ q.pix.az < on.shf.cells ∧
    (p.staged 7).length < 256 ∧ (State.reset.glaze 7).jobs.find? (fun q => decide (q.j = 63) && !q.wb) = none ∧
    (x.staged 7).find? (·.ready) = some w ∧ (x.at 0).accessClass 1 (w.addr / pageBytes) true ≠ 0 ∧
    (on.staged 7).find? (·.ready) = none ∧
    (let y : State := { on with shf := { on.shf with staging := [(7, List.replicate 256 w)] } }
     256 ≤ (y.staged 7).length) := by decide

/-- A state whose region table is valid and whose region 1 every port may read and ports of region 1 may write. -/
def mapped (s : State := State.reset) : State :=
  me (fun m => { m with valid := true, sizes := [0, 8, 8, 8, 8, 8, 8] })
    ((List.range 7).foldl (fun s r => (s.setReg (Reg.MEM_RGN_RD + 4 * r) 1023).setReg (Reg.MEM_RGN_WR + 4 * r) 1023) s)

set_option maxRecDepth 20000 in
theorem wit_ShelfWrites : ∃ l, l < 48 ∧ (mapped.at 0).accessClass 1 l true = 0 ∧ mapped.accessClass 0 l false = 0 := by decide

theorem wit_ShelfAddition :
    let r : ShelfHdr := { got := true, bins := some 0 }
    let hd : Hand := { pix := {}, j := 0, start := 100, buf := some 0 }
    let s := kl (fun x => { x with hands := [hd], bufs := [(0, { hdrs := [(63, r)] })] })
    (s.kiln 7).hands.find? (fun h => decide (h.j ≤ 63)) = some hd ∧ hd.buf = some 0 ∧ ((s.kbuf 7 0).hdr 63).bins = some 0 ∧
    max s.now 0 + 72 ≤ hd.start + 625 * 63 ∧ hd.void = 0 ∧ ((s.kbuf 7 0).dsc 63).stacked = false ∧
    (s.at 0).stackCase 7 63 (s.kbuf 7 0) = 0 := by decide

theorem wit_Glaze :
    let q : GJob := { j := 63, at_ := 5, pix := {} }
    let p := gz (fun g => { g with jobs := [q] })
    let f : FrameQ := { begun := true, endPix := some 0 }
    let s : State := { State.reset with pq := { State.reset.pq with frames := [f] } }
    (p.glaze 7).jobs.find? (fun q => decide (q.j = 63) && decide (q.stage = 1)) = some q ∧
    (State.reset.glaze 7).jobs.find? (fun q => decide (q.j = 63) && decide (q.stage = 1)) = none ∧
    jobIdx (p.glaze 7).jobs 63 = some 0 ∧ (p.glaze 7).jobs[0]? = some q ∧ jobIdx (State.reset.glaze 7).jobs 63 = none ∧
    (p.glaze 7).jobs.find? (fun q => decide (q.j = 63)) = some q ∧ s.pq.frames = [f] ∧ f.begun = true ∧ s.frameDrained f = true ∧
    (let u : State := { s with pq := { s.pq with host := { en := true } } }
     (u.pq.con 0).en = true ∧ (u.pq.con 0).st = 0 ∧ (u.pq.con 0).unread.length < 126975) := by decide

theorem wit_GlazeNoFrame : ∀ q ∈ State.reset.pq.frames.head?, q.begun = false ∨ State.reset.frameDrained q = false := by
  intro q h; exact absurd h (by simp [State.reset])

set_option maxRecDepth 20000 in
theorem wit_Memory :
    let m := mapped
    let r : MemReq := { port := 9, laddr := 2097152 * 2, wdata := none, ecc := .clean, waitNs := 0 }
    let ch := channelOf (m.physOf (r.laddr / 64 * 64))
    m.mem.selfRefresh = false ∧ (m.chan ch).maint = false ∧ ch < 16 ∧ r.port < 10 ∧
    (m.at 0).accessClass 9 (r.laddr / 64 * 64 / pageBytes) false = 0 ∧ (m.at 0).accessClass 9 (r.laddr / 64 * 64 / pageBytes) true = 0 ∧
    (State.reset.at 0).accessClass 9 2 false ≠ 0 ∧ (State.reset.port 9).page = none ∧
    (me (fun x => { x with selfRefresh := true })).mem.selfRefresh = true ∧
    ((me (fun x => { x with chans := [(15, { maint := true })] })).chan 15).maint = true ∧ (2 : Nat) ^ 37 - 1 < 2 ^ 37 ∧
    (inMode .standby).mode.active = .standby ∧ Machine.State.onVco (onVco) = true ∧
    ((onVco (inMode .ready m)).at 0).accessClass 5 2 false = 0 ∧ ((onVco (inMode .ready)).at 0).accessClass 5 2 false ≠ 0 := by decide

set_option maxRecDepth 20000 in
theorem wit_MemoryBar2Write : ∃ l, l < 48 ∧ (mapped.at 0).accessClass 5 l true = 0 := by decide

theorem wit_Maintenance :
    let sv (v : BitVec 16) := setr Reg.MEM_STARVE v
    let scr := setr Reg.MEM_SCRUB 1 (setr Reg.MEM_CTL 1)
    let b := me (fun x => { x with busy := true })
    (sv 1).reg Reg.MEM_STARVE ≠ 0 ∧ ((sv 1).port 9).warned = false ∧ (sv 0).reg Reg.MEM_STARVE = 0 ∧ State.reset.gated = false ∧
    State.reset.mem.busy = false ∧ (inMode .service).mode.active = .service ∧ State.reset.wheelRuns = false ∧
    (State.reset.recPages State.reset.rgnSizes).isSome = true ∧ (run .halt).wheelRuns = true ∧ b.mem.busy = true ∧
    (b.recPages b.rgnSizes).isSome = true ∧ scr.bit Reg.MEM_CTL 0 = true ∧ msT (3600000 * scr.fld Reg.MEM_SCRUB 7 0) ≠ 0 ∧
    (me (fun x => { x with enteringSr := true })).mem.enteringSr = true ∧ State.reset.mem.enteringSr = false := by decide

theorem wit_ShelfAdditionDue :
    let r : ShelfHdr := { got := true, raw := 511 * 2 ^ 32 + 0x5A * 2 ^ 64 + 2 ^ 80, bins := some 0 }
    let s := kl (fun x => { x with bufs := [(0, { pix := { frame := 1 }, hdrs := [(63, r)] })] })
      { State.reset with shf := { State.reset.shf with cells := 1 } }
    (s.at 0).stackCase 7 63 (s.kbuf 7 0) = 1 := by decide

/-! ## Hypotheses met: capture, guard, timestamps -/

/-- Change the capture block. -/
def cp (f : Capture → Capture) (s : State := State.reset) : State := { s with cap := f s.cap }

/-- A waiting condition. -/
def cond1 : Cond := { at_ := 0, src := 5, ut := 0, fine := 0, interp := false, detail := 0 }

theorem wit_Capture :
    let c (n : Nat) := cp (fun x => { x with st := n, conds := [cond1], postAt := some 7, waveAt := some 9 })
    let e (n : Nat) := cp (fun x => { x with st := 3, export_ := true, exProg := { total := n } }) (inMode .service)
    State.reset.gated = false ∧ (setr Reg.CAP_TRIG_EN 32).bit Reg.CAP_TRIG_EN 5 = true ∧ (setr Reg.CAP_TRIG_EN 0).bit Reg.CAP_TRIG_EN 5 = false ∧
    (State.reset.at 0).cap.conds = [] ∧ ((c 1).at 0).cap.conds = [cond1] ∧ cond1.src < 6 ∧ ((c 1).at 0).cap.st = 1 ∧
    ((c 3).at 0).cap.st = 3 ∧ ((c 0).at 0).cap.st = 0 ∧ (c 2).cap.postAt = some 7 ∧
    (whl (fun w => { w with frameOpen := true }) (c 2)).whl.frameOpen = true ∧ (c 2).whl.frameOpen = false ∧
    (setr Reg.CAP_CTL 2).bit Reg.CAP_CTL 1 = true ∧ (setr Reg.CAP_CTL 0).bit Reg.CAP_CTL 1 = false ∧ (c 2).cap.waveAt = some 9 ∧
    State.reset.cap.st ≠ 3 ∧ (State.reset.at 0).cap.st = State.reset.cap.st ∧ (e 1).cap.st = 3 ∧ (e 1).cap.export_ = true ∧
    (c 3).cap.export_ = false ∧ (c 4).cap.st = 4 ∧ (c 4).bit Reg.CAP_CTL 2 = false ∧
    (let s := cp (fun x => { x with st := 3 }) (inMode .service)
     s.cap.st = 3 ∧ s.cap.export_ = false ∧ bitOf (s.fld Reg.CAP_EXPORT_CTL 1 0) 1 = false ∧ s.mode.active = .service) ∧
    (let s := cp (fun x => { x with st := 3 }) (inMode .guard (setr Reg.CAP_EXPORT_CTL 6 (setr (ringCtl 2 + 4) 41)))
     bitOf (s.fld Reg.CAP_EXPORT_CTL 1 0) 1 = true ∧ 41 ≤ s.fld (ringCtl 2 + 4) 14 0 ∧ s.bit Reg.CAP_EXPORT_CTL 2 = true) ∧
    (e 0).exportMoves = true ∧ (e 0).cap.exProg.total ≤ (e 0).cap.exProg.pos ∧ (setr Reg.CAP_EXPORT_CTL 8).bit Reg.CAP_EXPORT_CTL 3 = true ∧
    (e 0).bit Reg.CAP_EXPORT_CTL 3 = false ∧ State.reset.exportRuns = false ∧ State.reset.exportMoves = false := by decide

theorem wit_Fields :
    let p : Point := { rec_ := 0, lane := 511, az := 0, blind := true, ut := 0, fine := 0 }
    let g : State := cp (fun x => { x with refWritten := true, sweepOk := true, okSince := some 5, cleanFrame := true })
      { onVco (inMode .guard) with sec := { State.reset.sec with permit := true }, crc := { State.reset.crc with matched := true } }
    let a := setr Reg.CAP_GUARD_CTL 1 g
    (State.reset.at 0).cap.tests = [] ∧ (cp (fun x => { x with tests := [p] })).cap.tests = [p] ∧
    ({ g with pix := { g.pix with first := some 9 } } : State).pix.first = some 9 ∧ g.mode.active = .guard ∧ g.cap.stale = false ∧
    (run .halt).pix.first = none ∧ (run .halt).wheelRuns = true ∧ State.reset.mode.active ≠ .standby ∧ State.reset.rangesBad = false ∧
    State.reset.isFrozen Id.CAP_FIELD_CRC_LAST = false ∧ g.fieldValid = true ∧ (inMode .standby).mode.active = .standby ∧
    g.gated = false ∧ Path.host ≠ .greenware ∧ g.bit Reg.CAP_GUARD_CTL 0 = false ∧ g.ossdOk = true ∧ g.cap.cleanFrame = true ∧
    a.bit Reg.CAP_GUARD_CTL 0 = true ∧ a.cap.ossd = false ∧ a.ossdOk = true ∧ a.cap.okSince = some 5 ∧ State.reset.ossdOk = false ∧
    (setr Reg.CAP_GUARD_CTL 2).bit Reg.CAP_GUARD_CTL 1 = true ∧ State.reset.pins.inReset = false ∧ State.reset.bit Reg.CAP_GUARD_CTL 1 = false
    := by decide

theorem wit_FieldsViolated :
    let p : Point := { rec_ := 0, lane := 511, az := 0, blind := true, ut := 0, fine := 0 }
    let s := cp (fun x => { x with tests := [p], violN := [(15, 255)] }) (setr Reg.CAP_FSET 0x8000)
    bitOf s.activeFields.toNat 15 = true ∧ s.fld (Reg.CAP_FIELD_CTL + 4 * 15) 7 0 < fget 0 s.cap.violN 15 + 1 ∧
    bitOf s.cap.viol.toNat 15 = false := by decide

set_option maxRecDepth 20000 in
theorem wit_Stamps :
    let st1 : Stamp := { at_ := 0, ut := 0, rising := true, num := 1 }
    let i (x : TsuIn) : State := { State.reset with tsu := { State.reset.tsu with ins := [(0, x)] } }
    let e := onVco (setr Reg.TSU_IN_CTL 1)
    let g := onVco (setr Reg.TSU_FREQ_GATE 1)
    let p : State := { setr Reg.TSU_EXT_CTL 1 with tsu := { State.reset.tsu with ppsAt := some 5 } }
    Machine.State.onVco e = true ∧ e.bit (Reg.TSU_IN_CTL + 4 * 0) 0 = true ∧ e.tsuOwns 0 = true ∧ e.tsuSel 0 true = true ∧
    (e.tsin 0).deadTo ≤ (e.at 0).now ∧ State.reset.onVco = false ∧ ((i { conv := [st1] }).tsin 0).conv = [st1] ∧
    ((i { conv := [st1] }).tsin 0).queue.length < 256 ∧ 256 ≤ ((i { queue := List.replicate 256 st1 }).tsin 0).queue.length ∧
    (setr (Reg.TSU_IN_CTL) 16).bit (Reg.TSU_IN_CTL + 4 * 0) 4 = true ∧ State.reset.bit (Reg.TSU_IN_CTL + 4 * 0) 4 = false ∧
    (setr Reg.TSU_FREQ_SEL 0).freqSel = 0 ∧ (State.reset.tsin 0).conv = [] ∧ State.reset.gated = false ∧ g.freqGate ≠ 0 ∧ Machine.State.onVco g = true ∧
    State.reset.onVco = false ∧ p.tsu.ppsAt = some 5 ∧ p.bit Reg.TSU_EXT_CTL 0 = true ∧ State.reset.tsu.ppsAt = none ∧
    (setr Reg.TSU_EXT_CTL 2).fld Reg.TSU_EXT_CTL 2 1 ≠ 0 ∧ (setr Reg.TSU_EXT_CTL 2).mfpInput 2 = true ∧
    State.reset.fld Reg.TSU_EXT_CTL 2 1 = 0 ∧ (setr Reg.TSU_FREQ_SEL 16).freqSel = 16 ∧
    (let t := setr Reg.CAP_TRIG_EN 8 (onVco (setr (Reg.TSU_IN_CTL + 4 * 15) 1))
     t.bit (Reg.TSU_IN_CTL + 4 * 15) 0 = true ∧ t.tsuOwns 15 = true ∧ t.tsuSel 15 true = true ∧ t.bit Reg.CAP_TRIG_EN 3 = true) := by decide

/-! ## Hypotheses met: Coil, host interface -/

/-- Change the Coil block. -/
def co (f : Coil → Coil) (s : State := State.reset) : State := { s with coil := f s.coil }

/-- A unit with its Coil ports on and both links up. -/
def ports (s : State := State.reset) : State := co (fun c => { c with link := 3 }) (onVco (inMode .ready s))

/-- The root of a RING of two. -/
def root : State := co (fun c => { c with addr := 1, topo := [1, 2], ring := true }) (ports (setr Reg.COIL_CTL 3))

/-- Unit 2 of a RING of two. -/
def unit2 : State := co (fun c => { c with addr := 2, topo := [1, 2], ring := true }) (ports (setr Reg.COIL_CTL 1))

theorem wit_CoilRoutes :
    let h : BitVec 64 := 2 + 2 * 8
    let g : BitVec 64 := 2 + 1 * 8
    let f : BitVec 64 := 2 + 2 * 8 + 15 * 2 ^ 24
    let w (h : BitVec 64) := hdrReserved h = false ∧ hdrFld h 55 48 ≤ 128 ∧ hdrFld h 2 0 = 2 ∧ hdrFld h 7 3 ≠ 31 ∧ hdrFld h 7 3 ≠ 0
    bitOf State.reset.coil.link.toNat 1 = false ∧ bitOf root.coil.link.toNat 1 ≠ false ∧ root.coilRoot = true ∧
    State.reset.coilOn = false ∧ root.coilOn = true ∧ w h ∧ w g ∧ w f ∧ hdrReserved (BitVec.allOnes 64) = true ∧
    hdrFld g 7 3 = root.coil.addr ∧ hdrFld h 7 3 ≠ root.coil.addr ∧ (root.coilRoute 2).isSome = true ∧ 15 ≤ hdrFld f 27 24 ∧
    hdrFld h 27 24 < 15 ∧ root.coilUp 0 = true ∧ root.coilUp 1 = true ∧ unit2.coil.addr = 2 ∧ unit2.coilOn = true ∧
    root.greenRuns = false ∧ (md (fun m => { m with bootDone := true }) root).greenRuns = true ∧
    (co (fun c => { c with mgmt := [(16, 5)] })).coil.mgmt = [(16, 5)] ∧ root.isFrozen Id.COIL_DISCARDS = false := by decide

theorem wit_CoilEnum :
    let e (n : Nat) := co (fun c => { c with enumPhase := n }) root
    unit2.coilRoot = false ∧ unit2.coilOn = true ∧ root.coilOn = true ∧ (e 1).coil.enumPhase = 1 ∧ (e 1).coilRoot = true ∧
    (0 : BitVec 64) = root.pins.unitId ∧ (1 : BitVec 64) ≠ root.pins.unitId ∧ unit2.coilUp (1 - 0) = true ∧ (e 1).coilUp 0 = true ∧
    (e 2).coil.enumPhase = 2 ∧ root.gated = false ∧ (co (fun c => { c with retryAt := some 9 }) root).coil.retryAt = some 9 ∧
    bitOf root.pins.straps.toNat 0 = false ∧ ¬(root.pins.unitId.toNat < (0 : BitVec 64).toNat) ∧
    root.pins.unitId.toNat < (1 : BitVec 64).toNat := by decide

theorem wit_CoilTime :
    let a (s : State) (n : Nat) := co (fun c => { c with align := n }) s
    State.reset.coil.align = 0 ∧ (a root 2).coil.align ≠ 0 ∧ Machine.State.onVco (a root 2) = true ∧ (a root 2).coilRoot = true ∧
    (a root 2).coil.ring = true ∧ (a root 2).coilUp 1 = true ∧ (a unit2 2).coilRoot = false ∧
    (a unit2 2).coilUp (a unit2 2).coilUpstream = true ∧ State.reset.coilOn = false ∧ unit2.coilUp (1 - 1) = true ∧
    (((6 : Int) - 1) - (3 - 2) = 2 * 2) ∧ root.isFrozen Id.COIL_LINK_DELAY = false ∧ (a unit2 2).coil.align = 2 ∧
    (setr Reg.COIL_HOLD 0).reg Reg.COIL_HOLD = 0 ∧ (setr Reg.COIL_HOLD 5).reg Reg.COIL_HOLD ≠ 0 ∧ (a unit2 3).coil.align = 3 ∧
    root.gated = false ∧ (whl (fun w => { w with state := .running }) root).wheelRuns = true ∧
    (whl (fun w => { w with state := .running }) root).coilRoot = true := by decide

theorem wit_CoilNodes :
    let n : State := co (fun c => { c with nextSched := some (99, 8, []) }) root
    let r : State := { n with tsu := { n.tsu with utRun := true } }
    let c : State := co (fun c => { c with align := 2, cycle := 10 })
      { unit2 with tsu := { unit2.tsu with utRun := true } }
    unit2.coilRoot = false ∧ root.gated = false ∧ root.coilRoot = true ∧ unit2.coilOn = true ∧ unit2.bit Reg.COIL_CTL 0 = true ∧
    (unit2.at 0).utime < 5 ∧ (0 : Nat) ≤ (unit2.at 0).utime ∧ r.coil.nextSched = some (99, 8, []) ∧ r.tsu.utRun = true ∧
    r.tsu.utAt ≤ r.now ∧ r.tsu.utBase + (max r.now 0 - r.tsu.utAt) < 2 ^ 64 ∧ c.coilEn = true ∧ c.coil.align = 2 ∧ c.coilSched.1 ≠ 0 ∧
    c.tsu.utRun = true ∧ c.tsu.utAt ≤ c.now ∧ c.tsu.utBase + (max c.now 0 - c.tsu.utAt) + c.coilSched.1 < 2 ^ 64 ∧
    root.bit Reg.COIL_CTL 4 = false ∧ (16 : Fin 17).val ≠ 0 ∧ root.isFrozen (Id.COIL_NODE + 15) = false ∧ unit2.coil.addr ≠ 0 ∧
    fget none (co (fun c => { c with nodeAt := [(16, some 7)] }) root).coil.nodeAt 16 = some 7 ∧
    bitOf (root.wideN (Id.COIL_NODE + 15)) 18 = false := by decide

/-- Change the host interface. -/
def hi (f : Hif → Hif) (s : State := State.reset) : State := { s with hif := f s.hif }

theorem wit_Rings :
    let rg (x : Nat) (r : Ring) := hi (fun h => { h with rings := [(x, r)], msixEn := true })
    let us := setr (ringCtl 0 + 0x10) 5
    let st : State := { us with pq := { us.pq with host := { stallAt := some 3 } } }
    let v (m : Bool) : Vec := { sent := some 3, held := true, masked := m, pend := true }
    let iv (m : Bool) := hi (fun h => { h with vecs := [(63, v m)], msixEn := true })
    (inMode .reset).mode.active = .reset ∧ State.reset.mode.active = .boot ∧ State.reset.mode.stage = 0 ∧ (inMode .scan).mode.active ≠ .reset ∧
    (inMode .scan).mode.active ≠ .boot ∧ State.reset.clk.serdesRef = false ∧ (onVco).clk.serdesRef = true ∧ State.reset.gated = false ∧
    bitOf (0x10001 : Word).toNat 16 = true ∧ bitOf (0x10001 : Word).toNat 0 = true ∧ (setr (ringCtl 19 + 4) 1).fld (ringCtl 19 + 4) 14 0 ≠ 0 ∧
    (setr (ringCtl 3 + 4) 0).fld (ringCtl 3 + 4) 14 0 = 0 ∧ bitOf (0x10000 : Word).toNat 0 = false ∧
    ((rg 19 { active := true, pages := 32767 }).ring 19).active = true ∧ ((rg 19 { active := true, pages := 32767 }).ring 19).pages < 2 ^ 15 ∧
    ((rg 19 { wbDue := some 4 }).ring 19).wbDue = some 4 ∧ (State.reset.ring 19).wbDue = none ∧ st.pq.host.stallAt = some 3 ∧
    (st.reg (ringCtl 0 + 0x10)).toNat ≠ 0 ∧ st.pq.host.stalled = false ∧ (State.reset.at 0).hif.evBuf = [] ∧
    ((hi (fun h => { h with evBuf := [7] })).at 0).hif.evBuf = [7] ∧ ((hi (fun h => { h with evBuf := [7] })).at 0).ringRoom 1 = 0 ∧
    ((rg 1 { active := true, pages := 1 }).at 0).ringRoom 1 ≠ 0 ∧ ((rg 19 { fullAt := some 2 }).ring (3 + 16)).fullAt = some 2 ∧
    State.reset.pq.host.stallAt = none ∧ (State.reset.ring 19).fullAt = none ∧ fget ({} : Vec) (iv true).hif.vecs 63 = v true ∧
    fget {} ((iv true).at (max 0 (3 + usT ((iv true).reg Reg.HIF_IRQ_HOLD).toNat))).hif.vecs 63 = v true ∧
    fget {} ((iv false).at (max 0 (3 + usT ((iv false).reg Reg.HIF_IRQ_HOLD).toNat))).hif.vecs 63 = v false ∧
    (fget ({} : Vec) State.reset.hif.vecs 63).sent = none ∧ (fget ({} : Vec) ((iv true).at 0).hif.vecs 63).pend = true ∧
    ((iv true).at 0).hif.msixEn = true ∧ State.reset.hif.msixEn = false := by decide

/-- A descriptor. -/
def desc1 : CeDesc := { host := 0, dev := 2097152 * 2, len := 1, statusPos := 0, toDevice := false, irq := false, hostData := 0, stop := none, pcieErr := none }

theorem wit_CopyEngine :
    let w := hi (fun h => { h with rings := [(3, { active := true, pages := 1 })], ceTail := 1 }) mapped
    let x : CeDesc := { desc1 with pcieErr := some (0, 0) }
    (w.at 0).ceWaits = true ∧ w.hif.ceHalted = false ∧ (State.reset.at 0).ceWaits = false ∧ w.gated = false ∧
    (hi (fun h => { h with ceHalted := true }) w).hif.ceHalted = true ∧ ({ desc1 with len := 0 } : CeDesc).len % 2 ^ 26 ≤ desc1.statusPos ∧
    desc1.statusPos < desc1.len % 2 ^ 26 ∧ (w.at 0).ceStop desc1 1 = none ∧ (State.reset.at 0).ceStop desc1 1 = some (0, 1) ∧
    (w.at 0).ceStop x 1 = some (0, 0) := by decide

set_option maxRecDepth 20000 in
theorem wit_CopyEngineWrites : ∃ l, l < 48 ∧ (mapped.at 0).accessClass 4 l true = 0 := by decide

/-! ## Hypotheses met: thermal, sensor front end, Saggar -/

/-- Change the thermal block. -/
def th (f : Thermal → Thermal) (s : State := State.reset) : State := { s with thm := f s.thm }

/-- Change the sensor front end. -/
def sf (f : Sfe → Sfe) (s : State := State.reset) : State := { s with sfe := f s.sfe }

/-- Change Saggar. -/
def sc (f : Sec → Sec) (s : State := State.reset) : State := { s with sec := f s.sec }

theorem wit_Cones :
    let a := th (fun x => { x with graceAt := some 5, coolAt := some 7, inCone := 2 })
    State.reset.mode.active ≠ .reset ∧ State.reset.thm.lvOld = [] ∧ (inMode .reset).mode.active = .reset ∧
    a.thm.graceAt = some 5 ∧ a.thm.coolAt = some 7 ∧ a.thm.inC 2 = true ∧ State.reset.thm.inC 2 = false ∧ State.reset.thm.graceAt = none ∧
    State.reset.thm.coolAt = none ∧ (rowAt Reg.THM_COOL).isSome = true ∧ (rowAt Reg.THM_CONE12).isSome = true ∧
    State.reset.pins.inReset = false ∧ Path.host ≠ .greenware ∧ State.reset.lastWrites = [] ∧ State.reset.sec.tripped = 0 ∧
    (State.reset.at 0).sec.room 32 = true ∧ State.reset.thm.okRun = 16 := by decide

theorem wit_ConesCrossed :
    let u := after (.thmConversion 0 (.celsius16 (16 * 128))) State.reset
    State.reset.thm.inC 3 = false ∧ u.thm.inC 3 = true ∧ u.thm.inC 2 = true ∧
    (after (.thmConversion 0 (.celsius16 0)) u).thm.inC 2 = false := by decide

theorem wit_Sensors :
    let s := sf (fun x => { x with st := 1, slot := 15 }) (setr (sfeCh 14) 0xFFFF (setr (sfeCh 15) 0xFFFF (setr Reg.SFE_CTL 1)))
    let n (k : Nat) := sf (fun x => { x with st := k })
    State.reset.sfe.st ≠ 1 ∧ State.reset.sfe.st ≠ 2 ∧ s.sfe.st = 1 ∧ s.sfe.slot < 16 ∧ (n 2).sfe.st = 2 ∧ (n 2).sfe.outN + 1 ≤ 1 ∧
    (n 2).sfe.wait < (n 2).sfe.outN + 1 ∧ (n 2).sfe.injPend = false ∧ (n 3).sfe.st = 3 ∧ (n 0).sfe.st < 2 ∧
    (sf (fun x => { x with injPend := true })).sfe.injPend = true ∧ (sf (fun x => { x with calPend := true })).sfe.calPend = true ∧
    (List.replicate 8 ((0 : Int), 2 ^ 30)).all calOk = true ∧ (List.replicate 8 ((0 : Int), 0)).all calOk = false ∧
    State.reset.isFrozen (Id.SFE_CAL + 7) = false ∧ State.reset.isFrozen Id.SFE_INJ_RES = false ∧ State.reset.isFrozen (Id.SFE_RES + 15) = false ∧
    (inMode .reset).mode.active = .reset ∧ (sf (fun x => { x with loopBadAt := some 5 })).sfe.loopBadAt = some 5 ∧
    (sf (fun x => { x with loopOkAt := some 5 })).sfe.loopOkAt = some 5 ∧ State.reset.sfe.loopBadAt = none ∧
    State.reset.sfe.loopOkAt = none ∧ State.reset.pins.inReset = false ∧
    (let l := sf (fun x => { x with loopHost := true }) (setr Reg.SFE_LOOP_CTL 1 (setr Reg.SFE_LOOP_HI 100))
     (l.at 0).loopValue.2 = true ∧ l.bit Reg.SFE_LOOP_CTL 8 = false ∧ l.bit Reg.SFE_LOOP_CTL 0 = true ∧
       sgn 16 (l.reg Reg.SFE_LOOP_LO).toNat ≠ sgn 16 (l.reg Reg.SFE_LOOP_HI).toNat) := by decide

theorem wit_SensorList :
    let s := sf (fun x => { x with st := 1, slot := 15 }) (setr (sfeCh 14) 0xFFFF (setr (sfeCh 15) 0xFFFF (setr Reg.SFE_CTL 1)))
    s.sfeList ≠ [] ∧ s.sfeList ≠ [s.sfe.slot] := by decide

theorem wit_Updates :
    let v (n : Nat) := sc (fun x => { x with upd := n }) (inMode .service)
    let fail := md (fun m => { m with active := .safe, bootFault := true, failCode := 1 })
    State.reset.gated = false ∧ State.reset.imageFail = false ∧ State.reset.mode.active ≠ .service ∧ Path.host ≠ .saggar ∧
    (v 2).mode.active = .service ∧ (v 2).sec.upd = 2 ∧ (sc (fun x => { x with restarting := true })).sec.restarting = true ∧
    (v 0).sec.tripped = 0 ∧ (v 0).sec.room 64 = true ∧ (v 0).isFrozen 0x8803 = false ∧ fail.imageFail = true ∧
    (sc (fun x => { x with tripped := 1 }) (v 0)).sec.tripped ≠ 0 ∧ (v 3).sec.otpCounter ≤ (v 3).hdrNat (v 3).sec.updSlot 8 4 ∧
    (v 3).hdrNat (v 3).sec.updSlot 8 4 < (sc (fun x => { x with otpCounter := 1 }) (v 3)).sec.otpCounter ∧ (v 3).sec.room 32 = true ∧
    (v 2).imageReason 0 false = 1 := by decide

theorem wit_Attestation :
    let k (q l : Nat) := sc (fun x => { x with attNext := q, attLimit := l }) (inMode .scan)
    State.reset.mode.active = .boot ∧ (k 0 1).mode.active ≠ .reset ∧ (k 0 1).mode.active ≠ .boot ∧ (k 0 1).mode.active ≠ .standby ∧
    (k 0 1).sec.attBusy = false ∧ (k 0 1).sec.attDead = false ∧ ¬33554432 ≤ (k 0 1).sec.attNext ∧ 33554432 ≤ (k 33554432 0).sec.attNext ∧
    (k 0 1).sec.attNext < (k 0 1).sec.attLimit ∧ (k 1 1).sec.attLimit ≤ (k 1 1).sec.attNext ∧ (k 1 1).sec.tripped = 0 ∧
    (k 1 1).sec.room 32 = true ∧ (sc (fun x => { x with attBusy := true })).sec.attBusy = true ∧ State.reset.sec.compacting = none ∧
    (sc (fun x => { x with compacting := some {} })).sec.compacting = some {} := by decide

/-- Saggar in SERVICE with the anti-rollback counter behind the booted image. -/
def service1 : State := sc (fun x => { x with bootVer := 64, otpCounter := 63 }) (inMode .service)

theorem wit_Burns :
    let b (x : Burn) := sc (fun y => { y with burn := some x })
    let l := natToBytes 16 State.reset.ebmLimits.toNat
    let r := setr Reg.SEC_ARG 3 service1
    let j := sc (fun x => { x with ring := [{ typ := 7, seq := 1, payload := l }] }) service1
    service1.gated = false ∧ service1.mode.active = .service ∧ service1.sec.burn = none ∧ service1.sec.otpCounter < service1.sec.bootVer ∧
    service1.sec.restarting = false ∧ r.fld Reg.SEC_ARG 1 0 ≠ r.sec.bootKey ∧
    popCount 4 (r.sec.revoked.toNat ||| 2 ^ r.fld Reg.SEC_ARG 1 0) ≠ 4 ∧ j.sec.newest 7 = some l ∧
    payNat l 0 16 = j.ebmLimits.toNat ∧ (b (.counter 64)).sec.burn = some (.counter 64) ∧ (b (.revoke 3)).sec.burn = some (.revoke 3) ∧
    (b .seal).sec.burn = some .seal ∧ service1.sec.sealed = false ∧ Path.saggar ≠ .host := by decide

theorem wit_Limits :
    let u := sc (fun x => { x with permit := false }) (inMode .service)
    u.sec.tripped = 0 ∧ u.sec.room 32 = true ∧ u.committed Reg.EMT_EBM_LOCK = false ∧
    (∀ i, i < 4 → u.isFrozen (Id.EMT_EBM_FAST_CAP + i) = false) ∧ (sc (fun x => { x with tripped := 512 }) u).sec.tripped ≠ 0 := by decide

set_option maxRecDepth 8000 in
theorem wit_Scfg :
    let g := setr Reg.SEC_ARG 48 { inMode .service with wide := [(0x8836, 100)] }
    let bad := setr Reg.SEC_ARG 16 (inMode .service)
    g.fld Reg.SEC_ARG 5 3 = 6 ∧ (g.at 0).scfgMode = 0 ∧ (g.at 0).scfgOk = true ∧ g.sec.room 128 = true ∧ (bad.at 0).scfgOk = false ∧
    State.reset.fld Reg.SEC_ARG 5 3 = 0 ∧ ((setr Reg.SEC_ARG 16).at 0).scfgMode = 1 ∧ g.sec.restarting = false := by decide

theorem wit_Permit :
    let l : State := { cool (md (fun m => { m with active := .ready, bootDone := true })) with locks := [(Reg.EMT_EBM_LOCK, 1)] }
    State.reset.sec.permit = false ∧ (State.reset.at 0).permitOk = false ∧ State.reset.pins.inReset = false ∧
    (sc (fun x => { x with torn := true, restarting := true })).sec.restarting = true ∧ (inMode .reset).mode.active = .reset ∧
    (l.at 0).permitOk = true ∧ l.sec.permit = false := by decide

theorem wit_FuseFloor : FuseFloor 0 0 false State.reset ∧ FuseFloor 64 8 true (sc (fun x => { x with
    otpCounter := 64, revoked := 9, sealed := true })) := by unfold FuseFloor; decide

/-! ## Worked examples of the spec -/

/-- Register behaviour (R26): a C register at 0x00A5, written with 0x00F0_0030. -/
theorem test_masked_write : cMerge 0x00A5 0xFFFF 0x00F00030 = 0x0035 := by decide

/-- Register map: the nominal threshold of LANE_311 lies at 0x0540_1DC and a write changes [7:0] alone. -/
theorem test_lane_threshold :
    lanReg Reg.LAN_THR 311 = 0x05401DC ∧ (setr 0x05401DC 0x0080 (inMode .ready)).reg 0x05401DC = 0x0080 ∧
    (after (.registerWrite 0 .host 0x05401DC 4 0x00FF0096) (setr 0x05401DC 0x0080 (inMode .ready))).reg 0x05401DC = 0x0096 := by decide

/-- Register behaviour: a clear that loses a race. -/
theorem test_clear_race :
    let s : State := { State.reset with stat := [(Reg.GLB_REG_STAT, { seq := 8, flags := 3 })] }
    let a := after (.statusClear 0 .host Reg.GLB_REG_STAT 0x00070001) s
    let b := after (.statusClear 0 .host Reg.GLB_REG_STAT 0x00080003) s
    bitOf (fget ({} : SReg) a.stat Reg.GLB_REG_STAT).flags.toNat 0 = true ∧ bitOf (fget ({} : SReg) a.stat Reg.GLB_REG_STAT).flags.toNat 1 = true ∧
    bitOf (fget ({} : SReg) b.stat Reg.GLB_REG_STAT).flags.toNat 0 = false ∧ bitOf (fget ({} : SReg) b.stat Reg.GLB_REG_STAT).flags.toNat 1 = false
    := by decide

/-- Faults (R487): a calibration swap is 0x181, PARAM_CLAMP 0x032. -/
theorem test_event_codes : infoCode Reg.CAL_STAT 1 = 0x181 ∧ infoCode Reg.GLB_REG_STAT 2 = 0x032 := by decide

/-- Emission (R155): derived code 5 of the units at Coil addresses 3 and 4. -/
theorem test_derived_codes :
    offsFrom 0 (usedGaps (derivedCode 3 5)) = [0, 56, 228] ∧ offsFrom 0 (usedGaps (derivedCode 4 5)) = [0, 60, 188] := by decide

/-- Sensor front end (R458): 85.0 °C on a range of 0 to 160 °C is 12,500 µA. -/
theorem test_loop_current : loopCurrent 1360 0 2560 = 12500 := by decide

/-- Start-up (R91): 84,557 of 122,880 page-passes read as 6,881. -/
theorem test_progress : bitsOf (Progress.word { pos := 84557, total := 122880, st := 1 }) 13 0 = 6881 := by decide

/-- Lanes (R224): the tracking offsets of the lane in full sun. -/
theorem test_tracking :
    let x : Lane := { nom := 120, floor := 40, ceil := 200 }
    let f (t : Int) (n : Nat) := trackOff 80 20 4 n 40000 { x with tOff := t }
    f 0 1560 = 4 ∧ f 4 1400 = 8 ∧ f 8 1240 = 12 ∧ f 12 1110 = 16 ∧ f 16 980 = 16 ∧
    trackOff 80 20 4 1110 40000 { x with ceil := 130, tOff := 8 } = 10 := by decide

/-- Shelf (R279, R280): the time shift of 24 mm towards the unit, and the shifts of the bins. -/
theorem test_shelf_shift :
    let s : State := { setr (egoOff 1200) 16384 (setr Reg.SHF_CTL 64) with shf := { State.reset.shf with egoV := 480, tf := 160000000 } }
    s.shfDelta 1200 = -33578 ∧ zoomW 1 = 3355 ∧ roundDiv (-33578) 3355 = -10 ∧ roundDiv (209715200 - 33578 - 209512195) 3355 = 50 := by decide

/-- The lane-pixel of LANE_311 in the worked example of Glaze. -/
def job311 : GJob :=
  let sh (i : Nat) : Shot := { slot := 15080000 + 10000 * i, mask := 0xFFFFFFFF, idx := i, decided := true, granted := 0xFFFFFFFF }
  { j := 55, at_ := 0, stage := 2, width := 1
    pix := {
      first := some 15080000, shots := [sh 0, sh 1, sh 2, sh 3], az := 1207, el := 4, hasPix := true
      refs := [(19, [5033165, 5033230, 5033100, 5033205])] }
    desc := { win := [(0, some 109641728)], gOpen := 24, gClose := 8192, age := 2 }
    coarse := [(419, 3), (433, 3), (476, 3)], zoom := [(10, 1), (65, 1), (66, 2)] }

set_option maxRecDepth 20000 in
/-- Glaze (R291 to R295): E16 and σ16 of LANE_311. -/
theorem test_glaze_record :
    let a : List Int := List.replicate 32 8
    let d := codeBins [0, 56, 228]
    d = [0, 14, 57] ∧ job311.e16 a d 419 = 120 ∧ job311.sigma a d 419 = 19 := by decide

set_option maxRecDepth 20000 in
/-- Glaze (R299 to R305): time, range, intensity, confidence and record of the return of LANE_311. -/
theorem test_glaze_point :
    let s := setr (0x2002000 + 4 * 311) 0xFFA4
    let c := s.measure 4 job311 (List.replicate 32 8) [0, 14, 57] { b := 419, e := 120, sigma := 19, np := 3 }
    c.time = 109863722 ∧ c.range = 299623 ∧ c.inten = 2560 ∧ c.conf = 6 ∧
    job311.pointRec 4 0 c = 0x00E61A40120084B7005A800492674DC1 := by decide

/-- The Coil (R390): in a RING of four, unit 1 reaches unit 3 with the tie by its port 0; unit 3 reaches unit 1 by its port 0,
through unit 2. -/
theorem test_coil_route :
    let r : State := co (fun c => { c with addr := 3, topo := [1, 2, 3, 4], ring := true, rootPort := 0 }) (ports (setr Reg.COIL_CTL 1))
    r.coilRoute 1 = some (0, [2, 1]) := by decide

/-! ## One small step per family -/

/-- R41, R45: without a compute there is nothing to end. -/
theorem test_crc_idle : (after (.crcComputeDone 0) State.reset).crc = State.reset.crc := by decide

/-- R75: the host asks for READY in BOOT; the target stands pending. -/
theorem test_mode_target :
    (after (.modeTargetWrite 0 .host 0x00070003) State.reset).fld Reg.GLB_MODE_TARGET 2 0 = 3 := by decide

/-- R126: ADD wraps, with carry and zero, and writes its destination. -/
theorem test_add_wraps :
    let op := Wop.alu .add 3 1 (.reg 2)
    let s := whl (fun w => { w with regs := [(1, 0xFFFFFFFF), (2, 1)] }) (run op)
    let u := after (.add 0) s
    u.wreg 3 = 0 ∧ u.whl.z = true ∧ u.whl.c = true ∧ u.whl.n = false ∧ u.wreg 1 = 0xFFFFFFFF := by decide

/-- R118: a host event is latched. -/
theorem test_host_event : (after (.hostEventPost 0 .host 4) (run .halt)).whl.hostev = 4 := by decide

/-- R440: Cone 3 enters SAFE with cause CONE3 (1). -/
theorem test_cone3 :
    let u := after (.thmConversion 0 (.celsius16 (16 * 128))) (inMode .ready)
    u.mode.active = .safe ∧ bitOf (u.sreg Reg.GLB_SAFE_CAUSE).flags.toNat 1 = true := by decide

/-- R533: a tripped supply enters SAFE, and its release clears the comparator. -/
theorem test_brown_out :
    let u := after (.brownOut 0 3) (inMode .ready)
    u.mode.active = .safe ∧ u.sec.tripped = 8 ∧ (after (.brownOutRelease 1 3) u).sec.tripped = 0 := by decide

/-- R470: a burn of the counter ends at the version burned. -/
theorem test_otp_burn : (after (.otpDone 0) (sc (fun x => { x with burn := some (.counter 5) }))).sec.otpCounter = 5 := by decide

/-- R492: an uncorrectable word met by the hand-off of lane 20 of sector 7 makes its lane-pixel VOID with cause RECOVERY (5), and
its sector recovers until 4,096 ticks later. -/
theorem test_kiln_uecc :
    let hd : Hand := { start := 0, buf := some 0, j := 20, pix := {} }
    let s := setr Reg.FLT_CTL 0 (kl (fun x => { x with hands := [hd] }))
    let u := after (.lanePixelHandoff 0 7 20 true) s
    hd.buf.isSome = true ∧ s.fld Reg.FLT_CTL 11 8 = 0 ∧ u.now = 12500 ∧ fget 0 u.log.recovering 7 = 16596 ∧
    (u.glaze 7).jobs.map (fun q => (q.j, q.void)) = [(20, 5)] := by decide

/-- R494: an uncorrectable word in the active bank, the timeline queue or the Point Queue enters SAFE and latches its
reason. -/
theorem test_unit_fatal_uecc :
    let q := { inMode .scan with pq := { State.reset.pq with rec_ := { State.reset.pq.rec_ with unread := [0] } } }
    let w := after (.illegalInstruction 0 true) (run .halt)
    let x := after (.slotStart 0 true) (whl (fun w => { w with shots := [{ shot1 with decided := true }] }) (run .halt))
    let u := after (.pqDeliver 0 1 true) q
    w.mode.active = .safe ∧ w.log.fatal = 4 ∧ x.mode.active = .safe ∧ x.log.fatal = 4 ∧
    u.mode.active = .safe ∧ u.log.fatal = 2 ∧ u.pq.rec_.unread ≠ [] := by decide

/-- R413: beyond 64 MiB there is no register. -/
theorem test_outside_bar0 : exec (.registerWrite 0 .host 0x4000000 4 0) State.reset = .fault .outsideBar0 := rfl

/-- A step runs the command at the front of the queue. -/
theorem test_step_front : (match step { State.reset with pending := [.linkEvent 5, .linkEvent 9] } with
    | .next u => u.pending
    | .fault _ => []
    | .refused _ => []) = [.linkEvent 9] := by decide
end Sys2Proof.Tests
end

section
/-! PROOFS. Frames: how they compose, what they leave of the registers, values and mailboxes, and which part each
replacement of one part and each recorded event touches. -/

namespace Sys2Proof.Machine

/-! ## Composition -/

theorem Unchanged.ite {but : List Part} {s x y : State} {c : Prop} [Decidable c] (hx : Unchanged but s x)
    (hy : Unchanged but s y) : Unchanged but s (if c then x else y) := by
  split
  · exact hx
  · exact hy

/-- A further step that is taken under a condition only. -/
theorem Unchanged.thenIf {but : List Part} {s x y : State} {c : Prop} [Decidable c] (hx : Unchanged but s x)
    (hy : Unchanged but x y) : Unchanged but s (if c then y else x) := .ite (hx.trans hy) hx

theorem Unchanged.foldl {but : List Part} {α : Type} (l : List α) (f : State → α → State)
    (h : ∀ s a, Unchanged but s (f s a)) (s : State) : Unchanged but s (l.foldl f s) := by
  induction l generalizing s with
  | nil => exact .refl _ _
  | cons a l ih => exact (h s a).trans (ih _)

/-! ## What a frame leaves -/

theorem Unchanged.now {but : List Part} {s u : State} (h : Unchanged but s u) (hb : Part.now ∉ but) : u.now = s.now :=
  h .now hb

theorem Unchanged.deferred {but : List Part} {s u : State} (h : Unchanged but s u) (hb : Part.deferred ∉ but) :
    u.deferred = s.deferred := h .deferred hb

/-- Which ticks share a PCLK cycle depends on the clock's state alone (R65). -/
theorem Unchanged.sameCycle {but : List Part} {s u : State} (h : Unchanged but s u) (hb : Part.clk ∉ but) (a b : Nat) :
    u.sameCycle a b = s.sameCycle a b := by
  have hclk : u.clk = s.clk := h .clk hb
  have hpclk : u.pclk = s.pclk := by
    unfold State.pclk State.onVco
    rw [hclk]
  simp only [State.sameCycle, hpclk]

/-- What a frame leaves of the wide values. -/
theorem Unchanged.wideRaw {but : List Part} {s u : State} (h : Unchanged but s u) (hb : Part.wide ∉ but) (id : Nat) :
    u.wideRaw id = s.wideRaw id := by
  have hw : u.wide = s.wide := h .wide hb
  simp only [State.wideRaw, hw]

/-- What a frame leaves of the registers. -/
theorem Unchanged.reg {but : List Part} {s u : State} (h : Unchanged but s u) (hb : Part.regs ∉ but) (off : Nat) :
    u.reg off = s.reg off := by
  have hr : u.regs = s.regs := h .regs hb
  simp only [State.reg, hr]

theorem Unchanged.sameRegs {but : List Part} {s u : State} (h : Unchanged but s u) (hb : Part.regs ∉ but) :
    SameRegs [] s u := fun off _ => h.reg hb off

theorem Unchanged.committed {but : List Part} {s u : State} (h : Unchanged but s u) (hb : Part.locks ∉ but) (off : Nat) :
    u.committed off = s.committed off := by
  have hl : u.locks = s.locks := h .locks hb
  simp only [State.committed, hl]

/-- Which blocks are in reach depends on the pins and the mode only (R97). -/
theorem Unchanged.reaches {but : List Part} {s u : State} (h : Unchanged but s u) (hp : Part.pins ∉ but)
    (hm : Part.mode ∉ but) (off : Nat) : u.reaches off = s.reaches off := by
  have hpins : u.pins = s.pins := h .pins hp
  have hmode : u.mode = s.mode := h .mode hm
  simp only [State.reaches, State.gated, hpins, hmode]

theorem Unchanged.mbx {but : List Part} {s u : State} (h : Unchanged but s u) (hS : Part.mbxS ∉ but)
    (hG : Part.mbxG ∉ but) (hH : Part.mbxH ∉ but) (q : Path) : u.mbx q = s.mbx q := by
  cases q
  · exact h .mbxS hS
  · exact h .mbxG hG
  · exact h .mbxH hH

/-- What a frame leaves of the Wheel's registers. -/
theorem Unchanged.wreg {but : List Part} {s u : State} (h : Unchanged but s u) (hb : Part.whl ∉ but) (i : Nat) :
    u.wreg i = s.wreg i := by
  have hw : u.whl = s.whl := h .whl hb
  simp only [State.wreg, hw]

/-! ## One part replaced -/

theorem State.setStat_unchanged (s : State) (x : FMap SReg) : Unchanged [.stat] s { s with stat := x } := by
  intro p hp
  cases p <;> first | rfl | exact absurd (by decide) hp

theorem State.setWide_unchanged (s : State) (x : FMap (BitVec 128)) : Unchanged [.wide] s { s with wide := x } := by
  intro p hp
  cases p <;> first | rfl | exact absurd (by decide) hp

theorem State.setDeferred_unchanged (s : State) (x : List (Nat × WideUpd)) :
    Unchanged [.deferred] s { s with deferred := x } := by
  intro p hp
  cases p <;> first | rfl | exact absurd (by decide) hp

theorem State.setLastWrites_unchanged (s : State) (x : List RegWr) :
    Unchanged [.lastWrites] s { s with lastWrites := x } := by
  intro p hp
  cases p <;> first | rfl | exact absurd (by decide) hp

theorem State.setRdata_unchanged (s : State) (x : Word) : Unchanged [.rdata] s { s with rdata := x } := by
  intro p hp
  cases p <;> first | rfl | exact absurd (by decide) hp

theorem State.setCrc_unchanged (s : State) (x : CrcEngine) : Unchanged [.crc] s { s with crc := x } := by
  intro p hp
  cases p <;> first | rfl | exact absurd (by decide) hp

theorem State.setTimers_unchanged (s : State) (x : FMap Timer) : Unchanged [.timers] s { s with timers := x } := by
  intro p hp
  cases p <;> first | rfl | exact absurd (by decide) hp

theorem State.setLog_unchanged (s : State) (x : FaultLog) : Unchanged [.log] s { s with log := x } := by
  intro p hp
  cases p <;> first | rfl | exact absurd (by decide) hp

theorem State.setClk_unchanged (s : State) (x : Clock) : Unchanged [.clk] s { s with clk := x } := by
  intro p hp
  cases p <;> first | rfl | exact absurd (by decide) hp

theorem State.setWhl_unchanged (s : State) (x : Wheel) : Unchanged [.whl] s { s with whl := x } := by
  intro p hp
  cases p <;> first | rfl | exact absurd (by decide) hp

theorem State.setEmt_unchanged (s : State) (x : Emission) : Unchanged [.emt] s { s with emt := x } := by
  intro p hp
  cases p <;> first | rfl | exact absurd (by decide) hp

theorem State.setStr_unchanged (s : State) (x : Steering) : Unchanged [.str] s { s with str := x } := by
  intro p hp
  cases p <;> first | rfl | exact absurd (by decide) hp

theorem State.setLan_unchanged (s : State) (x : Lanes) : Unchanged [.lan] s { s with lan := x } := by
  intro p hp
  cases p <;> first | rfl | exact absurd (by decide) hp

theorem State.setKln_unchanged (s : State) (x : FMap Kiln) : Unchanged [.kln] s { s with kln := x } := by
  intro p hp
  cases p <;> first | rfl | exact absurd (by decide) hp

theorem State.setShf_unchanged (s : State) (x : Shelf) : Unchanged [.shf] s { s with shf := x } := by
  intro p hp
  cases p <;> first | rfl | exact absurd (by decide) hp

theorem State.setGlz_unchanged (s : State) (x : FMap Glaze) : Unchanged [.glz] s { s with glz := x } := by
  intro p hp
  cases p <;> first | rfl | exact absurd (by decide) hp

theorem State.setPq_unchanged (s : State) (x : PointQ) : Unchanged [.pq] s { s with pq := x } := by
  intro p hp
  cases p <;> first | rfl | exact absurd (by decide) hp

theorem State.setCap_unchanged (s : State) (x : Capture) : Unchanged [.cap] s { s with cap := x } := by
  intro p hp
  cases p <;> first | rfl | exact absurd (by decide) hp

theorem State.setTsu_unchanged (s : State) (x : Tsu) : Unchanged [.tsu] s { s with tsu := x } := by
  intro p hp
  cases p <;> first | rfl | exact absurd (by decide) hp

theorem State.setCoil_unchanged (s : State) (x : Coil) : Unchanged [.coil] s { s with coil := x } := by
  intro p hp
  cases p <;> first | rfl | exact absurd (by decide) hp

theorem State.setHif_unchanged (s : State) (x : Hif) : Unchanged [.hif] s { s with hif := x } := by
  intro p hp
  cases p <;> first | rfl | exact absurd (by decide) hp

theorem State.setSfe_unchanged (s : State) (x : Sfe) : Unchanged [.sfe] s { s with sfe := x } := by
  intro p hp
  cases p <;> first | rfl | exact absurd (by decide) hp

theorem State.setSec_unchanged (s : State) (x : Sec) : Unchanged [.sec] s { s with sec := x } := by
  intro p hp
  cases p <;> first | rfl | exact absurd (by decide) hp

/-! ## Events touch no value -/

/-- What recording an event may touch: the S register and its vector, the log, and the capture conditions. -/
def eventParts : List Part := [.stat, .log, .hif, .cap]

theorem State.signal_unchanged (s : State) (v : Nat) : Unchanged [.hif] s (s.signal v) := by
  unfold State.signal
  refine .ite (.ite (s.setHif_unchanged _) ?_) (.refl _ _)
  split
  · exact s.setHif_unchanged _
  · exact .ite (.refl _ _) (.ite (s.setHif_unchanged _) (s.setHif_unchanged _))

theorem State.raise_unchanged (s : State) (off : Nat) (f : BitVec 16) : Unchanged [.stat, .hif] s (s.raise off f) := by
  have hs (m : FMap SReg) : Unchanged [.stat, .hif] s { s with stat := m } := (s.setStat_unchanged m).mono (by decide)
  unfold State.raise
  refine .ite (hs _) ?_
  split
  · exact (hs _).trans ((State.signal_unchanged _ _).mono (by decide))
  · exact hs _

theorem State.logPush_unchanged (s : State) (e : LogEntry) : Unchanged [.log, .hif, .cap] s (s.logPush e) := by
  unfold State.logPush
  refine Unchanged.trans ?_ ((State.signal_unchanged _ _).mono (by decide))
  exact .thenIf ((s.setLog_unchanged _).mono (by decide))
    (.ite ((State.setCap_unchanged _ _).mono (by decide)) (.refl _ _))

theorem State.event_unchanged (s : State) (off b : Nat) (i : Info) : Unchanged eventParts s (s.event off b i) :=
  ((s.raise_unchanged off _).mono (by decide)).trans ((State.logPush_unchanged _ _).mono (by decide))

theorem State.event_recording (s : State) (off b : Nat) (i : Info) : Unchanged recording s (s.event off b i) :=
  (s.event_unchanged off b i).mono (by decide)

end Sys2Proof.Machine
end

section
/-! PROOFS. A full-word access of a register that its path may write (R24, R25): what the three write commands come to, the
discards, and the S registers. -/

namespace Sys2Proof.Machine

/-! ## Permitted accesses -/

/-- Path `p` may write the register of row `r` at `off` with a full word: the offset is in BAR0, aligned, in reach and
mapped, its path rule permits `p`, and GUARD does not lock it (R24, R25, R97, R365, R413). -/
structure Permitted (s : State) (p : Path) (off : Nat) (r : Row) : Prop where
  inBar : off < 0x4000000
  aligned : off % 4 = 0
  reached : s.reaches off = true
  mapped : rowAt off = some r
  path : r.path.ok p = true
  unlocked : s.guardLocks off r = false

theorem exec_registerWrite (t : Nat) (p : Path) (size : Nat) (val : Word) (s : State) {off : Nat} (h : off < 0x4000000) :
    exec (.registerWrite t p off size val) s = .next ((s.at t).regWrite p off size val).1 :=
  if_neg (Nat.not_le.mpr h)

theorem Permitted.regWrite {s : State} {p : Path} {off : Nat} {r : Row} (h : Permitted s p off r) (t : Nat) (val : Word) :
    (s.at t).regWrite p off 4 val = (s.at t).typeWrite p off r val :=
  State.regWrite_mapped val h.aligned (by simp [h.reached]) h.mapped h.path (by simp [h.unlocked])

theorem Permitted.registerWrite {s : State} {p : Path} {off : Nat} {r : Row} (h : Permitted s p off r) (t : Nat)
    (val : Word) : exec (.registerWrite t p off 4 val) s = .next ((s.at t).typeWrite p off r val).1 := by
  rw [exec_registerWrite _ _ _ _ _ h.inBar, h.regWrite]

theorem Permitted.statusClear {s : State} {p : Path} {off : Nat} {r : Row} (h : Permitted s p off r) (t : Nat)
    (val : Word) : exec (.statusClear t p off val) s = .next ((s.at t).typeWrite p off r val).1 := by
  rw [← h.regWrite]
  exact if_neg (Nat.not_le.mpr h.inBar)

theorem Permitted.lockWrite {s : State} {p : Path} {off : Nat} {r : Row} (h : Permitted s p off r) (t : Nat)
    (val : Word) : exec (.lockWrite t p off val) s = .next ((s.at t).typeWrite p off r val).1 := by
  rw [← h.regWrite]
  exact if_neg (Nat.not_le.mpr h.inBar)

/-! ## What a permitted write does, type by type -/

section
variable {s : State} {p : Path} {off : Nat} {r : Row} {val : Word}

theorem State.typeWrite_c (h : r.typ = .c) : (s.typeWrite p off r val).1 = s.cRegWrite p off r val := by
  simp [State.typeWrite, h]

theorem State.typeWrite_s (h : r.typ = .s) : (s.typeWrite p off r val).1 = (s.statusClear off val).1 := by
  simp [State.typeWrite, h]

theorem State.typeWrite_l (h : r.typ = .l) : (s.typeWrite p off r val).1 = s.lockWrite p off r val := by
  simp [State.typeWrite, h]

theorem State.typeWrite_v (h : r.typ = .v) : (s.typeWrite p off r val).1 = s := by
  simp [State.typeWrite, h]

end

/-! ## Discarded accesses (R24, R25) -/

/-- A write is discarded: narrow, unaligned, of an unmapped offset outside the program banks, or of a register that the
path may not write. -/
def Discarded (p : Path) (off size : Nat) : Prop :=
  size < 4 ∨ off % 4 ≠ 0 ∨ (rowAt off = none ∧ ¬(0x208000 ≤ off ∧ off < 0x248000)) ∨
    (∃ r, rowAt off = some r ∧ r.path.ok p = false ∧ ¬(0x208000 ≤ off ∧ off < 0x248000))

theorem State.regWrite_discarded {s : State} {p : Path} {off size : Nat} (val : Word) (hr : s.reaches off = true)
    (h : Discarded p off size) : (s.regWrite p off size val).1 = s.accessErr off (pathCode p) := by
  unfold State.regWrite
  dsimp only
  rw [if_neg (by simp [hr])]
  by_cases hn : size < 4 ∨ off % 4 ≠ 0
  · rw [if_pos hn]
  · rw [if_neg hn]
    obtain h | h | ⟨hm, hb⟩ | ⟨r, hm, hp, hb⟩ := h
    · exact absurd (.inl h) hn
    · exact absurd (.inr h) hn
    · rw [if_neg hb, hm]
    · rw [if_neg hb, hm]
      simp [hp]

/-- Settles O6: each discard of R24 and R25 is one branch of the fabric's write, and recording an event is quiet. -/
theorem discardedAccessesRaiseAccessErr : Obligations.DiscardedAccessesRaiseAccessErr := by
  unfold Obligations.DiscardedAccessesRaiseAccessErr
  constructor
  · intro t p off size val s hb hr hd
    have hframe : Unchanged recording s ((s.at t).event Reg.GLB_REG_STAT 4 { addr := off, path := pathCode p }) :=
      (s.at_unchanged t).trans (State.event_recording _ _ _ _)
    refine ⟨_, exec_registerWrite t p size val s hb, ?_, ?_, ?_⟩ <;>
      rw [State.regWrite_discarded val (by simp [hr]) hd]
    · rfl
    · exact hframe.sameRegs (by decide)
    · exact hframe
  · intro t p off val s r hb ha hr hm hv hp hg _
    have h : Permitted s p off r := ⟨hb, ha, hr, hm, hp, hg⟩
    exact ⟨_, h.registerWrite t val, State.typeWrite_v hv⟩

/-! ## S registers (R28 to R30) -/

/-- No event of the register falls into the cycle of `now`. -/
def SReg.calm (p now : Nat) (r : SReg) : Prop := ∀ l, r.last = some l → now / p ≠ l / p

theorem SReg.clear_calm {p now : Nat} {r : SReg} (h : r.calm p now) (val : Word) :
    r.clear p now val = if val.extractLsb' 16 16 = r.seq
      then some { r with flags := r.flags &&& ~~~(val.extractLsb' 0 16) } else none := by
  unfold SReg.clear
  cases hl : r.last with
  | none => simp
  | some l => simp [h l hl]

/-- In the cycle of an event the write is judged as before it, and the event's flags stay (R30). -/
theorem SReg.clear_same {p now l : Nat} {r : SReg} (hl : r.last = some l) (h : now / p = l / p) (val : Word) :
    r.clear p now val = if val.extractLsb' 16 16 = r.seq - 1
      then some { r with flags := r.flags &&& (~~~(val.extractLsb' 0 16) ||| r.ev) } else none := by
  simp [SReg.clear, hl, h]

/-- An accepted write of an S register puts `x` there and touches nothing else. -/
theorem State.statusClear_accepted {s : State} {off : Nat} {val : Word} {x : SReg}
    (h : (s.sreg off).clear s.pclk s.now val = some x) :
    (s.statusClear off val).1 = { s with stat := fset {} s.stat off x } := by
  simp [State.statusClear, h]

theorem State.statusClear_refused {s : State} {off : Nat} {val : Word}
    (h : (s.sreg off).clear s.pclk s.now val = none) : (s.statusClear off val).1 = s := by
  simp [State.statusClear, h]

/-- Settles O7: the write is judged by SReg.clear, with and without an event in its cycle. -/
theorem statusClearNeedsTheSequenceNumber : Obligations.StatusClearNeedsTheSequenceNumber := by
  unfold Obligations.StatusClearNeedsTheSequenceNumber
  intro t p off val s r hb ha hr hm hs hp hg b x
  have h : Permitted s p off r := ⟨hb, ha, hr, hm, hp, hg⟩
  have hexec : exec (.statusClear t p off val) s = .next (b.statusClear off val).1 := by
    rw [h.statusClear, State.typeWrite_s hs]
  constructor
  · intro hcalm
    have hc := SReg.clear_calm (r := x) (p := b.pclk) (now := b.now)
      (fun l hl => by simpa [State.sameCycle] using hcalm l hl) val
    constructor
    · intro hv
      rw [if_pos hv] at hc
      refine ⟨_, hexec, ?_⟩
      rw [State.statusClear_accepted hc]
      exact ⟨by simp, by simp, fun o ho => fget_fset_ne _ _ _ _ ho, b.setStat_unchanged _⟩
    · intro hv
      rw [if_neg hv] at hc
      exact ⟨_, hexec, State.statusClear_refused hc⟩
  · intro l hl hcycle
    have hc := SReg.clear_same (r := x) (p := b.pclk) (now := b.now) hl (by simpa [State.sameCycle] using hcycle) val
    constructor
    · intro hv
      rw [if_pos hv] at hc
      refine ⟨_, hexec, ?_⟩
      rw [State.statusClear_accepted hc]
      exact ⟨by simp, by simp, b.setStat_unchanged _⟩
    · intro hv
      rw [if_neg hv] at hc
      exact ⟨_, hexec, State.statusClear_refused hc⟩

/-- The first event of a register, and one that comes 16 PCLK cycles or more after the last, is recorded. -/
theorem SReg.record_due {p now : Nat} {r : SReg} (hp : 0 < p) (h : ∀ l, r.last = some l → l + 16 * p ≤ now)
    (f : BitVec 16) :
    r.record p now f = { r with seq := r.seq + 1, flags := r.flags ||| f, last := some now, ev := f } := by
  unfold SReg.record
  cases hl : r.last with
  | none => rfl
  | some l =>
    have hle := h l hl
    have hne : now / p ≠ l / p := by
      have : (l + 16 * p) / p = l / p + 16 := Nat.add_mul_div_right _ _ hp
      have := Nat.div_le_div_right (c := p) hle
      omega
    simp [hne, Nat.not_lt.mpr hle]

/-- A sooner event, in a later cycle than the last, is held. -/
theorem SReg.record_early {p now l : Nat} {r : SReg} (hl : r.last = some l) (hc : l / p < now / p) (h : now < l + 16 * p)
    (f : BitVec 16) : r.record p now f = { r with held := r.held ||| f } := by
  have hne : now / p ≠ l / p := by omega
  simp [SReg.record, hl, hne, h]

/-- Held events are recorded together once they are due. -/
theorem SReg.settle_due {p later l : Nat} {r : SReg} (hl : r.last = some l) (hh : r.held ≠ 0) (h : l + 16 * p ≤ later) :
    r.settle p later =
      { seq := r.seq + 1, flags := r.flags ||| r.held, last := some (l + 16 * p), ev := r.held, held := 0 } := by
  unfold SReg.settle
  rw [hl]
  exact if_pos ⟨hh, h⟩

/-- Settles O8: an event is recorded when due and held when early, and held flags are recorded by the settling. -/
theorem eventsSetFlagsAndCount : Obligations.EventsSetFlagsAndCount := by
  unfold Obligations.EventsSetFlagsAndCount
  intro p now f r hp hheld
  constructor
  · intro hdue
    have hle : ∀ l, r.last = some l → l + 16 * p ≤ now := by
      intro l hl
      obtain hn | ⟨k, hk, hle⟩ := hdue
      · simp [hn] at hl
      · rw [hl] at hk
        cases hk
        exact hle
    simp [SReg.record_due hp hle, hheld]
  · intro l hl hc hnow
    have hor : r.held ||| f = f := by simp [hheld]
    rw [SReg.record_early hl hc hnow, hor]
    refine ⟨rfl, rfl, fun later hlater hf => ?_⟩
    rw [SReg.settle_due (r := { r with held := f }) hl hf hlater]
    exact ⟨rfl, rfl, rfl⟩

end Sys2Proof.Machine
end

section
/-! PROOFS. L registers, resets, and reads. -/

namespace Sys2Proof.Machine

/-! ## Registers after a write -/

theorem State.sweepKeep_unchanged (s : State) (off : Nat) : Unchanged [.crc] s (s.sweepKeep off) := by
  unfold State.sweepKeep
  split
  · exact .refl _ _
  · split
    · exact s.setCrc_unchanged _
    · exact .refl _ _

theorem State.setReg_unchanged (s : State) (off : Nat) (v : BitVec 16) : Unchanged [.crc, .regs] s (s.setReg off v) := by
  refine ((s.sweepKeep_unchanged off).mono (by decide)).trans (b := s.sweepKeep off) ?_
  intro p hp
  cases p <;> first | rfl | exact absurd (by decide) hp

theorem State.readReg_c {s : State} {off : Nat} {r : Row} (p : Path) (hr : s.reaches off = true) (hm : rowAt off = some r)
    (hc : r.typ = .c) (hs : off ≠ Reg.GLB_MBX_SEL) : s.readReg p off = (s.reg off).setWidth 32 := by
  simp [State.readReg, hr, hm, hc, hs]

/-- A committed L register reads with bit 31 set (R31). -/
theorem State.readReg_l {s : State} {off : Nat} {r : Row} (p : Path) (hr : s.reaches off = true) (hm : rowAt off = some r)
    (hl : r.typ = .l) (hc : s.committed off = true) :
    s.readReg p off = BitVec.ofNat 32 ((s.reg off).toNat + 2 ^ 31) := by
  simp [State.readReg, State.regWord, hr, hm, hl, hc]

/-! ## L registers (R31, R32) -/

theorem State.lockWrite_committed {s : State} {off : Nat} (p : Path) (r : Row) (val : Word) (h : s.committed off = true) :
    s.lockWrite p off r val = s.event Reg.GLB_REG_STAT 0 { addr := off, path := pathCode p } := if_pos h

theorem State.timerCheck_unchanged (s : State) (n : Nat) (was : Bool) : Unchanged [.timers] s (s.timerCheck n was) :=
  .ite (s.setTimers_unchanged _) (.ite (.refl _ _) (s.setTimers_unchanged _))

/-- The L register `off` takes `v` and is committed. -/
def State.commitReg (s : State) (off : Nat) (v : BitVec 16) : State :=
  { s.setReg off v with locks := fset 0 s.locks off 1 }

/-- The first write commits; what else it does touches emission and the timers only (R46, R47, R167). -/
theorem State.lockWrite_first {s : State} {off : Nat} (p : Path) (r : Row) (val : Word) (h : s.committed off = false) :
    Unchanged [.emt, .timers] (s.commitReg off (val.extractLsb' 0 16 &&& BitVec.ofNat 16 r.mask))
      (s.lockWrite p off r val) := by
  have hl (v : BitVec 16) : (s.setReg off v).locks = s.locks := s.setReg_unchanged off v .locks (by decide)
  unfold State.lockWrite State.commitReg
  dsimp only
  rw [if_neg (by simp [h]), hl]
  refine .ite ((State.setEmt_unchanged _ _).mono (by decide)) (.ite ?_ (.refl _ _))
  exact .foldl _ _ (fun s i => (s.timerCheck_unchanged _ _).mono (by decide)) _

theorem State.commitReg_reg (s : State) (off o : Nat) (v : BitVec 16) :
    (s.commitReg off v).reg o = if o = off then v else s.reg o := s.setReg_reg off o v

theorem State.commitReg_committed (s : State) (off o : Nat) (v : BitVec 16) :
    (s.commitReg off v).committed o = if o = off then true else s.committed o := by
  unfold State.committed State.commitReg
  rw [fget_fset]
  split <;> rfl

theorem State.commitReg_unchanged (s : State) (off : Nat) (v : BitVec 16) :
    Unchanged [.crc, .regs, .locks] s (s.commitReg off v) := by
  refine ((s.setReg_unchanged off v).mono (by decide)).trans (b := s.setReg off v) ?_
  intro p hp
  cases p <;> first | rfl | exact absurd (by decide) hp

/-! ## The endpoint's reset (R431) -/

theorem State.ceAbort_unchanged (s : State) : Unchanged recording s s.ceAbort := by
  unfold State.ceAbort
  refine .ite ?_ (.refl _ _)
  have hlast (x : State) (st : Nat) : Unchanged recording x (x.ceLast st) :=
    (State.putWide_quiet x _ _).unchanged.mono (by decide)
  have hhif (x : State) (h : Hif) : Unchanged recording x { x with hif := h } := (x.setHif_unchanged h).mono (by decide)
  exact (((hhif s _).trans (hlast _ _)).trans (hhif _ _)).trans (hhif _ _)

theorem State.hostWaits_unchanged (s : State) : Unchanged [.pq] s s.hostWaits :=
  .ite (s.setPq_unchanged _) (s.setPq_unchanged _)

theorem State.ringOff_unchanged (s : State) (x : Nat) : Unchanged (.pq :: recording) s (s.ringOff x) :=
  .thenIf ((s.setHif_unchanged _).mono (by decide)) ((State.hostWaits_unchanged _).mono (by decide))

theorem State.endpointReset_unchanged (s : State) (flr : Bool) : Unchanged (.pq :: recording) s (s.endpointReset flr) := by
  unfold State.endpointReset
  refine Unchanged.trans ?_ ((State.event_recording _ _ _ _).mono (by decide))
  refine Unchanged.trans ?_ ((State.setHif_unchanged _ _).mono (by decide))
  exact ((State.ceAbort_unchanged s).mono (by decide)).trans (.foldl _ _ State.ringOff_unchanged _)

/-- Settles O9: the first write of an L register commits it, a later one only raises LOCK_HIT; RESET starts without
locks, and the endpoint's reset has no part in them. -/
theorem firstLockWriteCommits : Obligations.FirstLockWriteCommits := by
  unfold Obligations.FirstLockWriteCommits
  refine ⟨?_, ?_, ?_, ?_⟩
  · intro t p off val s r hb ha hr hm hl hp hg hc
    have h : Permitted s p off r := ⟨hb, ha, hr, hm, hp, hg⟩
    have hframe := State.lockWrite_first (s := s.at t) (off := off) p r val (by simp [hc])
    have hreach : ((s.at t).lockWrite p off r val).reaches off = true := by
      rw [hframe.reaches (by decide) (by decide), ((s.at t).commitReg_unchanged _ _).reaches (by decide) (by decide)]
      simp [hr]
    have hcommitted (o : Nat) := hframe.committed (by decide) o
    have hreg (o : Nat) := hframe.reg (by decide) o
    simp only [State.commitReg_committed, State.at_committed] at hcommitted
    simp only [State.commitReg_reg, State.at_reg] at hreg
    refine ⟨_, h.lockWrite t val, ?_⟩
    rw [State.typeWrite_l hl]
    refine ⟨?_, ?_, ?_, ?_, ?_⟩
    · rw [hreg, if_pos rfl]
    · intro o ho
      rw [hreg, if_neg (by simpa using ho)]
    · rw [hcommitted, if_pos rfl]
    · intro o ho
      rw [hcommitted, if_neg ho]
    · intro q
      exact State.readReg_l q hreach hm hl (by rw [hcommitted, if_pos rfl])
  · intro t p off val s r hb ha hr hm hl hp hg hc
    have h : Permitted s p off r := ⟨hb, ha, hr, hm, hp, hg⟩
    have hw := State.lockWrite_committed p r val (s := s.at t) (off := off) (by simp [hc])
    have hframe := (s.at_unchanged t).trans
      ((s.at t).event_recording Reg.GLB_REG_STAT 0 { addr := off, path := pathCode p })
    refine ⟨_, h.lockWrite t val, ?_⟩
    rw [State.typeWrite_l hl, hw]
    exact ⟨rfl, hframe.sameRegs (by decide), hframe .locks (by decide)⟩
  · intro t cause s u hu
    obtain rfl : (s.at t).resetEnter cause = u := Host.Outcome.next.inj hu
    rfl
  · intro t e s u hu
    obtain rfl := Host.Outcome.next.inj hu
    exact (((s.at_unchanged t).mono (by decide)).trans (State.endpointReset_unchanged _ _)) .locks (by decide)

/-! ## Reads (R24, R254) -/

theorem exec_fifoHwmRead (t : Nat) (p : Path) (size : Nat) (s : State) {off : Nat} (h : off < 0x4000000) :
    exec (.fifoHwmRead t p off size) s = .next ((s.at t).regRead p off size) :=
  if_neg (Nat.not_le.mpr h)

/-- A full aligned word: its own bytes alone. -/
theorem State.readBytes_word (s : State) (p : Path) {off : Nat} (ha : off % 4 = 0) :
    s.readBytes p off 4 = BitVec.ofNat 32 (s.readWord p off) := by
  have hw : off / 4 * 4 = off := by omega
  apply BitVec.eq_of_toNat_eq
  simp only [State.readBytes, hw, BitVec.toNat_ofNat, Nat.sub_self, Nat.pow_zero, Nat.div_one]
  omega

theorem State.readWord_reg {s : State} {off : Nat} (p : Path) (h : ¬(0x208000 ≤ off ∧ off < 0x248000)) :
    s.readWord p off = (s.readReg p off).toNat := if_neg (fun hb => h ⟨hb.1, hb.2.1⟩)

/-- A full aligned word of a register, read with the word's own side effect. -/
theorem State.regRead_reg {s : State} {off : Nat} (p : Path) (ha : off % 4 = 0)
    (h : ¬(0x208000 ≤ off ∧ off < 0x248000)) :
    s.regRead p off 4 = { s.touchWord p off with rdata := s.readReg p off } := by
  have hw : off / 4 * 4 = off := by omega
  simp [State.regRead, hw, s.readBytes_word p ha, State.readWord_reg p h]

/-- KLN_INFO of sector `k` is a register of sector `k` (R505). -/
theorem klnInfo_decodes {k : Nat} (hk : k < 8) :
    (Reg.KLN_INFO + 0x10000 * k) / 0x100000 = 7 ∧ secOf (Reg.KLN_INFO + 0x10000 * k) = (k, Reg.KLN_INFO) := by
  unfold Reg.KLN_INFO secOf
  refine ⟨by omega, Prod.ext ?_ ?_⟩ <;> dsimp only <;> omega

theorem State.touchWord_klnInfo {s : State} (p : Path) {k : Nat} (hk : k < 8) (hg : s.gated = false) :
    s.touchWord p (Reg.KLN_INFO + 0x10000 * k) = s.modKiln k (fun x => { x with hwm := x.queue.length }) := by
  obtain ⟨hblock, hsec⟩ := klnInfo_decodes hk
  have hreach : s.reaches (Reg.KLN_INFO + 0x10000 * k) = true := by
    have hpin : s.pins.inReset = false := by
      simp only [State.gated, Bool.or_eq_false_iff] at hg
      exact hg.1
    simp [State.reaches, hpin, hg]
  simp [State.touchWord, hreach, hblock, hsec, hk]

theorem State.modKiln_kiln (s : State) (k j : Nat) (f : Kiln → Kiln) :
    (s.modKiln k f).kiln j = if j = k then f (s.kiln k) else s.kiln j := by
  unfold State.kiln State.modKiln fmod
  rw [fget_fset]

theorem State.touchWord_unmapped {s : State} {off : Nat} (p : Path) (hm : rowAt off = none)
    (hb : ¬(0x208000 ≤ off ∧ off < 0x248000)) (hr : s.reaches off = true) :
    s.touchWord p off = s.accessErr off (pathCode p) := by
  have hk : ¬(off / 0x100000 = 7 ∧ (secOf off).2 = Reg.KLN_INFO ∧ (secOf off).1 < 8) := by
    rintro ⟨hblock, ho, hk⟩
    have hoff : off = Reg.KLN_INFO + 0x10000 * (secOf off).1 := by
      unfold secOf at ho ⊢
      dsimp only at ho ⊢
      omega
    have hall : ∀ k < 8, (rowAt (Reg.KLN_INFO + 0x10000 * k)).isSome = true := by decide
    have := hall _ hk
    rw [← hoff, hm] at this
    cases this
  unfold State.touchWord
  rw [if_neg (by simp [hr]), if_neg hk, if_pos (by simp only [hm, Option.isNone_none, true_and]; exact hb)]

theorem State.readReg_unmapped {s : State} {off : Nat} (p : Path) (hm : rowAt off = none) : s.readReg p off = 0 := by
  simp [State.readReg, hm]

/-- Settles O10: a read's word is taken before its side effect, and the side effect is that of the word it touches. -/
theorem readsReturnTheAddressedBytes : Obligations.ReadsReturnTheAddressedBytes := by
  unfold Obligations.ReadsReturnTheAddressedBytes
  refine ⟨?_, ?_, ?_⟩
  · intro t p off size s hb
    exact ⟨_, exec_fifoHwmRead t p size s hb, rfl⟩
  · intro t p k s hk hg
    have hbank : ¬(0x208000 ≤ Reg.KLN_INFO + 0x10000 * k ∧ Reg.KLN_INFO + 0x10000 * k < 0x248000) := by
      unfold Reg.KLN_INFO; omega
    have hkiln (j : Nat) : (s.at t).kiln j = s.kiln j := by simp [State.kiln]
    refine ⟨_, exec_fifoHwmRead t p 4 s (by unfold Reg.KLN_INFO; omega), ?_⟩
    rw [State.regRead_reg p (by unfold Reg.KLN_INFO; omega) hbank, State.touchWord_klnInfo p hk (by simp [hg])]
    have hmod (j : Nat) := (s.at t).modKiln_kiln k j (fun x => { x with hwm := x.queue.length })
    refine ⟨rfl, ?_, ?_, ?_, ?_⟩
    · exact (congrArg Kiln.hwm (hmod k)).trans (by rw [if_pos rfl, hkiln])
    · exact (congrArg Kiln.queue (hmod k)).trans (by rw [if_pos rfl, hkiln])
    · exact fun j hj => (hmod j).trans (by rw [if_neg hj, hkiln])
    · exact ((State.setKln_unchanged _ _).mono (by decide)).trans ((State.setRdata_unchanged _ _).mono (by decide))
  · intro t p off s hb ha hm hbank hr
    refine ⟨_, exec_fifoHwmRead t p 4 s hb, ?_⟩
    rw [State.regRead_reg p ha hbank, State.touchWord_unmapped p hm hbank (by simp [hr]), State.readReg_unmapped p hm]
    exact ⟨rfl, rfl⟩

end Sys2Proof.Machine
end

section
/-! PROOFS. The mailboxes (R33 to R37): one mailbox after a change, the freeze and the updates it defers, reads and
the end of a freeze. -/

namespace Sys2Proof.Machine

/-! ## One mailbox changed -/

theorem State.setMbx_mbx (s : State) (p q : Path) (m : Mailbox) :
    (s.setMbx p m).mbx q = if q = p then m else s.mbx q := by
  cases p <;> cases q <;> rfl

@[simp] theorem State.setMbx_mbx_same (s : State) (p : Path) (m : Mailbox) : (s.setMbx p m).mbx p = m := by
  simp [State.setMbx_mbx]

theorem State.setMbx_mbx_ne (s : State) {p q : Path} (m : Mailbox) (h : q ≠ p) : (s.setMbx p m).mbx q = s.mbx q := by
  simp [State.setMbx_mbx, h]

@[simp] theorem State.setMbx_setMbx (s : State) (p : Path) (m k : Mailbox) : (s.setMbx p m).setMbx p k = s.setMbx p k := by
  cases p <;> rfl

theorem State.setMbx_unchanged (s : State) (p : Path) (m : Mailbox) :
    Unchanged [.mbxS, .mbxG, .mbxH] s (s.setMbx p m) := by
  intro k hk
  cases p <;> cases k <;> first | rfl | exact absurd (by decide) hk

@[simp] theorem State.at_mbx (s : State) (t : Nat) (q : Path) : (s.at t).mbx q = s.mbx q :=
  (s.at_unchanged t).mbx (by decide) (by decide) (by decide) q

/-! ## The freeze and the updates it defers (R34) -/

/-- A value is frozen where some path's mailbox holds it. -/
theorem State.isFrozen_iff (s : State) (id : Nat) :
    s.isFrozen id = true ↔ ∃ q v, (s.mbx q).frozen = some (id, v) := by
  have hone (m : Mailbox) : (match m.frozen with
      | some (k, _) => decide (k = id)
      | none => false) = true ↔ ∃ v, m.frozen = some (id, v) := by
    cases hm : m.frozen with
    | none => simp
    | some x => simp [Prod.ext_iff]
  simp only [State.isFrozen, Bool.or_eq_true]
  constructor
  · rintro ((h | h) | h)
    · exact ⟨.saggar, (hone _).mp h⟩
    · exact ⟨.greenware, (hone _).mp h⟩
    · exact ⟨.host, (hone _).mp h⟩
  · rintro ⟨q, h⟩
    cases q
    · exact .inl (.inl ((hone _).mpr h))
    · exact .inl (.inr ((hone _).mpr h))
    · exact .inr ((hone _).mpr h)

theorem State.isFrozen_false {s : State} {id : Nat} (h : ∀ q v, (s.mbx q).frozen ≠ some (id, v)) :
    s.isFrozen id = false := by
  rw [Bool.eq_false_iff, ne_eq, State.isFrozen_iff]
  rintro ⟨q, v, hq⟩
  exact h q v hq

/-- One update applied to its stored value. -/
def State.applyUpdate (s : State) (x : Nat × WideUpd) : State :=
  { s with wide := fset (wideReset x.1) s.wide x.1 (x.2.apply (idBits x.1) (s.wideRaw x.1)) }

theorem State.applyDeferred_eq (s : State) : s.applyDeferred =
    (s.deferred.filter (fun x => !s.isFrozen x.1)).foldl State.applyUpdate
      { s with deferred := s.deferred.filter (fun x => s.isFrozen x.1) } := rfl

theorem State.applyUpdate_wideRaw (s : State) (x : Nat × WideUpd) (id : Nat) :
    (s.applyUpdate x).wideRaw id = if x.1 = id then x.2.apply (idBits id) (s.wideRaw id) else s.wideRaw id := by
  unfold State.applyUpdate State.wideRaw
  dsimp only
  split
  · subst id
    exact fget_fset_same _ _ _ _
  · exact fget_fset_ne _ _ _ _ (fun e => ‹x.1 ≠ id› e.symm)

/-- Of updates applied one after the other each value gets its own, in order. -/
theorem applyUpdates_wideRaw (l : List (Nat × WideUpd)) (id : Nat) (s : State) :
    (l.foldl State.applyUpdate s).wideRaw id =
      (l.filter (fun x => decide (x.1 = id))).foldl (fun v x => x.2.apply (idBits id) v) (s.wideRaw id) := by
  induction l generalizing s with
  | nil => rfl
  | cons x l ih =>
    rw [List.foldl_cons, ih, State.applyUpdate_wideRaw]
    by_cases hx : x.1 = id <;> simp [hx]

theorem State.applyDeferred_unchanged (s : State) : Unchanged [.wide, .deferred] s s.applyDeferred := by
  rw [State.applyDeferred_eq]
  refine ((s.setDeferred_unchanged _).mono (by decide)).trans (.foldl _ _ (fun u x => ?_) _)
  exact (u.setWide_unchanged _).mono (by decide)

/-- Where no freeze holds them, the deferred updates of a value give what the hardware has. -/
theorem State.applyDeferred_wideRaw {s : State} (h : ∀ x ∈ s.deferred, s.isFrozen x.1 = false) (id : Nat) :
    s.applyDeferred.wideRaw id =
      (s.deferred.filter (fun x => decide (x.1 = id))).foldl (fun v x => x.2.apply (idBits id) v) (s.wideRaw id) := by
  have hgo : s.deferred.filter (fun x => !s.isFrozen x.1) = s.deferred := by
    rw [List.filter_eq_self]
    intro x hx
    simp [h x hx]
  rw [State.applyDeferred_eq, hgo, applyUpdates_wideRaw]
  rfl

theorem State.applyDeferred_none {s : State} (h : s.deferred = []) : s.applyDeferred = s := by
  have hs : { s with deferred := [] } = s := by rw [← h]
  rw [State.applyDeferred_eq, h]
  exact hs

theorem State.thaw_mbx (s : State) (p q : Path) :
    (s.thaw p).mbx q = if q = p then { s.mbx p with frozen := none, valid := false } else s.mbx q := by
  unfold State.thaw
  rw [(State.applyDeferred_unchanged _).mbx (by decide) (by decide) (by decide), State.setMbx_mbx]

theorem State.thaw_unchanged (s : State) (p : Path) :
    Unchanged [.mbxS, .mbxG, .mbxH, .wide, .deferred] s (s.thaw p) :=
  ((s.setMbx_unchanged p _).mono (by decide)).trans ((State.applyDeferred_unchanged _).mono (by decide))

/-- With no update waiting, the end of a freeze changes that mailbox alone. -/
theorem State.thaw_idle {s : State} (p : Path) (h : s.deferred = []) :
    s.thaw p = s.setMbx p { s.mbx p with frozen := none, valid := false } := by
  exact State.applyDeferred_none (by rw [(s.setMbx_unchanged p _).deferred (by decide), h])

theorem State.updWide_mbx (s : State) (id : Nat) (u : WideUpd) (q : Path) : (s.updWide id u).mbx q = s.mbx q :=
  (State.updWide_quiet s id u).unchanged.mbx (by decide) (by decide) (by decide) q

theorem State.updWide_isFrozen (s : State) (id o : Nat) (u : WideUpd) : (s.updWide id u).isFrozen o = s.isFrozen o := by
  rw [Bool.eq_iff_iff, State.isFrozen_iff, State.isFrozen_iff]
  simp [State.updWide_mbx]

/-- An update of a frozen value waits. -/
theorem State.updWide_frozen {s : State} {id : Nat} (u : WideUpd) (h : s.isFrozen id = true) :
    (s.updWide id u).deferred = s.deferred ++ [(id, u)] ∧ ∀ o, (s.updWide id u).wideRaw o = s.wideRaw o := by
  have hif (r : List (Nat × Nat × WideUpd)) : State.isFrozen { s with recent := r } id = true := h
  unfold State.updWide
  rw [if_pos (hif _)]
  exact ⟨rfl, fun _ => rfl⟩

/-- An update of another value is made at once. -/
theorem State.updWide_free {s : State} {id : Nat} (u : WideUpd) (h : s.isFrozen id = false) :
    (s.updWide id u).deferred = s.deferred ∧
      ∀ o, (s.updWide id u).wideRaw o = if o = id then u.apply (idBits id) (s.wideRaw id) else s.wideRaw o := by
  have hif (r : List (Nat × Nat × WideUpd)) : State.isFrozen { s with recent := r } id = false := h
  unfold State.updWide
  rw [if_neg (by rw [hif]; decide)]
  refine ⟨rfl, fun o => ?_⟩
  unfold State.wideRaw
  dsimp only
  split
  · subst o
    exact fget_fset_same _ _ _ _
  · exact fget_fset_ne _ _ _ _ ‹_›

/-- Counting at the whole width of a value wraps there. -/
theorem WideUpd.apply_count {bits n : Nat} {w : BitVec 128} (h0 : 0 < bits) (h1 : bits ≤ 128) (hw : w.toNat < 2 ^ bits) :
    ((WideUpd.add 0 bits n).apply bits w).toNat = (w.toNat + n) % 2 ^ bits := by
  have hfield : bitsOf w.toNat (bits - 1) 0 = w.toNat := by
    unfold bitsOf
    rw [show bits - 1 + 1 - 0 = bits by omega, Nat.shiftRight_zero, Nat.mod_eq_of_lt hw]
  have hfit : (w.toNat + n) % 2 ^ bits < 2 ^ 128 :=
    (Nat.mod_lt _ (Nat.two_pow_pos _)).trans_le (Nat.pow_le_pow_right (by omega) h1)
  simp only [WideUpd.apply, putBits, Nat.zero_add, hfield, BitVec.toNat_ofNat, Nat.pow_zero, Nat.mul_one, Nat.sub_self]
  exact Nat.mod_eq_of_lt hfit

theorem State.bump_eq {s : State} {id n : Nat} (h : 0 < n) : s.bump id n = s.updWide id (.add 0 (idBits id) n) :=
  if_neg (by omega)

/-- Two updates of a value that path `p` alone holds frozen: they wait, and the end of the freeze applies them in order. -/
theorem State.two_deferred {s : State} {p : Path} {id : Nat} {v : BitVec 128} (hf : (s.mbx p).frozen = some (id, v))
    (ho : ∀ q, q ≠ p → (s.mbx q).frozen = none) (hd : s.deferred = []) (x y : WideUpd) :
    ((s.updWide id x).updWide id y).wideRaw id = s.wideRaw id ∧
      (((s.updWide id x).updWide id y).thaw p).wideRaw id = y.apply (idBits id) (x.apply (idBits id) (s.wideRaw id)) := by
  have hz : s.isFrozen id = true := (s.isFrozen_iff id).mpr ⟨p, v, hf⟩
  obtain ⟨hd1, hw1⟩ := State.updWide_frozen x hz
  obtain ⟨hd2, hw2⟩ := State.updWide_frozen (s := s.updWide id x) y (by rw [State.updWide_isFrozen, hz])
  have hraw : ((s.updWide id x).updWide id y).wideRaw id = s.wideRaw id := by rw [hw2, hw1]
  refine ⟨hraw, ?_⟩
  have hset (m : Mailbox) := ((s.updWide id x).updWide id y).setMbx_unchanged p m
  unfold State.thaw
  rw [State.applyDeferred_wideRaw]
  · rw [(hset _).deferred (by decide), hd2, hd1, hd, (hset _).wideRaw (by decide), hraw]
    simp
  · intro z _
    refine State.isFrozen_false (fun q w => ?_)
    rw [State.setMbx_mbx]
    split
    · simp
    · simp [State.updWide_mbx, ho q ‹_›]

/-- Settles O12: an update of the frozen value joins the deferred ones, which the end of the freeze applies in order. -/
theorem aFreezeDefersUpdates : Obligations.AFreezeDefersUpdates := by
  unfold Obligations.AFreezeDefersUpdates
  intro s p id v hf ho hd
  constructor
  · intro x y
    obtain ⟨hwait, happly⟩ := State.two_deferred hf ho hd x y
    refine ⟨hwait, happly, fun other hne => ?_⟩
    have hfree : s.isFrozen other = false := by
      refine State.isFrozen_false (fun q w hq => ?_)
      by_cases hqp : q = p
      · rw [hqp, hf] at hq
        simp only [Option.some.injEq, Prod.mk.injEq] at hq
        exact hne hq.1.symm
      · rw [ho q hqp] at hq
        cases hq
    rw [(State.updWide_free x hfree).2, if_pos rfl]
  · intro m n hm hn h0 h1 hw
    rw [State.bump_eq hm, State.bump_eq hn, (State.two_deferred hf ho hd _ _).2]
    have hstep := WideUpd.apply_count (n := m) h0 h1 hw
    rw [WideUpd.apply_count h0 h1 (by rw [hstep]; exact Nat.mod_lt _ (Nat.two_pow_pos _)), hstep, Nat.mod_add_mod]

/-! ## Reads, releases, expiry (R34, R35) -/

theorem State.onGlb_run {s : State} (f : State → State) (h : s.pins.inReset = false) : s.onGlb f = f s :=
  if_neg (by rw [h]; decide)

theorem State.onGlb_reset {s : State} (f : State → State) (h : s.pins.inReset = true) : s.onGlb f = s := if_pos h

/-- Taking a value moves a timestamp queue or the attestation output on, and nothing else. -/
theorem State.mbxTake_unchanged (s : State) (id : Nat) : Unchanged [.tsu, .sec] s (s.mbxTake id).1 := by
  unfold State.mbxTake
  split
  · unfold State.tsuPop
    dsimp only
    split
    · exact .refl _ _
    · exact (s.setTsu_unchanged _).mono (by decide)
  · split
    · unfold State.attRead
      split
      · exact (s.setSec_unchanged _).mono (by decide)
      · exact .refl _ _
    · split
      · exact .refl _ _
      · split <;> exact .refl _ _

/-- A read of a value that is there: its copy, cut to the value's width, stands in the mailbox and is frozen. -/
theorem State.mbxRead_found {s : State} {p : Path} {v : BitVec 128} (hid : (idAt (s.mbx p).sel.toNat).isSome = true)
    (hv : ((s.thaw p).mbxTake (s.mbx p).sel.toNat).2 = some v) :
    ((s.mbxRead p).mbx p).data = BitVec.ofNat 128 (v.toNat % 2 ^ idBits (s.mbx p).sel.toNat) ∧
      ((s.mbxRead p).mbx p).valid = true ∧ ((s.mbxRead p).mbx p).err = 0 ∧
      ((s.mbxRead p).mbx p).frozen = some ((s.mbx p).sel.toNat, ((s.mbxRead p).mbx p).data) ∧
      ∀ q, q ≠ p → (s.mbxRead p).mbx q = s.mbx q := by
  have hsel : ((s.thaw p).mbx p).sel = (s.mbx p).sel := by rw [State.thaw_mbx, if_pos rfl]
  unfold State.mbxRead
  simp only [hsel, ← Option.not_isSome, hid, hv, Bool.not_true, Bool.false_eq_true, if_false, State.setMbx_mbx_same]
  refine ⟨trivial, trivial, trivial, trivial, fun q hq => ?_⟩
  rw [State.setMbx_mbx_ne _ _ hq, (State.mbxTake_unchanged _ _).mbx (by decide) (by decide) (by decide), State.thaw_mbx,
    if_neg hq]

theorem State.mbxRead_unknown {s : State} {p : Path} (hid : (idAt (s.mbx p).sel.toNat).isSome = false) :
    s.mbxRead p = (s.thaw p).mbxErr p 1 := by
  have hsel : ((s.thaw p).mbx p).sel = (s.mbx p).sel := by rw [State.thaw_mbx, if_pos rfl]
  unfold State.mbxRead
  simp [hsel, ← Option.not_isSome, hid]

theorem State.mbxErr_mbx (s : State) (p q : Path) (e : Nat) :
    (s.mbxErr p e).mbx q = if q = p then { s.mbx p with err := e } else s.mbx q := s.setMbx_mbx p q _

theorem exec_mbxRead (t : Nat) (p : Path) {s : State} (h : s.pins.inReset = false) :
    exec (.mbxRead t p) s = .next ((s.at t).mbxRead p) :=
  congrArg Host.Outcome.next (State.onGlb_run _ (by simp [h]))

theorem exec_mbxWrite (t : Nat) (p : Path) {s : State} (h : s.pins.inReset = false) :
    exec (.mbxWrite t p) s = .next ((s.at t).mbxWrite p) :=
  congrArg Host.Outcome.next (State.onGlb_run _ (by simp [h]))

theorem exec_mbxRelease (t : Nat) (p : Path) {s : State} (h : s.pins.inReset = false) :
    exec (.mbxRelease t p) s = .next ((s.at t).thaw p) :=
  congrArg Host.Outcome.next (State.onGlb_run _ (by simp [h]))

/-- The freeze expires 65,536 PCLK cycles after the read at the earliest (R35). -/
theorem exec_mbxFreezeExpiry (t : Nat) {p : Path} {s : State} (h : (s.mbx p).valid = true) :
    exec (.mbxFreezeExpiry t p) s =
      .next (((s.at (max t ((s.mbx p).readAt + 65536 * s.pclk))).thaw p).mbxErr p 5) := if_pos h

theorem State.mbxErr_unchanged (s : State) (p : Path) (e : Nat) : Unchanged [.mbxS, .mbxG, .mbxH] s (s.mbxErr p e) :=
  s.setMbx_unchanged p _

/-- Settles O11: each mailbox command sets the path's own mailbox, and a freeze ends by thaw. -/
theorem mailboxReadFreezesACopy : Obligations.MailboxReadFreezesACopy := by
  unfold Obligations.MailboxReadFreezesACopy
  refine ⟨?_, ?_, ?_, ?_, ?_⟩
  · intro t p s v hr hid hv
    refine ⟨_, exec_mbxRead t p hr, ?_⟩
    have hfound := State.mbxRead_found (s := s.at t) (p := p) (v := v) (by simpa using hid) (by simpa using hv)
    simpa only [State.at_mbx] using hfound
  · intro t p s hr hid
    refine ⟨_, exec_mbxRead t p hr, ?_⟩
    rw [State.mbxRead_unknown (s := s.at t) (by simpa using hid)]
    simp +contextual [State.mbxErr_mbx, State.thaw_mbx]
  · intro t p s hr
    refine ⟨_, exec_mbxRelease t p hr, ?_⟩
    simp +contextual [State.thaw_mbx]
  · intro t p s hv
    refine ⟨_, exec_mbxFreezeExpiry t hv, ?_⟩
    have hnow : (s.mbx p).readAt + 65536 * s.pclk ≤
        (((s.at (max t ((s.mbx p).readAt + 65536 * s.pclk))).thaw p).mbxErr p 5).now := by
      rw [(State.mbxErr_unchanged _ p 5).now (by decide), (State.thaw_unchanged _ p).now (by decide), (s.at_quiet _).now]
      exact (le_max_right _ _).trans (le_max_right _ _)
    simp +contextual [State.mbxErr_mbx, State.thaw_mbx, hnow]
  · intro t p s hr
    have hout (f : State → State) := congrArg (Host.Outcome.next (φ := Fault) (ρ := Refusal))
      (State.onGlb_reset (s := s.at t) f (by simp [hr]))
    exact ⟨hout _, hout _, hout _⟩

end Sys2Proof.Machine
end

section
/-! PROOFS. Mailbox writes (R36, R37, R504): refusals, and the value that a permitted write leaves. -/

namespace Sys2Proof.Machine

/-! ## The decision -/

/-- What makes a write fail depends on the mode, the locks, the Wheel's state, the Coil's root and nothing else. -/
@[simp] theorem State.at_stateErr (s : State) (t id : Nat) : (s.at t).stateErr id = s.stateErr id := by
  have hroot : (s.at t).coilRoot = s.coilRoot := by simp [State.coilRoot, State.bit, State.at_reg]
  unfold State.stateErr
  simp [hroot]

section
variable {s : State} {p : Path} {id v : Nat} {r : IdRow}

theorem State.wideCommit_unknown (h : idAt id = none) : s.wideCommit p id v = (s, 1) := by
  simp [State.wideCommit, h]

theorem State.wideCommit_path (h : idAt id = some r) (he : writeErr r.acc id p ≠ 0) :
    s.wideCommit p id v = (s, writeErr r.acc id p) := by
  simp [State.wideCommit, h, he]

theorem State.wideCommit_state (h : idAt id = some r) (hp : writeErr r.acc id p = 0) (he : s.stateErr id ≠ 0) :
    s.wideCommit p id v = (s, s.stateErr id) := by
  simp [State.wideCommit, h, hp, he]

theorem State.wideCommit_permitted (h : idAt id = some r) (hp : writeErr r.acc id p = 0) (he : s.stateErr id = 0) :
    s.wideCommit p id v = s.wideWrite p id (v % 2 ^ r.bits) := by
  simp [State.wideCommit, h, hp, he]

/-- A refused write with no update waiting changes the path's own mailbox alone. -/
theorem State.mbxWrite_refused {e : Nat} (hd : s.deferred = [])
    (h : s.wideCommit p (s.mbx p).sel.toNat (s.mbx p).data.toNat = (s, e)) :
    s.mbxWrite p = s.setMbx p { s.mbx p with valid := false, frozen := none, err := e } := by
  unfold State.mbxWrite
  rw [h, State.thaw_idle p ((s.mbxErr_unchanged p e).deferred (by decide) |>.trans hd)]
  simp [State.mbxErr]

/-- A write that answers err 0 with no update waiting: the mailbox ends without freeze and error, and the rest stands as the
commit left it. -/
theorem State.mbxWrite_committed {u : State} (hd : u.deferred = [])
    (h : s.wideCommit p (s.mbx p).sel.toNat (s.mbx p).data.toNat = (u, 0)) :
    s.mbxWrite p = u.setMbx p { u.mbx p with err := 0, valid := false, frozen := none } := by
  unfold State.mbxWrite
  rw [h, State.thaw_idle p ((u.mbxErr_unchanged p 0).deferred (by decide) |>.trans hd)]
  simp [State.mbxErr]

end

/-! ## The value written -/

/-- With no update of the same cycle, software's value is stored as written. -/
theorem State.swPut_quiet {s : State} (hr : s.recent = []) (id v : Nat) :
    s.swPut id v = { s with wide := fset (wideReset id) s.wide id (BitVec.ofNat 128 v) } := by
  simp [State.swPut, hr]

theorem State.setWide_wideRaw (s : State) (id : Nat) (v : BitVec 128) :
    State.wideRaw { s with wide := fset (wideReset id) s.wide id v } id = v := fget_fset_same _ _ _ _

/-- The parts in which the identifiers with a further effect of their own have it: timers, set-points, the ego pose, UTIME,
the CRC engine. -/
def writeParts : List Part := [.crc, .timers, .str, .shf, .tsu, .stat, .log, .hif, .cap]

theorem State.landSp_unchanged (s : State) (a : Nat) (v : Int) (isStep : Bool) (addr path : Nat) :
    Unchanged (.str :: eventParts) s (s.landSp a v isStep addr path) := by
  have hax (c : Prop) [Decidable c] (f : Axis → Axis) : Unchanged (.str :: eventParts) s (if c then s else s.modAx a f) :=
    .ite (.refl _ _) ((s.setStr_unchanged _).mono (by decide))
  exact .ite (hax _ _) ((hax _ _).trans ((State.event_unchanged _ _ _ _).mono (by decide)))

/-- A permitted write of an identifier other than the Wheel's registers, the Coil's nodes and the update data: the value is
stored, err is 0, and no update waits. -/
theorem State.wideWrite_stores {s : State} {p : Path} {id v : Nat} (hr : s.recent = []) (hd : s.deferred = [])
    (hf : s.isFrozen id = false) (hv : id = Id.CAP_FIELD_CRC_REF → v < 2 ^ 32) (hu : id ≠ Id.SEC_UPD_DATA)
    (hw : ¬(Id.WHL_W ≤ id ∧ id < Id.WHL_W + 16)) (hn : ¬(Id.COIL_NODE ≤ id ∧ id < Id.COIL_NODE + 16)) :
    (s.wideWrite p id v).2 = 0 ∧ (s.wideWrite p id v).1.deferred = [] ∧
      (s.wideWrite p id v).1.wideRaw id = BitVec.ofNat 128 v := by
  have hstore {u : State} (h : Unchanged writeParts (s.swPut id v) u) :
      u.deferred = [] ∧ u.wideRaw id = BitVec.ofNat 128 v := by
    rw [h.deferred (by decide), h.wideRaw (by decide), State.swPut_quiet hr]
    exact ⟨hd, State.setWide_wideRaw _ _ _⟩
  unfold State.wideWrite
  dsimp only
  by_cases hcrc : id = Id.GLB_CFG_CRC_REF
  · subst hcrc
    rw [if_pos rfl]
    exact ⟨rfl, hstore ((State.setCrc_unchanged _ _).mono (by decide))⟩
  by_cases hfld : id = Id.CAP_FIELD_CRC_REF
  · obtain ⟨hdef, hraw⟩ := State.updWide_free (.set (BitVec.ofNat 128 v)) hf
    have hbits : idBits Id.CAP_FIELD_CRC_REF = 32 := by decide
    have hset : (WideUpd.set (BitVec.ofNat 128 v)).apply (idBits id) (s.wideRaw id) = BitVec.ofNat 128 v := by
      have := hv hfld
      rw [hfld, hbits]
      simp only [WideUpd.apply, BitVec.toNat_ofNat]
      rw [Nat.mod_eq_of_lt (a := v) (by omega), Nat.mod_eq_of_lt this]
    rw [if_neg hcrc, if_pos hfld]
    subst hfld
    exact ⟨rfl, hdef.trans hd, (hraw _).trans ((if_pos rfl).trans hset)⟩
  rw [if_neg hcrc, if_neg hfld, if_neg hu, if_neg hw, if_neg hn]
  split
  · exact ⟨rfl, hstore (.ite ((State.setTimers_unchanged _ _).mono (by decide)) (.refl _ _))⟩
  · split
    · exact ⟨rfl, hstore ((State.landSp_unchanged _ _ _ _ _ _).mono (by decide))⟩
    · split
      · exact ⟨rfl, hstore ((State.setShf_unchanged _ _).mono (by decide))⟩
      · split
        · exact ⟨rfl, hstore ((State.setTsu_unchanged _ _).mono (by decide))⟩
        · exact ⟨rfl, hstore (.refl _ _)⟩

/-! ## Wheel registers (R131) -/

theorem State.followAll_unchanged (s : State) (id v : Nat) : Unchanged [.mbxS, .mbxG, .mbxH] s (s.followAll id v) := by
  intro p hp
  cases p <;> first | rfl | exact absurd (by decide) hp

theorem idAt_wheelReg : ∀ i < 16, idAt (Id.WHL_W + i) = some ⟨0x1000, 16, 32, .rw, 0⟩ := by decide

theorem State.wideWrite_wheelReg (s : State) (p : Path) {i : Nat} (v : Nat) (hi : i < 16) :
    s.wideWrite p (Id.WHL_W + i) v = ((s.setW i (BitVec.ofNat 32 v)).followAll (Id.WHL_W + i) v, 0) := by
  unfold State.wideWrite
  rw [if_neg (by unfold Id.WHL_W Id.GLB_CFG_CRC_REF; omega), if_neg (by unfold Id.WHL_W Id.CAP_FIELD_CRC_REF; omega),
    if_neg (by unfold Id.WHL_W Id.SEC_UPD_DATA; omega), if_pos (by omega), Nat.add_sub_cancel_left]

theorem State.stateErr_wheelReg {s : State} {i : Nat} (hi : i < 16) (h : s.wheelRuns = false) :
    s.stateErr (Id.WHL_W + i) = 0 := by
  unfold State.stateErr
  dsimp only
  rw [if_neg (by unfold Id.WHL_W Id.GLB_CFG_CRC_REF Id.CAP_FIELD_CRC_REF; omega),
    if_neg (by unfold Id.WHL_W Id.EMT_EBM_FAST_CAP; omega), if_pos (by omega), h]
  rfl

/-- Settles O13: the commit's decision comes first, then the freeze ends; a stored value is found as the data words, cut. -/
theorem mailboxWriteCommitsOrRefuses : Obligations.MailboxWriteCommitsOrRefuses := by
  unfold Obligations.MailboxWriteCommitsOrRefuses
  intro t p s hreset hfree hdef hrec hpend id m still
  have hd : (s.at t).deferred = [] := by rw [State.at_idle s t hpend]; exact hdef
  have hr : (s.at t).recent = [] := by rw [State.at_idle s t hpend]; exact hrec
  have hmbx (q : Path) : (s.at t).mbx q = s.mbx q := s.at_mbx t q
  have hstill {e : Nat} (h : (s.at t).wideCommit p id (s.mbx p).data.toNat = (s.at t, e)) : still e := by
    refine ⟨_, exec_mbxWrite t p hreset, ?_⟩
    rw [State.mbxWrite_refused hd (by rw [hmbx]; exact h), hmbx]
  have hdone {u : State} (h : (s.at t).wideCommit p id (s.mbx p).data.toNat = (u, 0)) (hu : u.deferred = []) :
      Completes (.mbxWrite t p) s fun w => (w.mbx p).err = 0 ∧ (w.mbx p).valid = false ∧
        Unchanged [.mbxS, .mbxG, .mbxH] u w := by
    refine ⟨_, exec_mbxWrite t p hreset, ?_⟩
    dsimp only
    rw [State.mbxWrite_committed hu (by rw [hmbx]; exact h), State.setMbx_mbx_same]
    exact ⟨rfl, rfl, u.setMbx_unchanged p _⟩
  refine ⟨?_, ?_, ?_, ?_, ?_⟩
  · exact fun hid => hstill (State.wideCommit_unknown hid)
  · exact fun r hid he => hstill (State.wideCommit_path hid he)
  · intro r hid hp he
    have h := State.wideCommit_state (s := s.at t) (v := (s.mbx p).data.toNat) hid hp (by simpa using he)
    rw [State.at_stateErr] at h
    exact hstill h
  · intro r hid hp he hu hw hn hothers
    have hfrozen : (s.at t).isFrozen id = false := by
      refine State.isFrozen_false (fun q v => ?_)
      by_cases hq : q = p
      · simp [hmbx, hq, hfree]
      · simp [hmbx, hothers q hq]
    have hcut : id = Id.CAP_FIELD_CRC_REF → (s.mbx p).data.toNat % 2 ^ r.bits < 2 ^ 32 := by
      intro hc
      have hbits : r.bits = 32 := by
        have : idBits id = r.bits := by simp [idBits, hid]
        rw [← this, hc]
        decide
      rw [hbits]
      exact Nat.mod_lt _ (by decide)
    obtain ⟨herr, hud, hraw⟩ := State.wideWrite_stores (p := p) hr hd hfrozen hcut hu hw hn
    have hcommit := State.wideCommit_permitted (s := s.at t) (v := (s.mbx p).data.toNat) hid hp (by simpa using he)
    obtain ⟨w, hw, hwerr, hvalid, hframe⟩ := hdone (hcommit.trans (Prod.ext rfl herr)) hud
    exact ⟨w, hw, hwerr, hvalid, (hframe.wideRaw (by decide) id).trans hraw⟩
  · intro i hi hid hruns
    have hcommit := State.wideCommit_permitted (s := s.at t) (p := p) (v := (s.mbx p).data.toNat) (idAt_wheelReg i hi)
      (by unfold writeErr Id.SEC_SCFG Id.WHL_W; simp; omega) (State.stateErr_wheelReg hi (by simp [hruns]))
    rw [State.wideWrite_wheelReg _ _ _ hi, ← hid] at hcommit
    obtain ⟨w, hw, hwerr, -, hframe⟩ := hdone hcommit hd
    have hwreg (j : Nat) := ((State.followAll_unchanged _ _ _).trans hframe).wreg (by decide) j
    refine ⟨w, hw, hwerr, ?_, fun j hj => ?_⟩
    · rw [hwreg, State.setW_wreg, if_pos rfl]
    · rw [hwreg, State.setW_wreg, if_neg hj, State.at_wreg]

end Sys2Proof.Machine
end

section
/-! PROOFS. What the write of a C register does beyond the register (R26, R39, R45 to R49): every block's effect stays inside
the blocks; no register, lock, mailbox, pin or mode changes. -/

namespace Sys2Proof.Machine

/-- The parts that the effects of C writes may reach: the blocks, the values they count and the events they record. -/
def blockParts : List Part :=
  [.log, .stat, .wide, .deferred, .recent, .hif, .mem, .cap, .crc, .timers, .clk, .whl, .emt, .str, .lan, .kln, .shf, .glz,
    .pq, .tsu, .coil, .sfe]

theorem Unchanged.blocks {but : List Part} {s u : State} (h : Unchanged but s u) (k : but ⊆ blockParts := by decide) :
    Unchanged blockParts s u := h.mono k

theorem Quiet.blocks {s u : State} (h : Quiet s u) : Unchanged blockParts s u := h.unchanged.blocks

/-! ## Clamps and features -/

theorem State.clampTo_blocks (s : State) (off v a : Nat) (p : Path) : Unchanged blockParts s (s.clampTo off v a p) :=
  .ite (.refl _ _) (State.paramClamp_quiet _ _ _ _).blocks

theorem State.lenTo_blocks (s : State) (off v a : Nat) (p : Path) : Unchanged blockParts s (s.lenTo off v a p) :=
  .ite (.refl _ _) (State.lenClamp_quiet _ _ _ _).blocks

theorem State.resDenied_blocks (s : State) (f r p : Nat) : Unchanged blockParts s (s.resDenied f r p) :=
  (State.event_quiet _ _ _ _).blocks

/-! ## Steering -/

theorem State.strUpdate_blocks (s : State) : Unchanged blockParts s s.strUpdate := by
  unfold State.strUpdate
  exact (Unchanged.thenIf (.refl _ s) (s.setEmt_unchanged _).blocks).trans (State.setStr_unchanged _ _).blocks

theorem State.axEnter_blocks (s : State) (a st : Nat) : Unchanged blockParts s (s.axEnter a st) := by
  unfold State.axEnter
  exact .thenIf (s.setStr_unchanged _).blocks (State.setStr_unchanged _ _).blocks

theorem State.axFault_blocks (s : State) (a r : Nat) : Unchanged blockParts s (s.axFault a r) := by
  unfold State.axFault
  refine Unchanged.trans ((Unchanged.trans ?_ (State.bump_quiet _ _ _).blocks).trans (State.fault_quiet _ _ _ _ _).blocks)
    (State.strUpdate_blocks _)
  exact (s.axEnter_blocks a 4).trans (State.setStr_unchanged _ _).blocks

theorem State.axLeaveOff_blocks (s : State) (a : Nat) : Unchanged blockParts s (s.axLeaveOff a) := by
  unfold State.axLeaveOff
  refine .ite (.ite (s.axFault_blocks a 9) ?_) (.refl _ _)
  exact (Unchanged.thenIf (.refl _ s) (s.setStr_unchanged _).blocks).trans (State.axEnter_blocks _ _ _)

theorem State.axEnable_blocks (s : State) (a : Nat) (on : Bool) : Unchanged blockParts s (s.axEnable a on) := by
  unfold State.axEnable
  have hax (f : Axis → Axis) : Unchanged blockParts s (s.modAx a f) := (s.setStr_unchanged _).blocks
  refine .ite (.ite ((hax _).trans (State.event_quiet _ _ _ _).blocks) ?_) (hax _)
  exact ((hax _).trans (State.axLeaveOff_blocks _ _)).trans (State.strUpdate_blocks _)

theorem State.strWritten_blocks (s : State) (p : Path) (off m : Nat) : Unchanged blockParts s (s.strWritten p off m) := by
  unfold State.strWritten
  refine .ite ?_ (.ite (State.landSp_unchanged _ _ _ _ _ _).blocks (.ite (s.lenTo_blocks _ _ _ _)
    (.ite (.ite (s.clampTo_blocks _ _ _ _) (.refl _ _)) (.ite (s.lenTo_blocks _ _ _ _) (.refl _ _)))))
  exact .thenIf (.thenIf (.refl _ s) (s.axEnable_blocks _ _)) (State.axEnable_blocks _ _ _)

/-! ## Lanes -/

theorem State.lateThr_blocks (s : State) (l : Nat) (b : Option Nat) : Unchanged blockParts s (s.lateThr l b) := by
  unfold State.lateThr
  split
  · exact .ite (s.setLan_unchanged _).blocks (.refl _ _)
  · exact .refl _ _

theorem State.lateRng_blocks (s : State) (l : Nat) (b : Option Nat) : Unchanged blockParts s (s.lateRng l b) := by
  unfold State.lateRng
  split
  · exact .ite (s.setLan_unchanged _).blocks (.refl _ _)
  · exact .refl _ _

theorem State.modLane_blocks (s : State) (l : Nat) (f : Lane → Lane) : Unchanged blockParts s (s.modLane l f) :=
  (s.setLan_unchanged _).blocks

theorem State.landNom_blocks (s : State) (l v a p : Nat) : Unchanged blockParts s (s.landNom l v a p) := by
  unfold State.landNom
  have hlate (c : Prop) [Decidable c] (f : Lane → Lane) (b : Option Nat) :
      Unchanged blockParts s (if c then (s.modLane l f).lateThr l b else s.modLane l f) :=
    .thenIf (s.modLane_blocks l f) (State.lateThr_blocks _ _ _)
  exact .ite (hlate _ _ _) ((hlate _ _ _).trans (State.paramClamp_quiet _ _ _ _).blocks)

theorem State.landGain_blocks (s : State) (l v : Nat) (forced : Bool) (a p : Nat) :
    Unchanged blockParts s (s.landGain l v forced a p) := by
  unfold State.landGain
  have hlate (c : Prop) [Decidable c] (f : Lane → Lane) (b : Option Nat) :
      Unchanged blockParts s (if c then s.modLane l f else (s.modLane l f).lateRng l b) :=
    .ite (s.modLane_blocks l f) ((s.modLane_blocks l f).trans (State.lateRng_blocks _ _ _))
  exact .ite (hlate _ _ _) ((hlate _ _ _).trans (State.paramClamp_quiet _ _ _ _).blocks)

theorem State.landFloor_blocks (s : State) (l v : Nat) : Unchanged blockParts s (s.landFloor l v) :=
  (s.modLane_blocks l _).trans (State.lateThr_blocks _ _ _)

theorem State.landCeil_blocks (s : State) (l v : Nat) : Unchanged blockParts s (s.landCeil l v) :=
  (s.modLane_blocks l _).trans (State.lateThr_blocks _ _ _)

theorem State.lanWritten_blocks (s : State) (p : Path) (off m : Nat) : Unchanged blockParts s (s.lanWritten p off m) := by
  unfold State.lanWritten
  refine .ite ?_ (.ite ?_ (.ite ?_ (.refl _ _)))
  · exact .thenIf (.thenIf (.refl _ s) (s.clampTo_blocks _ _ _ _)) (State.lenTo_blocks _ _ _ _ _)
  · exact .thenIf (.thenIf (.refl _ s) (s.landNom_blocks _ _ _ _)) (State.landGain_blocks _ _ _ _ _ _)
  · exact .thenIf (.thenIf (.refl _ s) (s.landFloor_blocks _ _)) (State.landCeil_blocks _ _ _)

/-! ## Clock, Wheel, emission -/

theorem State.clkWritten_blocks (s : State) (p : Path) (off m : Nat) : Unchanged blockParts s (s.clkWritten p off m) := by
  have hout (n q : Nat) : Unchanged blockParts s (s.outCtl n q) := by
    unfold State.outCtl
    exact (Unchanged.thenIf (.refl _ s) (s.paramClamp_quiet _ _ _).blocks).trans (State.setClk_unchanged _ _).blocks
  unfold State.clkWritten
  exact .ite (.ite (s.clampTo_blocks _ _ _ _) (.refl _ _)) (.ite (s.clampTo_blocks _ _ _ _)
    (.ite (hout _ _) (.ite (s.setClk_unchanged _).blocks (.refl _ _))))

theorem State.whlWritten_blocks (s : State) (p : Path) (off : Nat) : Unchanged blockParts s (s.whlWritten p off) := by
  unfold State.whlWritten
  exact .ite ((s.setWhl_unchanged _).blocks.trans (State.clampTo_blocks _ _ _ _ _)) (.refl _ _)

theorem State.tblSnapshot_blocks (s : State) : Unchanged blockParts s s.tblSnapshot := by
  unfold State.tblSnapshot
  exact .thenIf (.thenIf (s.setEmt_unchanged _).blocks (State.event_quiet _ _ _ _).blocks) (State.event_quiet _ _ _ _).blocks

theorem State.emtDirty_blocks (s : State) : Unchanged blockParts s s.emtDirty := by
  unfold State.emtDirty
  exact .ite (.refl _ _) ((s.setEmt_unchanged _).blocks.trans (State.tblSnapshot_blocks _))

theorem State.emtWritten_blocks (s : State) (p : Path) (off : Nat) (old : BitVec 16) (m : Nat) :
    Unchanged blockParts s (s.emtWritten p off old m) := by
  unfold State.emtWritten
  refine .ite ?_ (.ite ?_ (.ite s.emtDirty_blocks (.ite (s.lenTo_blocks _ _ _ _) (.refl _ _))))
  · exact .thenIf (.thenIf (.refl _ s) (s.setEmt_unchanged _).blocks) (State.setEmt_unchanged _ _).blocks
  · exact (s.clampTo_blocks _ _ _ _).trans (State.emtDirty_blocks _)

/-! ## Kiln, Shelf, Glaze, capture, timestamps -/

theorem State.klnWritten_blocks (s : State) (off m : Nat) : Unchanged blockParts s (s.klnWritten off m) := by
  unfold State.klnWritten
  exact .ite (s.setKln_unchanged _).blocks (.ite (s.setKln_unchanged _).blocks (.refl _ _))

theorem State.shfWritten_blocks (s : State) (p : Path) (off m : Nat) : Unchanged blockParts s (s.shfWritten p off m) := by
  have hdepth (x : State) (v a q : Nat) : Unchanged blockParts x (x.landDepth v a q) :=
    .thenIf (x.setShf_unchanged _).blocks (State.lenClamp_quiet _ _ _ _).blocks
  have hdecay (x : State) (v a q : Nat) : Unchanged blockParts x (x.landDecay v a q) :=
    .thenIf (x.setShf_unchanged _).blocks (State.paramClamp_quiet _ _ _ _).blocks
  unfold State.shfWritten
  exact .ite (.thenIf (.thenIf (.refl _ s) (hdepth _ _ _ _)) (hdecay _ _ _ _)) (.refl _ _)

theorem State.glzWritten_blocks (s : State) (p : Path) (off m : Nat) : Unchanged blockParts s (s.glzWritten p off m) := by
  have hmod (x : State) (k : Nat) (f : Glaze → Glaze) : Unchanged blockParts x (x.modGlaze k f) :=
    (x.setGlz_unchanged _).blocks
  unfold State.glzWritten
  refine .ite (s.clampTo_blocks _ _ _ _) (.ite ?_ (.ite (hmod _ _ _) (.refl _ _)))
  exact .thenIf (.thenIf (.thenIf (.refl _ s) (s.clampTo_blocks _ _ _ _)) (hmod _ _ _)) (hmod _ _ _)

theorem State.capWritten_blocks (s : State) (p : Path) (off m : Nat) : Unchanged blockParts s (s.capWritten p off m) := by
  have hcap (f : Capture → Capture) : Unchanged blockParts s (s.modCap f) := (s.setCap_unchanged _).blocks
  have hen (on : Bool) : Unchanged blockParts s (s.capEnable on) :=
    .ite (.ite (hcap _) (.refl _ _)) (.ite (.refl _ _) (hcap _))
  unfold State.capWritten
  exact .ite (.ite (hen _) (.refl _ _)) (.ite (hcap _) (.ite (s.clampTo_blocks _ _ _ _) (.refl _ _)))

theorem State.tsuWritten_blocks (s : State) (p : Path) (off : Nat) (old : BitVec 16) (m : Nat) :
    Unchanged blockParts s (s.tsuWritten p off old m) := by
  have hgate (x : State) : Unchanged blockParts x x.freqRestart := (x.setTsu_unchanged _).blocks
  have hclamp (c : Prop) [Decidable c] (x : State) (v a : Nat) (hx : Unchanged blockParts s x) :
      Unchanged blockParts s (if c then x.clampTo off v a p else x) := .thenIf hx (x.clampTo_blocks _ _ _ _)
  unfold State.tsuWritten
  refine .ite ?_ (.ite (s.clampTo_blocks _ _ _ _) (.ite ((s.clampTo_blocks _ _ _ _).trans (hgate _))
    (.ite ((s.clampTo_blocks _ _ _ _).trans (hgate _)) (.ite ?_ (.refl _ _)))))
  · refine .thenIf (.thenIf (.thenIf ?_ (State.setTsu_unchanged _ _).blocks) (State.resDenied_blocks _ _ _ _))
      (State.resDenied_blocks _ _ _ _)
    exact hclamp _ _ _ _ (hclamp _ _ _ _ (.refl _ _))
  · exact .thenIf (hclamp _ _ _ _ (.refl _ _)) (State.resDenied_blocks _ _ _ _)

/-! ## The Coil -/

theorem State.modCoil_blocks (s : State) (f : Coil → Coil) : Unchanged blockParts s (s.modCoil f) :=
  (s.setCoil_unchanged _).blocks

theorem State.coilSend_blocks (s : State) (x : CoilPkt) : Unchanged blockParts s (s.coilSend x) :=
  .ite (s.modCoil_blocks _) (.refl _ _)

theorem State.coilOut_blocks (s : State) (port cls typ dst : Nat) (l : List (BitVec 128)) :
    Unchanged blockParts s (s.coilOut port cls typ dst l) :=
  (s.coilSend_blocks _).trans (State.modCoil_blocks _ _)

theorem State.coilTo_blocks (s : State) (cls typ dst : Nat) (l : List (BitVec 128)) :
    Unchanged blockParts s (s.coilTo cls typ dst l) := by
  unfold State.coilTo
  split
  · exact s.coilOut_blocks _ _ _ _ _
  · exact .refl _ _

theorem State.coilBcast_blocks (s : State) (cls typ : Nat) (l : List (BitVec 128)) :
    Unchanged blockParts s (s.coilBcast cls typ l) := by
  unfold State.coilBcast
  refine Unchanged.trans (Unchanged.trans ?_ (State.coilSend_blocks _ _)) (State.modCoil_blocks _ _)
  exact .ite (.refl _ s) (s.coilSend_blocks _)

theorem State.coilReport_blocks (s : State) (a w f o : Nat) : Unchanged blockParts s (s.coilReport a w f o) := by
  unfold State.coilReport
  exact .thenIf ((s.putWide_quiet _ _).blocks.trans (State.modCoil_blocks _ _)) (State.event_quiet _ _ _ _).blocks

theorem State.coilStatus_blocks (s : State) : Unchanged blockParts s s.coilStatus := by
  unfold State.coilStatus
  refine .ite ((s.modCoil_blocks _).trans (.ite (State.coilReport_blocks _ _ _ _ _) (State.coilTo_blocks _ _ _ _ _)))
    (.refl _ _)

theorem State.coilAlignSet_blocks (s : State) (st : Nat) : Unchanged blockParts s (s.coilAlignSet st) := by
  have hevent (x : State) (b : Nat) (i : Info) : Unchanged blockParts x (x.event Reg.COIL_STAT b i) :=
    (x.event_quiet _ _ _).blocks
  have hshown (x : State) (i j : Info) : Unchanged blockParts x
      (if st = 2 then x.event Reg.COIL_STAT 6 i else if st = 4 then x.event Reg.COIL_STAT 7 j else x) :=
    .ite (hevent _ _ _) (.ite (hevent _ _ _) (.refl _ _))
  unfold State.coilAlignSet
  refine .ite (.refl _ _) (Unchanged.trans ?_ (State.coilStatus_blocks _))
  exact (s.modCoil_blocks _).trans (hshown _ _ _)

theorem State.coilAcquire_blocks (s : State) : Unchanged blockParts s s.coilAcquire :=
  (s.modCoil_blocks _).trans (State.coilAlignSet_blocks _ _)

theorem State.coilCheck_blocks (s : State) : Unchanged blockParts s s.coilCheck := by
  unfold State.coilCheck
  exact .ite (.ite (.refl _ _) ((s.modCoil_blocks _).trans (State.coilAlignSet_blocks _ _)))
    (.ite (s.coilAlignSet_blocks _) (.ite s.coilAcquire_blocks (.refl _ _)))

theorem State.coilTake_blocks (s : State) (ring : Bool) (l : List Nat) (a : Nat) :
    Unchanged blockParts s (s.coilTake ring l a) := by
  have hevent (x : State) (b : Nat) (i : Info) : Unchanged blockParts x (x.event Reg.COIL_STAT b i) :=
    (x.event_quiet _ _ _).blocks
  unfold State.coilTake
  refine Unchanged.trans ?_ (State.coilCheck_blocks _)
  refine .thenIf (.thenIf ?_ (hevent _ _ _)) ((State.setPq_unchanged _ _).blocks.trans (hevent _ _ _))
  exact ((s.modCoil_blocks _).trans (State.putWide_quiet _ _ _).blocks).trans (hevent _ _ _)

theorem State.coilEnumDone_blocks (s : State) (ring : Bool) (mask : BitVec 16) (l : List Nat) :
    Unchanged blockParts s (s.coilEnumDone ring mask l) := by
  have hevent (x : State) (b : Nat) (i : Info) : Unchanged blockParts x (x.event Reg.COIL_STAT b i) :=
    (x.event_quiet _ _ _).blocks
  unfold State.coilEnumDone
  refine .ite ((s.modCoil_blocks _).trans (hevent _ _ _)) ?_
  refine Unchanged.trans ?_ (.foldl _ _ (fun x a => x.coilTo_blocks _ _ _ _) _)
  refine Unchanged.trans ((Unchanged.thenIf ?_ (hevent _ _ _)).trans (State.coilTake_blocks _ _ _ _))
    (State.coilStatus_blocks _)
  exact (s.modCoil_blocks _).trans (State.coilBcast_blocks _ _ _ _)

theorem State.coilPhase2_blocks (s : State) (mask : BitVec 16) (l : List Nat) :
    Unchanged blockParts s (s.coilPhase2 mask l) := by
  unfold State.coilPhase2
  refine (s.modCoil_blocks _).trans (.ite ?_ (State.coilEnumDone_blocks _ _ _ _))
  exact (State.modCoil_blocks _ _).trans (State.coilOut_blocks _ _ _ _ _ _)

theorem State.coilEnum_blocks (s : State) : Unchanged blockParts s s.coilEnum := by
  unfold State.coilEnum
  exact .ite (.refl _ _) ((s.modCoil_blocks _).trans
    (.ite (State.coilOut_blocks _ _ _ _ _ _) (State.coilPhase2_blocks _ _ _)))

theorem State.coilWritten_blocks (s : State) (p : Path) (off : Nat) (old : BitVec 16) :
    Unchanged blockParts s (s.coilWritten p off old) := by
  unfold State.coilWritten
  refine .ite (.thenIf (.thenIf ?_ (State.resDenied_blocks _ _ _ _)) (State.coilEnum_blocks _)) (.refl _ _)
  exact (Unchanged.thenIf (.refl _ s) (s.modCoil_blocks _)).trans (State.coilCheck_blocks _)

/-! ## Sensor front end, windows, timers, and all blocks together -/

theorem State.sfeCheck_blocks (s : State) : Unchanged blockParts s s.sfeCheck := by
  have hsfe (x : State) (f : Sfe → Sfe) : Unchanged blockParts x (x.modSfe f) := (x.setSfe_unchanged _).blocks
  have hafter (i : Nat) : Unchanged blockParts s (s.sfeAfter i) := by
    unfold State.sfeAfter
    dsimp only
    split
    · exact (hsfe _ _).trans (hsfe _ _)
    · exact hsfe _ _
  unfold State.sfeCheck
  exact .ite (.ite (.refl _ _) (hafter _)) (.ite (hsfe _ _) (.refl _ _))

theorem State.sfeWritten_blocks (s : State) (p : Path) (off m : Nat) : Unchanged blockParts s (s.sfeWritten p off m) := by
  unfold State.sfeWritten
  refine .ite (s.setSfe_unchanged _).blocks (.ite (.thenIf (.refl _ _) (s.clampTo_blocks _ _ _ _))
    (.ite s.sfeCheck_blocks (.ite ?_ (.ite (s.clampTo_blocks _ _ _ _) (.ite ?_ (.refl _ _))))))
  · exact (Unchanged.thenIf (.refl _ s) (s.clampTo_blocks _ _ _ _)).trans (State.sfeCheck_blocks _)
  · exact (Unchanged.thenIf (.refl _ s) (s.lenTo_blocks _ _ _ _)).trans (State.sfeCheck_blocks _)

theorem State.windowWritten_blocks (s : State) (p : Path) (off : Nat) : Unchanged blockParts s (s.windowWritten p off) := by
  unfold State.windowWritten
  exact .ite (s.clampTo_blocks _ _ _ _) (.ite s.emtDirty_blocks (.refl _ _))

theorem State.glbWritten_blocks (s : State) (off : Nat) (old : BitVec 16) :
    Unchanged blockParts s (s.glbWritten off old) := by
  unfold State.glbWritten
  exact .ite (s.timerCheck_unchanged _ _).blocks (.ite (.ite (s.setCrc_unchanged _).blocks (.refl _ _)) (.refl _ _))

/-- What a C write does beyond the register stays inside the blocks. -/
theorem State.cWritten_blocks (s : State) (p : Path) (off : Nat) (old : BitVec 16) (m : Nat) :
    Unchanged blockParts s (s.cWritten p off old m) := by
  unfold State.cWritten
  split
  · exact s.glbWritten_blocks _ _
  · exact s.clkWritten_blocks _ _ _
  · exact s.whlWritten_blocks _ _
  · exact s.emtWritten_blocks _ _ _ _
  · exact s.strWritten_blocks _ _ _
  · exact s.lanWritten_blocks _ _ _
  · exact s.klnWritten_blocks _ _
  · exact s.shfWritten_blocks _ _ _
  · exact s.glzWritten_blocks _ _ _
  · exact s.capWritten_blocks _ _ _
  · exact s.tsuWritten_blocks _ _ _ _
  · exact s.coilWritten_blocks _ _ _
  · exact s.sfeWritten_blocks _ _ _
  · exact .refl _ _
  · exact .refl _ _
  · exact .refl _ _
  · exact .refl _ _
  · exact .refl _ _
  · exact .refl _ _
  · exact s.windowWritten_blocks _ _

end Sys2Proof.Machine
end

section
/-! PROOFS. Writes of C registers (R8, R25, R26): the masked merge, the writes of one PCLK cycle, and the register map after
a write. -/

namespace Sys2Proof.Machine

/-! ## The masked merge (R26) -/

/-- Bit by bit: the word's bit where its mask bit is 1 and the bit is implemented, the old bit elsewhere. -/
theorem bitOf_cMerge (old : BitVec 16) (impl : Nat) (val : Word) {n : Nat} (hn : n < 16) :
    bitOf (cMerge old impl val).toNat n =
      if bitOf val.toNat (n + 16) && bitOf impl n then bitOf val.toNat n else bitOf old.toNat n := by
  have hval (i : Nat) : val.toNat.testBit i = val.getLsbD i := BitVec.testBit_toNat val
  have hold : old.toNat.testBit n = old.getLsbD n := BitVec.testBit_toNat old
  unfold bitOf
  rw [BitVec.testBit_toNat, hval, hval, hold]
  simp only [cMerge, BitVec.getLsbD_or, BitVec.getLsbD_and, BitVec.getLsbD_not, BitVec.getLsbD_extractLsb',
    BitVec.getLsbD_ofNat, hn, decide_true, Bool.true_and, Nat.zero_add, Nat.add_comm 16 n]
  cases val.getLsbD (n + 16) <;> cases impl.testBit n <;> simp

theorem bitOf_mask (val impl : Nat) {n : Nat} (hn : n < 16) :
    bitOf (bitsOf val 31 16 &&& impl) n = (bitOf val (n + 16) && bitOf impl n) := by
  unfold bitOf bitsOf
  rw [Nat.testBit_and, Nat.testBit_mod_two_pow, Nat.testBit_shiftRight, Nat.add_comm 16 n]
  simp [hn]

/-- A mask without an implemented bit merges nothing. -/
theorem cMerge_zero {old : BitVec 16} {impl : Nat} {val : Word} (h : bitsOf val.toNat 31 16 &&& impl = 0) :
    cMerge old impl val = old := by
  apply BitVec.eq_of_getLsbD_eq
  intro n hn
  have hbit := bitOf_cMerge old impl val hn
  rw [← bitOf_mask val.toNat impl hn, h] at hbit
  simpa [bitOf, BitVec.testBit_toNat] using hbit

/-! ## The writes of one cycle (R25) -/

/-- The writes of `off` that the present PCLK cycle has brought so far, in the order in which they came. -/
def State.cycleWrites (s : State) (off : Nat) : List RegWr :=
  (s.lastWrites.filter (fun w => s.sameCycle w.at_ s.now)).filter (fun w => decide (w.off = off))

theorem State.cycleWrites_nil {s : State} {off : Nat} :
    s.cycleWrites off = [] ↔
      s.lastWrites.find? (fun w => decide (w.off = off) && s.sameCycle w.at_ s.now) = none := by
  simp only [State.cycleWrites, List.filter_filter, List.filter_eq_nil_iff, List.find?_eq_none]

/-- The value before the cycle's writes is the one that the first of them found. -/
theorem State.regBefore_eq (s : State) (off : Nat) :
    s.regBefore off = ((s.cycleWrites off).head?.map RegWr.old).getD (s.reg off) := by
  unfold State.regBefore State.cycleWrites
  rw [List.filter_filter, List.head?_filter]
  split <;> simp [*]

theorem Unchanged.cycleWrites {but : List Part} {s u : State} (h : Unchanged but s u) (hl : Part.lastWrites ∉ but)
    (hc : Part.clk ∉ but) (hn : Part.now ∉ but) (off : Nat) : u.cycleWrites off = s.cycleWrites off := by
  have hwrites : u.lastWrites = s.lastWrites := h .lastWrites hl
  simp only [State.cycleWrites, hwrites, h.now hn, h.sameCycle hc]

/-- A write as the cycle records it. -/
def State.writeOf (s : State) (off : Nat) (val : Word) (p : Path) : RegWr :=
  { off, at_ := s.now, path := p, old := s.regBefore off, val }

theorem State.cWrite_unchanged (s : State) (off : Nat) (val : Word) (p : Path) :
    Unchanged [.crc, .regs, .lastWrites] s (s.cWrite off val p) := by
  unfold State.cWrite
  split
  · exact ((s.setReg_unchanged off _).mono (by decide)).trans ((State.setLastWrites_unchanged _ _).mono (by decide))
  · exact .refl _ _

/-- A write joins those of its cycle. -/
theorem State.cWrite_cycleWrites {s : State} {off : Nat} {r : Row} (hm : rowAt off = some r) (val : Word) (p : Path) :
    (s.cWrite off val p).cycleWrites off = s.cycleWrites off ++ [s.writeOf off val p] := by
  have hframe := s.cWrite_unchanged off val p
  have hwrites : (s.cWrite off val p).lastWrites =
      s.lastWrites.filter (fun w => s.sameCycle w.at_ s.now) ++ [s.writeOf off val p] := by
    unfold State.cWrite
    rw [hm]
    rfl
  have hself : s.sameCycle s.now s.now = true := by simp [State.sameCycle]
  unfold State.cycleWrites
  simp [hwrites, hframe.now (by decide), hframe.sameCycle (by decide), hself, State.writeOf, List.filter_filter]

/-- The register ends with the cycle's writes of it, applied in the order of R25 to the value before them. -/
theorem State.cWrite_reg {s : State} {off : Nat} {r : Row} (hm : rowAt off = some r) (val : Word) (p : Path) (o : Nat) :
    (s.cWrite off val p).reg o = if o = off
      then (pathOrder (s.cycleWrites off ++ [s.writeOf off val p])).foldl (fun v w => cMerge v r.mask w.val)
        (s.regBefore off)
      else s.reg o := by
  have hlist : (s.lastWrites.filter (fun w => s.sameCycle w.at_ s.now) ++ [s.writeOf off val p]).filter
      (fun w => decide (w.off = off)) = s.cycleWrites off ++ [s.writeOf off val p] := by
    simp [State.cycleWrites, State.writeOf]
  rw [← hlist, ← State.setReg_reg]
  unfold State.cWrite
  rw [hm]
  rfl

theorem pathOrder_single (a : RegWr) : pathOrder [a] = [a] := by
  cases h : a.path <;> simp [pathOrder, h]

/-- Of two writes, that of the path earlier in the order of R25 applies first. -/
theorem pathOrder_pair {a b : RegWr} (h : pathCode a.path < pathCode b.path) :
    pathOrder [a, b] = [a, b] ∧ pathOrder [b, a] = [a, b] := by
  have horder : (a.path = .saggar ∧ b.path = .greenware) ∨ (a.path = .saggar ∧ b.path = .host) ∨
      (a.path = .greenware ∧ b.path = .host) := by
    revert h
    cases a.path <;> cases b.path <;> decide
  obtain ⟨ha, hb⟩ | ⟨ha, hb⟩ | ⟨ha, hb⟩ := horder <;> simp [pathOrder, ha, hb]

section
variable {s : State} {off : Nat} {r : Row}

/-- The first write of its cycle merges into the register's value. -/
theorem State.cWrite_reg_first (hm : rowAt off = some r) (h : s.cycleWrites off = []) (val : Word) (p : Path) (o : Nat) :
    (s.cWrite off val p).reg o = if o = off then cMerge (s.reg off) r.mask val else s.reg o := by
  rw [State.cWrite_reg hm, State.regBefore_eq, h, List.nil_append, pathOrder_single]
  rfl

/-- The second write of a cycle: both apply to the value before the first, in the order of R25. -/
theorem State.cWrite_reg_second (hm : rowAt off = some r) (h : s.cycleWrites off = []) (v w : Word) (p q : Path) :
    ∃ a b : RegWr, (a.path = p ∧ a.val = v) ∧ (b.path = q ∧ b.val = w) ∧
      ((s.cWrite off v p).cWrite off w q).reg off =
        (pathOrder [a, b]).foldl (fun v w => cMerge v r.mask w.val) (s.reg off) := by
  have hone : (s.cWrite off v p).cycleWrites off = [s.writeOf off v p] := by
    rw [State.cWrite_cycleWrites hm, h, List.nil_append]
  have hbefore : (s.cWrite off v p).regBefore off = s.reg off := by
    rw [State.regBefore_eq, hone]
    change s.regBefore off = s.reg off
    rw [State.regBefore_eq, h]
    rfl
  refine ⟨s.writeOf off v p, (s.cWrite off v p).writeOf off w q, ⟨rfl, rfl⟩, ⟨rfl, rfl⟩, ?_⟩
  rw [State.cWrite_reg hm, if_pos rfl, hone, hbefore]
  rfl

/-- Whichever of two writes comes first, that of the earlier path applies first and the other on top. -/
theorem State.cWrite_pair (hm : rowAt off = some r) (h : s.cycleWrites off = []) (v w : Word) {p q : Path}
    (hpq : pathCode p < pathCode q) :
    ((s.cWrite off v p).cWrite off w q).reg off = cMerge (cMerge (s.reg off) r.mask v) r.mask w ∧
      ((s.cWrite off w q).cWrite off v p).reg off = cMerge (cMerge (s.reg off) r.mask v) r.mask w := by
  obtain ⟨a, b, ⟨hap, hav⟩, ⟨hbq, hbw⟩, hab⟩ := State.cWrite_reg_second hm h v w p q
  obtain ⟨c, d, ⟨hcq, hcw⟩, ⟨hdp, hdv⟩, hcd⟩ := State.cWrite_reg_second hm h w v q p
  rw [hab, hcd, (pathOrder_pair (by rw [hap, hbq]; exact hpq)).1, (pathOrder_pair (by rw [hdp, hcq]; exact hpq)).2]
  simp [hav, hbw, hcw, hdv]

end

/-! ## The whole write of a C register -/

/-- A C register whose write has no command row of its own: not the mailbox selection, the mode target, a Cone level or
a ring's CTL or RD. -/
structure PlainC (off : Nat) : Prop where
  notSel : off ≠ Reg.GLB_MBX_SEL
  notMode : off ≠ Reg.GLB_MODE_TARGET
  notCone : off / 0x100000 ≠ 15
  notCtl : isRingReg off 0 = false
  notRd : isRingReg off 8 = false

theorem State.cRegWrite_zero {s : State} {off : Nat} {r : Row} {val : Word} (p : Path)
    (h : bitsOf val.toNat 31 16 &&& r.mask = 0) : s.cRegWrite p off r val = s := if_pos h

theorem State.egoKeep_unchanged (s : State) (off : Nat) : Unchanged [.shf] s (s.egoKeep off) := by
  unfold State.egoKeep
  split
  · exact .refl _ _
  · exact s.setShf_unchanged _

/-- A write that merges bits into a plain C register is the register's own write between two effects on the blocks. -/
theorem State.cRegWrite_plain {s : State} {p : Path} {off : Nat} {r : Row} {val : Word} (hp : PlainC off)
    (h : bitsOf val.toNat 31 16 &&& r.mask ≠ 0) :
    ∃ x, Unchanged [.shf] s x ∧ Unchanged blockParts (x.cWrite off val p) (s.cRegWrite p off r val) := by
  obtain ⟨hsel, hmode, hcone, hctl, hrd⟩ := hp
  unfold State.cRegWrite
  dsimp only
  rw [if_neg h, if_neg hsel, if_neg hmode, if_neg hcone, if_neg (by simp [hctl]), if_neg (by simp [hrd])]
  exact ⟨_, .thenIf (.refl _ s) (s.egoKeep_unchanged off), State.cWritten_blocks _ _ _ _ _⟩

/-- The first write of a plain C register in its cycle: the merge, no other register, and the same reach. -/
theorem State.cRegWrite_first {s : State} {p : Path} {off : Nat} {r : Row} (hp : PlainC off) (hm : rowAt off = some r)
    (hfirst : s.cycleWrites off = []) (val : Word) :
    (∀ o, (s.cRegWrite p off r val).reg o = if o = off then cMerge (s.reg off) r.mask val else s.reg o) ∧
      ∀ o, (s.cRegWrite p off r val).reaches o = s.reaches o := by
  by_cases h : bitsOf val.toNat 31 16 &&& r.mask = 0
  · rw [State.cRegWrite_zero p h, cMerge_zero h]
    refine ⟨fun o => ?_, fun _ => rfl⟩
    split
    · subst o; rfl
    · rfl
  · obtain ⟨x, hx, hu⟩ := State.cRegWrite_plain (p := p) (s := s) hp h
    have hregs : ∀ o, x.reg o = s.reg o := hx.reg (by decide)
    constructor
    · intro o
      rw [hu.reg (by decide), State.cWrite_reg_first hm (by rw [hx.cycleWrites (by decide) (by decide) (by decide), hfirst]),
        hregs, hregs]
    · intro o
      rw [hu.reaches (by decide) (by decide), (x.cWrite_unchanged off val p).reaches (by decide) (by decide),
        hx.reaches (by decide) (by decide)]

/-- GLB_MBX_SEL is each path's own: a write of it merges into the mailbox of the writing path (R33). -/
theorem State.cRegWrite_sel (s : State) (p : Path) (r : Row) (val : Word) :
    s.cRegWrite p Reg.GLB_MBX_SEL r val = s.setMbx p { s.mbx p with sel := cMerge (s.mbx p).sel r.mask val } := by
  unfold State.cRegWrite
  dsimp only
  by_cases h : bitsOf val.toNat 31 16 &&& r.mask = 0
  · rw [if_pos h, cMerge_zero h]
    cases p <;> rfl
  · rw [if_neg h, if_pos rfl]

theorem permitted_sel {s : State} (p : Path) (h : s.pins.inReset = false) :
    Permitted s p Reg.GLB_MBX_SEL (row .c 0x0000100 0xFFFF 0x0 0) where
  inBar := by decide
  aligned := by decide
  reached := by simp [State.reaches, h, Reg.GLB_MBX_SEL]
  mapped := by decide
  path := rfl
  unlocked := by simp [State.guardLocks, row, Reg.GLB_MBX_SEL, Reg.CAP_GUARD_CTL]

/-- Settles O5: a write merges under its mask, its further effects stay inside the blocks, and the writes of one cycle apply
in the order of R25. -/
theorem maskedWriteChangesTheMaskedBits : Obligations.MaskedWriteChangesTheMaskedBits := by
  unfold Obligations.MaskedWriteChangesTheMaskedBits
  refine ⟨⟨?_, ?_, ?_⟩, ?_⟩
  · intro t p off val s r hb ha hr hm hc hpath hg hsel hmode hcone hctl hrd hfind
    have h : Permitted s p off r := ⟨hb, ha, hr, hm, hpath, hg⟩
    have hfirst : (s.at t).cycleWrites off = [] := State.cycleWrites_nil.mpr (by simpa using hfind)
    obtain ⟨hreg, hreach⟩ := State.cRegWrite_first (p := p) ⟨hsel, hmode, hcone, hctl, hrd⟩ hm hfirst val
    simp only [State.at_reg] at hreg
    refine ⟨_, h.registerWrite t val, ?_⟩
    rw [State.typeWrite_c hc]
    refine ⟨fun n hn => ?_, fun o ho => ?_, ?_⟩
    · rw [hreg, if_pos rfl, bitOf_cMerge _ _ _ hn]
    · rw [hreg, if_neg (by simpa using ho)]
    · exact State.readReg_c p (by simp [hreach, hr]) hm hc hsel
  · intro t p off val s r hb ha hr hm hc hpath hg hzero
    have h : Permitted s p off r := ⟨hb, ha, hr, hm, hpath, hg⟩
    refine ⟨_, h.registerWrite t val, ?_⟩
    rw [State.typeWrite_c hc]
    exact State.cRegWrite_zero p (by rw [hzero, Nat.zero_and])
  · intro t p val s hreset
    refine ⟨_, (permitted_sel p hreset).registerWrite t val, ?_⟩
    rw [State.typeWrite_c rfl, State.cRegWrite_sel]
    dsimp only
    rw [State.setMbx_mbx_same, State.at_mbx]
    exact ⟨rfl, fun q hq => by rw [State.setMbx_mbx_ne _ _ hq, State.at_mbx], State.setMbx_unchanged _ p _⟩
  · intro s off r v w p q hm hpq hfind
    exact State.cWrite_pair hm (State.cycleWrites_nil.mpr hfind) v w hpq

end Sys2Proof.Machine
end

section
/-! PROOFS. Events that an S register shows (R28), and the relation of states between which the clock system stands still. -/

namespace Sys2Proof.Machine

/-! ## The events that an S register shows -/

/-- Flag `b` is recorded or held. -/
def SReg.shows (r : SReg) (b : Nat) : Prop := bitOf r.flags.toNat b = true ∨ bitOf r.held.toNat b = true

/-- Recording the held events that are due shows no other flags. -/
theorem SReg.settle_shows (p now : Nat) (r : SReg) (b : Nat) : (r.settle p now).shows b ↔ r.shows b := by
  unfold SReg.settle
  split
  · split
    · simp [SReg.shows, bitOf]
    · rfl
  · rfl

/-- An event shows its own flags and those shown before it. -/
theorem SReg.record_shows (p now : Nat) (f : BitVec 16) (r : SReg) (b : Nat) :
    (r.record p now f).shows b ↔ r.shows b ∨ bitOf f.toNat b = true := by
  unfold SReg.record
  split
  · split
    · simp [SReg.shows, bitOf, or_right_comm]
    · split
      · simp [SReg.shows, bitOf, or_assoc]
      · simp [SReg.shows, bitOf, or_right_comm]
  · simp [SReg.shows, bitOf, or_right_comm]

theorem State.shows_iff (s : State) (off b : Nat) : s.shows off b ↔ (fget {} s.stat off).shows b :=
  SReg.settle_shows _ _ _ _

theorem State.shows_of_stat {s u : State} (h : u.stat = s.stat) (off b : Nat) : u.shows off b ↔ s.shows off b := by
  rw [State.shows_iff, State.shows_iff, h]

@[simp] theorem State.modClk_shows (s : State) (f : Clock → Clock) (off b : Nat) :
    (s.modClk f).shows off b ↔ s.shows off b :=
  State.shows_of_stat (s.modClk_stat f) off b

theorem State.raise_stat (s : State) (off : Nat) (f : BitVec 16) :
    (s.raise off f).stat = fset {} s.stat off ((s.sreg off).record s.pclk s.now f) := by
  unfold State.raise
  dsimp only
  split
  · rfl
  · split
    · exact State.signal_unchanged _ _ .stat (by decide)
    · rfl

theorem State.raise_shows (s : State) (off : Nat) (f : BitVec 16) (o b : Nat) :
    (s.raise off f).shows o b ↔ s.shows o b ∨ (o = off ∧ bitOf f.toNat b = true) := by
  rw [State.shows_iff, State.raise_stat]
  by_cases h : o = off
  · subst h
    rw [fget_fset_same, SReg.record_shows]
    simp [State.shows, SReg.shows]
  · rw [fget_fset_ne _ _ _ _ h, ← State.shows_iff]
    simp [h]

theorem State.logPush_shows (s : State) (e : LogEntry) (o b : Nat) : (s.logPush e).shows o b ↔ s.shows o b :=
  State.shows_of_stat (State.logPush_unchanged _ _ .stat (by decide)) o b

theorem bitOf_flag16 {b : Nat} (h : b < 16) : bitOf (flag16 b).toNat b = true := by
  rw [bitOf, flag16, BitVec.toNat_ofNat, Nat.testBit_mod_two_pow, Nat.testBit_two_pow_self]
  simpa using h

/-- An event shows its flag. -/
theorem State.event_shows (s : State) (off : Nat) {b : Nat} (h : b < 16) (i : Info) : (s.event off b i).shows off b :=
  (State.logPush_shows _ _ _ _).mpr ((State.raise_shows _ _ _ _ _).mpr (.inr ⟨rfl, bitOf_flag16 h⟩))

/-! ## What leaves the clock system as it is -/

/-- `u` follows `s` with the tick, the pins, the registers and the clock system as they were, the clock outputs and the
reference of the SerDes PLLs apart, and shows every event that `s` shows. -/
structure KeepsClock (s u : State) : Prop where
  now : u.now = s.now
  pins : u.pins = s.pins
  regs : u.regs = s.regs
  clk : u.clk = { s.clk with outs := u.clk.outs, serdesRef := u.clk.serdesRef }
  shows : ∀ off b, s.shows off b → u.shows off b

namespace KeepsClock

/-- A change of other parts. -/
theorem of_same {s u : State} (h : (u.now, u.pins, u.regs, u.clk, u.stat) = (s.now, s.pins, s.regs, s.clk, s.stat)) :
    KeepsClock s u := by
  simp only [Prod.mk.injEq] at h
  obtain ⟨hnow, hpins, hregs, hclk, hstat⟩ := h
  exact ⟨hnow, hpins, hregs, by rw [hclk], fun off b => (State.shows_of_stat hstat off b).mpr⟩

theorem refl (s : State) : KeepsClock s s := of_same rfl

theorem trans {a b c : State} (h : KeepsClock a b) (k : KeepsClock b c) : KeepsClock a c where
  now := k.now.trans h.now
  pins := k.pins.trans h.pins
  regs := k.regs.trans h.regs
  clk := by rw [k.clk, h.clk]
  shows off b hb := k.shows off b (h.shows off b hb)

theorem ite {s x y : State} {c : Prop} [Decidable c] (hx : KeepsClock s x) (hy : KeepsClock s y) :
    KeepsClock s (if c then x else y) := by
  split
  · exact hx
  · exact hy

/-- A further step that is taken under a condition only. -/
theorem thenIf {s x y : State} {c : Prop} [Decidable c] (hx : KeepsClock s x) (hy : KeepsClock x y) :
    KeepsClock s (if c then y else x) := ite (hx.trans hy) hx

theorem forN {n : Nat} {f : State → Nat → State} (h : ∀ s k, KeepsClock s (f s k)) (s : State) :
    KeepsClock s (forN n s f) := by
  unfold Machine.forN
  induction List.range n generalizing s with
  | nil => exact refl s
  | cons k l ih => exact (h s k).trans (ih _)

section
variable {s u : State} (h : KeepsClock s u)
include h

theorem state : u.clk.state = s.clk.state := by rw [h.clk]
theorem band : u.clk.band = s.clk.band := by rw [h.clk]
theorem refPresent : u.clk.refPresent = s.clk.refPresent := by rw [h.clk]
theorem failReason : u.clk.failReason = s.clk.failReason := by rw [h.clk]
theorem lockStarted : u.clk.lockStarted = s.clk.lockStarted := by rw [h.clk]
theorem seqAt : u.clk.seqAt = s.clk.seqAt := by rw [h.clk]
theorem jump : u.clk.jump = s.clk.jump := by rw [h.clk]
theorem realignFire : u.clk.realignFire = s.clk.realignFire := by rw [h.clk]

end

end KeepsClock
end Sys2Proof.Machine
end

section
/-! PROOFS. What stands beside the clock system: events, faults, the Coil's reports and the entry into SAFE leave it as it is. -/

namespace Sys2Proof.Machine

/-! ## Records, values, faults -/

theorem State.raise_keepsClock (s : State) (off : Nat) (f : BitVec 16) : KeepsClock s (s.raise off f) where
  now := s.raise_now off f
  pins := s.raise_pins off f
  regs := s.raise_regs off f
  clk := by rw [s.raise_clk]
  shows o b h := (s.raise_shows off f o b).mpr (.inl h)

theorem State.logPush_keepsClock (s : State) (e : LogEntry) : KeepsClock s (s.logPush e) :=
  .of_same (by rw [s.logPush_now, s.logPush_pins, s.logPush_regs, s.logPush_clk,
    State.logPush_unchanged _ _ .stat (by decide)])

theorem State.event_keepsClock (s : State) (off b : Nat) (i : Info) : KeepsClock s (s.event off b i) :=
  (s.raise_keepsClock _ _).trans (State.logPush_keepsClock _ _)

theorem State.updWide_keepsClock (s : State) (id : Nat) (u : WideUpd) : KeepsClock s (s.updWide id u) :=
  .ite (.of_same rfl) (.of_same rfl)

theorem State.bump_keepsClock (s : State) (id n : Nat) : KeepsClock s (s.bump id n) :=
  .ite (.refl s) (s.updWide_keepsClock _ _)

theorem State.capCond_keepsClock (s : State) (a u f : Nat) (i : Bool) (d : Nat) : KeepsClock s (s.capCond a u f i d) :=
  .ite (.of_same rfl) (.refl s)

theorem State.faultEntry_keepsClock (s : State) (c : Nat) (i : Info) : KeepsClock s (s.faultEntry c i) :=
  (s.logPush_keepsClock _).trans (State.raise_keepsClock _ _ _)

theorem State.faultCe_keepsClock (s : State) (c : Nat) (i : Info) : KeepsClock s (s.faultCe c i) := by
  have hlog (l : FaultLog) : KeepsClock s { s with log := l } := .of_same rfl
  unfold State.faultCe
  exact .ite (((hlog _).trans (State.logPush_keepsClock _ _)).trans (State.raise_keepsClock _ _ _))
    ((hlog _).trans (State.bump_keepsClock _ _ _))

theorem State.fault_keepsClock (s : State) (c off : Nat) (f : BitVec 16) (i : Info) : KeepsClock s (s.fault c off f i) :=
  (s.raise_keepsClock _ _).trans (.ite (State.faultCe_keepsClock _ _ _) (State.faultEntry_keepsClock _ _ _))

/-! ## The Coil -/

theorem State.modCoil_keepsClock (s : State) (f : Coil → Coil) : KeepsClock s (s.modCoil f) := .of_same rfl

theorem State.coilSend_keepsClock (s : State) (x : CoilPkt) : KeepsClock s (s.coilSend x) :=
  .ite (s.modCoil_keepsClock _) (.refl s)

theorem State.coilOut_keepsClock (s : State) (port cls typ dst : Nat) (l : List (BitVec 128)) :
    KeepsClock s (s.coilOut port cls typ dst l) := by
  unfold State.coilOut State.coilSeqUsed
  exact (s.coilSend_keepsClock _).trans (State.modCoil_keepsClock _ _)

theorem State.coilTo_keepsClock (s : State) (cls typ dst : Nat) (l : List (BitVec 128)) :
    KeepsClock s (s.coilTo cls typ dst l) := by
  unfold State.coilTo
  split
  · exact s.coilOut_keepsClock _ _ _ _ _
  · exact .refl s

theorem State.coilReport_keepsClock (s : State) (a w f o : Nat) : KeepsClock s (s.coilReport a w f o) := by
  unfold State.coilReport
  exact .thenIf ((s.updWide_keepsClock _ _).trans (State.modCoil_keepsClock _ _)) (State.event_keepsClock _ _ _ _)

theorem State.coilStatus_keepsClock (s : State) : KeepsClock s s.coilStatus := by
  unfold State.coilStatus
  exact .ite ((s.modCoil_keepsClock _).trans (.ite (State.coilReport_keepsClock _ _ _ _ _)
    (State.coilTo_keepsClock _ _ _ _ _))) (.refl s)

theorem State.coilLive_keepsClock (s : State) (n : Nat) : KeepsClock s (s.coilLive n) :=
  .ite (.refl s) s.coilStatus_keepsClock

theorem State.coilLiveFrom_keepsClock (u s : State) : KeepsClock u (u.coilLiveFrom s) :=
  .ite (u.coilLive_keepsClock _) (.refl u)

theorem State.coilAlignSet_keepsClock (s : State) (st : Nat) : KeepsClock s (s.coilAlignSet st) := by
  have hshown (x : State) (i j : Info) : KeepsClock x
      (if st = 2 then x.event Reg.COIL_STAT 6 i else if st = 4 then x.event Reg.COIL_STAT 7 j else x) :=
    .ite (x.event_keepsClock _ _ _) (.ite (x.event_keepsClock _ _ _) (.refl x))
  unfold State.coilAlignSet
  exact .ite (.refl s) (((s.modCoil_keepsClock _).trans (hshown _ _ _)).trans (State.coilStatus_keepsClock _))

theorem State.coilAcquire_keepsClock (s : State) : KeepsClock s s.coilAcquire :=
  (s.modCoil_keepsClock _).trans (State.coilAlignSet_keepsClock _ _)

theorem State.coilCheck_keepsClock (s : State) : KeepsClock s s.coilCheck := by
  unfold State.coilCheck
  exact .ite (.ite (.refl s) ((s.modCoil_keepsClock _).trans (State.coilAlignSet_keepsClock _ _)))
    (.ite (s.coilAlignSet_keepsClock _) (.ite s.coilAcquire_keepsClock (.refl s)))

theorem State.coilTrimReset_keepsClock (s : State) : KeepsClock s s.coilTrimReset :=
  (s.modCoil_keepsClock _).trans (.ite (State.coilAcquire_keepsClock _) (State.coilCheck_keepsClock _))

/-! ## Entry into SAFE (R93) -/

theorem State.latchCauses_keepsClock (s : State) (c : Nat) : KeepsClock s (s.latchCauses c) :=
  (s.raise_keepsClock _ _).trans (.forN (fun s _ => .ite (s.logPush_keepsClock _) (.refl s)) _)

theorem State.permitOff_keepsClock (s : State) : KeepsClock s s.permitOff := by
  have hsec (x : Sec) : KeepsClock s { s with sec := x } := .of_same rfl
  exact .ite ((hsec _).trans (State.event_keepsClock _ _ _ _)) (.refl s)

theorem State.modKiln_keepsClock (s : State) (k : Nat) (f : Kiln → Kiln) : KeepsClock s (s.modKiln k f) := .of_same rfl

theorem State.modFrame_keepsClock (s : State) (n : Nat) (f : FrameQ → FrameQ) : KeepsClock s (s.modFrame n f) :=
  .of_same rfl

theorem State.voidOpenPixel_keepsClock (s : State) (c : Nat) : KeepsClock s (s.voidOpenPixel c) := by
  unfold State.voidOpenPixel
  split
  · exact .refl s
  · refine KeepsClock.trans (.forN (fun s k => ?_) s) (.of_same rfl)
    exact ((s.modKiln_keepsClock _ _).trans (State.modKiln_keepsClock _ _ _)).trans (State.event_keepsClock _ _ _ _)

theorem State.cutFrame_keepsClock (s : State) (c : CutInfo) : KeepsClock s (s.cutFrame c) :=
  KeepsClock.trans (.thenIf (s.voidOpenPixel_keepsClock _) (State.modFrame_keepsClock _ _ _)) (.of_same rfl)

theorem State.haltWheel_keepsClock (s : State) (f : Bool) : KeepsClock s (s.haltWheel f) :=
  .thenIf (.of_same rfl) (State.event_keepsClock _ _ _ _)

theorem State.interruptBoot_keepsClock (s : State) : KeepsClock s s.interruptBoot := .ite (.of_same rfl) (.refl s)

theorem State.dropOssd_keepsClock (s : State) : KeepsClock s s.dropOssd := by
  have hcap (x : Capture) : KeepsClock s { s with cap := x } := .of_same rfl
  exact .ite ((hcap _).trans (State.event_keepsClock _ _ _ _)) (.refl s)

theorem State.safeCut_keepsClock (s : State) (c : Nat) : KeepsClock s (s.safeCut c) := by
  have hstop (x : State) : KeepsClock x x.stopBurst := .of_same rfl
  unfold State.safeCut
  refine ((KeepsClock.trans ?_ (State.dropOssd_keepsClock _)).trans (State.cutFrame_keepsClock _ _)).trans
    (State.haltWheel_keepsClock _ _)
  exact s.interruptBoot_keepsClock.trans (hstop _)

theorem State.setMode_keepsClock (s : State) (m : Mode) : KeepsClock s (s.setMode m) := by
  have hmode (x : Modes) : KeepsClock s { s with mode := x } := .of_same rfl
  exact ((hmode _).trans (State.event_keepsClock _ _ _ _)).trans (State.coilStatus_keepsClock _)

/-- With the VCO powered, the end of a STANDBY entry leaves the clock as it is. -/
theorem State.leaveStandby_keepsClock {s : State} (h : s.clk.state ≠ .powerDown) : KeepsClock s s.leaveStandby :=
  .of_same (by simp [State.leaveStandby, h])

theorem State.calAbort_keepsClock (s : State) : KeepsClock s s.calAbort := by
  have hcal (x : Calib) : KeepsClock s { s with cal := x } := .of_same rfl
  exact .ite ((hcal _).trans (State.event_keepsClock _ _ _ _)) (.refl s)

theorem State.safeTrigger_keepsClock (s : State) : KeepsClock s s.safeTrigger :=
  .ite (s.capCond_keepsClock _ _ _ _ _) (.refl s)

/-- What the entry into SAFE does before STANDBY is left. -/
theorem State.safeEntered_keepsClock (s : State) (c : Nat) :
    KeepsClock s (((s.safeCut c).permitOff.setMode .safe).event Reg.GLB_MODE_STAT 3 {}) :=
  (((s.safeCut_keepsClock c).trans (State.permitOff_keepsClock _)).trans (State.setMode_keepsClock _ _)).trans
    (State.event_keepsClock _ _ _ _)

theorem State.safeEnter_keepsClock {s : State} (h : s.clk.state ≠ .powerDown) (c : Nat) :
    KeepsClock s (s.safeEnter c) := by
  unfold State.safeEnter
  have hlatch : KeepsClock s (if s.pins.inReset = true then s else s.latchCauses c) :=
    .ite (.refl s) (s.latchCauses_keepsClock c)
  refine hlatch.trans (.ite (.refl _) (.ite (State.permitOff_keepsClock _) ?_))
  have hcut := State.safeEntered_keepsClock (if s.pins.inReset = true then s else s.latchCauses c) c
  refine hcut.trans (((State.leaveStandby_keepsClock ?_).trans (State.safeTrigger_keepsClock _)).trans
    (State.calAbort_keepsClock _))
  rw [hcut.state, hlatch.state]
  exact h

theorem State.permitOff_mode (s : State) : s.permitOff.mode = s.mode := by
  unfold State.permitOff
  split
  · exact State.event_mode _ _ _ _
  · rfl

theorem State.setMode_active (s : State) (m : Mode) : (s.setMode m).mode.active = m := by
  have hmode (x : State) : x.coilStatus.mode = x.mode := x.coilStatus_blocks .mode (by decide)
  simp [State.setMode, hmode]

theorem State.safeTrigger_mode (s : State) : s.safeTrigger.mode = s.mode := by
  unfold State.safeTrigger State.capCond
  split
  · split <;> rfl
  · rfl

theorem State.calAbort_mode (s : State) : s.calAbort.mode = s.mode := by
  unfold State.calAbort
  split
  · exact State.event_mode _ _ _ _
  · rfl

/-- Outside RESET the entry into SAFE ends in SAFE. -/
theorem State.safeEnter_active {s : State} (h : s.pins.inReset = false) (c : Nat) : (s.safeEnter c).mode.active = .safe := by
  have hpins : (s.latchCauses c).pins = s.pins := (s.latchCauses_keepsClock c).pins
  unfold State.safeEnter
  simp only [h, hpins, Bool.false_eq_true, if_false]
  split
  · rw [State.permitOff_mode]
    assumption
  · rw [State.calAbort_mode, State.safeTrigger_mode]
    change (State.event _ _ _ _).mode.active = _
    rw [State.event_mode, State.setMode_active]

end Sys2Proof.Machine
end

section
/-! PROOFS. The switch of the tree to BCLK and to the VCO (R12, R55, R64), and what it leaves of the clock system. -/

namespace Sys2Proof.Machine

/-! ## BOOT and unit-fatal faults -/

theorem State.bootFail_keepsClock {s : State} (h : s.clk.state ≠ .powerDown) (code : Nat) :
    KeepsClock s (s.bootFail code) := by
  have hfail (x : State) (m : Modes) : KeepsClock x { x with mode := m }.bootRunsFail := .of_same rfl
  unfold State.bootFail
  refine ((hfail s _).trans (State.event_keepsClock _ _ _ _)).trans (State.safeEnter_keepsClock ?_ _)
  rw [State.event_clk]
  exact h

/-- A unit-fatal fault leaves the clock as it is; outside RESET it ends in SAFE (R494). -/
theorem State.fatal_keepsClock {s : State} (h : s.clk.state ≠ .powerDown) (code cause : Nat) (i : Info) :
    KeepsClock s (s.fatal code none cause i) := by
  have hentry := s.faultEntry_keepsClock code i
  exact (hentry.trans (State.safeEnter_keepsClock (by rw [hentry.state]; exact h) _)).trans
    (State.coilLiveFrom_keepsClock _ _)

theorem State.coilLive_mode (s : State) (n : Nat) : (s.coilLive n).mode = s.mode := by
  unfold State.coilLive
  split
  · rfl
  · exact s.coilStatus_blocks .mode (by decide)

theorem State.coilLiveFrom_mode (u s : State) : (u.coilLiveFrom s).mode = u.mode := by
  unfold State.coilLiveFrom
  split
  · exact u.coilLive_mode _
  · rfl

theorem State.fatal_active {s : State} (h : s.pins.inReset = false) (code cause : Nat) (i : Info) :
    (s.fatal code none cause i).mode.active = .safe := by
  have hpins : (s.faultEntry code i).pins = s.pins := s.faultEntry_pins code i
  unfold State.fatal
  dsimp only
  rw [State.coilLiveFrom_mode]
  exact State.safeEnter_active (by rw [hpins, h]) _

/-! ## The switch to BCLK (R12, R64, R71) -/

theorem State.modRing_keepsClock (s : State) (x : Nat) (f : Ring → Ring) : KeepsClock s (s.modRing x f) := .of_same rfl

theorem State.hostWaits_keepsClock (s : State) : KeepsClock s s.hostWaits := .ite (.of_same rfl) (.of_same rfl)

theorem State.ringOff_keepsClock (s : State) (x : Nat) : KeepsClock s (s.ringOff x) :=
  .thenIf (s.modRing_keepsClock _ _) (State.hostWaits_keepsClock _)

theorem State.ceAbort_keepsClock (s : State) : KeepsClock s s.ceAbort := by
  have hpost (x : State) (n : Nat) : KeepsClock x (x.cePost n) := .of_same rfl
  have hlast (x : State) (n : Nat) : KeepsClock x (x.ceLast n) := x.updWide_keepsClock _ _
  have hnext (x : State) : KeepsClock x x.ceNext := .of_same rfl
  have hhif (x : State) (h : Hif) : KeepsClock x { x with hif := h } := .of_same rfl
  unfold State.ceAbort
  exact .ite ((((hpost s _).trans (hlast _ _)).trans (hnext _)).trans (hhif _ _)) (.refl s)

theorem State.endpointReset_keepsClock (s : State) (flr : Bool) : KeepsClock s (s.endpointReset flr) := by
  have hhif (x : State) (h : Hif) : KeepsClock x { x with hif := h } := .of_same rfl
  unfold State.endpointReset
  exact ((s.ceAbort_keepsClock.trans (.forN (fun x k => x.ringOff_keepsClock k) _)).trans (hhif _ _)).trans
    (State.event_keepsClock _ _ _ _)

theorem State.setSerdesRef_keepsClock (s : State) (b : Bool) :
    KeepsClock s (s.modClk (fun c => { c with serdesRef := b })) :=
  ⟨rfl, rfl, rfl, rfl, fun _ _ => (State.modClk_shows _ _ _ _).mpr⟩

theorem State.serdesOff_keepsClock (s : State) : KeepsClock s s.serdesOff := by
  have hlinks (x : State) : KeepsClock x (Machine.forN 2 x (fun s p =>
      if bitOf s.coil.link.toNat p then s.event Reg.COIL_STAT 2 { detail := p } else s)) :=
    .forN (fun s _ => .ite (s.event_keepsClock _ _ _) (.refl s)) x
  have hcoil := ((s.setSerdesRef_keepsClock false).trans (hlinks _)).trans
    (State.modCoil_keepsClock _ (fun c => { c with link := 0 }))
  unfold State.serdesOff
  exact hcoil.trans (.ite (.refl _) (State.endpointReset_keepsClock _ _))

theorem State.serdesBclk_keepsClock (s : State) : KeepsClock s s.serdesBclk :=
  .ite (s.setSerdesRef_keepsClock true) (.ite s.serdesOff_keepsClock (.refl s))

theorem State.modLane_keepsClock (s : State) (l : Nat) (f : Lane → Lane) : KeepsClock s (s.modLane l f) := .of_same rfl

theorem State.tsuClockLost_keepsClock (s : State) : KeepsClock s s.tsuClockLost := .of_same rfl

theorem State.lanClockLost_keepsClock (s : State) : KeepsClock s s.lanClockLost := by
  have hlan (x : State) (l : Lanes) : KeepsClock x { x with lan := l } := .of_same rfl
  unfold State.lanClockLost
  exact (KeepsClock.forN (fun s _ => s.modLane_keepsClock _ _) s).trans (hlan _ _)

theorem State.refbufStart_keepsClock (s : State) : KeepsClock s s.refbufStart := .of_same rfl

theorem State.emtClockLost_keepsClock (s : State) : KeepsClock s s.emtClockLost := .of_same rfl

theorem State.sfeClkSwitch_keepsClock (s : State) : KeepsClock s s.sfeClkSwitch := by
  have hchain (st i : Nat) : KeepsClock s (s.sfeChain st i) := .of_same rfl
  unfold State.sfeClkSwitch
  exact (KeepsClock.ite (hchain _ _) (.refl s)).trans (State.event_keepsClock _ _ _ _)

theorem State.axEnter_keepsClock (s : State) (a st : Nat) : KeepsClock s (s.axEnter a st) :=
  .ite (.of_same rfl) (.of_same rfl)

theorem State.strUpdate_keepsClock (s : State) : KeepsClock s s.strUpdate := by
  have hstop (x : State) : KeepsClock x x.stopBurst := .of_same rfl
  have hstr (x : State) (y : Steering) : KeepsClock x { x with str := y } := .of_same rfl
  unfold State.strUpdate
  exact (KeepsClock.thenIf (.refl s) (hstop s)).trans (hstr _ _)

theorem State.axFault_keepsClock (s : State) (a reason : Nat) : KeepsClock s (s.axFault a reason) := by
  have hmod (x : State) (f : Axis → Axis) : KeepsClock x (x.modAx a f) := .of_same rfl
  unfold State.axFault
  exact ((((s.axEnter_keepsClock a 4).trans (hmod _ _)).trans (State.bump_keepsClock _ _ _)).trans
    (State.fault_keepsClock _ _ _ _ _)).trans (State.strUpdate_keepsClock _)

theorem State.strClockLost_keepsClock (s : State) : KeepsClock s s.strClockLost :=
  .forN (fun s a => .ite (s.axFault_keepsClock a 9) (.refl s)) s

/-- The tree leaves the VCO for the clock state `st`; ticks, pins, registers and events shown stay. -/
theorem State.treeToBclk_keeps (s : State) (st : ClkState) :
    ∃ c : Clock, c.state = st ∧ KeepsClock (s.modClk (fun _ => c)) (s.treeToBclk st) := by
  refine ⟨{ s.clk with
    state := st, memRetained := s.mem.selfRefresh, switchAt := s.now, requalAt := none, realignFire := false
    sweeping := false
    outs := fmapAll {} s.clk.outs (fun o => { o with on := false }) }, rfl, ?_⟩
  unfold State.treeToBclk
  exact (((((State.tsuClockLost_keepsClock _).trans (State.lanClockLost_keepsClock _)).trans
    (State.emtClockLost_keepsClock _)).trans (State.serdesBclk_keepsClock _)).trans
    (State.sfeClkSwitch_keepsClock _)).trans (State.coilCheck_keepsClock _)

/-- What the loss of the clock does up to the fault: the tree is on BCLK and the cause's flag is shown. -/
theorem State.treeLost_keeps (s : State) (flag : Nat) (m : Mem) :
    ∃ c : Clock, c.state = .bclk ∧ KeepsClock ((s.raise Reg.CLK_STAT (flag16 flag)).modClk (fun _ => c))
      ((({ s.raise Reg.CLK_STAT (flag16 flag) with mem := m }.treeToBclk .bclk).event Reg.CLK_STAT 8 {}).strClockLost) := by
  have hmem (x : State) (c : Clock) : KeepsClock (x.modClk (fun _ => c)) ({ x with mem := m }.modClk (fun _ => c)) :=
    .of_same rfl
  obtain ⟨c, hc, htree⟩ := State.treeToBclk_keeps { s.raise Reg.CLK_STAT (flag16 flag) with mem := m } .bclk
  exact ⟨c, hc, (((hmem _ c).trans htree).trans (State.event_keepsClock _ _ _ _)).trans
    (State.strClockLost_keepsClock _)⟩

/-- R64: the tree is on BCLK, the unit in SAFE, and the cause's flag is shown. -/
theorem State.clkLost_spec {s : State} (h : s.pins.inReset = false) {flag : Nat} (hf : flag < 16) (code : Nat) :
    (s.clkLost flag code).clk.state = .bclk ∧ (s.clkLost flag code).mode.active = .safe ∧
      (s.clkLost flag code).shows Reg.CLK_STAT flag ∧ (s.clkLost flag code).now = s.now := by
  have hraise := s.raise_keepsClock Reg.CLK_STAT (flag16 flag)
  obtain ⟨c, hc, htree⟩ := s.treeLost_keeps flag
    { (s.raise Reg.CLK_STAT (flag16 flag)).mem with enteringSr := !(s.raise Reg.CLK_STAT (flag16 flag)).mem.selfRefresh }
  unfold State.clkLost
  dsimp only
  generalize State.strClockLost _ = y at htree ⊢
  have hstate : y.clk.state = .bclk := htree.state.trans hc
  have hfatal := (State.fatal_keepsClock (s := y) (by rw [hstate]; decide) code 0 {}).trans
    (State.coilLiveFrom_keepsClock _ s)
  refine ⟨hfatal.state.trans hstate, ?_, hfatal.shows _ _ (htree.shows _ _ ?_), ?_⟩
  · rw [State.coilLiveFrom_mode]
    exact State.fatal_active (by rw [htree.pins, State.modClk_pins, hraise.pins, h]) _ _ _
  · rw [State.modClk_shows, State.raise_shows]
    exact .inr ⟨rfl, bitOf_flag16 hf⟩
  · rw [hfatal.now, htree.now, State.modClk_now, hraise.now]

/-! ## The release of the VCO's domains (R55 step 5) -/

theorem State.utimeResume_keepsClock (s : State) : KeepsClock s s.utimeResume := by
  have htsu (f : Tsu → Tsu) : KeepsClock s (s.modTsu f) := .of_same rfl
  exact ((htsu _).trans (State.updWide_keepsClock _ _ _)).trans (State.event_keepsClock _ _ _ _)

theorem State.kilnsLock_keepsClock (s : State) : KeepsClock s s.kilnsLock := .forN (fun s _ => s.modKiln_keepsClock _ _) s

theorem State.outsStart_keepsClock (s : State) : KeepsClock s s.outsStart := by
  have houts (x : State) (f : Clock → FMap ClkOut) : KeepsClock x (x.modClk (fun c => { c with outs := f c })) :=
    ⟨rfl, rfl, rfl, rfl, fun _ _ => (State.modClk_shows _ _ _ _).mpr⟩
  exact .forN (fun x _ => houts x _) s

/-- The clock system as a lock on `band` at tick `t` leaves it. -/
def Clock.lockedOn (c : Clock) (band t : Nat) : Clock :=
  { c with state := .locked, band, failReason := 0, refPresent := true, serdesRef := true, alignAt := t }

theorem State.treeToVco_keepsClock (s : State) (band : Nat) :
    KeepsClock (s.modClk (fun c => c.lockedOn band s.now)) (s.treeToVco band) := by
  have hutime (x : State) (c : Bool) : KeepsClock x (if c = true then x.utimeStart else x.utimeResume) :=
    .ite (.of_same rfl) x.utimeResume_keepsClock
  have hlanes (x : State) (f : State → Lane → Lane) : KeepsClock x (forN 512 x (fun s l => s.modLane l (f s))) :=
    .forN (fun s l => s.modLane_keepsClock l _) x
  have hmem (x : State) (c : Bool) : KeepsClock x (if c = true then x else x.memLose) := .ite (.refl x) (.of_same rfl)
  have hparts (x : State) (e : Emission) (m : Mem) (c : Capture) (md : Modes) :
      KeepsClock x { x with emt := e, mem := m, cap := c, mode := md } := .of_same rfl
  unfold State.treeToVco
  exact ((((((((hutime _ _).trans (hlanes _ _)).trans (hmem _ _)).trans (hparts _ _ _ _ _)).trans
    (State.kilnsLock_keepsClock _)).trans (State.outsStart_keepsClock _)).trans (State.refbufStart_keepsClock _)).trans
    (State.sfeClkSwitch_keepsClock _)).trans (State.coilTrimReset_keepsClock _)

/-! ## The start of the Wheel (R118) -/

theorem State.bankSwap_keepsClock (s : State) : KeepsClock s s.bankSwap := by
  have hwhl (f : Wheel → Wheel) : KeepsClock s (s.modWhl f) := .of_same rfl
  unfold State.bankSwap
  exact .ite ((hwhl _).trans (State.event_keepsClock _ _ _ _)) (.refl s)

theorem State.shfSample_keepsClock (s : State) : KeepsClock s s.shfSample :=
  .thenIf (.of_same rfl) (.trans (State.bump_keepsClock _ _ _) (State.event_keepsClock _ _ _ _))

theorem State.wheelRun_keepsClock (s : State) : KeepsClock s s.wheelRun := by
  have hgates (x : State) : KeepsClock x x.gatesOff := .forN (fun s _ => s.modLane_keepsClock _ _) x
  have hkilns (x : State) : KeepsClock x x.kilnStart := .forN (fun s _ => s.modKiln_keepsClock _ _) x
  have hwhl (x : State) (f : Wheel → Wheel) : KeepsClock x (x.modWhl f) := .of_same rfl
  unfold State.wheelRun
  exact (((s.bankSwap_keepsClock.trans (State.shfSample_keepsClock _)).trans (hgates _)).trans (hkilns _)).trans (hwhl _ _)

theorem State.heldStart_keepsClock (s : State) : KeepsClock s s.heldStart := .ite s.wheelRun_keepsClock (.refl s)

end Sys2Proof.Machine
end

section
/-! PROOFS. Holdover and the return of the reference (R62 to R71). -/

namespace Sys2Proof.Machine

/-! ## Loss of the reference and of the lock (R62 to R64) -/

theorem State.at_onVco (s : State) (t : Nat) : (s.at t).onVco = s.onVco := by
  unfold State.onVco
  rw [State.at_clk]

theorem State.onVco_of_state {s : State}
    (h : s.clk.state = .locked ∨ s.clk.state = .holdover ∨ s.clk.state = .slewing ∨ s.clk.state = .realign) :
    s.onVco = true := by
  unfold State.onVco
  obtain h | h | h | h := h <;> rw [h]

theorem State.onVco_of_bclk {s : State} (h : s.clk.state = .bclk) : s.onVco = false := by
  unfold State.onVco
  rw [h]

theorem State.holdMax_of_regs {s u : State} (h : u.regs = s.regs) : u.holdMax = s.holdMax := by
  unfold State.holdMax State.reg
  rw [h]

theorem State.holdMark_keeps (s : State) :
    s.holdMark.now = s.now ∧ s.holdMark.regs = s.regs ∧ s.holdMark.clk = s.clk ∧ s.holdMark.mode = s.mode := by
  unfold State.holdMark
  split <;> exact ⟨rfl, rfl, rfl, rfl⟩

/-- The clock system as the loss of the reference at tick `t` leaves it. -/
def Clock.coastsFrom (c : Clock) (t : Nat) : Clock :=
  { c with state := .holdover, refPresent := false, holdAt := t, requalAt := none, realignFire := false }

theorem exec_refLost_holdover {s : State} (t : Nat)
    (h : s.clk.state = .locked ∨ s.clk.state = .slewing ∨ s.clk.state = .realign) (hmax : s.holdMax ≠ 0) :
    exec (.refLost t) s = .next (((s.at t).holdMark.modClk
      (fun c => c.coastsFrom (s.at t).now)).event Reg.CLK_STAT 2 {}) := by
  obtain ⟨-, hregs, -⟩ := (s.at t).holdMark_keeps
  have hlimit : (((s.at t).holdMark.modClk
      (fun c => c.coastsFrom (s.at t).now)).event Reg.CLK_STAT 2 {}).holdMax ≠ 0 := by
    rwa [State.holdMax_of_regs (s := s) (by rw [State.event_regs, State.modClk_regs, hregs, State.at_regs])]
  change execRefLost t s = _
  unfold execRefLost
  dsimp only
  rw [State.at_clk]
  obtain h | h | h := h <;> rw [h] <;> exact congrArg _ (if_neg hlimit)

theorem refLost_coasts {s : State} (t : Nat)
    (h : s.clk.state = .locked ∨ s.clk.state = .slewing ∨ s.clk.state = .realign) (hmax : s.holdMax ≠ 0) :
    Completes (.refLost t) s fun u => u.clk.state = .holdover ∧ u.onVco = true ∧ u.clk.holdAt = u.now ∧
      u.clk.refPresent = false ∧ u.shows Reg.CLK_STAT 2 ∧ u.mode = s.mode ∧ SameRegs [] s u := by
  obtain ⟨hnow, hregs, hkept, hmode⟩ := (s.at t).holdMark_keeps
  have hclk : (((s.at t).holdMark.modClk (fun c => c.coastsFrom (s.at t).now)).event Reg.CLK_STAT 2 {}).clk =
      s.clk.coastsFrom (s.at t).now := by
    rw [State.event_clk, State.modClk_clk, hkept, State.at_clk]
  refine ⟨_, exec_refLost_holdover t h hmax, congrArg Clock.state hclk,
    State.onVco_of_state (.inr (.inl (congrArg Clock.state hclk))), (congrArg Clock.holdAt hclk).trans ?_,
    congrArg Clock.refPresent hclk, State.event_shows _ _ (by decide) _, ?_, fun off _ => ?_⟩
  · rw [State.event_now, State.modClk_now, hnow]
    rfl
  · rw [State.event_mode, State.modClk_mode, hmode, State.at_mode]
  · unfold State.reg
    rw [State.event_regs, State.modClk_regs, hregs, State.at_regs]

theorem State.holdExpire_spec {s : State} (h : s.pins.inReset = false) :
    s.holdExpire.clk.state = .bclk ∧ s.holdExpire.mode.active = .safe ∧ s.holdExpire.shows Reg.CLK_STAT 3 ∧
      s.holdExpire.now = s.now := by
  have hlost := State.clkLost_spec (s := s.putWide Id.CLK_HOLD_TIME ((s.now - s.clk.holdAt) / 3200))
    (by rwa [State.putWide_pins]) (flag := 3) (by decide) 0xE10
  rwa [State.putWide_now] at hlost

theorem holdoverExpiry_entersSafe {s : State} (t : Nat) (h : s.clk.state = .holdover) (hreset : s.pins.inReset = false) :
    Completes (.holdoverExpiry t) s fun u => u.clk.state = .bclk ∧ u.onVco = false ∧ u.mode.active = .safe ∧
      u.shows Reg.CLK_STAT 3 ∧ s.clk.holdAt + s.holdMax ≤ u.now := by
  obtain ⟨hstate, hmode, hshows, hnow⟩ := State.holdExpire_spec (s := s.at (max t (s.clk.holdAt + s.holdMax))) (by simpa)
  refine ⟨_, if_pos h, hstate, State.onVco_of_bclk hstate, hmode, hshows, ?_⟩
  rw [hnow, State.at_now]
  omega

theorem lockLost_entersSafe {s : State} (t : Nat)
    (h : s.clk.state = .locked ∨ s.clk.state = .slewing ∨ s.clk.state = .realign) (hreset : s.pins.inReset = false) :
    Completes (.lockLost t) s fun u => u.clk.state = .bclk ∧ u.mode.active = .safe ∧ u.shows Reg.CLK_STAT 4 := by
  obtain ⟨hstate, hmode, hshows, -⟩ := State.clkLost_spec (s := s.at t) (by simpa) (flag := 4) (by decide) 0xE11
  exact ⟨_, congrArg Host.Outcome.next (if_pos (by simpa using h)), hstate, hmode, hshows⟩

/-! ## The return of the reference (R66 to R71) -/

theorem refReturn_requalifies {s : State} (t : Nat) (h : s.clk.state = .holdover) :
    Completes (.refReturn t) s fun u =>
      u.clk = { s.clk with requalAt := some u.now } ∧ Unchanged [.clk] (s.at t) u := by
  refine ⟨_, congrArg Host.Outcome.next (if_pos (by simpa using h)), ?_, State.setClk_unchanged _ _⟩
  rw [State.modClk_clk, State.modClk_now, State.at_clk]

theorem requalifyFail_keepsHoldover {s : State} (t : Nat) {a : Nat} (h : s.clk.requalAt = some a) :
    Completes (.requalifyFail t) s fun u => u.clk = { s.clk with requalAt := none } ∧
      a + msT 1 ≤ u.now ∧ Unchanged [.clk] (s.at (max t (a + msT 1))) u := by
  refine ⟨(s.at (max t (a + msT 1))).modClk (fun c => { c with requalAt := none }), ?_, ?_, ?_,
    State.setClk_unchanged _ _⟩
  · change execRequalifyFail t s = _
    unfold execRequalifyFail
    rw [h]
  · rw [State.modClk_clk, State.at_clk]
  · rw [State.modClk_now, State.at_now]
    omega

theorem State.pfd_of_clk {s u : State} (h : u.clk = s.clk) : u.pfd = s.pfd := by
  unfold State.pfd
  rw [h]

/-- Whether REALIGN applies depends on the registers and the mode alone (R69). -/
theorem State.realigns_of_same {s u : State} (hregs : u.regs = s.regs) (hmode : u.mode = s.mode) :
    u.realigns = s.realigns := by
  simp only [State.realigns, State.coilTime, State.coilEn, State.bit, State.reg, hregs, hmode]

/-- The clock system once the reference is requalified at tick `t` with the reduced jump `j`. -/
def Clock.requalifiedAt (c : Clock) (t : Nat) (j : Int) : Clock :=
  { c with requalAt := none, refPresent := true, jump := j, slewAt := t }

/-- The requalified reference up to the choice of SLEW or REALIGN: values measured, ref_returned recorded. -/
def State.jumpMeasured (s : State) (jump freqErr : Int) : State :=
  let j := jumpMod s.pfd jump
  let us := (s.now - s.clk.holdAt) / 3200
  let w := ((s.putWide Id.CLK_JUMP (unsgn 32 j)).putWide Id.CLK_HOLD_TIME us).putWide Id.CLK_FREQ_ERR (unsgn 32 freqErr)
  (w.modClk (fun c => c.requalifiedAt w.now j)).event Reg.CLK_STAT 5
    { addr := us, value := unsgn 32 j, detail := unsgn 16 freqErr }

section
variable (s : State) (jump freqErr : Int)

theorem State.jumpMeasured_clk :
    (s.jumpMeasured jump freqErr).clk = s.clk.requalifiedAt s.now (jumpMod s.pfd jump) := by
  simp [State.jumpMeasured]

theorem State.jumpMeasured_mode : (s.jumpMeasured jump freqErr).mode = s.mode := by
  simp [State.jumpMeasured]

theorem State.jumpMeasured_regs : (s.jumpMeasured jump freqErr).regs = s.regs := by
  simp [State.jumpMeasured]

theorem State.jumpMeasured_shows : (s.jumpMeasured jump freqErr).shows Reg.CLK_STAT 5 :=
  State.event_shows _ _ (by decide) _

end

/-- SLEW begins, or REALIGN, whose steps follow at once without a program (R67, R68). -/
def State.restoring (s : State) (realigns : Bool) : State :=
  if realigns then
    let u := s.modClk (fun c => { c with state := .realign })
    if u.wheelRuns then u else u.realignBegin
  else s.modClk (fun c => { c with state := .slewing })

theorem State.requalified_eq (s : State) (jump freqErr : Int) :
    s.requalified jump freqErr = (s.jumpMeasured jump freqErr).restoring s.realigns := by
  rw [← State.realigns_of_same (s.jumpMeasured_regs jump freqErr) (s.jumpMeasured_mode jump freqErr)]
  rfl

theorem State.coilTrimReset_mode (s : State) : s.coilTrimReset.mode = s.mode := by
  unfold State.coilTrimReset
  dsimp only
  split
  · exact State.coilAcquire_blocks _ .mode (by decide)
  · exact State.coilCheck_blocks _ .mode (by decide)

/-- Of the clock system only the state and the sign that the REALIGN steps run are set. -/
theorem State.restoring_keeps (s : State) (r : Bool) :
    (∃ fire, KeepsClock (s.modClk (fun c => { c with state := if r then .realign else .slewing, realignFire := fire }))
      (s.restoring r)) ∧ (s.restoring r).mode = s.mode := by
  unfold State.restoring
  dsimp only
  cases r with
  | false => exact ⟨⟨s.clk.realignFire, .refl _⟩, rfl⟩
  | true =>
    simp only [if_true]
    split
    · exact ⟨⟨s.clk.realignFire, .refl _⟩, rfl⟩
    · exact ⟨⟨true, State.coilTrimReset_keepsClock _⟩, State.coilTrimReset_mode _⟩

/-- However the phase is restored, the jump is measured, the return recorded, and the mode stays. -/
theorem State.requalified_spec (s : State) (jump freqErr : Int) :
    (s.requalified jump freqErr).clk.state = (if s.realigns then .realign else .slewing) ∧
      (s.requalified jump freqErr).clk.refPresent = true ∧ (s.requalified jump freqErr).clk.jump = jumpMod s.pfd jump ∧
      (s.requalified jump freqErr).shows Reg.CLK_STAT 5 ∧ (s.requalified jump freqErr).mode = s.mode := by
  obtain ⟨⟨fire, hkeeps⟩, hmode⟩ := (s.jumpMeasured jump freqErr).restoring_keeps s.realigns
  have hclk := s.jumpMeasured_clk jump freqErr
  rw [State.requalified_eq]
  refine ⟨hkeeps.state, hkeeps.refPresent.trans ?_, hkeeps.jump.trans ?_,
    hkeeps.shows _ _ ((State.modClk_shows _ _ _ _).mpr (s.jumpMeasured_shows jump freqErr)),
    hmode.trans (s.jumpMeasured_mode jump freqErr)⟩
  · rw [State.modClk_clk, hclk]
    rfl
  · rw [State.modClk_clk, hclk]
    rfl

theorem refRequalified_restores {s : State} (t : Nat) (jump ferr : Int) {a : Nat} (h : s.clk.state = .holdover)
    (ha : s.clk.requalAt = some a) (hin : max t (a + msT 1) / s.pfd < (s.clk.holdAt + s.holdMax) / s.pfd) :
    Completes (.refRequalified t jump ferr) s fun u =>
      u.clk.state = (if s.realigns then .realign else .slewing) ∧ u.onVco = true ∧ u.clk.refPresent = true ∧
      u.clk.jump = jumpMod s.pfd jump ∧ u.shows Reg.CLK_STAT 5 ∧ u.mode = s.mode := by
  obtain ⟨hstate, href, hjump, hshows, hmode⟩ := (s.at (max t (a + msT 1))).requalified_spec jump ferr
  rw [State.realigns_of_same (State.at_regs _ _) (State.at_mode _ _)] at hstate
  rw [State.pfd_of_clk (State.at_clk _ _)] at hjump
  rw [State.at_mode] at hmode
  refine ⟨(s.at (max t (a + msT 1))).requalified jump ferr, ?_, hstate, ?_, href, hjump, hshows, hmode⟩
  · change execRefRequalified t jump ferr s = _
    unfold execRefRequalified
    rw [h, ha]
    exact if_neg (Nat.not_le.mpr hin)
  · cases hr : s.realigns
    · exact State.onVco_of_state (.inr (.inr (.inl (by rw [hstate, hr]; rfl))))
    · exact State.onVco_of_state (.inr (.inr (.inr (by rw [hstate, hr]; rfl))))

theorem slewDone_locks {s : State} (t : Nat) (h : s.clk.state = .slewing) :
    Completes (.slewDone t) s fun u => u.clk = { s.clk with state := .locked } ∧ u.shows Reg.CLK_STAT 0 := by
  refine ⟨_, if_pos h, ?_, State.event_shows _ _ (by decide) _⟩
  rw [State.event_clk, State.modClk_clk, State.at_clk]

theorem State.realigned_spec (s : State) (phase : Word) :
    (s.realigned phase).clk.state = .locked ∧ (s.realigned phase).clk.realignFire = false ∧
      (s.realigned phase).shows Reg.CLK_STAT 6 := by
  have hstart := ((((s.modClk (fun c => { c with state := .locked, realignFire := false })).putWide Id.CLK_PHASE
    phase.toNat).event Reg.CLK_STAT 6 {})).heldStart_keepsClock
  have hbefore : (((s.modClk (fun c => { c with state := .locked, realignFire := false })).putWide Id.CLK_PHASE
      phase.toNat).event Reg.CLK_STAT 6 {}).clk = { s.clk with state := .locked, realignFire := false } := by
    rw [State.event_clk, State.putWide_clk, State.modClk_clk]
  refine ⟨hstart.state.trans ?_, hstart.realignFire.trans ?_,
    hstart.shows _ _ (State.event_shows _ _ (by decide) _)⟩ <;> rw [hbefore]

theorem realignDone_locks {s : State} (t : Nat) (phase : Word) (h : s.clk.state = .realign)
    (hfire : s.clk.realignFire = true) (halign : s.coilTime = true → s.coil.align = 2) :
    Completes (.realignDone t phase) s fun u =>
      u.clk.state = .locked ∧ u.clk.realignFire = false ∧ u.shows Reg.CLK_STAT 6 := by
  have hcoil : (s.at t).coilTime = s.coilTime := by
    simp only [State.coilTime, State.coilEn, State.bit, State.at_reg]
  refine ⟨(s.at t).realigned phase, congrArg Host.Outcome.next (if_pos ?_), (s.at t).realigned_spec phase⟩
  rw [hcoil]
  cases hc : s.coilTime
  · simp [h, hfire]
  · simp [h, hfire, halign hc]

theorem bclkRefinChange_setsRef {s : State} (t : Nat) (q : Bool) (h : s.onVco = false) :
    Completes (.bclkRefinChange t q) s fun u => u.clk.refPresent = q ∧ u.clk.state = s.clk.state := by
  have hswitch := ((s.at t).modClk (fun c => { c with refPresent := q })).serdesBclk_keepsClock
  refine ⟨((s.at t).modClk (fun c => { c with refPresent := q })).serdesBclk,
    congrArg Host.Outcome.next (if_neg (by simp [State.at_onVco, h])), hswitch.refPresent, hswitch.state.trans ?_⟩
  rw [State.modClk_clk, State.at_clk]

/-- Settles O29: every command of the holdover and of its end, one after the other. -/
theorem holdoverAndReferenceReturn : Obligations.HoldoverAndReferenceReturn := by
  unfold Obligations.HoldoverAndReferenceReturn
  exact ⟨fun t _ => refLost_coasts t, fun t _ => holdoverExpiry_entersSafe t, fun t _ => lockLost_entersSafe t,
    fun t _ => refReturn_requalifies t, fun t _ _ => requalifyFail_keepsHoldover t,
    fun t jump ferr _ _ => refRequalified_restores t jump ferr, fun t _ => slewDone_locks t,
    fun t phase _ => realignDone_locks t phase, fun t q _ => bclkRefinChange_setsRef t q⟩

end Sys2Proof.Machine
end

section
/-! PROOFS. Bands, jumps, lock sequences, band sweeps and phase measurements (R51 to R59, R66). -/

namespace Sys2Proof.Machine

/-! ## The band nearest the target (R54) -/

/-- How far band `k` with centre `f k` lies from 6,400 MHz. -/
def bandDist (f : Nat → Nat) (k : Nat) : Nat := ((f k : Int) - 6400).natAbs

/-- Of the best band so far and band `k` the nearer one; an empty band is passed over. -/
def nearerBand (f : Nat → Nat) (best : Option Nat) (k : Nat) : Option Nat :=
  if f k = 0 then best
  else match best with
    | none => some k
    | some b => if bandDist f k < bandDist f b then some k else some b

/-- The centre frequency of band `k` (R54). -/
def State.bandCentre (s : State) (k : Nat) : Nat := bitsOf (s.wideN (Id.CLK_VCO_BAND + k)) 31 16

theorem State.bandPick_eq (s : State) : s.bandPick = (List.range 32).foldl (nearerBand s.bandCentre) none := rfl

/-- `o` is the first of the nearest non-empty bands below `n`. -/
def NearestBand (f : Nat → Nat) (n : Nat) : Option Nat → Prop
  | none => ∀ k, k < n → f k = 0
  | some b => b < n ∧ f b ≠ 0 ∧
      ∀ k, k < n → f k ≠ 0 → bandDist f b < bandDist f k ∨ (bandDist f b = bandDist f k ∧ b ≤ k)

theorem NearestBand.step {f : Nat → Nat} {n : Nat} {o : Option Nat} (h : NearestBand f n o) :
    NearestBand f (n + 1) (nearerBand f o n) := by
  unfold nearerBand
  by_cases hn : f n = 0
  · rw [if_pos hn]
    cases o with
    | none => exact fun k hk => (Nat.lt_succ_iff_lt_or_eq.mp hk).elim (h k) (fun e => e ▸ hn)
    | some b =>
      obtain ⟨hb, hf, hmin⟩ := h
      refine ⟨by omega, hf, fun k hk hk0 => hmin k ?_ hk0⟩
      exact (Nat.lt_succ_iff_lt_or_eq.mp hk).resolve_right (fun e => hk0 (e ▸ hn))
  · rw [if_neg hn]
    cases o with
    | none =>
      refine ⟨by omega, hn, fun k hk hk0 => ?_⟩
      obtain hlt | rfl := Nat.lt_succ_iff_lt_or_eq.mp hk
      · exact absurd (h k hlt) hk0
      · exact .inr ⟨rfl, le_rfl⟩
    | some b =>
      obtain ⟨hb, hf, hmin⟩ := h
      by_cases hd : bandDist f n < bandDist f b
      · simp only [hd, if_true]
        refine ⟨by omega, hn, fun k hk hk0 => ?_⟩
        obtain hlt | rfl := Nat.lt_succ_iff_lt_or_eq.mp hk
        · obtain hbk | ⟨hbk, -⟩ := hmin k hlt hk0 <;> exact .inl (by omega)
        · exact .inr ⟨rfl, le_rfl⟩
      · simp only [hd, if_false]
        refine ⟨by omega, hf, fun k hk hk0 => ?_⟩
        obtain hlt | rfl := Nat.lt_succ_iff_lt_or_eq.mp hk
        · exact hmin k hlt hk0
        · omega

theorem nearestBand_foldl (f : Nat → Nat) (n : Nat) : NearestBand f n ((List.range n).foldl (nearerBand f) none) := by
  induction n with
  | zero => exact fun k hk => absurd hk (Nat.not_lt_zero k)
  | succ n ih =>
    rw [List.range_succ, List.foldl_append]
    exact ih.step

theorem State.bandPick_nearest (s : State) : NearestBand s.bandCentre 32 s.bandPick := by
  rw [State.bandPick_eq]
  exact nearestBand_foldl _ _

/-- Without a pick all bands are empty, and the other way round. -/
theorem State.bandPick_none (s : State) : s.bandPick = none ↔ ∀ k, k < 32 → s.bandCentre k = 0 := by
  have h := s.bandPick_nearest
  cases hp : s.bandPick with
  | none =>
    rw [hp] at h
    exact iff_of_true rfl h
  | some b =>
    rw [hp] at h
    obtain ⟨hb, hf, -⟩ := h
    exact iff_of_false (by simp) (fun hall => hf (hall b hb))

/-! ## The reduced jump (R66, R67) -/

theorem jumpMod_spec {n : Nat} (x : Int) (hn : 0 < n) :
    (∃ k : Int, x - jumpMod n x = k * (1024 * n)) ∧ -(512 * n : Int) < jumpMod n x ∧ jumpMod n x ≤ 512 * n := by
  have hhalf : (1024 * n : Int) / 2 = 512 * n := by omega
  have hnonneg := Int.emod_nonneg (x + 512 * n - 1) (b := 1024 * n) (by omega)
  have hlt := Int.emod_lt_of_pos (x + 512 * n - 1) (b := 1024 * n) (by omega)
  have hdiv := Int.emod_add_mul_ediv (x + 512 * n - 1) (1024 * n)
  unfold jumpMod
  dsimp only
  rw [hhalf]
  refine ⟨⟨(x + 512 * n - 1) / (1024 * n), ?_⟩, by omega, by omega⟩
  rw [mul_comm ((x + 512 * n - 1) / (1024 * n))]
  omega

/-! ## Lock sequences (R55, R56) -/

theorem State.onBar_at {s : State} (h : s.gated = false) (t : Nat) (f : State → State) : (s.at t).onBar f = f (s.at t) :=
  if_neg (by simp [h])

/-- lock_fail is recorded, before BOOT or the exit from STANDBY ends in SAFE for it. -/
def State.lockFailShown (s : State) (reason : Nat) : State :=
  (s.modClk (fun c => { c with state := .bclk, failReason := reason })).event Reg.CLK_STAT 1 { detail := reason }

theorem State.lockFailShown_clk (s : State) (reason : Nat) :
    (s.lockFailShown reason).clk = { s.clk with state := .bclk, failReason := reason } := by
  rw [State.lockFailShown, State.event_clk, State.modClk_clk]

theorem State.lockFailed_keepsClock (s : State) (reason : Nat) :
    KeepsClock (s.lockFailShown reason) (s.lockFailed reason) := by
  have hpowered : (s.lockFailShown reason).clk.state ≠ .powerDown := by simp [State.lockFailShown_clk]
  exact .ite (State.bootFail_keepsClock hpowered 2) (.ite (State.safeEnter_keepsClock hpowered 1) (.refl _))

/-- A failed sequence leaves the tree on BCLK with its reason, and lock_fail is shown. -/
theorem State.lockFailed_spec (s : State) (reason : Nat) :
    (s.lockFailed reason).clk.state = .bclk ∧ (s.lockFailed reason).clk.failReason = reason ∧
      (s.lockFailed reason).shows Reg.CLK_STAT 1 := by
  have hkeeps := s.lockFailed_keepsClock reason
  refine ⟨hkeeps.state.trans ?_, hkeeps.failReason.trans ?_,
    hkeeps.shows _ _ (State.event_shows _ _ (by decide) _)⟩ <;> rw [State.lockFailShown_clk]

/-- The clock system as a LOCK at tick `t` with this REFIN and path leaves it. -/
def Clock.qualifiesFrom (c : Clock) (t refin path : Nat) : Clock :=
  { c with state := .qualify, seqAt := t, lockStarted := true, seqRefin := refin, seqPath := path }

/-- The qualification begins now, by CLK_REF_CTL as it stands. -/
def State.qualifying (s : State) : State :=
  s.modClk (fun c => c.qualifiesFrom s.now (s.fld Reg.CLK_REF_CTL 1 0) (s.fld Reg.CLK_REF_CTL 3 2))

theorem State.lockStart_eq {s : State} (h : s.clk.state = .bclk ∨ s.clk.state = .powerDown) (hs : s.clk.sweeping = false) :
    s.lockStart = (if (pfdTicks (s.fld Reg.CLK_REF_CTL 1 0) (s.fld Reg.CLK_REF_CTL 3 2)).isNone
      then s.qualifying.lockFailed 1 else s.qualifying).coilLive s.safeLive := if_pos ⟨h, hs⟩

theorem State.at_fld (s : State) (t off hi lo : Nat) : (s.at t).fld off hi lo = s.fld off hi lo := by
  unfold State.fld
  rw [State.at_reg]

theorem lock_qualifiesOrFails {s : State} (t : Nat) (p : Path) (hg : s.gated = false)
    (h : s.clk.state = .bclk ∨ s.clk.state = .powerDown) (hs : s.clk.sweeping = false) :
    Completes (.lock t p) s fun u =>
      ((pfdTicks (s.fld Reg.CLK_REF_CTL 1 0) (s.fld Reg.CLK_REF_CTL 3 2)).isSome = true →
        u.clk.state = .qualify ∧ u.clk.seqAt = u.now ∧ u.clk.lockStarted = true ∧ SameRegs [] s u) ∧
      (pfdTicks (s.fld Reg.CLK_REF_CTL 1 0) (s.fld Reg.CLK_REF_CTL 3 2) = none →
        u.clk.state = .bclk ∧ u.clk.failReason = 1 ∧ u.shows Reg.CLK_STAT 1) := by
  have hstart := State.lockStart_eq (s := s.at t) (by simpa using h) (by simpa using hs)
  rw [State.at_fld, State.at_fld] at hstart
  refine ⟨_, congrArg Host.Outcome.next ((State.onBar_at hg t _).trans hstart), fun hlegal => ?_, fun hillegal => ?_⟩
  · rw [if_neg (by simp [Option.isSome_iff_ne_none.mp hlegal])]
    have hlive := (s.at t).qualifying.coilLive_keepsClock (s.at t).safeLive
    refine ⟨hlive.state, hlive.seqAt.trans hlive.now.symm, hlive.lockStarted, fun off _ => ?_⟩
    unfold State.reg
    rw [hlive.regs, State.qualifying, State.modClk_regs, State.at_regs]
  · rw [if_pos (by simp [hillegal])]
    obtain ⟨hstate, hreason, hshows⟩ := (s.at t).qualifying.lockFailed_spec 1
    have hlive := ((s.at t).qualifying.lockFailed 1).coilLive_keepsClock (s.at t).safeLive
    exact ⟨hlive.state.trans hstate, hlive.failReason.trans hreason, hlive.shows _ _ hshows⟩

theorem lock_startsNothing {s : State} (t : Nat) (p : Path) (hg : s.gated = false)
    (h : ¬(s.clk.state = .bclk ∨ s.clk.state = .powerDown) ∨ s.clk.sweeping = true) :
    Completes (.lock t p) s fun u => u = s.at t := by
  refine ⟨s.at t, congrArg Host.Outcome.next ((State.onBar_at hg t _).trans (if_neg ?_)), rfl⟩
  rintro ⟨hstate, hsweep⟩
  rw [State.at_clk] at hstate hsweep
  obtain h | h := h
  · exact h hstate
  · simp [h] at hsweep

/-- A reached lock: the tree on `band`, no failure left, the reference present, locked shown. -/
theorem State.lockReached_spec (s : State) (band : Nat) (phase : Word) (hp : Bool) :
    (s.lockReached band phase hp).clk.state = .locked ∧ (s.lockReached band phase hp).clk.band = band ∧
      (s.lockReached band phase hp).clk.failReason = 0 ∧ (s.lockReached band phase hp).clk.refPresent = true ∧
      (s.lockReached band phase hp).shows Reg.CLK_STAT 0 := by
  have htree := s.treeToVco_keepsClock band
  have hput (x : State) : KeepsClock x ((x.putWide Id.CLK_PHASE phase.toNat).event Reg.CLK_STAT 0 {}) :=
    (x.updWide_keepsClock _ _).trans (State.event_keepsClock _ _ _ _)
  have hrest (x : State) : KeepsClock ((x.putWide Id.CLK_PHASE phase.toNat).event Reg.CLK_STAT 0 {})
      ((((x.putWide Id.CLK_PHASE phase.toNat).event Reg.CLK_STAT 0 {}).bump Id.CLK_LOCK_COUNT).coilLive s.safeLive) :=
    (State.bump_keepsClock _ _ _).trans (State.coilLive_keepsClock _ _)
  unfold State.lockReached
  dsimp only
  generalize s.treeToVco band = x at htree ⊢
  have hlast := (hput (x.modClk (fun c => { c with hclkPhase := hp && decide (c.seqRefin = 3) }))).trans (hrest _)
  exact ⟨hlast.state.trans htree.state, hlast.band.trans htree.band, hlast.failReason.trans htree.failReason,
    hlast.refPresent.trans htree.refPresent, (hrest _).shows _ _ (State.event_shows _ _ (by decide) _)⟩

/-- Within its 2 ms LOCK_COMPLETE goes by the band table as it stands then. -/
theorem exec_lockComplete {s : State} (t : Nat) (phase : Word) (hp : Bool) (h : s.locking = true)
    (ht : t ≤ s.clk.seqAt + usT 2060) :
    ((s.at (max t (s.clk.seqAt + usT 97))).bandPick = none → exec (.lockComplete t phase hp) s =
      .next ((s.at (max t (s.clk.seqAt + usT 97))).lockFailed 2)) ∧
    ∀ b, (s.at (max t (s.clk.seqAt + usT 97))).bandPick = some b → exec (.lockComplete t phase hp) s =
      .next ((s.at (max t (s.clk.seqAt + usT 97))).lockReached b phase hp) := by
  change (_ → execLockComplete t phase hp s = _) ∧ ∀ b, _ → execLockComplete t phase hp s = _
  unfold execLockComplete
  dsimp only
  rw [if_pos h, if_neg (Nat.not_lt.mpr ht)]
  exact ⟨fun hb => by rw [hb], fun b hb => by rw [hb]⟩

theorem lockComplete_locks {s : State} (t : Nat) (phase : Word) (hp : Bool) {b : Nat} (h : s.locking = true)
    (ht : t ≤ s.clk.seqAt + usT 2060) (hb : (s.at (max t (s.clk.seqAt + usT 97))).bandPick = some b) :
    Completes (.lockComplete t phase hp) s fun u => u.clk.state = .locked ∧ u.onVco = true ∧ u.clk.band = b ∧
      u.clk.failReason = 0 ∧ u.clk.refPresent = true ∧ u.shows Reg.CLK_STAT 0 := by
  obtain ⟨hstate, hband, hreason, href, hshows⟩ := (s.at (max t (s.clk.seqAt + usT 97))).lockReached_spec b phase hp
  exact ⟨_, (exec_lockComplete t phase hp h ht).2 b hb, hstate, State.onVco_of_state (.inl hstate), hband, hreason, href,
    hshows⟩

theorem lockComplete_noBand {s : State} (t : Nat) (phase : Word) (hp : Bool) (h : s.locking = true)
    (ht : t ≤ s.clk.seqAt + usT 2060) (hb : (s.at (max t (s.clk.seqAt + usT 97))).bandPick = none) :
    Completes (.lockComplete t phase hp) s fun u =>
      u.clk.state = .bclk ∧ u.clk.failReason = 2 ∧ u.shows Reg.CLK_STAT 1 :=
  ⟨_, (exec_lockComplete t phase hp h ht).1 hb, State.lockFailed_spec _ 2⟩

theorem lockFail_ends {s : State} (t : Nat) (reason : LockFailure) (h : s.locking = true) :
    Completes (.lockFail t reason) s fun u => u.clk.state = .bclk ∧ u.shows Reg.CLK_STAT 1 ∧
      u.clk.failReason = match reason with
        | .noRef => 4
        | .noBand => 2
        | .timeout => 3 := by
  have hfail (x : State) (n : Nat) : (x.lockFailed n).clk.state = .bclk ∧ (x.lockFailed n).shows Reg.CLK_STAT 1 ∧
      (x.lockFailed n).clk.failReason = n := by
    obtain ⟨hstate, hreason, hshows⟩ := x.lockFailed_spec n
    exact ⟨hstate, hshows, hreason⟩
  cases reason with
  | noRef => exact ⟨_, if_pos h, hfail _ 4⟩
  | noBand => exact ⟨_, if_pos h, hfail _ 2⟩
  | timeout => exact ⟨_, if_pos h, hfail _ 3⟩

/-! ## Band sweeps (R54) -/

theorem bandSweep_starts {s : State} (t : Nat) (p : Path) (hg : s.gated = false) (h : s.clk.state = .bclk) :
    Completes (.bandSweep t p) s fun u =>
      u.clk.sweeping = true ∧ u.clk.seqAt = u.now ∧ u.clk.state = .bclk ∧ Unchanged [.clk] (s.at t) u := by
  refine ⟨(s.at t).modClk (fun c => { c with sweeping := true, seqAt := (s.at t).now }),
    congrArg Host.Outcome.next ((State.onBar_at hg t _).trans (if_pos (by rwa [State.at_clk]))), rfl, rfl, ?_,
    State.setClk_unchanged _ _⟩
  rw [State.modClk_clk, State.at_clk]
  exact h

/-- Values put into the entries of a table, one after the other. -/
theorem State.putWide_table {s : State} (base n : Nat) (v : Nat → Nat)
    (h : ∀ k, k < n → s.isFrozen (base + k) = false) :
    ∀ k, k < n → (forN n s (fun s k => s.putWide (base + k) (v k))).wideRaw (base + k) =
      BitVec.ofNat 128 (v k % 2 ^ 128 % 2 ^ idBits (base + k)) := by
  have hstep (x : State) (m : Nat) : forN (m + 1) x (fun s k => s.putWide (base + k) (v k)) =
      (forN m x (fun s k => s.putWide (base + k) (v k))).putWide (base + m) (v m) := by
    unfold forN
    rw [List.range_succ, List.foldl_append]
    rfl
  have hfrozen (m o : Nat) : (forN m s (fun s k => s.putWide (base + k) (v k))).isFrozen o = s.isFrozen o := by
    induction m with
    | zero => rfl
    | succ m ih => rw [hstep, State.putWide, State.updWide_isFrozen, ih]
  induction n with
  | zero => exact fun k hk => absurd hk (Nat.not_lt_zero k)
  | succ n ih =>
    intro k hk
    rw [hstep, State.putWide, (State.updWide_free _ (by rw [hfrozen]; exact h n (by omega))).2]
    by_cases hkn : k = n
    · subst hkn
      rw [if_pos rfl]
      simp [WideUpd.apply]
    · rw [if_neg (by omega)]
      exact ih (fun j hj => h j (by omega)) k (by omega)

/-- A word in a wide value of 32 bits. -/
theorem Word.setWidth_wide (w : Word) : w.setWidth 128 = BitVec.ofNat 128 (w.toNat % 2 ^ 128 % 2 ^ 32) := by
  have hword := w.isLt
  apply BitVec.eq_of_toNat_eq
  simp only [BitVec.toNat_ofNat, BitVec.toNat_setWidth]
  omega

theorem idBits_band : ∀ k, k < 32 → idBits (Id.CLK_VCO_BAND + k) = 32 := by decide

theorem State.modSec_unchanged (s : State) (f : Sec → Sec) : Unchanged [.sec] s (s.modSec f) := s.setSec_unchanged _

/-- The journal takes a record, or flags its lack of room. -/
theorem State.jAppend_unchanged (s : State) (typ : Nat) (l : List Nat) :
    Unchanged (.sec :: eventParts) s (s.jAppend typ l).1 := by
  have hsec (x : State) (f : Sec → Sec) : Unchanged (.sec :: eventParts) x (x.modSec f) :=
    (x.modSec_unchanged f).mono (by decide)
  unfold State.jAppend
  dsimp only
  split
  · exact .refl _ s
  · split
    · exact (s.event_unchanged _ _ _).mono (by decide)
    · exact .thenIf ((Unchanged.ite (.refl _ s) (hsec _ _)).trans (hsec _ _)) (hsec _ _)

theorem State.jBands_unchanged (s : State) : Unchanged (.sec :: eventParts) s s.jBands := s.jAppend_unchanged _ _

theorem State.at_isFrozen (s : State) (t id : Nat) : (s.at t).isFrozen id = s.isFrozen id := by
  simp only [State.isFrozen, State.at_mbxS, State.at_mbxG, State.at_mbxH]

/-- A sweep's result in all 32 entries of CLK_VCO_BAND. -/
def State.bandsPut (s : State) (bands : List Word) : State :=
  forN 32 s (fun s k => s.putWide (Id.CLK_VCO_BAND + k) (bands.getD k 0).toNat)

theorem State.bandsPut_clk (s : State) (bands : List Word) : (s.bandsPut bands).clk = s.clk :=
  (Quiet.foldl (List.range 32) _ (fun s k => s.putWide_quiet (Id.CLK_VCO_BAND + k) (bands.getD k 0).toNat) s).clk

theorem State.bandsPut_wideRaw {s : State} (bands : List Word)
    (h : ∀ k, k < 32 → s.isFrozen (Id.CLK_VCO_BAND + k) = false) {k : Nat} (hk : k < 32) :
    (s.bandsPut bands).wideRaw (Id.CLK_VCO_BAND + k) = (bands.getD k 0).setWidth 128 := by
  rw [State.bandsPut, State.putWide_table _ 32 (fun k => (bands.getD k 0).toNat) h k hk, idBits_band k hk]
  exact (Word.setWidth_wide _).symm

/-- The clock system at the end of a sweep. -/
def Clock.sweepEnded (c : Clock) (reason : Nat) : Clock := { c with sweeping := false, failReason := reason }

theorem State.modClk_isFrozen (s : State) (f : Clock → Clock) (id : Nat) : (s.modClk f).isFrozen id = s.isFrozen id := rfl

theorem bandSweepDone_putsBands {s : State} (t : Nat) (bands : List Word) (h : s.clk.sweeping = true)
    (hfree : ∀ k, k < 32 → s.isFrozen (Id.CLK_VCO_BAND + k) = false) :
    Completes (.bandSweepDone t true bands) s fun u => u.clk.sweeping = false ∧ u.clk.failReason = 0 ∧
      u.shows Reg.CLK_STAT 7 ∧ ∀ k, k < 32 → u.wideRaw (Id.CLK_VCO_BAND + k) = (bands.getD k 0).setWidth 128 := by
  have hexec : exec (.bandSweepDone t true bands) s =
      .next ((((s.at t).modClk (fun c => c.sweepEnded 0)).bandsPut bands).jBands.event Reg.CLK_STAT 7 {}) :=
    if_pos (by rwa [State.at_clk])
  have hclk : ((((s.at t).modClk (fun c => c.sweepEnded 0)).bandsPut bands).jBands.event Reg.CLK_STAT 7 {}).clk =
      s.clk.sweepEnded 0 := by
    have hjournal (x : State) : x.jBands.clk = x.clk := x.jBands_unchanged .clk (by decide)
    rw [State.event_clk, hjournal, State.bandsPut_clk, State.modClk_clk, State.at_clk]
  refine ⟨_, hexec, congrArg Clock.sweeping hclk, congrArg Clock.failReason hclk, State.event_shows _ _ (by decide) _,
    fun k hk => ?_⟩
  rw [(State.event_unchanged _ _ _ _).wideRaw (by decide), (State.jBands_unchanged _).wideRaw (by decide)]
  exact State.bandsPut_wideRaw bands (fun j hj => by rw [State.modClk_isFrozen, State.at_isFrozen, hfree j hj]) hk

theorem bandSweepDone_noRef {s : State} (t : Nat) (bands : List Word) (h : s.clk.sweeping = true) :
    Completes (.bandSweepDone t false bands) s fun u => u.clk.sweeping = false ∧ u.clk.failReason = 4 ∧
      u.shows Reg.CLK_STAT 7 ∧ ∀ id, u.wideRaw id = (s.at t).wideRaw id := by
  have hexec : exec (.bandSweepDone t false bands) s = .next (((s.at t).modClk (fun c => c.sweepEnded 4)).event
      Reg.CLK_STAT 7 {}) := if_pos (by rwa [State.at_clk])
  refine ⟨_, hexec, ?_, ?_, State.event_shows _ _ (by decide) _, (State.event_unchanged _ _ _ _).wideRaw (by decide)⟩
  · rw [State.event_clk, State.modClk_clk]
    rfl
  · rw [State.event_clk, State.modClk_clk]
    rfl

/-! ## Phase measurements (R59) -/

theorem State.updWide_unchanged_free {s : State} {id : Nat} (u : WideUpd) (h : s.isFrozen id = false) :
    Unchanged [.wide, .recent] s (s.updWide id u) := by
  have hif (r : List (Nat × Nat × WideUpd)) : State.isFrozen { s with recent := r } id = false := h
  unfold State.updWide
  rw [if_neg (by rw [hif]; decide)]
  intro p hp
  cases p <;> first | rfl | exact absurd (by decide) hp

theorem phaseMeasure_putsPhase {s : State} (t : Nat) (p : Path) (phase : Word) (hg : s.gated = false) (h : s.onVco = true)
    (hfree : s.isFrozen Id.CLK_PHASE = false) : Completes (.phaseMeasure t p phase) s fun u =>
      u.wideRaw Id.CLK_PHASE = phase.setWidth 128 ∧ Unchanged [.wide, .recent] (s.at t) u := by
  have hfree' : (s.at t).isFrozen Id.CLK_PHASE = false := (s.at_isFrozen t _).trans hfree
  refine ⟨(s.at t).putWide Id.CLK_PHASE phase.toNat,
    congrArg Host.Outcome.next ((State.onBar_at hg t _).trans (if_pos (by rwa [State.at_onVco]))), ?_,
    State.updWide_unchanged_free _ hfree'⟩
  rw [State.putWide, (State.updWide_free _ hfree').2, if_pos rfl, WideUpd.apply, BitVec.toNat_ofNat,
    show idBits Id.CLK_PHASE = 32 by decide]
  exact (Word.setWidth_wide phase).symm

/-- Settles O28: the commands of a lock and of a band sweep one after the other, the band picked, and the reduced jump. -/
theorem lockSequences : Obligations.LockSequences := by
  unfold Obligations.LockSequences
  refine ⟨⟨fun t p _ => lock_qualifiesOrFails t p, fun t p _ => lock_startsNothing t p,
    fun t phase hp _ _ => lockComplete_locks t phase hp, fun t phase hp _ => lockComplete_noBand t phase hp,
    fun t reason _ => lockFail_ends t reason, fun t p _ => bandSweep_starts t p,
    fun t bands _ => bandSweepDone_putsBands t bands, fun t bands _ => bandSweepDone_noRef t bands,
    fun t p phase _ => phaseMeasure_putsPhase t p phase⟩, fun s => ⟨fun b hb => ?_, s.bandPick_none⟩,
    fun n x => jumpMod_spec x⟩
  have h := s.bandPick_nearest
  rw [hb] at h
  exact h

end Sys2Proof.Machine
end

section
/-! PROOFS. Changes that count no frame: which parts the shared operations, the Coil and the entry into SAFE reach, and that
none of them touches WHL_FRAME_COUNT (R76, R93, R110, R407). -/

namespace Sys2Proof.Machine

/-! ## Changes that count no frame -/

/-- From `s` to `u` only these parts change, and no frame is counted: WHL_FRAME_COUNT keeps its stored word. -/
structure Steady (but : List Part) (s u : State) : Prop where
  parts : Unchanged but s u
  count : u.wideRaw Id.WHL_FRAME_COUNT = s.wideRaw Id.WHL_FRAME_COUNT

namespace Steady

theorem refl (but : List Part) (s : State) : Steady but s s := ⟨.refl but s, rfl⟩

theorem trans {but : List Part} {a b c : State} (h : Steady but a b) (k : Steady but b c) : Steady but a c :=
  ⟨h.parts.trans k.parts, k.count.trans h.count⟩

theorem mono {but more : List Part} {s u : State} (h : Steady but s u) (k : but ⊆ more) : Steady more s u :=
  ⟨h.parts.mono k, h.count⟩

theorem of_unchanged {l but : List Part} {s u : State} (h : Unchanged l s u) (hw : Part.wide ∉ l)
    (k : l ⊆ but) : Steady but s u := ⟨h.mono k, h.wideRaw hw _⟩

theorem ite {but : List Part} {s x y : State} {c : Prop} [Decidable c] (hx : Steady but s x) (hy : Steady but s y) :
    Steady but s (if c then x else y) := by
  split
  · exact hx
  · exact hy

/-- A further step that is taken under a condition only. -/
theorem thenIf {but : List Part} {s x y : State} {c : Prop} [Decidable c] (hx : Steady but s x) (hy : Steady but x y) :
    Steady but s (if c then y else x) := ite (hx.trans hy) hx

theorem foldl {but : List Part} {α : Type} (l : List α) {f : State → α → State} (h : ∀ s a, Steady but s (f s a))
    (s : State) : Steady but s (l.foldl f s) := by
  induction l generalizing s with
  | nil => exact refl but s
  | cons a l ih => exact (h s a).trans (ih _)

theorem forN {but : List Part} {n : Nat} {f : State → Nat → State} (h : ∀ s k, Steady but s (f s k)) (s : State) :
    Steady but s (forN n s f) := foldl _ h s

end Steady

/-! ## One part replaced -/

theorem State.setModes_unchanged (s : State) (x : Modes) : Unchanged [.mode] s { s with mode := x } := by
  intro p hp
  cases p <;> first | rfl | exact absurd (by decide) hp

theorem State.setPins_unchanged (s : State) (x : Pins) : Unchanged [.pins] s { s with pins := x } := by
  intro p hp
  cases p <;> first | rfl | exact absurd (by decide) hp

theorem State.freeUsed_unchanged (s : State) : Unchanged [.freeNext] s s.freeUsed := by
  intro p hp
  cases p <;> first | rfl | exact absurd (by decide) hp

/-! ## Events, faults and values -/

section
variable {but : List Part} (s : State)

theorem State.event_steady (off b : Nat) (i : Info) (k : eventParts ⊆ but) :
    Steady but s (s.event off b i) := .of_unchanged (s.event_unchanged off b i) (by decide) k

theorem State.raise_steady (off : Nat) (f : BitVec 16) (k : [Part.stat, .hif] ⊆ but) :
    Steady but s (s.raise off f) := .of_unchanged (s.raise_unchanged off f) (by decide) k

theorem State.logPush_steady (e : LogEntry) (k : [Part.log, .hif, .cap] ⊆ but) :
    Steady but s (s.logPush e) := .of_unchanged (s.logPush_unchanged e) (by decide) k

theorem State.capCond_steady (a u f : Nat) (i : Bool) (d : Nat) (k : [Part.cap] ⊆ but) :
    Steady but s (s.capCond a u f i d) := by
  unfold State.capCond
  exact .ite (.of_unchanged (s.setCap_unchanged _) (by decide) k) (.refl but s)

theorem State.updWide_unchanged (id : Nat) (u : WideUpd) : Unchanged [.wide, .deferred, .recent] s (s.updWide id u) := by
  intro p hp
  unfold State.updWide
  dsimp only
  split <;> cases p <;> first | rfl | exact absurd (by decide) hp

/-- A value other than the frame counter is updated. -/
theorem State.updWide_steady {id : Nat} (u : WideUpd) (h : Id.WHL_FRAME_COUNT ≠ id)
    (k : [Part.wide, .deferred, .recent] ⊆ but) : Steady but s (s.updWide id u) where
  parts := (s.updWide_unchanged id u).mono k
  count := by
    by_cases hz : s.isFrozen id = true
    · exact (State.updWide_frozen u hz).2 _
    · rw [(State.updWide_free u (by simpa using hz)).2, if_neg h]

theorem State.putWide_steady {id : Nat} (v : Nat) (h : Id.WHL_FRAME_COUNT ≠ id)
    (k : [Part.wide, .deferred, .recent] ⊆ but) : Steady but s (s.putWide id v) := s.updWide_steady _ h k

theorem State.bump_steady {id : Nat} (n : Nat) (h : Id.WHL_FRAME_COUNT ≠ id)
    (k : [Part.wide, .deferred, .recent] ⊆ but) : Steady but s (s.bump id n) :=
  .ite (.refl but s) (s.updWide_steady _ h k)

theorem State.faultEntry_steady (c : Nat) (i : Info) (k : eventParts ⊆ but) :
    Steady but s (s.faultEntry c i) :=
  ((s.logPush_steady _ (by decide)).trans (State.raise_steady _ _ _ (by decide))).mono k

end

/-! ## The Coil -/

/-- The parts that the Coil's own reports and states may reach. -/
def coilParts : List Part := [.coil, .wide, .deferred, .recent, .stat, .log, .hif, .cap]

theorem State.modCoil_steady (s : State) (f : Coil → Coil) : Steady coilParts s (s.modCoil f) :=
  .of_unchanged (s.setCoil_unchanged _) (by decide) (by decide)

theorem State.coilSend_steady (s : State) (x : CoilPkt) : Steady coilParts s (s.coilSend x) :=
  .ite (s.modCoil_steady _) (.refl _ s)

theorem State.coilOut_steady (s : State) (port cls typ dst : Nat) (l : List (BitVec 128)) :
    Steady coilParts s (s.coilOut port cls typ dst l) := by
  unfold State.coilOut State.coilSeqUsed
  exact (s.coilSend_steady _).trans (State.modCoil_steady _ _)

theorem State.coilTo_steady (s : State) (cls typ dst : Nat) (l : List (BitVec 128)) :
    Steady coilParts s (s.coilTo cls typ dst l) := by
  unfold State.coilTo
  split
  · exact s.coilOut_steady _ _ _ _ _
  · exact .refl _ s

/-- No Coil address makes a node's entry the frame counter. -/
theorem frameCount_ne_node (a : Nat) : Id.WHL_FRAME_COUNT ≠ Id.COIL_NODE + a := by
  unfold Id.WHL_FRAME_COUNT Id.COIL_NODE
  omega

theorem State.coilReport_steady (s : State) (a w f o : Nat) : Steady coilParts s (s.coilReport a w f o) := by
  unfold State.coilReport
  exact .thenIf ((s.putWide_steady _ (frameCount_ne_node _) (by decide)).trans (State.modCoil_steady _ _))
    (State.event_steady _ _ _ _ (by decide))

theorem State.coilStatus_steady (s : State) : Steady coilParts s s.coilStatus := by
  unfold State.coilStatus
  exact .ite ((s.modCoil_steady _).trans (.ite (State.coilReport_steady _ _ _ _ _) (State.coilTo_steady _ _ _ _ _)))
    (.refl _ s)

theorem State.coilLive_steady (s : State) (n : Nat) : Steady coilParts s (s.coilLive n) :=
  .ite (.refl _ s) s.coilStatus_steady

theorem State.coilLiveFrom_steady (u s : State) : Steady coilParts u (u.coilLiveFrom s) :=
  .ite (u.coilLive_steady _) (.refl _ u)

theorem State.coilAlignSet_steady (s : State) (st : Nat) : Steady coilParts s (s.coilAlignSet st) := by
  have hshown (x : State) (i j : Info) : Steady coilParts x
      (if st = 2 then x.event Reg.COIL_STAT 6 i else if st = 4 then x.event Reg.COIL_STAT 7 j else x) :=
    .ite (x.event_steady _ _ _ (by decide)) (.ite (x.event_steady _ _ _ (by decide)) (.refl _ x))
  unfold State.coilAlignSet
  exact .ite (.refl _ s) (((s.modCoil_steady _).trans (hshown _ _ _)).trans (State.coilStatus_steady _))

theorem State.coilAcquire_steady (s : State) : Steady coilParts s s.coilAcquire :=
  (s.modCoil_steady _).trans (State.coilAlignSet_steady _ _)

theorem State.coilCheck_steady (s : State) : Steady coilParts s s.coilCheck := by
  unfold State.coilCheck
  exact .ite (.ite (.refl _ s) ((s.modCoil_steady _).trans (State.coilAlignSet_steady _ _)))
    (.ite (s.coilAlignSet_steady _) (.ite s.coilAcquire_steady (.refl _ s)))

theorem State.coilTrimReset_steady (s : State) : Steady coilParts s s.coilTrimReset :=
  (s.modCoil_steady _).trans (.ite (State.coilAcquire_steady _) (State.coilCheck_steady _))

end Sys2Proof.Machine
end

section
/-! PROOFS. A frame boundary counts its frame once: the entry into SAFE, emission, time, calibration, the Shelf, the fields and
the records of a boundary leave WHL_FRAME_COUNT as it is (R76, R93, R110, R118, R159, R241, R273, R306, R313, R397). -/

namespace Sys2Proof.Machine

/-- The parts that a frame boundary may reach: neither the tick, nor a mailbox, a register or a lock. -/
def boundaryParts : List Part :=
  [.clk, .tsu, .lan, .emt, .pq, .mode, .whl, .pix, .cal, .kln, .shf, .sec, .pins, .mem, .freeNext] ++ coilParts

/-- What the Coil does at a boundary stays within the parts of the boundary. -/
theorem Steady.ofCoil {s u : State} (h : Steady coilParts s u) : Steady boundaryParts s u := h.mono (by decide)

/-- A change of these parts, the wide values apart. -/
theorem Steady.of_same {s u : State}
    (h : (u.now, u.regs, u.locks, u.wide, u.mbxS, u.mbxG, u.mbxH, u.lastWrites, u.rdata, u.crc, u.timers, u.str, u.glz,
        u.thm, u.sfe, u.pending) =
      (s.now, s.regs, s.locks, s.wide, s.mbxS, s.mbxG, s.mbxH, s.lastWrites, s.rdata, s.crc, s.timers, s.str, s.glz,
        s.thm, s.sfe, s.pending)) : Steady boundaryParts s u := by
  simp only [Prod.mk.injEq] at h
  obtain ⟨hnow, hregs, hlocks, hwide, hS, hG, hH, hwrites, hrdata, hcrc, htimers, hstr, hglz, hthm, hsfe, hpending⟩ := h
  refine ⟨fun p hp => ?_, by rw [State.wideRaw, hwide]; rfl⟩
  cases p <;> first | exact absurd (by decide) hp | assumption

/-! ## Entry into SAFE (R93, R94) -/

theorem State.latchCauses_steady (s : State) (c : Nat) : Steady boundaryParts s (s.latchCauses c) :=
  (s.raise_steady _ _ (by decide)).trans (.forN (fun s _ => .ite (s.logPush_steady _ (by decide)) (.refl _ s)) _)

theorem State.permitOff_unchanged (s : State) : Unchanged (.sec :: eventParts) s s.permitOff := by
  unfold State.permitOff
  refine .ite (Unchanged.trans ?_ ((State.event_unchanged _ _ _ _).mono (by decide))) (.refl _ s)
  exact (s.setSec_unchanged _).mono (by decide)

theorem State.modKiln_steady (s : State) (k : Nat) (f : Kiln → Kiln) : Steady boundaryParts s (s.modKiln k f) := .of_same rfl

theorem State.modFrame_steady (s : State) (n : Nat) (f : FrameQ → FrameQ) : Steady boundaryParts s (s.modFrame n f) := .of_same rfl

theorem State.modWhl_steady (s : State) (f : Wheel → Wheel) : Steady boundaryParts s (s.modWhl f) := .of_same rfl

theorem State.setEmt_steady (s : State) (x : Emission) : Steady boundaryParts s { s with emt := x } := .of_same rfl

theorem State.setModes_steady (s : State) (x : Modes) : Steady boundaryParts s { s with mode := x } := .of_same rfl

theorem State.voidOpenPixel_steady (s : State) (c : Nat) : Steady boundaryParts s (s.voidOpenPixel c) := by
  unfold State.voidOpenPixel
  split
  · exact .refl _ s
  · refine Steady.trans (.forN (fun s k => ?_) s) (.of_same rfl)
    exact ((s.modKiln_steady _ _).trans (State.modKiln_steady _ _ _)).trans (State.event_steady _ _ _ _ (by decide))

theorem State.cutFrame_steady (s : State) (c : CutInfo) : Steady boundaryParts s (s.cutFrame c) :=
  (Steady.thenIf (s.voidOpenPixel_steady _) (State.modFrame_steady _ _ _)).trans (.of_same rfl)

theorem State.haltWheel_steady (s : State) (f : Bool) : Steady boundaryParts s (s.haltWheel f) :=
  .thenIf (.of_same rfl) (State.event_steady _ _ _ _ (by decide))

theorem State.interruptBoot_steady (s : State) : Steady boundaryParts s s.interruptBoot := .ite (.of_same rfl) (.refl _ s)

theorem State.setCap_steady (s : State) (x : Capture) : Steady boundaryParts s { s with cap := x } := .of_same rfl

theorem State.dropOssd_steady (s : State) : Steady boundaryParts s s.dropOssd :=
  .ite ((s.setCap_steady _).trans (State.event_steady _ _ _ _ (by decide))) (.refl _ s)

theorem State.safeCut_steady (s : State) (c : Nat) : Steady boundaryParts s (s.safeCut c) := by
  unfold State.safeCut
  refine ((Steady.trans ?_ (State.dropOssd_steady _)).trans (State.cutFrame_steady _ _)).trans (State.haltWheel_steady _ _)
  exact s.interruptBoot_steady.trans (State.setEmt_steady _ _)

theorem State.setMode_steady (s : State) (m : Mode) : Steady boundaryParts s (s.setMode m) :=
  ((s.setModes_steady _).trans (State.event_steady _ _ _ _ (by decide))).trans (State.coilStatus_steady _).ofCoil

theorem State.leaveStandby_steady (s : State) : Steady boundaryParts s s.leaveStandby := .of_same rfl

theorem State.safeTrigger_steady (s : State) : Steady boundaryParts s s.safeTrigger :=
  .ite (s.capCond_steady _ _ _ _ _ (by decide)) (.refl _ s)

theorem State.setCal_steady (s : State) (x : Calib) : Steady boundaryParts s { s with cal := x } := .of_same rfl

theorem State.calFail_steady (s : State) (r : Nat) : Steady boundaryParts s (s.calFail r) :=
  (s.setCal_steady _).trans (State.event_steady _ _ _ _ (by decide))

theorem State.calAbort_steady (s : State) : Steady boundaryParts s s.calAbort := .ite (s.calFail_steady 3) (.refl _ s)

theorem State.safeEnter_steady (s : State) (c : Nat) : Steady boundaryParts s (s.safeEnter c) := by
  have hpermit (x : State) : Steady boundaryParts x x.permitOff :=
    .of_unchanged x.permitOff_unchanged (by decide) (by decide)
  have henter (x : State) : Steady boundaryParts x (((x.safeCut c).permitOff.setMode .safe).event Reg.GLB_MODE_STAT 3 {}) :=
    (((x.safeCut_steady c).trans (hpermit _)).trans (State.setMode_steady _ _)).trans
      (State.event_steady _ _ _ _ (by decide))
  unfold State.safeEnter
  refine (Steady.ite (.refl _ s) (s.latchCauses_steady c)).trans (.ite (.refl _ _) (.ite (hpermit _) ?_))
  exact (((henter _).trans (State.leaveStandby_steady _)).trans (State.safeTrigger_steady _)).trans
    (State.calAbort_steady _)

theorem State.fatal_steady (s : State) (code : Nat) (b : Option Nat) (cause : Nat) (i : Info) :
    Steady boundaryParts s (s.fatal code b cause i) := by
  have hlog (x : State) (l : FaultLog) : Steady boundaryParts x { x with log := l } :=
    .of_unchanged (x.setLog_unchanged l) (by decide) (by decide)
  unfold State.fatal
  refine Steady.trans (Steady.trans ?_ (State.safeEnter_steady _ _)) (State.coilLiveFrom_steady _ _).ofCoil
  cases b with
  | none => exact s.faultEntry_steady code i (by decide)
  | some b => exact (s.faultEntry_steady code i (by decide)).trans (hlog _ _)

/-! ## Emission (R159 to R163, R176 to R180) -/

theorem State.modEm_steady (s : State) (k : Nat) (f : Emitter → Emitter) : Steady boundaryParts s (s.modEm k f) :=
  s.setEmt_steady _

theorem State.emtFail_steady (s : State) (k cls m : Nat) : Steady boundaryParts s (s.emtFail k cls m) := by
  have hstop (x : State) : Steady boundaryParts x x.stopBurst := x.setEmt_steady _
  unfold State.emtFail
  refine .ite (.refl _ s) (Steady.trans (((s.modEm_steady _ _).trans (State.setEmt_steady _ _)).trans
    (State.raise_steady _ _ _ (by decide))) (.ite ?_ (State.faultEntry_steady _ _ _ (by decide))))
  exact ((hstop _).trans (State.fatal_steady _ _ _ _ _)).trans (State.coilLiveFrom_steady _ _).ofCoil

theorem State.takeWholeOff_steady (s : State) : Steady boundaryParts s s.takeWholeOff := by
  have hstop (x : State) : Steady boundaryParts x x.stopBurst := x.setEmt_steady _
  unfold State.takeWholeOff
  refine .ite (.refl _ s) (Steady.trans ?_ (State.coilLiveFrom_steady _ _).ofCoil)
  exact ((Steady.foldl _ (fun s k => s.modEm_steady k _) s).trans (hstop _)).trans
    (.foldl _ (fun s k => s.fatal_steady _ _ _ _) _)

theorem State.emtPolicy_steady (s : State) (g : Bool) : Steady boundaryParts s (s.emtPolicy g) :=
  .ite (s.setEmt_steady _) ((s.setEmt_steady _).trans (State.takeWholeOff_steady _))

theorem State.proofFailed_steady (s : State) (k : Nat) : Steady boundaryParts s (s.proofFailed k) :=
  .thenIf (s.setEmt_steady _) ((State.modEm_steady _ _ _).trans (State.event_steady _ _ _ _ (by decide)))

theorem State.tblSnapshot_steady (s : State) : Steady boundaryParts s s.tblSnapshot := by
  unfold State.tblSnapshot
  exact .thenIf (.thenIf (s.setEmt_steady _) (State.event_steady _ _ _ _ (by decide)))
    (State.event_steady _ _ _ _ (by decide))

theorem State.tblBoundary_steady (s : State) (t : Nat) : Steady boundaryParts s (s.tblBoundary t) := by
  have hstale (x : State) : Steady boundaryParts x ((x.bump Id.EMT_STALE_FRAMES).event Reg.EMT_STAT 4 {}) :=
    (x.bump_steady _ (by decide) (by decide)).trans (State.event_steady _ _ _ _ (by decide))
  have hbus (x : State) : Steady boundaryParts x
      (forN 32 x (fun s k => if decide ((s.em k).st ≠ 0) then s.emtFail k 5 0 else s)) :=
    .forN (fun s k => .ite (s.emtFail_steady k 5 0) (.refl _ s)) x
  unfold State.tblBoundary
  refine .ite (.refl _ s) (.ite ((s.setEmt_steady _).trans (State.setEmt_steady _ _)) (.thenIf ?_ (hbus _)))
  exact (s.setEmt_steady _).trans (hstale _)

theorem State.codeBoundary_steady (s : State) : Steady boundaryParts s s.codeBoundary :=
  .thenIf (s.setEmt_steady _) (State.event_steady _ _ _ _ (by decide))

theorem State.placeProofs_steady (s : State) : Steady boundaryParts s s.placeProofs := by
  have hplace (x : State) (k : Nat) : Steady boundaryParts x (x.placeProof k) := by
    unfold State.placeProof
    dsimp only
    split
    · exact x.setEmt_steady _
    · exact .refl _ x
  exact .forN (fun s k => .ite (hplace s k) (.refl _ s)) s

theorem State.emtUnobserved_steady (s : State) : Steady boundaryParts s s.emtUnobserved :=
  .forN (fun s k => .thenIf (s.modEm_steady k _) (State.emtFail_steady _ _ _ _)) s

theorem State.emtEnables_steady (s : State) : Steady boundaryParts s s.emtEnables :=
  .forN (fun s k => .ite (.ite (s.modEm_steady k _) (.refl _ s))
    (.ite (.refl _ s) ((s.setEmt_steady _).trans (State.modEm_steady _ _ _)))) s

theorem State.emtNsr_steady (s : State) : Steady boundaryParts s s.emtNsr := .forN (fun s k => s.modEm_steady k _) s

theorem State.emtBoundary_steady (s : State) (t : Nat) (g : Bool) : Steady boundaryParts s (s.emtBoundary t g) := by
  have hdeny (x : State) : Steady boundaryParts x (x.denyProofs t) := .foldl _ (fun s k => s.proofFailed_steady k) x
  have hfirst : Steady boundaryParts s ((((s.markBoundary t).tblBoundary t).emtPolicy g).denyProofs t) :=
    (((s.setEmt_steady _).trans (State.tblBoundary_steady _ t)).trans (State.emtPolicy_steady _ g)).trans (hdeny _)
  unfold State.emtBoundary
  exact .ite (.refl _ s) ((((((hfirst.trans (State.emtUnobserved_steady _)).trans (State.emtEnables_steady _)).trans
    (State.emtNsr_steady _)).trans (State.tblSnapshot_steady _)).trans (State.codeBoundary_steady _)).trans
    (State.placeProofs_steady _))

/-! ## Time and the Coil (R371, R397) -/

theorem State.modTsu_steady (s : State) (f : Tsu → Tsu) : Steady boundaryParts s (s.modTsu f) := .of_same rfl

theorem State.utimeSetBoundary_steady (s : State) : Steady boundaryParts s s.utimeSetBoundary := by
  unfold State.utimeSetBoundary
  exact .ite ((s.modTsu_steady _).trans (.ite (State.event_steady _ _ _ _ (by decide)) (State.modTsu_steady _ _))) (.refl _ s)

theorem State.coilStep_steady (s : State) (n : Nat) : Steady boundaryParts s (s.coilStep n) :=
  ((s.modTsu_steady _).trans (State.event_steady _ _ _ _ (by decide))).trans (State.bump_steady _ _ (by decide) (by decide))

theorem State.coilBoundary_steady (s : State) : Steady boundaryParts s s.coilBoundary := by
  have hcoil (x : State) (f : Coil → Coil) : Steady boundaryParts x (x.modCoil f) := (x.modCoil_steady f).ofCoil
  unfold State.coilBoundary
  refine .thenIf (.ite (.refl _ s) (.thenIf ?_ (State.coilAcquire_steady _).ofCoil))
    ((State.coilStep_steady _ _).trans (hcoil _ _))
  exact (s.coilStep_steady _).trans (hcoil _ _)

/-! ## Calibration (R239 to R241) -/

theorem State.calEnd_steady (s : State) (l st : Nat) : Steady boundaryParts s (s.calEnd l st) := by
  unfold State.calEnd
  exact ((s.setCal_steady _).trans (State.setCal_steady _ _)).trans
    (.ite (State.event_steady _ _ _ _ (by decide)) (.ite (State.event_steady _ _ _ _ (by decide)) (.refl _ _)))

theorem State.calTryEnd_steady (s : State) (e : Bool) (l : Nat) : Steady boundaryParts s (s.calTryEnd e l) :=
  .ite (.refl _ s) (.ite (s.calEnd_steady _ _) (.ite (s.calEnd_steady _ _) (.ite (s.calEnd_steady _ _) (.refl _ s))))

theorem State.calAccept_steady (s : State) : Steady boundaryParts s s.calAccept := by
  have hfree : Steady boundaryParts s s.freeUsed := .of_unchanged s.freeUsed_unchanged (by decide) (by decide)
  exact (hfree.trans (State.setCal_steady _ _)).trans (State.event_steady _ _ _ _ (by decide))

theorem State.calVerdict_steady (s : State) : Steady boundaryParts s s.calVerdict := by
  have hsum (v : Nat) : Steady boundaryParts s (s.putWide Id.CAL_RUN_SUM v) := s.putWide_steady v (by decide) (by decide)
  unfold State.calVerdict
  exact .ite ((hsum _).trans (.ite (State.calFail_steady _ _) (.ite (State.calFail_steady _ _)
    (.ite (State.calFail_steady _ _) (State.calAccept_steady _))))) (.refl _ s)

theorem State.calSwap_steady (s : State) : Steady boundaryParts s s.calSwap := by
  unfold State.calSwap
  exact (((s.setCal_steady _).trans (State.bump_steady _ _ (by decide) (by decide))).trans
    (State.putWide_steady _ _ (by decide) (by decide))).trans (State.event_steady _ _ _ _ (by decide))

theorem State.calBoundary_steady (s : State) (f : Bool) : Steady boundaryParts s (s.calBoundary f) := by
  have hend (x : State) : Steady boundaryParts x
      (forN 512 x (fun s l => if s.laneOff l then s.calTryEnd false l else s)) :=
    .forN (fun s l => .ite (s.calTryEnd_steady false l) (.refl _ s)) x
  have hfirst : Steady boundaryParts s (if s.cal.st = 1 then
      (forN 512 s (fun s l => if s.laneOff l then s.calTryEnd false l else s)).calVerdict else s) :=
    .ite ((hend s).trans (State.calVerdict_steady _)) (.refl _ s)
  unfold State.calBoundary
  dsimp only
  split
  · exact hfirst.trans (.ite (State.calSwap_steady _) (.refl _ _))
  · exact hfirst

/-! ## Shelf and fields (R273, R277 to R284, R358) -/

theorem State.setShf_steady (s : State) (x : Shelf) : Steady boundaryParts s { s with shf := x } := .of_same rfl

theorem State.shfApply_steady (s : State) : Steady boundaryParts s s.shfApply.1 :=
  .thenIf (s.setShf_steady _) (State.event_steady _ _ _ _ (by decide))

theorem State.shfFlush_steady (s : State) (f : Nat) : Steady boundaryParts s (s.shfFlush f) :=
  ((s.setShf_steady _).trans (State.putWide_steady _ _ (by decide) (by decide))).trans
    (State.event_steady _ _ _ _ (by decide))

theorem State.shfBoundary_steady (s : State) (f tf : Nat) (start : Bool) :
    Steady boundaryParts s (s.shfBoundary f tf start) := by
  unfold State.shfBoundary
  exact ((Steady.thenIf s.shfApply_steady (State.shfFlush_steady _ _)).trans (State.setShf_steady _ _)).trans
    (State.putWide_steady _ _ (by decide) (by decide))

theorem State.ossdCheck_steady (s : State) : Steady boundaryParts s s.ossdCheck :=
  .ite (s.setCap_steady _) (s.dropOssd_steady.trans (State.setCap_steady _ _))

theorem State.fsetBoundary_steady (s : State) : Steady boundaryParts s s.fsetBoundary :=
  .ite (.refl _ s) ((s.setCap_steady _).trans (State.ossdCheck_steady _))

/-! ## The Point Queue (R312, R313) -/

theorem State.setPq_steady (s : State) (x : PointQ) : Steady boundaryParts s { s with pq := x } := .of_same rfl

theorem State.conPush_steady (s : State) (c f : Nat) (r : BitVec 128) : Steady boundaryParts s (s.conPush c f r) := by
  unfold State.conPush
  exact .thenIf (.thenIf (s.setPq_steady _) (.of_unchanged (State.hostWaits_unchanged _) (by decide) (by decide)))
    ((State.setPq_steady _ _).trans (State.event_steady _ _ _ _ (by decide)))

theorem State.conHold_steady (s : State) (c : Nat) (r : BitVec 128) (w : Bool) :
    Steady boundaryParts s (s.conHold c r w) :=
  (s.setPq_steady _).trans (State.bump_steady _ _ (by unfold Id.WHL_FRAME_COUNT Id.GLZ_PQ_WITHHELD; omega) (by decide))

theorem State.conGap_steady (s : State) (c : Nat) (m : Bool) : Steady boundaryParts s (s.conGap c m) :=
  (s.setPq_steady _).trans (State.bump_steady _ _ (by unfold Id.WHL_FRAME_COUNT Id.GLZ_PQ_GAPS; omega) (by decide))

theorem State.conDead_steady (s : State) (c : Nat) : Steady boundaryParts s (s.conDead c) :=
  (s.setPq_steady _).trans (State.event_steady _ _ _ _ (by decide))

theorem State.conEnq_steady (s : State) (c f : Nat) (r : BitVec 128) : Steady boundaryParts s (s.conEnq c f r) := by
  have hlost (w : Bool) : Steady boundaryParts s ((s.conDead c).conHold c r w) :=
    (s.conDead_steady c).trans (State.conHold_steady _ _ _ _)
  have hheld (x : Consumer → Consumer) : Steady boundaryParts s ((s.modCon c x).conPush c f r) :=
    (s.setPq_steady _).trans (State.conPush_steady _ _ _ _)
  unfold State.conEnq
  dsimp only
  refine .ite (.refl _ s) ?_
  split
  · exact s.conPush_steady _ _ _
  · refine .ite (.ite (hheld _) (.ite (hheld _) (hlost _))) (.ite (.ite ?_ (hlost _)) (s.conHold_steady _ _ _))
    exact (s.conGap_steady _ _).trans (State.conPush_steady _ _ _ _)
  · refine .ite ?_ (s.conHold_steady _ _ _)
    exact ((s.conGap_steady _ _).trans (State.setPq_steady _ _)).trans (State.conPush_steady _ _ _ _)

theorem State.enqAll_steady (s : State) (f : Nat) (r : BitVec 128) : Steady boundaryParts s (s.enqAll f r) :=
  .forN (fun s c => s.conEnq_steady c f r) s

theorem State.beginFrame_steady (s : State) : Steady boundaryParts s s.beginFrame := by
  unfold State.beginFrame
  split
  · exact .refl _ s
  · refine .ite (.refl _ s) (Steady.trans ?_ (.foldl _ (fun s x => s.enqAll_steady _ x) _))
    exact (s.setPq_steady _).trans (.forN (fun s c => s.setPq_steady _) _)

theorem State.frameBegins_steady (s : State) : Steady boundaryParts s s.frameBegins := by
  have hpush (x : State) (q : FrameQ) : Steady boundaryParts x (x.pushFrame q) :=
    (x.setPq_steady _).trans (State.beginFrame_steady _)
  unfold State.frameBegins
  exact ((s.modWhl_steady _).trans (hpush _ _)).trans (State.modWhl_steady _ _)

/-! ## The boundary itself (R76, R110, R118) -/

theorem State.realignBegin_steady (s : State) : Steady boundaryParts s s.realignBegin := by
  have hclk (f : Clock → Clock) : Steady boundaryParts s (s.modClk f) :=
    .of_unchanged (s.setClk_unchanged _) (by decide) (by decide)
  exact (hclk _).trans (State.coilTrimReset_steady _).ofCoil

theorem State.wheelIdle_steady (s : State) : Steady boundaryParts s s.wheelIdle := by
  have hlan (x : Lanes) : Steady boundaryParts s { s with lan := x } :=
    .of_unchanged (s.setLan_unchanged x) (by decide) (by decide)
  exact .thenIf (hlan _) (State.realignBegin_steady _)

theorem State.endProgram_steady (s : State) : Steady boundaryParts s s.endProgram :=
  ((s.modWhl_steady _).trans (State.haltWheel_steady _ _)).trans (State.wheelIdle_steady _)

theorem State.frameEnds_steady (s : State) : Steady boundaryParts s s.frameEnds := by
  unfold State.frameEnds
  exact .ite (((s.modFrame_steady _ _).trans (State.setModes_steady _ _)).trans (State.modWhl_steady _ _)) (.refl _ s)

theorem State.realignBoundary_steady (s : State) : Steady boundaryParts s s.realignBoundary :=
  .thenIf (s.modWhl_steady _) (State.realignBegin_steady _)

theorem State.periodAt_steady (s : State) (b : Nat) : Steady boundaryParts s (s.periodAt b) :=
  .ite (.refl _ s) (s.modWhl_steady _)

/-- The blocks' part of a boundary behind the counting of the frame. -/
theorem State.boundaryBlocks_steady (s : State) (b : Nat) (start : Bool) :
    Steady boundaryParts (s.bump Id.WHL_FRAME_COUNT) (s.boundaryBlocks b start) := by
  have hpulse (x : State) : Steady boundaryParts x (x.mfpPulse 31 32) :=
    .ite (.of_unchanged (x.setPins_unchanged _) (by decide) (by decide)) (.refl _ x)
  have htime (x : State) : Steady boundaryParts x ((x.utimeSetBoundary.coilBoundary.coilStatus).calBoundary true) :=
    ((x.utimeSetBoundary_steady.trans (State.coilBoundary_steady _)).trans (State.coilStatus_steady _).ofCoil).trans
      (State.calBoundary_steady _ true)
  unfold State.boundaryBlocks
  refine Steady.trans ?_ (State.fsetBoundary_steady _)
  refine Steady.trans ?_ (State.setPq_steady _ _)
  exact (((hpulse _).trans (State.emtBoundary_steady _ _ _)).trans (htime _)).trans (State.shfBoundary_steady _ _ _ _)

end Sys2Proof.Machine
end

section
/-! PROOFS. The sample of a boundary and the boundary itself (R76, R100, R110): the target decided, the banks exchanged, the
frame counted. -/

namespace Sys2Proof.Machine

/-! ## The sample (R76, R100, R110) -/

/-- The check of a target depends on the mode, the clock, the memory map and the references: time passes none of them. -/
theorem State.at_modeRefusal (s : State) (t : Nat) (m : Mode) : (s.at t).modeRefusal m = s.modeRefusal m := by
  have h := s.at_quiet t
  unfold Quiet at h
  rw [h]
  rfl

theorem State.modeSample_decides {s : State} {m : Mode} (hm : s.pendBefore = some m) (ha : s.mode.active ≠ .standby)
    (hr : s.modeRefusal m = 0) : s.modeSample =
      s.modMode (fun x => { x with decided := some m, pendNew := s.sameCycle x.wasAt s.now && x.pending }) := by
  unfold State.modeSample
  rw [hm]
  dsimp only
  rw [if_neg ha, if_pos hr]

theorem State.modeRefuse_unchanged (s : State) (r p : Nat) : Unchanged (.mode :: eventParts) s (s.modeRefuse r p) :=
  ((s.setModes_unchanged _).mono (by decide)).trans ((State.event_unchanged _ _ _ _).mono (by decide))

theorem State.modeRefuse_mode (s : State) (r p : Nat) :
    (s.modeRefuse r p).mode = { s.mode with pending := false, refuse := r, pendNew := false } := State.event_mode _ _ _ _

theorem State.modeSample_unchanged (s : State) : Unchanged (.mode :: eventParts) s s.modeSample := by
  unfold State.modeSample
  split
  · exact .refl _ s
  · exact .ite (.refl _ s) (.ite ((s.setModes_unchanged _).mono (by decide)) (s.modeRefuse_unchanged _ _))

/-- The sample leaves the mode as it is (R76). -/
theorem State.modeSample_active (s : State) : s.modeSample.mode.active = s.mode.active := by
  unfold State.modeSample
  split
  · rfl
  · split
    · rfl
    · dsimp only
      split
      · rfl
      · rw [State.modeRefuse_mode]

/-- A swap that was armed before this cycle (R100): the other bank, from instruction 0. -/
theorem State.bankSwap_armed {s : State} (h : s.armSeen = true) :
    s.bankSwap.whl.bank = 1 - s.whl.bank ∧ s.bankSwap.whl.pc = 0 ∧ s.bankSwap.whl.armed = false ∧
      s.bankSwap.shows Reg.WHL_STAT 0 := by
  have hswap : s.bankSwap = _ := if_pos h
  rw [hswap, State.event_whl]
  exact ⟨rfl, rfl, rfl, State.event_shows _ _ (by decide) _⟩

theorem State.bankSwap_unarmed {s : State} (h : s.armSeen = false) : s.bankSwap = s := if_neg (by simp [h])

theorem State.bankSwap_unchanged (s : State) : Unchanged (.whl :: eventParts) s s.bankSwap := by
  unfold State.bankSwap
  refine .ite (Unchanged.trans ?_ ((State.event_unchanged _ _ _ _).mono (by decide))) (.refl _ s)
  exact (s.modWhl_unchanged _).mono (by decide)

/-- Whether a swap is seen depends on the Wheel, the tick and the clock. -/
theorem State.modeSample_armSeen (s : State) : s.modeSample.armSeen = s.armSeen := by
  have h := s.modeSample_unchanged
  have hwhl : s.modeSample.whl = s.whl := h .whl (by decide)
  simp only [State.armSeen, hwhl, h.now (by decide), h.sameCycle (by decide)]

theorem State.shfSample_unchanged (s : State) :
    Unchanged ([.shf, .wide, .deferred, .recent] ++ eventParts) s s.shfSample := by
  unfold State.shfSample
  refine .thenIf ((s.setShf_unchanged _).mono (by decide)) (Unchanged.trans (.ite (.refl _ _) ?_)
    ((State.event_unchanged _ _ _ _).mono (by decide)))
  exact (State.updWide_unchanged _ _ _).mono (by decide)

theorem State.periodAt_unchanged (s : State) (b : Nat) : Unchanged [.whl] s (s.periodAt b) :=
  .ite (.refl _ s) (s.modWhl_unchanged _)

/-- A new period leaves the program as it is. -/
theorem State.periodAt_program (s : State) (b : Nat) : (s.periodAt b).whl.bank = s.whl.bank ∧
    (s.periodAt b).whl.pc = s.whl.pc ∧ (s.periodAt b).whl.armed = s.whl.armed := by
  unfold State.periodAt
  split <;> exact ⟨rfl, rfl, rfl⟩

/-- Behind the mode and the bank a sample changes neither of them, and shows what they showed. -/
theorem State.boundarySample_keeps (s : State) (b : Nat) :
    (s.boundarySample b).whl.sampled = true ∧ (s.boundarySample b).mode = s.modeSample.mode ∧
      (s.boundarySample b).now = s.now ∧ (s.boundarySample b).whl.bank = s.modeSample.bankSwap.whl.bank ∧
      (s.boundarySample b).whl.pc = s.modeSample.bankSwap.whl.pc ∧
      (s.boundarySample b).whl.armed = s.modeSample.bankSwap.whl.armed ∧
      ∀ off f, s.modeSample.bankSwap.shows off f → (s.boundarySample b).shows off f := by
  have hsample := s.modeSample_unchanged
  have hswap := s.modeSample.bankSwap_unchanged
  have hshf := s.modeSample.bankSwap.shfSample_unchanged
  have hperiod := s.modeSample.bankSwap.shfSample.periodAt_unchanged b
  have hwhl : s.modeSample.bankSwap.shfSample.whl = s.modeSample.bankSwap.whl := hshf .whl (by decide)
  obtain ⟨hbank, hpc, harmed⟩ := s.modeSample.bankSwap.shfSample.periodAt_program b
  rw [hwhl] at hbank hpc harmed
  refine ⟨rfl, ?_, ?_, hbank, hpc, harmed, fun off f hf => ?_⟩
  · exact (hperiod .mode (by decide)).trans ((hshf .mode (by decide)).trans (hswap .mode (by decide)))
  · exact (hperiod.now (by decide)).trans ((hshf.now (by decide)).trans
      ((hswap.now (by decide)).trans (hsample.now (by decide))))
  · exact (State.shows_of_stat (hperiod .stat (by decide)) off f).mpr
      ((State.shfSample_keepsClock _).shows off f hf)

theorem frameBoundarySample_samples {s : State} (t : Nat) {b : Nat} (hb : s.whl.eofAt = some b)
    (hs : s.whl.sampled = false) : Completes (.frameBoundarySample t) s fun u =>
      u.whl.sampled = true ∧ u.mode.active = s.mode.active ∧ b - 1024 ≤ u.now ∧
      (∀ m, (s.at (max t (b - 1024))).pendBefore = some m → s.mode.active ≠ .standby → s.modeRefusal m = 0 →
        u.mode.decided = some m) ∧
      ((s.at (max t (b - 1024))).armSeen = true → u.whl.bank = 1 - s.whl.bank ∧ u.whl.pc = 0 ∧ u.whl.armed = false ∧
        u.shows Reg.WHL_STAT 0) ∧
      ((s.at (max t (b - 1024))).armSeen = false → u.whl.bank = s.whl.bank) := by
  have hexec : exec (.frameBoundarySample t) s = .next ((s.at (max t (b - 1024))).boundarySample b) := by
    change execFrameBoundarySample t s = _
    simp [execFrameBoundarySample, hb, hs]
  have hmode : (s.at (max t (b - 1024))).mode = s.mode := State.at_mode _ _
  have hwhl : (s.at (max t (b - 1024))).whl = s.whl := State.at_whl _ _
  have hnow : b - 1024 ≤ (s.at (max t (b - 1024))).now := by
    rw [State.at_now]
    omega
  have hrefusal (m : Mode) := s.at_modeRefusal (max t (b - 1024)) m
  generalize s.at (max t (b - 1024)) = x at *
  have hsampled : x.modeSample.whl = s.whl := (x.modeSample_unchanged .whl (by decide)).trans hwhl
  obtain ⟨hdone, hkept, htick, hbank, hpc, harmed, hshows⟩ := x.boundarySample_keeps b
  refine ⟨_, hexec, hdone, ?_, ?_, fun m hm ha hr => ?_, fun ha => ?_, fun ha => ?_⟩
  · rw [hkept, x.modeSample_active, hmode]
  · rw [htick]
    exact hnow
  · rw [hkept, State.modeSample_decides hm (by rwa [hmode]) (by rw [hrefusal, hr])]
    rfl
  · obtain ⟨hother, hzero, hoff, hshown⟩ := State.bankSwap_armed (s := x.modeSample) (by rw [x.modeSample_armSeen, ha])
    exact ⟨by rw [hbank, hother, hsampled], hpc.trans hzero, harmed.trans hoff, hshows _ _ hshown⟩
  · rw [hbank, State.bankSwap_unarmed (by rw [x.modeSample_armSeen, ha]), hsampled]

/-! ## The boundary counts the frame (R76, R110) -/

/-- The frame counter counts in its 32 bits. -/
theorem frameCount_apply (w : BitVec 128) :
    bitsOf ((WideUpd.add 0 (idBits Id.WHL_FRAME_COUNT) 1).apply (idBits Id.WHL_FRAME_COUNT) w).toNat 31 0 =
      (bitsOf w.toNat 31 0 + 1) % 2 ^ 32 := by
  have hbits : idBits Id.WHL_FRAME_COUNT = 32 := by decide
  have hw := w.isLt
  simp only [hbits, WideUpd.apply, putBits, bitsOf, BitVec.toNat_ofNat, Nat.shiftRight_zero, Nat.pow_zero, Nat.mul_one]
  omega

theorem State.nextPix_empty {s : State} (h : s.whl.queue = []) : s.nextPix = none := by simp [State.nextPix, h]

theorem State.nextTimed_empty {s : State} (h : s.whl.queue = []) (tick : QEntry → Option Nat) :
    s.nextTimed tick = none := by simp [State.nextTimed, h]

/-- With no action queued no pixel closes and no STEP or MARK acts before the boundary. -/
theorem State.closeDue_empty {s : State} (h : s.whl.queue = []) (n : Nat) : s.closeDue n = s := by
  cases n with
  | zero => rfl
  | succ n => simp [State.closeDue, State.nextPix_empty h]

theorem State.dueTimed_empty {s : State} (h : s.whl.queue = []) (t n : Nat) : s.dueTimed t n = s := by
  cases n with
  | zero => rfl
  | succ n => simp [State.dueTimed, State.nextTimed_empty h]

theorem State.frameEnds_decided (s : State) : s.frameEnds.mode.decided = s.mode.decided := by
  unfold State.frameEnds
  split <;> rfl

theorem State.modeApply_undecided {s : State} (h : s.mode.decided = none) : s.modeApply = s := by
  unfold State.modeApply
  rw [h]

theorem Unchanged.isFrozen {but : List Part} {s u : State} (h : Unchanged but s u) (hS : Part.mbxS ∉ but)
    (hG : Part.mbxG ∉ but) (hH : Part.mbxH ∉ but) (id : Nat) : u.isFrozen id = s.isFrozen id := by
  have hboxS : u.mbxS = s.mbxS := h .mbxS hS
  have hboxG : u.mbxG = s.mbxG := h .mbxG hG
  have hboxH : u.mbxH = s.mbxH := h .mbxH hH
  simp only [State.isFrozen, hboxS, hboxG, hboxH]

/-- A sampled boundary with nothing decided and no action queued: the frame that ends, the count, and what follows it. -/
theorem State.frameBoundary_counts {s : State} (b : Nat) (hs : s.whl.sampled = true) (hq : s.whl.queue = [])
    (hd : s.mode.decided = none) :
    ∃ x, Steady boundaryParts s x ∧ Steady boundaryParts (x.bump Id.WHL_FRAME_COUNT) (s.frameBoundary b) := by
  have hbefore : Steady boundaryParts s (s.frameEnds.realignBoundary.periodAt b) :=
    (s.frameEnds_steady.trans (State.realignBoundary_steady _)).trans (State.periodAt_steady _ b)
  refine ⟨_, hbefore, ?_⟩
  unfold State.frameBoundary
  simp only [hs, if_true, State.closeDue_empty hq, State.dueTimed_empty hq]
  rw [State.modeApply_undecided (by rw [State.frameEnds_decided, hd])]
  refine (State.boundaryBlocks_steady _ b _).trans (.ite (State.endProgram_steady _) ?_)
  exact (State.modWhl_steady _ _).trans (State.frameBegins_steady _)

theorem frameBoundary_countsTheFrame {s : State} (t : Nat) {b : Nat} (hb : s.whl.eofAt = some b)
    (hr : s.wheelRuns = true) (hs : s.whl.sampled = true) (hq : s.whl.queue = []) (hd : s.mode.decided = none)
    (hf : s.isFrozen Id.WHL_FRAME_COUNT = false) : Completes (.frameBoundary t) s fun u => b ≤ u.now ∧
      bitsOf (u.wideRaw Id.WHL_FRAME_COUNT).toNat 31 0 =
        (bitsOf ((s.at (max t b)).wideRaw Id.WHL_FRAME_COUNT).toNat 31 0 + 1) % 2 ^ 32 := by
  have hexec : exec (.frameBoundary t) s = .next ((s.at (max t b)).frameBoundary b) := by
    change execFrameBoundary t s = _
    simp [execFrameBoundary, hb, hr]
  obtain ⟨x, hbefore, hafter⟩ := State.frameBoundary_counts (s := s.at (max t b)) b (by simpa) (by simpa) (by simpa)
  have hbump : Unchanged [.wide, .deferred, .recent] x (x.bump Id.WHL_FRAME_COUNT) := State.updWide_unchanged _ _ _
  have hfree : x.isFrozen Id.WHL_FRAME_COUNT = false := by
    rw [hbefore.parts.isFrozen (by decide) (by decide) (by decide), State.at_isFrozen, hf]
  refine ⟨_, hexec, ?_, ?_⟩
  · rw [hafter.parts.now (by decide), hbump.now (by decide), hbefore.parts.now (by decide), State.at_now]
    omega
  · rw [hafter.count, State.bump_eq Nat.one_pos, (State.updWide_free _ hfree).2, if_pos rfl, hbefore.count,
      frameCount_apply]

end Sys2Proof.Machine
end

section
/-! PROOFS. Transitions (R76, R80, R96, R118): the decided target enters its mode, at a boundary, without a program, or when the
skew timer expires. -/

namespace Sys2Proof.Machine

/-! ## What follows a change of the mode leaves the mode, the tick and the events shown -/

theorem State.modMode_keepsClock (s : State) (f : Modes → Modes) : KeepsClock s (s.modMode f) := .of_same rfl

theorem State.strStandby_keepsClock (s : State) : KeepsClock s s.strStandby :=
  (KeepsClock.forN (fun s a => .ite (.refl s) (s.axEnter_keepsClock a 0)) s).trans (State.strUpdate_keepsClock _)

theorem State.strStandby_mode (s : State) : s.strStandby.mode = s.mode := by
  have haxes : Unchanged blockParts s (forN 2 s (fun s a => if (s.ax a).st = 4 then s else s.axEnter a 0)) :=
    .foldl _ _ (fun s a => .ite (.refl _ s) (s.axEnter_blocks a 0)) s
  exact (haxes.trans (State.strUpdate_blocks _)) .mode (by decide)

theorem State.jAppend_keepsClock (s : State) (typ : Nat) (l : List Nat) : KeepsClock s (s.jAppend typ l).1 := by
  have hsec (x : State) (f : Sec → Sec) : KeepsClock x (x.modSec f) := .of_same rfl
  have hcompact (x : State) : KeepsClock x x.jCompact := .of_same rfl
  unfold State.jAppend
  dsimp only
  split
  · exact .refl s
  · split
    · exact s.event_keepsClock _ _ _
    · exact .thenIf ((KeepsClock.ite (.refl s) (hsec _ _)).trans (hsec _ _)) (hcompact _)

theorem State.parkKey_keepsClock (s : State) : KeepsClock s s.parkKey.1 :=
  .thenIf (s.jAppend_keepsClock _ _) (.of_same rfl)

theorem State.parkKey_mode (s : State) : s.parkKey.1.mode = s.mode := by
  have hpark : Unchanged (.sec :: eventParts) s s.parkKey.1 :=
    .thenIf (s.jAppend_unchanged _ _) ((State.modSec_unchanged _ _).mono (by decide))
  exact hpark .mode (by decide)

theorem State.standbyBegin_keepsClock (s : State) : KeepsClock s s.standbyBegin := by
  have hsteps (x : State) (y : Modes) (m : Mem) : KeepsClock x { x with mode := y, mem := m } := .of_same rfl
  unfold State.standbyBegin
  exact ((s.strStandby_keepsClock.trans (State.parkKey_keepsClock _)).trans (State.calAbort_keepsClock _)).trans
    (hsteps _ _ _)

/-- Entering STANDBY begins its steps, with no exit started. -/
theorem State.standbyBegin_mode (s : State) : s.standbyBegin.mode = { s.mode with standbyStep := 1, waking := false } := by
  unfold State.standbyBegin
  dsimp only
  rw [State.calAbort_mode, State.parkKey_mode, State.strStandby_mode]

theorem State.modCap_keepsClock (s : State) (f : Capture → Capture) : KeepsClock s (s.modCap f) := .of_same rfl

theorem State.ossdCheck_keepsClock (s : State) : KeepsClock s s.ossdCheck :=
  .ite (s.modCap_keepsClock _) (s.dropOssd_keepsClock.trans (State.modCap_keepsClock _ _))

theorem State.ossdCheck_unchanged (s : State) : Unchanged eventParts s s.ossdCheck := by
  have hcap (x : State) (c : Capture) : Unchanged eventParts x { x with cap := c } :=
    (x.setCap_unchanged c).mono (by decide)
  have hdrop (x : State) : Unchanged eventParts x x.dropOssd :=
    .ite ((hcap _ _).trans (State.event_unchanged _ _ _ _)) (.refl _ x)
  exact .ite (hcap _ _) ((hdrop s).trans (hcap _ _))

theorem State.guardBegin_keepsClock (s : State) : KeepsClock s s.guardBegin := by
  have hguard (x : State) : KeepsClock x x.ossdGuard := (x.modCap_keepsClock _).trans (State.ossdCheck_keepsClock _)
  have hdisarm (x : State) (f : Wheel → Wheel) (e : CrcEngine) : KeepsClock x { x.modWhl f with crc := e } :=
    .of_same rfl
  unfold State.guardBegin
  exact (hdisarm _ _ _).trans (hguard _)

theorem State.guardBegin_mode (s : State) : s.guardBegin.mode = s.mode :=
  State.ossdCheck_unchanged _ .mode (by decide)

theorem State.idleSwap_keepsClock (s : State) : KeepsClock s s.idleSwap := .ite s.bankSwap_keepsClock (.refl s)

theorem State.wheelBegin_keepsClock (s : State) : KeepsClock s s.wheelBegin := by
  have hheld (x : State) (f : Wheel → Wheel) : KeepsClock x (x.modWhl f) := .of_same rfl
  exact s.idleSwap_keepsClock.trans (.ite (hheld _ _) (State.wheelRun_keepsClock _))

theorem State.wheelRun_blocks (s : State) : Unchanged blockParts s s.wheelRun := by
  have hgates (x : State) : Unchanged blockParts x x.gatesOff := .foldl _ _ (fun s l => s.modLane_blocks l _) x
  have hkilns (x : State) : Unchanged blockParts x x.kilnStart := .foldl _ _ (fun s k => (s.setKln_unchanged _).blocks) x
  unfold State.wheelRun
  exact ((((s.bankSwap_unchanged.blocks.trans (State.shfSample_unchanged _).blocks).trans (hgates _)).trans
    (hkilns _))).trans (State.modWhl_unchanged _ _).blocks

theorem State.wheelBegin_mode (s : State) : s.wheelBegin.mode = s.mode := by
  have hswap : Unchanged blockParts s s.idleSwap := .ite s.bankSwap_unchanged.blocks (.refl _ s)
  have hbegin : Unchanged blockParts s s.wheelBegin :=
    hswap.trans (.ite (State.modWhl_unchanged _ _).blocks (State.wheelRun_blocks _))
  exact hbegin .mode (by decide)

/-! ## The transition (R76, R118) -/

theorem State.setMode_mode (s : State) (m : Mode) : (s.setMode m).mode =
    { s.mode with previous := s.mode.active, active := m, pending := false, decided := none, lastFrame := none } := by
  have hstatus (x : State) : x.coilStatus.mode = x.mode := x.coilStatus_blocks .mode (by decide)
  rw [State.setMode, hstatus, State.event_mode]

theorem State.setMode_shows (s : State) (m : Mode) : (s.setMode m).shows Reg.GLB_MODE_STAT 0 :=
  (State.coilStatus_keepsClock _).shows _ _ (State.event_shows _ _ (by decide) _)

/-- What a mode does to the blocks as it is entered. -/
def State.modeBegins (s : State) (m : Mode) : State :=
  if m = .standby then s.standbyBegin else if m = .guard then s.guardBegin else s.ossdCheck

theorem State.modeBegins_keepsClock (s : State) (m : Mode) : KeepsClock s (s.modeBegins m) :=
  .ite s.standbyBegin_keepsClock (.ite s.guardBegin_keepsClock s.ossdCheck_keepsClock)

/-- Of the mode exchange only the steps of STANDBY begin. -/
theorem State.modeBegins_mode (s : State) (m : Mode) : ∃ step waking,
    (s.modeBegins m).mode = { s.mode with standbyStep := step, waking := waking } := by
  unfold State.modeBegins
  split
  · exact ⟨1, false, s.standbyBegin_mode⟩
  · split
    · exact ⟨s.mode.standbyStep, s.mode.waking, s.guardBegin_mode⟩
    · exact ⟨s.mode.standbyStep, s.mode.waking, s.ossdCheck_unchanged .mode (by decide)⟩

/-- The new mode with a target accepted after the sample still pending. -/
def State.modeChanged (s : State) (m : Mode) : State :=
  (s.setMode m).modMode (fun x => { x with
    pending := s.mode.pendNew, pendNew := false, skewAt := if s.mode.pendNew then s.now else s.mode.skewAt })

theorem State.modeEnter_eq (s : State) (m : Mode) : s.modeEnter m =
    if m.scanning && !s.mode.active.scanning && ((s.modeChanged m).modeBegins m).bit Reg.WHL_CTL 0 &&
        !((s.modeChanged m).modeBegins m).wheelRuns
      then ((s.modeChanged m).modeBegins m).wheelBegin else (s.modeChanged m).modeBegins m := rfl

theorem State.modeEnter_keepsClock (s : State) (m : Mode) : KeepsClock (s.setMode m) (s.modeEnter m) := by
  rw [State.modeEnter_eq]
  exact .thenIf ((State.modMode_keepsClock _ _).trans (State.modeBegins_keepsClock _ m)) (State.wheelBegin_keepsClock _)

theorem State.modeEnter_mode (s : State) (m : Mode) : (s.modeEnter m).mode.active = m ∧
    (s.modeEnter m).mode.previous = s.mode.active ∧ (s.modeEnter m).mode.decided = none := by
  have hbegin : (s.modeEnter m).mode = ((s.modeChanged m).modeBegins m).mode := by
    rw [State.modeEnter_eq]
    split
    · exact State.wheelBegin_mode _
    · rfl
  obtain ⟨step, waking, hmode⟩ := (s.modeChanged m).modeBegins_mode m
  rw [hbegin, hmode, State.modeChanged, State.modMode_mode, State.setMode_mode]
  exact ⟨rfl, rfl, rfl⟩

/-- The tick stays and everything shown is still shown when a mode is entered. -/
theorem State.modeEnter_follows (s : State) (m : Mode) : KeepsClock s (s.modeEnter m) :=
  (s.setMode_keepsClock m).trans (s.modeEnter_keepsClock m)

theorem State.modeApply_decided {s : State} {m : Mode} (h : s.mode.decided = some m) : s.modeApply = s.modeEnter m := by
  unfold State.modeApply
  rw [h]

theorem modeApply_entersTheMode {s : State} {m : Mode} (h : s.mode.decided = some m) :
    s.modeApply.mode.active = m ∧ s.modeApply.mode.previous = s.mode.active ∧ s.modeApply.mode.decided = none ∧
      s.modeApply.shows Reg.GLB_MODE_STAT 0 := by
  rw [State.modeApply_decided h]
  obtain ⟨hactive, hprevious, hdecided⟩ := s.modeEnter_mode m
  exact ⟨hactive, hprevious, hdecided, (s.modeEnter_keepsClock m).shows _ _ (s.setMode_shows m)⟩

theorem idleModeSample_enters {s : State} (t : Nat) {m : Mode} (hr : s.wheelRuns = false) (ha : s.whl.armed = false)
    (hm : (s.at t).pendBefore = some m) (hstandby : s.mode.active ≠ .standby) (hcheck : s.modeRefusal m = 0) :
    Completes (.idleModeSample t) s fun u => u.mode.active = m ∧ u.mode.previous = s.mode.active := by
  have hswap : (s.at t).idleSwap = s.at t := if_neg (by simp [ha])
  have hsample := State.modeSample_decides hm (by simpa) (by rwa [State.at_modeRefusal])
  have hexec : exec (.idleModeSample t) s = .next (s.at t).modeSample.modeApply := by
    change execIdleModeSample t s = _
    simp [execIdleModeSample, hr, hswap]
  obtain ⟨hactive, hprevious, -⟩ := modeApply_entersTheMode (s := (s.at t).modeSample) (m := m) (by rw [hsample]; rfl)
  refine ⟨_, hexec, hactive, ?_⟩
  rw [hprevious, State.modeSample_active, State.at_mode]

/-! ## The skew timer (R80) -/

/-- Where the Wheel falls idle only the sign that the REALIGN steps run may be set in the clock system. -/
theorem State.wheelIdle_keeps (s : State) :
    (∃ fire, KeepsClock (s.modClk (fun c => { c with realignFire := fire })) s.wheelIdle) ∧ s.wheelIdle.mode = s.mode := by
  have hlan (x : State) (f : Clock → Clock) (l : Lanes) : KeepsClock (x.modClk f) ({ x with lan := l }.modClk f) :=
    .of_same rfl
  unfold State.wheelIdle
  dsimp only
  split
  · exact ⟨⟨true, (hlan _ _ _).trans (State.coilTrimReset_keepsClock _)⟩, State.coilTrimReset_mode _⟩
  · exact ⟨⟨s.clk.realignFire, .of_same rfl⟩, rfl⟩

theorem State.wheelIdle_shows {s : State} {off b : Nat} (h : s.shows off b) : s.wheelIdle.shows off b := by
  obtain ⟨⟨fire, hkeeps⟩, -⟩ := s.wheelIdle_keeps
  exact hkeeps.shows off b ((State.modClk_shows _ _ _ _).mpr h)

theorem State.wheelIdle_now (s : State) : s.wheelIdle.now = s.now := by
  obtain ⟨⟨fire, hkeeps⟩, -⟩ := s.wheelIdle_keeps
  exact hkeeps.now

theorem State.haltWheel_mode (s : State) (f : Bool) : (s.haltWheel f).mode = s.mode := by
  unfold State.haltWheel
  dsimp only
  split
  · exact State.event_mode _ _ _ _
  · rfl

theorem State.voidOpenPixel_mode (s : State) (c : Nat) : (s.voidOpenPixel c).mode = s.mode := by
  unfold State.voidOpenPixel
  split
  · rfl
  · have hkiln (x : State) (k : Nat) (f : Kiln → Kiln) : Unchanged blockParts x (x.modKiln k f) :=
      (x.setKln_unchanged _).blocks
    have hvoid (p : Pixel) : Unchanged blockParts s (forN 8 s (fun s k =>
        (((s.pushHand k p none (s.kiln k).void).clearFill k).event (secOff Reg.KLN_STAT k) 7 { inst := k }))) :=
      .foldl _ _ (fun x k => ((hkiln _ _ _).trans (hkiln _ _ _)).trans (State.event_quiet _ _ _ _).blocks) s
    exact hvoid _ .mode (by decide)

theorem State.cutFrame_mode (s : State) (c : CutInfo) : (s.cutFrame c).mode = s.mode := by
  unfold State.cutFrame
  dsimp only
  split
  · exact s.voidOpenPixel_mode _
  · exact s.voidOpenPixel_mode _

/-- The target is entered at once: the mode and the one before it, at the same tick, with what was shown still shown. -/
theorem State.skewEnter_spec (s : State) (m : Mode) : (s.skewEnter m).mode.active = m ∧
    (s.skewEnter m).mode.previous = s.mode.active ∧ (s.skewEnter m).now = s.now ∧
    ∀ off b, s.shows off b → (s.skewEnter m).shows off b := by
  unfold State.skewEnter
  by_cases hm : m.scanning = true
  · rw [if_pos hm]
    have hframe : KeepsClock s (if s.whl.frameOpen then
        (s.modFrame s.whl.fid (fun q => { q with skew := true, mode := m.code })).modWhl (fun w => { w with voidRest := 3 })
        else s) := .ite (.of_same rfl) (.refl s)
    have hmode : (if s.whl.frameOpen then
        (s.modFrame s.whl.fid (fun q => { q with skew := true, mode := m.code })).modWhl (fun w => { w with voidRest := 3 })
        else s).mode = s.mode := by
      split <;> rfl
    dsimp only
    generalize (if s.whl.frameOpen then (State.modFrame s s.whl.fid _).modWhl _ else s) = x at hframe hmode ⊢
    obtain ⟨hactive, hprevious, -⟩ := x.modeEnter_mode m
    have hfollows := hframe.trans (x.modeEnter_follows m)
    exact ⟨hactive, by rw [hprevious, hmode], hfollows.now, hfollows.shows⟩
  · rw [if_neg hm]
    dsimp only
    have hcut := s.cutFrame_keepsClock { cause := 3, mode := m.code, skew := true }
    have hmode := s.cutFrame_mode { cause := 3, mode := m.code, skew := true }
    generalize s.cutFrame { cause := 3, mode := m.code, skew := true } = x at hcut hmode ⊢
    obtain ⟨hactive, hprevious, -⟩ := x.modeEnter_mode m
    have hhalt := (hcut.trans (x.modeEnter_follows m)).trans (State.haltWheel_keepsClock _ false)
    obtain ⟨-, hidle⟩ := ((x.modeEnter m).haltWheel false).wheelIdle_keeps
    refine ⟨?_, ?_, (State.wheelIdle_now _).trans hhalt.now, fun off b h => State.wheelIdle_shows (hhalt.shows off b h)⟩
    · rw [hidle, State.haltWheel_mode, hactive]
    · rw [hidle, State.haltWheel_mode, hprevious, hmode]

theorem exec_stateSkew {s : State} (t : Nat) {m : Mode} (hm : s.pendTarget = some m)
    (hwins : (s.at (max t s.skewDue)).skewLoses = false) :
    exec (.stateSkew t) s = .next ((s.at (max t s.skewDue)).stateSkew m) := by
  change execStateSkew t s = _
  simp [execStateSkew, hm, hwins]

theorem State.skewDue_le_at (s : State) (t : Nat) : s.skewDue ≤ (s.at (max t s.skewDue)).now := by
  rw [State.at_now]
  omega

theorem stateSkew_entersLowerRank {s : State} (t : Nat) {m : Mode} (hm : s.pendTarget = some m)
    (hwins : (s.at (max t s.skewDue)).skewLoses = false) (hrank : emissionRank m < emissionRank s.mode.active) :
    Completes (.stateSkew t) s fun u => u.mode.active = m ∧ u.mode.previous = s.mode.active ∧ s.skewDue ≤ u.now ∧
      u.shows Reg.GLB_MODE_STAT 2 := by
  have hskew : (s.at (max t s.skewDue)).stateSkew m =
      ((s.at (max t s.skewDue)).event Reg.GLB_MODE_STAT 2 {}).skewEnter m := if_pos (by simpa)
  obtain ⟨hactive, hprevious, hnow, hshows⟩ := ((s.at (max t s.skewDue)).event Reg.GLB_MODE_STAT 2 {}).skewEnter_spec m
  refine ⟨_, exec_stateSkew t hm hwins, ?_⟩
  dsimp only
  rw [hskew, hactive, hprevious, hnow, State.event_now, State.event_mode, State.at_mode]
  exact ⟨rfl, rfl, s.skewDue_le_at t, hshows _ _ (State.event_shows _ _ (by decide) _)⟩

theorem stateSkew_refusesOthers {s : State} (t : Nat) {m : Mode} (hm : s.pendTarget = some m)
    (hwins : (s.at (max t s.skewDue)).skewLoses = false) (hrank : emissionRank s.mode.active ≤ emissionRank m) :
    Completes (.stateSkew t) s fun u => u.mode.active = s.mode.active ∧ u.mode.pending = false ∧ u.mode.refuse = 1 ∧
      u.shows Reg.GLB_MODE_STAT 2 := by
  have hskew : (s.at (max t s.skewDue)).stateSkew m =
      ((s.at (max t s.skewDue)).event Reg.GLB_MODE_STAT 2 {}).modeRefuse 1 := if_neg (by simpa)
  have hrefuse (x : State) : KeepsClock x (x.modeRefuse 1) :=
    (x.modMode_keepsClock _).trans (State.event_keepsClock _ _ _ _)
  refine ⟨_, exec_stateSkew t hm hwins, ?_⟩
  dsimp only
  rw [hskew, State.modeRefuse_mode, State.event_mode, State.at_mode]
  exact ⟨rfl, rfl, rfl, (hrefuse _).shows _ _ (State.event_shows _ _ (by decide) _)⟩

/-- Settles O32: the sample and the boundary, the transition they decide on, and the two outcomes of the skew timer. -/
theorem samplesDecideAndBoundariesApply : Obligations.SamplesDecideAndBoundariesApply := by
  unfold Obligations.SamplesDecideAndBoundariesApply
  exact ⟨fun t _ _ => frameBoundarySample_samples t, fun t _ _ => frameBoundary_countsTheFrame t,
    fun _ _ => modeApply_entersTheMode, fun t _ _ => idleModeSample_enters t, fun t _ _ => stateSkew_entersLowerRank t,
    fun t _ _ => stateSkew_refusesOthers t⟩

end Sys2Proof.Machine
end

section
/-! PROOFS. STANDBY (R72, R96, R97): what the switch of the tree leaves of the mode, the memories and the CRC sweeps, the end of
the entry, the wake and the exit. -/

namespace Sys2Proof.Machine

/-! ## The switch of the tree (R12, R71) -/

/-- The parts that the switch of the tree may reach: not the mode, the memories, the CRC engine or Saggar. -/
def treeParts : List Part := [.clk, .tsu, .lan, .emt, .pq, .sfe] ++ coilParts

theorem State.ceAbort_steady (s : State) : Steady treeParts s s.ceAbort := by
  have hhif (x : State) (h : Hif) : Steady treeParts x { x with hif := h } :=
    .of_unchanged (x.setHif_unchanged h) (by decide) (by decide)
  have hpost (x : State) (n : Nat) : Steady treeParts x (x.cePost n) := hhif x _
  have hlast (x : State) (n : Nat) : Steady treeParts x (x.ceLast n) := x.putWide_steady _ (by decide) (by decide)
  have hnext (x : State) : Steady treeParts x x.ceNext := hhif x _
  unfold State.ceAbort
  exact .ite ((((hpost s _).trans (hlast _ _)).trans (hnext _)).trans (hhif _ _)) (.refl _ s)

theorem State.endpointReset_steady (s : State) (flr : Bool) : Steady treeParts s (s.endpointReset flr) := by
  have hhif (x : State) (h : Hif) : Steady treeParts x { x with hif := h } :=
    .of_unchanged (x.setHif_unchanged h) (by decide) (by decide)
  have hoff (x : State) (k : Nat) : Steady treeParts x (x.ringOff k) :=
    .thenIf (hhif x _) (.of_unchanged (State.hostWaits_unchanged _) (by decide) (by decide))
  unfold State.endpointReset
  exact ((s.ceAbort_steady.trans (.forN (fun x k => hoff x k) _)).trans (hhif _ _)).trans
    (State.event_steady _ _ _ _ (by decide))

theorem State.modClk_steady (s : State) (f : Clock → Clock) : Steady treeParts s (s.modClk f) :=
  .of_unchanged (s.setClk_unchanged _) (by decide) (by decide)

theorem State.serdesBclk_steady (s : State) : Steady treeParts s s.serdesBclk := by
  have hlinks (x : State) : Steady treeParts x (Machine.forN 2 x (fun s p =>
      if bitOf s.coil.link.toNat p then s.event Reg.COIL_STAT 2 { detail := p } else s)) :=
    .forN (fun s _ => .ite (s.event_steady _ _ _ (by decide)) (.refl _ s)) x
  have hoff : Steady treeParts s s.serdesOff := by
    unfold State.serdesOff
    exact (((s.modClk_steady _).trans (hlinks _)).trans ((State.modCoil_steady _ _).mono (by decide))).trans
      (.ite (.refl _ _) (State.endpointReset_steady _ _))
  exact .ite (s.modClk_steady _) (.ite hoff (.refl _ s))

theorem State.lanClockLost_steady (s : State) : Steady treeParts s s.lanClockLost := by
  have hlan (x : State) (l : Lanes) : Steady treeParts x { x with lan := l } :=
    .of_unchanged (x.setLan_unchanged l) (by decide) (by decide)
  unfold State.lanClockLost
  exact (Steady.forN (fun s l => hlan s _) s).trans (hlan _ _)

theorem State.sfeClkSwitch_steady (s : State) : Steady treeParts s s.sfeClkSwitch := by
  have hchain (st i : Nat) : Steady treeParts s (s.sfeChain st i) :=
    .of_unchanged (s.setSfe_unchanged _) (by decide) (by decide)
  exact .trans (.ite (hchain _ _) (.refl _ s)) (State.event_steady _ _ _ _ (by decide))

theorem State.treeToBclk_steady (s : State) (st : ClkState) : Steady treeParts s (s.treeToBclk st) := by
  have htsu (x : State) : Steady treeParts x x.tsuClockLost := .of_unchanged (x.setTsu_unchanged _) (by decide) (by decide)
  have hemt (x : State) : Steady treeParts x x.emtClockLost := .of_unchanged (x.setEmt_unchanged _) (by decide) (by decide)
  unfold State.treeToBclk
  exact ((((((s.modClk_steady _).trans (htsu _)).trans (State.lanClockLost_steady _)).trans (hemt _)).trans
    (State.serdesBclk_steady _)).trans (State.sfeClkSwitch_steady _)).trans
    ((State.coilCheck_steady _).mono (by decide))

/-! ## The end of the entry (R96) -/

theorem State.permitOff_permit (s : State) : s.permitOff.sec.permit = false := by
  unfold State.permitOff
  split
  · rw [State.event_sec]
  · simpa using ‹¬s.sec.permit = true›

/-- Self-refresh is entered and the CRC sweeps are abandoned. -/
def State.standbyRests (s : State) : State :=
  { s with
    mem := { s.mem with selfRefresh := true, enteringSr := false }
    crc := { s.crc with sweep := none, startAt := 0, cmd := none } }

/-- The VCO is down and the permit withdrawn: step 5 gates the fabric, and standby_entered is recorded. -/
def State.standbyGated (s : State) : State :=
  (((s.standbyRests.treeToBclk .powerDown).permitOff).modMode (fun m => { m with standbyStep := 5 })).event
    Reg.GLB_MODE_STAT 8 {}

theorem State.standbyGated_leaves (s : State) : Unchanged (.mode :: .sec :: treeParts) s.standbyRests s.standbyGated := by
  have htree := (s.standbyRests.treeToBclk_steady .powerDown).parts
  unfold State.standbyGated
  refine (htree.mono (by decide)).trans (Unchanged.trans ?_ ((State.event_unchanged _ _ _ _).mono (by decide)))
  exact ((State.permitOff_unchanged _).mono (by decide)).trans ((State.setModes_unchanged _ _).mono (by decide))

theorem State.standbyGated_mode (s : State) : s.standbyGated.mode = { s.mode with standbyStep := 5 } := by
  have htree : (s.standbyRests.treeToBclk .powerDown).mode = s.mode :=
    (s.standbyRests.treeToBclk_steady .powerDown).parts .mode (by decide)
  rw [State.standbyGated, State.event_mode, State.modMode_mode, State.permitOff_mode, htree]

theorem State.standbyGated_permit (s : State) : s.standbyGated.sec.permit = false := by
  rw [State.standbyGated, State.event_sec, State.modMode_sec]
  exact State.permitOff_permit _

theorem State.standbyGated_powerDown (s : State) : s.standbyGated.clk.state = .powerDown := by
  obtain ⟨c, hc, htree⟩ := s.standbyRests.treeToBclk_keeps .powerDown
  have hlast : KeepsClock (s.standbyRests.modClk fun _ => c) s.standbyGated := by
    unfold State.standbyGated
    exact ((htree.trans (State.permitOff_keepsClock _)).trans (State.modMode_keepsClock _ _)).trans
      (State.event_keepsClock _ _ _ _)
  exact hlast.state.trans hc

/-- Without a wake during the entry its end is the gated state and the report of the live causes. -/
theorem State.standbyGate_eq {s : State} (h : s.mode.waking = false) :
    s.standbyGate = s.standbyGated.coilLive s.safeLive := by
  have hmode : (s.standbyGated.coilLive s.safeLive).mode.waking = false := by
    rw [State.coilLive_mode, s.standbyGated_mode, h]
  have hgate : s.standbyGate = if (s.standbyGated.coilLive s.safeLive).mode.waking
      then (s.standbyGated.coilLive s.safeLive).lockStart else s.standbyGated.coilLive s.safeLive := rfl
  rw [hgate, if_neg (by simp [hmode])]

theorem standbyEntered_gates {s : State} (t : Nat) (ha : s.mode.active = .standby) (h0 : s.mode.standbyStep ≠ 0)
    (h5 : s.mode.standbyStep ≠ 5) (hw : s.mode.waking = false) : Completes (.standbyEntered t) s fun u =>
      u.mode.standbyStep = 5 ∧ u.gated = true ∧ u.clk.state = .powerDown ∧ u.mem.selfRefresh = true ∧
      u.crc.sweep = none ∧ u.crc.cmd = none ∧ u.mode.active = .standby ∧ u.shows Reg.GLB_MODE_STAT 8 ∧
      u.sec.permit = false := by
  have hexec : exec (.standbyEntered t) s = .next ((s.at t).standbyGated.coilLive (s.at t).safeLive) := by
    rw [← State.standbyGate_eq (by simpa)]
    exact congrArg Host.Outcome.next (if_pos (by simpa using ⟨ha, h0, h5⟩))
  have hmode := (s.at t).standbyGated_mode
  have hpermit := (s.at t).standbyGated_permit
  have hdown := (s.at t).standbyGated_powerDown
  have hmem : (s.at t).standbyGated.mem = (s.at t).standbyRests.mem := (s.at t).standbyGated_leaves .mem (by decide)
  have hcrc : (s.at t).standbyGated.crc = (s.at t).standbyRests.crc := (s.at t).standbyGated_leaves .crc (by decide)
  have hshows : (s.at t).standbyGated.shows Reg.GLB_MODE_STAT 8 := State.event_shows _ _ (by decide) _
  have hlive := ((s.at t).standbyGated.coilLive_steady (s.at t).safeLive).parts
  have hkeeps := (s.at t).standbyGated.coilLive_keepsClock (s.at t).safeLive
  rw [State.at_mode] at hmode
  refine ⟨_, hexec, ?_⟩
  generalize (s.at t).standbyGated.coilLive (s.at t).safeLive = u at hlive hkeeps
  have humode : u.mode = { s.mode with standbyStep := 5 } := (hlive .mode (by decide)).trans hmode
  have humem : u.mem = (s.at t).standbyRests.mem := (hlive .mem (by decide)).trans hmem
  have hucrc : u.crc = (s.at t).standbyRests.crc := (hlive .crc (by decide)).trans hcrc
  have husec : u.sec = (s.at t).standbyGated.sec := hlive .sec (by decide)
  refine ⟨by rw [humode], by simp [State.gated, humode], hkeeps.state.trans hdown, by rw [humem]; rfl,
    by rw [hucrc]; rfl, by rw [hucrc]; rfl, by rw [humode, ha], hkeeps.shows _ _ hshows, by rw [husec, hpermit]⟩

/-! ## The wake (R72, R97) -/

/-- The exit from STANDBY is asked for. -/
def State.wakes (s : State) : State := s.modMode (fun m => { m with waking := true })

theorem exec_wake {s : State} (t : Nat) (ha : s.mode.active = .standby) (hw : s.mode.waking = false) :
    exec (.wake t) s = .next (if s.mode.standbyStep = 5 then (s.at t).wakes.lockStart else (s.at t).wakes) := by
  change execWake t s = _
  simp [execWake, ha, hw, State.wakeStart, State.wakes]

/-- Outside RESET the entry into SAFE changes the mode to SAFE; in RESET it changes nothing. -/
theorem State.safeEnter_safeOrStays (s : State) (c : Nat) :
    (s.safeEnter c).mode.active = .safe ∨ (s.safeEnter c).mode.active = s.mode.active := by
  cases h : s.pins.inReset with
  | false => exact .inl (State.safeEnter_active h c)
  | true =>
    have hstays : s.safeEnter c = s := by simp [State.safeEnter, h]
    exact .inr (by rw [hstays])

/-- A failed lock sequence leaves the mode, or ends in SAFE (R56, R97). -/
theorem State.lockFailed_safeOrStays (s : State) (r : Nat) :
    (s.lockFailed r).mode.active = .safe ∨ (s.lockFailed r).mode.active = s.mode.active := by
  have hshown : (s.lockFailShown r).mode = s.mode := by rw [State.lockFailShown, State.event_mode, State.modClk_mode]
  have hboot (x : State) : (x.bootFail 2).mode.active = .safe ∨ (x.bootFail 2).mode.active = x.mode.active := by
    refine (State.safeEnter_safeOrStays _ _).imp_right (fun h => h.trans ?_)
    rw [State.event_mode]
    rfl
  have hfailed : s.lockFailed r = if (s.lockFailShown r).mode.running ∧ (s.lockFailShown r).mode.stage = 3
      then (s.lockFailShown r).bootFail 2
      else if s.mode.waking then (s.lockFailShown r).safeEnter 1 else s.lockFailShown r := rfl
  rw [hfailed, ← hshown]
  split
  · exact hboot _
  · split
    · exact State.safeEnter_safeOrStays _ _
    · exact .inr rfl

theorem State.lockStart_safeOrStays (s : State) :
    s.lockStart.mode.active = .safe ∨ s.lockStart.mode.active = s.mode.active := by
  by_cases h : (s.clk.state = .bclk ∨ s.clk.state = .powerDown) ∧ s.clk.sweeping = false
  · rw [State.lockStart_eq h.1 h.2, State.coilLive_mode]
    split
    · exact State.lockFailed_safeOrStays _ _
    · exact .inr rfl
  · have hstays : s.lockStart = s := if_neg h
    exact .inr (by rw [hstays])

theorem wake_staysOrEndsInSafe {s : State} (t : Nat) (ha : s.mode.active = .standby) (hw : s.mode.waking = false) :
    Completes (.wake t) s fun u => u.mode.active = .standby ∨ u.mode.active = .safe := by
  have hwakes : (s.at t).wakes.mode.active = .standby := by rw [State.wakes, State.modMode_mode, State.at_mode, ha]
  refine ⟨_, exec_wake t ha hw, ?_⟩
  dsimp only
  split
  · rw [← hwakes]
    exact ((s.at t).wakes.lockStart_safeOrStays).symm
  · exact .inl hwakes

theorem wake_waitsForTheEntry {s : State} (t : Nat) (ha : s.mode.active = .standby) (hw : s.mode.waking = false)
    (h5 : s.mode.standbyStep ≠ 5) : Completes (.wake t) s fun u =>
      u.mode = { s.mode with waking := true } ∧ Unchanged [.mode] (s.at t) u := by
  refine ⟨(s.at t).wakes, by rw [exec_wake t ha hw, if_neg h5], ?_, State.setModes_unchanged _ _⟩
  rw [State.wakes, State.modMode_mode, State.at_mode]

theorem wake_locksAtOnce {s : State} (t : Nat) (ha : s.mode.active = .standby) (hw : s.mode.waking = false)
    (h5 : s.mode.standbyStep = 5) (hd : s.clk.state = .powerDown) (hs : s.clk.sweeping = false)
    (hp : (pfdTicks (s.fld Reg.CLK_REF_CTL 1 0) (s.fld Reg.CLK_REF_CTL 3 2)).isSome = true) :
    Completes (.wake t) s fun u => u.mode.waking = true ∧ u.mode.active = .standby ∧ u.clk.state = .qualify := by
  have hfld (hi lo : Nat) : (s.at t).wakes.fld Reg.CLK_REF_CTL hi lo = s.fld Reg.CLK_REF_CTL hi lo :=
    s.at_fld t _ hi lo
  have hclk : (s.at t).wakes.clk = s.clk := State.at_clk _ _
  have hstart := State.lockStart_eq (s := (s.at t).wakes) (.inr (by rw [hclk, hd])) (by rw [hclk, hs])
  rw [hfld, hfld, if_neg (by simp [Option.isSome_iff_ne_none.mp hp])] at hstart
  have hmode : (s.at t).wakes.qualifying.mode = { s.mode with waking := true } := by
    rw [State.qualifying, State.modClk_mode, State.wakes, State.modMode_mode, State.at_mode]
  refine ⟨_, by rw [exec_wake t ha hw, if_pos h5, hstart], ?_, ?_, ?_⟩
  · rw [State.coilLive_mode, hmode]
  · rw [State.coilLive_mode, hmode, ha]
  · exact (State.coilLive_keepsClock _ _).state

/-! ## The exit (R97, R204) -/

theorem State.axLeaveOff_keepsClock (s : State) (a : Nat) : KeepsClock s (s.axLeaveOff a) := by
  have hrevs (x : State) (y : Steering) : KeepsClock x { x with str := y } := .of_same rfl
  unfold State.axLeaveOff
  exact .ite (.ite (s.axFault_keepsClock a 9) ((KeepsClock.ite (hrevs s _) (.refl s)).trans (State.axEnter_keepsClock _ _ _)))
    (.refl s)

theorem State.strWake_keepsClock (s : State) : KeepsClock s s.strWake :=
  (KeepsClock.forN (fun s a => s.axLeaveOff_keepsClock a) s).trans (State.strUpdate_keepsClock _)

theorem State.strWake_mode (s : State) : s.strWake.mode = s.mode := by
  have haxes : Unchanged blockParts s (forN 2 s (fun s a => s.axLeaveOff a)) :=
    .foldl _ _ (fun s a => s.axLeaveOff_blocks a) s
  exact (haxes.trans (State.strUpdate_blocks _)) .mode (by decide)

theorem standbyExited_entersReady {s : State} (t : Nat) (ha : s.mode.active = .standby) (hw : s.mode.waking = true)
    (hv : s.onVco = true) (h0 : s.mode.standbyStep = 0) : Completes (.standbyExited t) s fun u =>
      u.mode.active = .ready ∧ u.mode.waking = false ∧ u.mode.previous = .standby ∧ u.shows Reg.GLB_MODE_STAT 9 := by
  have hexec : exec (.standbyExited t) s = .next (((((s.at t).modMode (fun m => { m with waking := false })).setMode
      .ready).event Reg.GLB_MODE_STAT 9 {}).strWake) :=
    congrArg Host.Outcome.next (if_pos (by simp [State.at_onVco, ha, hw, hv, h0]))
  refine ⟨_, hexec, ?_⟩
  dsimp only
  rw [State.strWake_mode, State.event_mode, State.setMode_mode, State.modMode_mode, State.at_mode]
  exact ⟨rfl, rfl, ha, (State.strWake_keepsClock _).shows _ _ (State.event_shows _ _ (by decide) _)⟩

/-- Settles O34: the end of the entry, the wake before and behind step 5, and the exit into READY. -/
theorem standbyAndItsExit : Obligations.StandbyAndItsExit := by
  unfold Obligations.StandbyAndItsExit
  exact ⟨fun t _ => standbyEntered_gates t, fun t _ => wake_staysOrEndsInSafe t, fun t _ => wake_waitsForTheEntry t,
    fun t _ => wake_locksAtOnce t, fun t _ => standbyExited_entersReady t⟩

end Sys2Proof.Machine
end

section
/-! PROOFS. SYNC (R114, R138): the proofs that a new grid places again, and the end of the wait. -/

namespace Sys2Proof.Machine

/-! ## What a new grid touches (R178) -/

theorem Unchanged.forN {but : List Part} {n : Nat} {f : State → Nat → State} (h : ∀ s k, Unchanged but s (f s k))
    (s : State) : Unchanged but s (forN n s f) := .foldl _ f h s

theorem forN_succ {α : Type} (n : Nat) (x : α) (f : α → Nat → α) : forN (n + 1) x f = f (forN n x f) n := by
  unfold forN
  rw [List.range_succ, List.foldl_append, List.foldl_cons, List.foldl_nil]

theorem State.placeProof_unchanged (s : State) (k : Nat) : Unchanged [.emt] s (s.placeProof k) := by
  unfold State.placeProof
  dsimp only
  split
  · exact s.setEmt_unchanged _
  · exact .refl _ s

theorem State.replaceProofs_unchanged (s : State) : Unchanged [.emt] s s.replaceProofs :=
  (s.setEmt_unchanged _).trans (.forN (fun s k => .ite (s.placeProof_unchanged k) (.refl _ s)) _)

/-! ## The end of a wait (R128, R137, R138) -/

theorem State.issueTick_now (s : State) (t : Nat) : (s.at (s.issueTick t)).now = s.issueTick t := by
  simp [State.issueTick]

theorem State.waitDone_eq {s : State} (wd : Nat) (v : Word) (z : Bool) (h : s.nextPc < 16384) : s.waitDone wd v z =
    s.modWhl (fun w => { w with
      regs := fset 0 w.regs wd v, state := .running, wait := none, z, pc := s.nextPc
      loops := (loopEnd s.whl.pc s.whl.loops).2, readyAt := s.now + 2 }) := by
  unfold State.waitDone
  rw [State.retire_eq]
  · rfl
  · exact h

theorem State.waitDone_unchanged {s : State} (wd : Nat) (v : Word) (z : Bool) (h : s.nextPc < 16384) :
    Unchanged [.whl] s (s.waitDone wd v z) := by
  rw [State.waitDone_eq wd v z h]
  exact s.modWhl_unchanged _

/-- The program goes on behind `s` with register `wd` written: the flags N and C, the other registers, the shots and the
registers of the fabric are as they were. -/
def Resumed (wd : Nat) (s u : State) : Prop :=
  (∀ i, i ≠ wd → u.wreg i = s.wreg i) ∧ u.whl.n = s.whl.n ∧ u.whl.c = s.whl.c ∧
    u.whl.state = .running ∧ u.whl.wait = none ∧ u.whl.pc = s.nextPc ∧ u.whl.shots = s.whl.shots ∧ SameRegs [] s u

/-- A wait ends in a state that differs from `s` in the grid's anchor and in other blocks. -/
theorem State.waitDone_resumes {s x : State} {a : Nat} (hwhl : x.whl = { s.whl with anchor := a }) (hregs : x.regs = s.regs)
    (hpc : s.nextPc < 16384) (wd : Nat) (v : Word) (z : Bool) :
    (x.waitDone wd v z).whl.anchor = a ∧ (x.waitDone wd v z).wreg wd = v ∧ (x.waitDone wd v z).whl.z = z ∧
      Resumed wd s (x.waitDone wd v z) := by
  have hnext : x.nextPc = s.nextPc := by simp only [State.nextPc, hwhl]
  have hreg (off : Nat) : x.reg off = s.reg off := by simp only [State.reg, hregs]
  rw [State.waitDone_eq wd v z (by rwa [hnext])]
  simp only [Resumed, SameRegs, State.wreg, State.modWhl_whl, hwhl, hnext, fget_fset_same, true_and]
  exact ⟨fun i hi => fget_fset_ne _ _ _ _ hi, fun off _ => hreg off⟩

/-! ## SYNC hits or falls through (R114) -/

theorem State.syncHit_anchors {s b : State} (hwhl : b.whl = s.whl) (hregs : b.regs = s.regs) (hpc : s.nextPc < 16384)
    (wd ofs d : Nat) : (b.syncHit wd ofs d).whl.anchor = b.now + ofs ∧ (b.syncHit wd ofs d).wreg wd = BitVec.ofNat 32 d ∧
      (b.syncHit wd ofs d).whl.z = false ∧ Resumed wd s (b.syncHit wd ofs d) := by
  have hproofs := (b.modWhl fun w => { w with anchor := b.now + ofs }).replaceProofs_unchanged
  unfold State.syncHit
  generalize State.replaceProofs _ = x at hproofs ⊢
  have hx : x.whl = { s.whl with anchor := b.now + ofs } := by
    rw [hproofs .whl (by decide), State.modWhl_whl, hwhl]
  exact State.waitDone_resumes hx ((hproofs .regs (by decide)).trans hregs) hpc _ _ _

/-- A counter of 32 bits counts one more and wraps. -/
theorem State.bump_counts {s : State} {id : Nat} (hbits : idBits id = 32) (h : s.isFrozen id = false) :
    bitsOf ((s.bump id).wideRaw id).toNat 31 0 = (bitsOf (s.wideRaw id).toNat 31 0 + 1) % 2 ^ 32 := by
  have hw := (s.wideRaw id).isLt
  rw [State.bump_eq Nat.one_pos, (State.updWide_free _ h).2, if_pos rfl]
  simp only [hbits, WideUpd.apply, putBits, bitsOf, BitVec.toNat_ofNat, Nat.shiftRight_zero, Nat.pow_zero, Nat.mul_one]
  omega

section
variable {s b : State} (hwhl : b.whl = s.whl) (hpc : s.nextPc < 16384)
include hwhl hpc

theorem State.syncOut_unchanged (wd : Nat) :
    Unchanged [.whl] ((b.event Reg.WHL_STAT 4 {}).bump Id.WHL_SYNC_TIMEOUTS) (b.syncOut wd) := by
  refine State.waitDone_unchanged _ _ _ ?_
  simp only [State.nextPc, State.bump_whl, State.event_whl, hwhl]
  exact hpc

theorem State.syncOut_now (wd : Nat) : (b.syncOut wd).now = b.now := by
  rw [(State.syncOut_unchanged hwhl hpc wd).now (by decide), State.bump_now, State.event_now]

theorem State.syncOut_fallsThrough (hregs : b.regs = s.regs)
    (hfrozen : b.isFrozen Id.WHL_SYNC_TIMEOUTS = s.isFrozen Id.WHL_SYNC_TIMEOUTS) (wd : Nat) :
    (b.syncOut wd).whl.anchor = s.whl.anchor ∧ (b.syncOut wd).wreg wd = 0 ∧ (b.syncOut wd).whl.z = true ∧
      Resumed wd s (b.syncOut wd) ∧ (b.syncOut wd).shows Reg.WHL_STAT 4 ∧
      (s.isFrozen Id.WHL_SYNC_TIMEOUTS = false → bitsOf ((b.syncOut wd).wideRaw Id.WHL_SYNC_TIMEOUTS).toNat 31 0 =
        (bitsOf (b.wideRaw Id.WHL_SYNC_TIMEOUTS).toNat 31 0 + 1) % 2 ^ 32) := by
  have hevent := b.event_unchanged Reg.WHL_STAT 4 {}
  have hcount : Unchanged [.wide, .deferred, .recent] (b.event Reg.WHL_STAT 4 {})
    ((b.event Reg.WHL_STAT 4 {}).bump Id.WHL_SYNC_TIMEOUTS) := State.updWide_unchanged _ _ _
  have hend := State.syncOut_unchanged hwhl hpc wd
  obtain ⟨hanchor, hreg, hz, hres⟩ := State.waitDone_resumes (s := s) (a := s.whl.anchor)
    (x := (b.event Reg.WHL_STAT 4 {}).bump Id.WHL_SYNC_TIMEOUTS) (by rw [State.bump_whl, State.event_whl, hwhl])
    (by rw [State.bump_regs, State.event_regs, hregs]) hpc wd 0 true
  refine ⟨hanchor, hreg, hz, hres, ?_, fun hf => ?_⟩
  · exact (State.shows_of_stat ((hend .stat (by decide)).trans (hcount .stat (by decide))) _ _).mpr
      (State.event_shows _ _ (by decide) _)
  · rw [hend.wideRaw (by decide), State.bump_counts (by decide), hevent.wideRaw (by decide)]
    rw [hevent.isFrozen (by decide) (by decide) (by decide), hfrozen, hf]

end

/-! ## The commands -/

theorem exec_sync {s : State} {wd src timeout n ofs : Nat} (t : Nat) (h : s.issues (.sync wd src timeout n ofs)) :
    exec (.sync t) s = .next ((s.at (s.issueTick t)).syncStart wd src timeout n ofs) := by
  change Host.Outcome.next (s.issue t _) = _
  rw [State.issue_eq t _ h]

theorem State.at_bit (s : State) (t off i : Nat) : (s.at t).bit off i = s.bit off i := by
  simp only [State.bit, State.at_reg]

/-- Settles O23: SYNC takes one of `syncHit`, `syncOut` and the wait, by its source's event and its timeout. -/
theorem syncReanchorsTheGrid : Obligations.SyncReanchorsTheGrid := by
  refine ⟨fun t s wd src timeout n ofs d hi hpc hcoil hnow => ?_, fun t s wd src timeout n ofs hi hpc hmiss => ?_,
    fun t s wd src timeout n ofs hi hcoil hnow ht => ?_, fun t s wd src want ofs e n hw hle hmatch hpc => ?_,
    fun t s wd src n ofs e hw hpc => ?_⟩
  · have hstart : (s.at (s.issueTick t)).syncStart wd src timeout n ofs = (s.at (s.issueTick t)).syncHit wd ofs d := by
      unfold State.syncStart
      rw [if_neg (by rw [State.at_bit]; rintro ⟨hsrc, hoff⟩; simp [hcoil hsrc] at hoff), hnow]
    have hhit := State.syncHit_anchors (s.at_whl (s.issueTick t)) (s.at_regs _) hpc wd ofs d
    rw [State.issueTick_now] at hhit
    exact .of_next ((exec_sync t hi).trans (by rw [hstart])) hhit
  · have hstart : (s.at (s.issueTick t)).syncStart wd src timeout n ofs = (s.at (s.issueTick t)).syncOut wd := by
      unfold State.syncStart
      rw [State.at_bit]
      split
      · rfl
      · obtain ⟨htime, hnone⟩ := hmiss.resolve_left ‹_›
        rw [hnone]
        exact if_pos htime
    exact .of_next ((exec_sync t hi).trans (by rw [hstart]))
      (State.syncOut_fallsThrough (s.at_whl _) hpc (s.at_regs _) (s.at_isFrozen _ _) wd)
  · refine .of_next (exec_sync t hi) ?_
    unfold State.syncStart
    rw [if_neg (by rw [State.at_bit]; rintro ⟨hsrc, hoff⟩; simp [hcoil hsrc] at hoff), hnow]
    dsimp only
    rw [if_neg (by omega), State.issueTick_now]
    exact ⟨by rw [State.modWhl_whl, State.at_whl], State.modWhl_unchanged _ _⟩
  · have hexec : exec (.syncEvent t src n) s = .next ((s.at t).syncHit wd ofs (if src.val = 2 then 0 else n.val)) := by
      have hm : (syncMatches src want src n && decide ((s.at t).now ≤ e)) = true := by
        simpa [syncMatches, or_assoc, hle] using hmatch
      change execSyncEvent t src n s = _
      unfold execSyncEvent
      dsimp only
      rw [State.at_whl, hw]
      exact if_pos hm
    have hhit := State.syncHit_anchors (s.at_whl t) (s.at_regs t) hpc wd ofs (if src.val = 2 then 0 else n.val)
    rw [State.at_now] at hhit
    exact .of_next hexec hhit
  · have hexec : exec (.syncTimeout t) s = .next ((s.at (max t e)).syncOut wd) := by
      change execSyncTimeout t s = _
      unfold execSyncTimeout
      rw [hw]
    refine .of_next hexec ⟨State.syncOut_fallsThrough (s.at_whl _) hpc (s.at_regs _) (s.at_isFrozen _ _) wd, ?_⟩
    rw [State.syncOut_now (s.at_whl _) hpc, State.at_now]
    omega

end Sys2Proof.Machine
end

section
/-! PROOFS. What a parameter's landing, a gate and a Wheel fault leave of the Wheel and of the registers (R116, R119, R143,
R149). -/

namespace Sys2Proof.Machine

/-! ## The landing of a parameter (R116, R117) -/

/-- The parts that the landing of a lane, Kiln, Glaze or Shelf parameter may reach, the events it records included. -/
def landParts : List Part := [.lan, .kln, .glz, .shf] ++ eventParts

theorem State.paramClamp_land (s : State) (a v p : Nat) : Unchanged landParts s (s.paramClamp a v p) :=
  (s.event_unchanged _ _ _).mono (by decide)

theorem State.lenClamp_land (s : State) (a v p : Nat) : Unchanged landParts s (s.lenClamp a v p) :=
  (s.event_unchanged _ _ _).mono (by decide)

theorem State.modLane_land (s : State) (l : Nat) (f : Lane → Lane) : Unchanged landParts s (s.modLane l f) :=
  (s.setLan_unchanged _).mono (by decide)

theorem State.modKiln_land (s : State) (k : Nat) (f : Kiln → Kiln) : Unchanged landParts s (s.modKiln k f) :=
  (s.setKln_unchanged _).mono (by decide)

theorem State.modGlaze_land (s : State) (k : Nat) (f : Glaze → Glaze) : Unchanged landParts s (s.modGlaze k f) :=
  (s.setGlz_unchanged _).mono (by decide)

theorem State.lateThr_land (s : State) (l : Nat) (b : Option Nat) : Unchanged landParts s (s.lateThr l b) := by
  unfold State.lateThr
  split
  · exact .ite (s.modLane_land _ _) (.refl _ s)
  · exact .refl _ s

theorem State.lateRng_land (s : State) (l : Nat) (b : Option Nat) : Unchanged landParts s (s.lateRng l b) := by
  unfold State.lateRng
  split
  · exact .ite (s.modLane_land _ _) (.refl _ s)
  · exact .refl _ s

theorem State.landNom_land (s : State) (l v a p : Nat) : Unchanged landParts s (s.landNom l v a p) := by
  have hlate (c : Prop) [Decidable c] (f : Lane → Lane) (b : Option Nat) :
      Unchanged landParts s (if c then (s.modLane l f).lateThr l b else s.modLane l f) :=
    .thenIf (s.modLane_land l f) (State.lateThr_land _ _ _)
  exact .ite (hlate _ _ _) ((hlate _ _ _).trans (State.paramClamp_land _ _ _ _))

theorem State.landGain_land (s : State) (l v : Nat) (forced : Bool) (a p : Nat) :
    Unchanged landParts s (s.landGain l v forced a p) := by
  have hlate (c : Prop) [Decidable c] (f : Lane → Lane) (b : Option Nat) :
      Unchanged landParts s (if c then s.modLane l f else (s.modLane l f).lateRng l b) :=
    .ite (s.modLane_land l f) ((s.modLane_land l f).trans (State.lateRng_land _ _ _))
  exact .ite (hlate _ _ _) ((hlate _ _ _).trans (State.paramClamp_land _ _ _ _))

theorem State.landDepth_land (s : State) (v a p : Nat) : Unchanged landParts s (s.landDepth v a p) :=
  .thenIf ((s.setShf_unchanged _).mono (by decide)) (State.lenClamp_land _ _ _ _)

theorem State.landDecay_land (s : State) (v a p : Nat) : Unchanged landParts s (s.landDecay v a p) :=
  .thenIf ((s.setShf_unchanged _).mono (by decide)) (State.paramClamp_land _ _ _ _)

/-- From `s` to `u` parameters land: of the Wheel only the period to come and the note of landings change. -/
structure Landed (s u : State) : Prop where
  parts : Unchanged (.whl :: landParts) s u
  whl : u.whl = { s.whl with periodNext := u.whl.periodNext, setps := u.whl.setps }

namespace Landed

theorem of_land {s u : State} (h : Unchanged landParts s u) : Landed s u :=
  ⟨h.mono (by decide), by rw [h .whl (by decide)]⟩

theorem of_modWhl {s : State} {f : Wheel → Wheel}
    (h : f s.whl = { s.whl with periodNext := (f s.whl).periodNext, setps := (f s.whl).setps }) : Landed s (s.modWhl f) :=
  ⟨(s.modWhl_unchanged f).mono (by decide), h⟩

theorem refl (s : State) : Landed s s := ⟨.refl _ s, rfl⟩

theorem trans {a b c : State} (h : Landed a b) (k : Landed b c) : Landed a c :=
  ⟨h.parts.trans k.parts, by rw [k.whl, h.whl]⟩

theorem forN {n : Nat} {f : State → Nat → State} (h : ∀ s k, Landed s (f s k)) (s : State) : Landed s (forN n s f) := by
  unfold Machine.forN
  induction List.range n generalizing s with
  | nil => exact refl s
  | cons k l ih => exact (h s k).trans (ih _)

end Landed

theorem State.landOne_landed (s : State) (param i v pc : Nat) : Landed s (s.landOne param i v pc) := by
  unfold State.landOne
  split
  · exact .of_land (s.landNom_land _ _ _ _)
  · exact .of_land ((s.modLane_land _ _).trans (State.lateThr_land _ _ _))
  · exact .of_land ((s.modLane_land _ _).trans (State.lateThr_land _ _ _))
  · exact .of_land (s.landGain_land _ _ _ _ _)
  · exact .of_land (s.landGain_land _ _ _ _ _)
  · exact .of_land (s.modKiln_land _ _)
  · exact .of_land (s.modKiln_land _ _)
  · exact .of_land (s.modGlaze_land _ _)
  · exact .of_land (s.modGlaze_land _ _)
  · exact .of_land (s.modGlaze_land _ _)
  · exact .of_land (s.landDepth_land _ _ _)
  · exact .of_land (s.landDecay_land _ _ _)
  · exact .of_modWhl rfl

theorem State.landSetp_landed (s : State) (param : Nat) (idx : Option Nat) (v pc : Nat) :
    Landed s (s.landSetp param idx v pc) := by
  have hone (x : State) (i : Nat) : Landed x ((x.landOne param i v pc).noteSetp param i) :=
    (x.landOne_landed _ _ _ _).trans (.of_modWhl rfl)
  cases idx with
  | some i => exact hone s i
  | none => exact .forN hone s

/-- A period that lands is the one to come (R104). -/
theorem State.landSetp_period (s : State) (idx : Option Nat) (v pc : Nat) :
    (s.landSetp 0x401 idx v pc).whl.periodNext = v := by
  cases idx <;> rfl

/-! ## Gates (R143) -/

theorem State.modLane_lane (s : State) (l j : Nat) (f : Lane → Lane) :
    (s.modLane l f).lane j = if j = l then f (s.lane j) else s.lane j := by
  unfold State.modLane State.lane fmod
  dsimp only
  rw [fget_fset]
  split
  · subst j
    rfl
  · rfl

theorem State.selLanes_unchanged (s : State) (tiles : BitVec 32) (lanes : BitVec 16) (f : Lane → Lane) :
    Unchanged [.lan] s (s.selLanes tiles lanes f) := .forN (fun s _ => .ite (s.setLan_unchanged _) (.refl _ s)) s

/-- The lanes that the two masks select change, once each. -/
theorem State.selLanes_lane (s : State) (tiles : BitVec 32) (lanes : BitVec 16) (f : Lane → Lane) {l : Nat} (hl : l < 512) :
    (s.selLanes tiles lanes f).lane l =
      if bitOf tiles.toNat (l / 16) && bitOf lanes.toNat (l % 16) then f (s.lane l) else s.lane l := by
  have hrange (n : Nat) : (forN n s (fun s l =>
      if bitOf tiles.toNat (l / 16) && bitOf lanes.toNat (l % 16) then s.modLane l f else s)).lane l =
      if l < n ∧ (bitOf tiles.toNat (l / 16) && bitOf lanes.toNat (l % 16)) = true then f (s.lane l) else s.lane l := by
    induction n with
    | zero => simp [forN]
    | succ n ih =>
      rw [forN_succ]
      generalize forN n s _ = x at ih ⊢
      by_cases hn : l = n
      · subst hn
        simp only [Nat.lt_irrefl, false_and, if_false] at ih
        simp only [Nat.lt_succ_self, true_and]
        split
        · rw [State.modLane_lane, if_pos rfl, ih]
        · exact ih
      · have hsame : (if bitOf tiles.toNat (n / 16) && bitOf lanes.toNat (n % 16) then x.modLane n f else x).lane l =
            x.lane l := by
          split
          · rw [State.modLane_lane, if_neg hn]
          · rfl
        rw [hsame, ih]
        simp only [show l < n + 1 ↔ l < n by omega]
  have h := hrange 512
  simp only [hl, true_and] at h
  exact h

theorem State.joinGates_unchanged (s : State) : Unchanged [.kln] s s.joinGates :=
  .forN (fun s _ => s.setKln_unchanged _) s

/-! ## Wheel faults (R119) -/

theorem State.wheelIdle_whl (s : State) : s.wheelIdle.whl = s.whl := by
  unfold State.wheelIdle
  dsimp only
  split
  · exact (State.coilTrimReset_steady _).parts .whl (by decide)
  · rfl

theorem State.voidOpenPixel_faultCode (s : State) (c : Nat) : (s.voidOpenPixel c).whl.faultCode = s.whl.faultCode := by
  unfold State.voidOpenPixel
  split
  · rfl
  · have hvoid (p : Pixel) : Unchanged landParts s (forN 8 s (fun s k =>
        (((s.pushHand k p none (s.kiln k).void).clearFill k).event (secOff Reg.KLN_STAT k) 7 { inst := k }))) :=
      .forN (fun x k => ((x.modKiln_land _ _).trans (State.modKiln_land _ _ _)).trans
        ((State.event_unchanged _ _ _ _).mono (by decide))) s
    dsimp only
    exact congrArg Wheel.faultCode (hvoid _ .whl (by decide))

/-- A cut frame leaves no action and keeps the fault code (R120). -/
theorem State.cutFrame_whl (s : State) (c : CutInfo) :
    (s.cutFrame c).whl.queue = [] ∧ (s.cutFrame c).whl.faultCode = s.whl.faultCode := by
  refine ⟨rfl, ?_⟩
  unfold State.cutFrame
  dsimp only
  split
  · exact s.voidOpenPixel_faultCode _
  · exact s.voidOpenPixel_faultCode _

theorem State.wheelFault_faults (s : State) (code : Nat) : FaultedWith code (s.wheelFault code) := by
  unfold State.wheelFault
  dsimp only
  have hcode : (((s.modWhl (fun x => { x with faultCode := code })).putWide Id.WHL_FAULT_INFO
      (s.whl.pc + code * 2 ^ 16 + s.instrAt s.whl.pc * 2 ^ 32)).fault 0xA20 Reg.WHL_STAT (flag16 2)
        { detail := code, addr := s.whl.pc, value := s.instrAt s.whl.pc % 2 ^ 32 }).whl.faultCode = code := by
    rw [State.fault_whl, State.putWide_whl, State.modWhl_whl]
  generalize State.fault _ _ _ _ _ = x at hcode ⊢
  obtain ⟨hqueue, hkept⟩ := x.cutFrame_whl { cause := 2, mode := x.mode.active.code, wheelFault := code }
  generalize State.cutFrame _ _ = y at hqueue hkept ⊢
  have hhalt : (y.haltWheel true).whl.queue = y.whl.queue ∧ (y.haltWheel true).whl.faultCode = y.whl.faultCode := by
    simp [State.haltWheel]
  unfold FaultedWith
  rw [State.wheelIdle_whl, hhalt.1, hhalt.2, hqueue, hkept, hcode]
  exact ⟨y.haltWheel_faulted, rfl, rfl⟩

end Sys2Proof.Machine
end

section
/-! PROOFS. The timeline instructions GATE, ZOOM, PIX, STEP, MARK and SETP (R107 to R109, R143 to R150): what an instruction
finds at its issue, the entry that joins the queue, and the settings that apply at once. -/

namespace Sys2Proof.Machine

/-! ## An instruction at its issue -/

/-- `x` stands at tick `a` in the issue of an instruction of `s`: the Wheel and the registers are as in `s`. -/
structure Issuing (a : Nat) (s x : State) : Prop where
  whl : x.whl = s.whl
  regs : x.regs = s.regs
  now : x.now = a

/-- One action for `slot` has joined the queue, and its instruction, issued at tick `a`, has completed. -/
def Joined (act : Action) (slot : Option Nat) (a : Nat) (s u : State) : Prop :=
  u.whl.queue = s.whl.queue ++ [{ act, slot, pc := s.whl.pc }] ∧ u.whl.regs = s.whl.regs ∧ u.whl.shots = s.whl.shots ∧
    SameRegs [] s u ∧ Retired 1 a s u

/-- The slot to which an action attaches, if there is one yet, has not started. -/
def State.slotAhead (s : State) : Prop := ∀ a, s.attachSlot = some a → s.slotStarted a = false

theorem State.not_slotAhead {s : State} (h : ¬ s.slotAhead) : ∃ a, s.attachSlot = some a ∧ s.slotStarted a = true := by
  simpa [State.slotAhead] using h

theorem State.issuing_at (s : State) (t : Nat) : Issuing (s.issueTick t) s (s.at (s.issueTick t)) :=
  ⟨s.at_whl _, s.at_regs _, s.issueTick_now t⟩

theorem clampN_zero (hi v : Nat) : clampN 0 hi v = min hi v := Nat.zero_max _

theorem State.bounded_quiet (s : State) (v lo hi : Nat) : Quiet s (s.bounded v lo hi).1 := by
  unfold State.bounded
  dsimp only
  split
  · exact .refl s
  · exact s.paramClamp_quiet _ _ _

theorem State.bounded_zero (s : State) (v hi : Nat) : (s.bounded v 0 hi).2 = min hi v := clampN_zero hi v

namespace Issuing
variable {a : Nat} {s x : State} (h : Issuing a s x)
include h

theorem quiet {y : State} (k : Quiet x y) : Issuing a s y :=
  ⟨k.whl.trans h.whl, k.regs.trans h.regs, k.now.trans h.now⟩

theorem bounded (v lo hi : Nat) : Issuing a s (x.bounded v lo hi).1 := h.quiet (x.bounded_quiet v lo hi)

theorem wreg (i : Nat) : x.wreg i = s.wreg i := by simp only [State.wreg, h.whl]

theorem src (o : Src) : x.src o = s.src o := by
  cases o with
  | reg i => exact h.wreg i
  | imm v => rfl

theorem stepValue (o : Src) : x.stepValue o = s.stepValue o := by
  cases o with
  | reg i => exact congrArg BitVec.toInt (h.wreg i)
  | imm v => rfl

theorem attachSlot : x.attachSlot = s.attachSlot := by simp only [State.attachSlot, h.whl]

theorem zoomSlot : x.zoomSlot = s.zoomSlot := by simp only [State.zoomSlot, h.whl]

theorem slotStarted (b : Nat) : x.slotStarted b = s.slotStarted b := by simp only [State.slotStarted, h.whl]

theorem nextPc : x.nextPc = s.nextPc := by simp only [State.nextPc, h.whl]

theorem reg (off : Nat) : x.reg off = s.reg off := by simp only [State.reg, h.regs]

/-- The entry joins, the instruction completes. -/
theorem joined (hpc : s.nextPc < 16384) (act : Action) (slot : Option Nat) :
    Joined act slot a s ((x.enqueueAct act slot).retire 1) := by
  rw [State.retire_eq 1 (by rw [← h.nextPc] at hpc; exact hpc)]
  simp only [Joined, Retired, State.enqueueAct, State.modWhl_whl, State.modWhl_now, State.modWhl_nextPc, h.whl, h.now,
    true_and]
  exact ⟨fun off _ => h.reg off, rfl, trivial⟩

/-- What attaches to a slot ahead only joins the queue. -/
theorem attach_ahead (hahead : s.slotAhead) (act : Action) : x.attach act = x.enqueueAct act s.attachSlot := by
  unfold State.attach
  rw [h.attachSlot]
  split
  · next hnone => rw [hnone]
  · next b hsome =>
    rw [h.slotStarted, hahead b hsome, hsome]
    rfl

/-- A gate for a slot that has started applies at once (R107). -/
theorem attach_gate_late {b : Nat} (hslot : s.attachSlot = some b) (hs : s.slotStarted b = true) (tiles : BitVec 32)
    (lanes : BitVec 16) (o c : Nat) : x.attach (.gate tiles lanes o c) =
      ((x.enqueueAct (.gate tiles lanes o c) (some b)).selLanes tiles lanes
        (fun l => { l with gOpen := o, gClose := c })).joinGates := by
  unfold State.attach
  rw [h.attachSlot, hslot]
  dsimp only
  rw [h.slotStarted, hs, if_pos rfl]
  simp only [State.applyEntry]

/-- A parameter for a slot that has started lands at once (R107). -/
theorem attach_setp_late {b : Nat} (hslot : s.attachSlot = some b) (hs : s.slotStarted b = true) (param : Nat)
    (idx : Option Nat) (v : Nat) : x.attach (.setp param idx v) = x.landSetp param idx v s.whl.pc := by
  unfold State.attach
  rw [h.attachSlot, hslot, ← h.whl]
  dsimp only
  rw [h.slotStarted, hs, if_pos rfl]
  simp only [State.applyEntry]

end Issuing

/-- STEPs and MARKs join the queue whether their slot has started or not. -/
theorem State.attach_step (s : State) (ax : Nat) (v : Int) (ofs : Nat) :
    s.attach (.step ax v ofs) = s.enqueueAct (.step ax v ofs) s.attachSlot := by
  unfold State.attach
  split
  · next hnone => rw [hnone]
  · next b hsome => rw [hsome]; exact ite_self _

theorem State.attach_mark (s : State) (tag : Nat) (v : Word) (ofs : Nat) :
    s.attach (.mark tag v ofs) = s.enqueueAct (.mark tag v ofs) s.attachSlot := by
  unfold State.attach
  split
  · next hnone => rw [hnone]
  · next b hsome => rw [hsome]; exact ite_self _

theorem State.joinGates_lane (s : State) (l : Nat) : s.joinGates.lane l = s.lane l := by
  have hlan : s.joinGates.lan = s.lan := s.joinGates_unchanged .lan (by decide)
  simp only [State.lane, hlan]

theorem State.retire_lane {s : State} (h : s.nextPc < 16384) (l : Nat) : (s.retire 1).lane l = s.lane l := by
  rw [State.retire_eq 1 h]
  rfl

/-! ## The instructions, with room in the queue (R108) -/

section
variable {s : State} (t : Nat) (hpc : s.nextPc < 16384) (hroom : (s.at (s.issueTick t)).queueUsed.length < 64)
include hroom

theorem exec_gate {ta lanes c o : Nat} (h : s.issues (.gate ta lanes c o)) :
    exec (.gate t) s = .next ((s.at (s.issueTick t)).gateOp ta lanes c o) := by
  change Host.Outcome.next (s.issue t _) = _
  rw [State.issue_eq t _ h]
  exact congrArg _ (if_pos hroom)

theorem exec_zoom {src win ta lanes start : Nat} (h : s.issues (.zoom src win ta lanes start)) :
    exec (.zoom t) s = .next ((s.at (s.issueTick t)).zoomOp src win ta lanes start) := by
  change Host.Outcome.next (s.issue t _) = _
  rw [State.issue_eq t _ h]
  exact congrArg _ (if_pos hroom)

theorem exec_pix {eof : Bool} {az el : Src} (h : s.issues (.pix eof az el)) :
    exec (.pix t) s = .next ((s.at (s.issueTick t)).pixOp eof az el) := by
  change Host.Outcome.next (s.issue t _) = _
  rw [State.issue_eq t _ h]
  exact congrArg _ (if_pos hroom)

theorem exec_step {ax : Nat} {v : Src} {ofs : Nat} (h : s.issues (.step ax v ofs)) :
    exec (.step t) s = .next ((s.at (s.issueTick t)).stepOp ax v ofs) := by
  change Host.Outcome.next (s.issue t _) = _
  rw [State.issue_eq t _ h]
  exact congrArg _ (if_pos hroom)

theorem exec_mark {wa tag ofs : Nat} (h : s.issues (.mark wa tag ofs)) :
    exec (.mark t) s = .next ((s.at (s.issueTick t)).markOp wa tag ofs) := by
  change Host.Outcome.next (s.issue t _) = _
  rw [State.issue_eq t _ h]
  exact congrArg _ (if_pos hroom)

theorem exec_setp {v : Src} {all : Bool} {idx : Src} {param : Nat} (h : s.issues (.setp v all idx param)) :
    exec (.setp t) s = .next ((s.at (s.issueTick t)).setpOp v all idx param) := by
  change Host.Outcome.next (s.issue t _) = _
  rw [State.issue_eq t _ h]
  exact congrArg _ (if_pos hroom)

include hpc

theorem gate_joins {ta lanes c o : Nat} (h : s.issues (.gate ta lanes c o)) (hahead : s.slotAhead) :
    Completes (.gate t) s (Joined (.gate (s.wreg ta) (BitVec.ofNat 16 lanes) (min 8192 o) (min 8192 c)) s.attachSlot
      (s.issueTick t) s) := by
  have hb := s.issuing_at t
  have hy := (hb.bounded o 0 8192).bounded c 0 8192
  refine .of_next (exec_gate t hroom h) ?_
  unfold State.gateOp
  dsimp only
  rw [State.bounded_zero, State.bounded_zero, hb.wreg, hy.attach_ahead hahead]
  exact hy.joined hpc _ _

theorem gate_appliesLate {ta lanes c o l : Nat} (h : s.issues (.gate ta lanes c o)) (hlate : ¬ s.slotAhead) (hl : l < 512)
    (htile : bitOf (s.wreg ta).toNat (l / 16) = true) (hlane : bitOf (BitVec.ofNat 16 lanes).toNat (l % 16) = true) :
    Completes (.gate t) s fun u => (u.lane l).gOpen = min 8192 o ∧ (u.lane l).gClose = min 8192 c := by
  obtain ⟨a, hslot, hs⟩ := State.not_slotAhead hlate
  have hb := s.issuing_at t
  have hy := (hb.bounded o 0 8192).bounded c 0 8192
  refine .of_next (exec_gate t hroom h) ?_
  unfold State.gateOp
  dsimp only
  rw [State.bounded_zero, State.bounded_zero, hb.wreg, hy.attach_gate_late hslot hs]
  generalize (((s.at (s.issueTick t)).bounded o 0 8192).1.bounded c 0 8192).1 = y at hy ⊢
  have hx : (y.enqueueAct (.gate (s.wreg ta) (BitVec.ofNat 16 lanes) (min 8192 o) (min 8192 c)) (some a)).nextPc = s.nextPc :=
    hy.nextPc
  generalize y.enqueueAct _ _ = x at hx ⊢
  have hsel := x.selLanes_lane (s.wreg ta) (BitVec.ofNat 16 lanes)
    (fun x => { x with gOpen := min 8192 o, gClose := min 8192 c }) hl
  have hframe := x.selLanes_unchanged (s.wreg ta) (BitVec.ofNat 16 lanes)
    (fun x => { x with gOpen := min 8192 o, gClose := min 8192 c })
  rw [htile, hlane] at hsel
  generalize x.selLanes _ _ _ = z at hsel hframe ⊢
  have hwhl : z.joinGates.whl = x.whl := (z.joinGates_unchanged .whl (by decide)).trans (hframe .whl (by decide))
  have hnext : z.joinGates.nextPc = s.nextPc := by
    rw [State.nextPc, hwhl]
    exact hx
  rw [State.retire_lane (by rwa [hnext]), State.joinGates_lane, hsel]
  exact ⟨rfl, rfl⟩

theorem step_joins {ax : Nat} {v : Src} {ofs : Nat} (h : s.issues (.step ax v ofs)) :
    Completes (.step t) s (Joined (.step ax (s.stepValue v) (min (s.whl.period - 1) ofs)) s.attachSlot
      (s.issueTick t) s) := by
  have hb := s.issuing_at t
  have hx := hb.bounded ofs 0 (s.whl.period - 1)
  refine .of_next (exec_step t hroom h) ?_
  unfold State.stepOp
  dsimp only
  rw [hb.whl, State.bounded_zero, hb.stepValue, State.attach_step, hx.attachSlot]
  exact hx.joined hpc _ _

theorem mark_joins {wa tag ofs : Nat} (h : s.issues (.mark wa tag ofs)) :
    Completes (.mark t) s (Joined (.mark tag (s.wreg wa) (min (s.whl.period - 1) ofs)) s.attachSlot
      (s.issueTick t) s) := by
  have hb := s.issuing_at t
  have hx := hb.bounded ofs 0 (s.whl.period - 1)
  refine .of_next (exec_mark t hroom h) ?_
  unfold State.markOp
  dsimp only
  rw [hb.whl, State.bounded_zero, hb.wreg, State.attach_mark, hx.attachSlot]
  exact hx.joined hpc _ _

theorem zoom_joins {src win ta lanes start : Nat} (h : s.issues (.zoom src win ta lanes start))
    (hearly : s.whl.afterPix = true ∨ s.zoomSlot.isSome = true) :
    Completes (.zoom t) s (Joined (.zoom src win (s.wreg ta) (BitVec.ofNat 16 lanes) (min 8191 start)) s.zoomSlot
      (s.issueTick t) s) := by
  have hb := s.issuing_at t
  have hearly' : ((!s.whl.afterPix) && s.zoomSlot.isNone) = false := by
    rcases hearly with hp | hz
    · simp [hp]
    · cases hs : s.zoomSlot <;> simp [hs] at hz ⊢
  refine .of_next (exec_zoom t hroom h) ?_
  unfold State.zoomOp
  dsimp only
  rw [hb.whl, hb.zoomSlot, hearly', State.bounded_zero, hb.wreg]
  exact (hb.bounded start 0 8191).joined hpc _ _

theorem zoom_waits {src win ta lanes start : Nat} (h : s.issues (.zoom src win ta lanes start))
    (hp : s.whl.afterPix = false) (hz : s.zoomSlot = none) :
    Completes (.zoom t) s (Joined (.zoom src win (s.wreg ta) (BitVec.ofNat 16 lanes) (min 8191 start)) s.whl.lastSlot
      (s.issueTick t) s) := by
  have hb := s.issuing_at t
  refine .of_next (exec_zoom t hroom h) ?_
  unfold State.zoomOp
  dsimp only
  rw [hb.whl, hb.zoomSlot, hp, hz, State.bounded_zero, hb.wreg]
  exact ((hb.bounded start 0 8191).quiet (State.eventNoFlag_quiet _ _ _ _)).joined hpc _ _

/-! ## PIX (R109, R110, R146) -/

omit hpc hroom in
/-- A pixel closes 40,000 ticks behind the one before it at the earliest, and behind its last slot (R109). -/
theorem State.pixCloseTick_le (s : State) : s.whl.prevClose + 40000 ≤ s.pixCloseTick ∧
    (s.whl.issShots ≠ 0 → s.whl.lastEnd ≤ s.pixCloseTick) := by
  unfold State.pixCloseTick
  dsimp only
  split
  · exact ⟨by omega, fun hne => absurd ‹_› hne⟩
  · exact ⟨by omega, fun _ => by omega⟩

/-- The state behind a PIX, before its completion: an end of frame waits for its sample. -/
def State.pixEof (s : State) (eof : Bool) (seq c : Nat) : State := if eof then (s.kilnEof seq).setEof c else s

omit hpc hroom in
theorem State.pixEof_keeps (s : State) (eof : Bool) (seq c : Nat) :
    (s.pixEof eof seq c).now = s.now ∧ (s.pixEof eof seq c).regs = s.regs ∧
    (∃ x y z, (s.pixEof eof seq c).whl = { s.whl with eofAt := x, eofNext := y, sampled := z }) ∧
    (eof = true → s.whl.eofAt = none → (s.pixEof eof seq c).whl.eofAt = some c ∧ (s.pixEof eof seq c).whl.sampled = false) := by
  have hkiln : Unchanged [.kln] s (s.kilnEof seq) :=
    .ite (.forN (fun s _ => s.setKln_unchanged _) s) (.refl _ s)
  unfold State.pixEof
  cases eof with
  | false => exact ⟨rfl, rfl, ⟨_, _, _, rfl⟩, fun h => by cases h⟩
  | true =>
    have hwhl : (s.kilnEof seq).whl = s.whl := hkiln .whl (by decide)
    rw [if_pos rfl]
    unfold State.setEof
    simp only [State.modWhl_now, State.modWhl_regs, State.modWhl_whl, hwhl]
    refine ⟨hkiln .now (by decide), hkiln .regs (by decide), ?_, fun _ hnone => ?_⟩
    · split
      · exact ⟨_, _, _, rfl⟩
      · exact ⟨_, _, _, rfl⟩
    · simp only [hnone, and_self]

theorem pix_closesThePixel {eof : Bool} {az el : Src} (h : s.issues (.pix eof az el)) :
    Completes (.pix t) s fun u =>
      Joined (.pix (s.at (s.issueTick t)).pixCloseTick eof (min 8191 (s.src az).toNat) (min 1023 (s.src el).toNat)
        s.whl.issSeq) (some (s.at (s.issueTick t)).pixCloseTick) (s.issueTick t) s u ∧
      u.whl.issSeq = s.whl.issSeq + 1 ∧ u.whl.issShots = 0 ∧ u.whl.afterPix = true ∧
      u.whl.prevClose = (s.at (s.issueTick t)).pixCloseTick ∧ s.whl.prevClose + 40000 ≤ u.whl.prevClose ∧
      (s.whl.issShots ≠ 0 → s.whl.lastEnd ≤ u.whl.prevClose) ∧
      (eof = true → s.whl.eofAt = none → u.whl.eofAt = some u.whl.prevClose ∧ u.whl.sampled = false) := by
  have hb := s.issuing_at t
  have hy := (hb.bounded (s.src az).toNat 0 8191).bounded (s.src el).toNat 0 1023
  obtain ⟨hclose, hshots⟩ := (s.at (s.issueTick t)).pixCloseTick_le
  rw [hb.whl] at hclose hshots
  refine .of_next (exec_pix t hroom h) ?_
  unfold State.pixOp
  dsimp only
  rw [hb.src, hb.src, State.bounded_zero, State.bounded_zero, hb.whl]
  generalize (s.at (s.issueTick t)).pixCloseTick = c at hclose hshots ⊢
  generalize (((s.at (s.issueTick t)).bounded (s.src az).toNat 0 8191).1.bounded (s.src el).toNat 0 1023).1 = y at hy ⊢
  rw [← State.pixEof]
  obtain ⟨hnow, hregs, ⟨e, f, g, hwhl⟩, heof⟩ := State.pixEof_keeps ((y.enqueueAct
    (.pix c eof (min 8191 (s.src az).toNat) (min 1023 (s.src el).toNat) s.whl.issSeq) (some c)).modWhl (fun w => { w with
      issSeq := w.issSeq + 1, issShots := 0, afterPix := true, prevClose := c, anyPix := true, lastEof := eof }))
    eof s.whl.issSeq c
  generalize State.pixEof _ _ _ _ = z at hnow hregs hwhl heof ⊢
  simp only [State.enqueueAct, State.modWhl_now, State.modWhl_regs, State.modWhl_whl, hy.whl, hy.now, hy.regs]
    at hnow hregs hwhl heof
  have hnext : z.nextPc = s.nextPc := by
    unfold State.nextPc
    rw [hwhl]
  rw [State.retire_eq 1 (by rwa [hnext])]
  simp only [Joined, Retired, State.modWhl_whl, hwhl, hnow, hnext, true_and]
  refine ⟨⟨fun off _ => congrArg (fun m => fget (regReset off) m off) hregs, trivial⟩, hclose, hshots, fun ht hnone => ?_⟩
  simpa only [hwhl] using heof ht hnone

/-! ## SETP (R149, R150) -/

omit hpc in
/-- A SETP whose index lies in range: its value is held in range, and attaches. -/
theorem exec_setp_inRange {v : Src} {all : Bool} {idx : Src} {param n lo hi : Nat} (h : s.issues (.setp v all idx param))
    (hparam : setpParam param = some (n, lo, hi)) (hidx : all = true ∨ (s.src idx).toNat < n) :
    ∃ x, Issuing (s.issueTick t) s x ∧ exec (.setp t) s = .next ((x.attach (.setp param
      (if all then none else some (s.src idx).toNat) (max lo (min hi ((s.src v).toNat % 65536))))).retire 1) := by
  have hb := s.issuing_at t
  have hin : ((!all) && decide (n ≤ (s.src idx).toNat)) = false := by
    rcases hidx with ha | hlt
    · simp [ha]
    · simp [hlt]
  rw [exec_setp t hroom h]
  unfold State.setpOp
  rw [hparam]
  dsimp only
  rw [hb.src, hb.src, hin]
  refine ⟨_, ?_, rfl⟩
  split
  · exact hb
  · split
    · exact hb.quiet (State.lenClamp_quiet _ _ _ _)
    · exact hb.quiet (State.paramClamp_quiet _ _ _ _)

theorem setp_joins {v : Src} {all : Bool} {idx : Src} {param n lo hi : Nat} (h : s.issues (.setp v all idx param))
    (hahead : s.slotAhead) (hparam : setpParam param = some (n, lo, hi)) (hidx : all = true ∨ (s.src idx).toNat < n) :
    Completes (.setp t) s (Joined (.setp param (if all then none else some (s.src idx).toNat)
      (max lo (min hi ((s.src v).toNat % 65536)))) s.attachSlot (s.issueTick t) s) := by
  obtain ⟨x, hx, hexec⟩ := exec_setp_inRange t hroom h hparam hidx
  refine .of_next hexec ?_
  rw [hx.attach_ahead hahead]
  exact hx.joined hpc _ _

theorem setp_landsLate {v : Src} {all : Bool} {idx : Src} {param n lo hi : Nat} (h : s.issues (.setp v all idx param))
    (hlate : ¬ s.slotAhead) (hparam : setpParam param = some (n, lo, hi)) (hidx : all = true ∨ (s.src idx).toNat < n) :
    Completes (.setp t) s fun u => u.whl.queue = s.whl.queue ∧ u.whl.regs = s.whl.regs ∧ Retired 1 (s.issueTick t) s u ∧
      (param = 0x401 → u.whl.periodNext = max lo (min hi ((s.src v).toNat % 65536))) := by
  obtain ⟨a, hslot, hs⟩ := State.not_slotAhead hlate
  obtain ⟨x, hx, hexec⟩ := exec_setp_inRange t hroom h hparam hidx
  refine .of_next hexec ?_
  rw [hx.attach_setp_late hslot hs]
  generalize (if all = true then none else some (s.src idx).toNat) = i
  generalize max lo (min hi ((s.src v).toNat % 65536)) = w
  have hland := x.landSetp_landed param i w s.whl.pc
  have hperiod : param = 0x401 → (x.landSetp param i w s.whl.pc).whl.periodNext = w := by
    rintro rfl
    exact x.landSetp_period i w s.whl.pc
  generalize x.landSetp param i w s.whl.pc = y at hland hperiod ⊢
  have hwhl := hland.whl
  rw [hx.whl] at hwhl
  have hnow : y.now = s.issueTick t := (hland.parts.now (by decide)).trans hx.now
  have hnext : y.nextPc = s.nextPc := by
    unfold State.nextPc
    rw [hwhl]
  rw [State.retire_eq 1 (by rwa [hnext]), hnext, hnow]
  refine ⟨?_, ?_, ⟨rfl, ?_, rfl⟩, hperiod⟩ <;>
    · rw [State.modWhl_whl, hwhl]

omit hpc in
theorem setp_faults {v : Src} {all : Bool} {idx : Src} {param : Nat} (h : s.issues (.setp v all idx param))
    (hbad : setpParam param = none ∨
      (all = false ∧ ∃ n lo hi, setpParam param = some (n, lo, hi) ∧ n ≤ (s.src idx).toNat)) :
    Completes (.setp t) s (FaultedWith 1) := by
  have hfault : (s.at (s.issueTick t)).setpOp v all idx param = (s.at (s.issueTick t)).wheelFault 1 := by
    unfold State.setpOp
    rcases hbad with hnone | ⟨hall, n, lo, hi, hsome, hn⟩
    · rw [hnone]
    · rw [hsome]
      dsimp only
      rw [(s.issuing_at t).src, hall]
      exact if_pos (by simpa using hn)
  exact .of_next (exec_setp t hroom h) (by rw [hfault]; exact State.wheelFault_faults _ _)

end

/-- Settles O25: each instruction with room in the queue joins it, applies at once, or faults. -/
theorem timelineActionsJoinTheQueue : Obligations.TimelineActionsJoinTheQueue := by
  refine ⟨?_, ?_, ?_, ?_, ?_, ?_, ?_, ?_, ?_, ?_⟩
  · exact fun t s ta lanes c o ⟨hi, hpc, hroom⟩ hahead => gate_joins t hpc hroom hi hahead
  · exact fun t s ta lanes c o l ⟨hi, hpc, hroom⟩ hlate hl htile hlane =>
      gate_appliesLate t hpc hroom hi hlate hl htile hlane
  · exact fun t s ax v ofs ⟨hi, hpc, hroom⟩ => step_joins t hpc hroom hi
  · exact fun t s wa tag ofs ⟨hi, hpc, hroom⟩ => mark_joins t hpc hroom hi
  · exact fun t s src win ta lanes start ⟨hi, hpc, hroom⟩ hearly => zoom_joins t hpc hroom hi hearly
  · exact fun t s src win ta lanes start ⟨hi, hpc, hroom⟩ hp hz => zoom_waits t hpc hroom hi hp hz
  · exact fun t s v all idx param n lo hi ⟨his, hpc, hroom⟩ hlate hparam hidx =>
      setp_landsLate t hpc hroom his hlate hparam hidx
  · exact fun t s v all idx param n lo hi ⟨his, hpc, hroom⟩ hahead hparam hidx =>
      setp_joins t hpc hroom his hahead hparam hidx
  · exact fun t s v all idx param ⟨hi, _, hroom⟩ hbad => setp_faults t hroom hi hbad
  · exact fun t s eof az el ⟨hi, hpc, hroom⟩ => pix_closesThePixel t hpc hroom hi

end Sys2Proof.Machine
end

section
/-! PROOFS. The decision on a shot (R111 to R113, R141, R142, R166, R167): what it keeps of the shot, which emitters it grants,
and which parts of the state it touches. -/

namespace Sys2Proof.Machine

/-! ## Masks -/

theorem mem_maskList {m : BitVec 32} {k : Nat} : k ∈ maskList m ↔ k < 32 ∧ bitOf m.toNat k = true := by
  simp [maskList]

theorem maskList_sorted (m : BitVec 32) : (maskList m).SortedLT :=
  List.sortedLT_iff_pairwise.mpr (List.pairwise_lt_range.filter _)

/-- A mask summed from the powers of distinct positions has its bits at those. -/
theorem mem_of_bitOf_sum {l : List Nat} (h : l.SortedLT) {k : Nat}
    (hk : bitOf (BitVec.ofNat 32 (l.map (fun i => 2 ^ i)).sum).toNat k = true) : k ∈ l := by
  rw [bitOf, BitVec.toNat_ofNat, Nat.testBit_mod_two_pow, Bool.and_eq_true, ← Nat.mem_bitIndices,
    Nat.bitIndices_sum_map_two_pow h] at hk
  exact hk.2

/-- Fixing the burst of a shot takes disabled emitters out of its mask and adds none (R176). -/
theorem State.fixShot_mask (s : State) (sh : Shot) {k : Nat} (h : bitOf (s.fixShot sh).mask.toNat k = true) :
    bitOf sh.mask.toNat k = true := by
  have hsorted : ((maskList sh.mask).filter (fun k => decide ((s.em k).st ≠ 0))).SortedLT :=
    List.sortedLT_iff_pairwise.mpr ((maskList_sorted sh.mask).pairwise.filter _)
  exact (mem_maskList.mp (List.mem_filter.mp (mem_of_bitOf_sum hsorted h)).1).2

/-! ## Grants (R16, R166, R167) -/

/-- The conditions of a grant that hold for all emitters alike: the permit, a scanning mode, the VCO, the budget lock. -/
def MayGrant (s : State) : Prop :=
  s.sec.permit = true ∧ s.mode.active.scanning = true ∧ s.onVco = true ∧ s.committed Reg.EMT_EBM_LOCK = true

theorem State.grant_mayGrant {s : State} {k t n cost : Nat} (h : s.grant k t n cost = true) : MayGrant s := by
  unfold State.grant at h
  split at h
  · simp only [State.grantOk, State.fireOk, State.emitOk, Bool.and_eq_true] at h
    simp only [MayGrant, h, and_self]
  · cases h

/-- What emission and events touch decides nothing about grants. -/
theorem MayGrant.of_unchanged {but : List Part} {s u : State} (h : Unchanged but s u) (hu : MayGrant u)
    (hb : Part.sec ∉ but ∧ Part.mode ∉ but ∧ Part.clk ∉ but ∧ Part.locks ∉ but) : MayGrant s := by
  obtain ⟨hsec, hmode, hclk, hlocks⟩ := hb
  have hsec : u.sec = s.sec := h .sec hsec
  have hmode : u.mode = s.mode := h .mode hmode
  have hclk : u.clk = s.clk := h .clk hclk
  have hvco : u.onVco = s.onVco := by
    unfold State.onVco
    rw [hclk]
  rwa [MayGrant, hsec, hmode, hvco, h.committed hlocks] at hu

theorem State.decideOne_grants (sh : Shot) (x : State × BitVec 32) (a : Nat) :
    Unchanged [.emt] x.1 (State.decideOne sh x a).1 ∧
      ∀ k, bitOf (State.decideOne sh x a).2.toNat k = true → bitOf x.2.toNat k = true ∨ (k = a ∧ MayGrant x.1) := by
  unfold State.decideOne
  dsimp only
  split
  · next hgrant =>
    have hmay : MayGrant x.1 := State.grant_mayGrant (Bool.and_eq_true _ _ ▸ hgrant).2
    have hcharge (c : Nat) : Unchanged [.emt] x.1 (x.1.grantCharge a c) := by
      unfold State.grantCharge
      split
      · exact x.1.setEmt_unchanged _
      · exact .refl _ _
    refine ⟨(hcharge _).trans (State.setEmt_unchanged _ _), fun k hk => ?_⟩
    rw [bitOf, BitVec.toNat_or, Nat.testBit_or, Bool.or_eq_true, BitVec.toNat_ofNat, Nat.testBit_mod_two_pow,
      Nat.testBit_two_pow] at hk
    refine hk.imp id (fun hbit => ⟨?_, hmay⟩)
    simp only [Bool.and_eq_true, decide_eq_true_eq] at hbit
    exact hbit.2.symm
  · exact ⟨.refl _ _, fun k hk => .inl hk⟩

/-- The decisions on the emitters of a list grant emitters of that list only. -/
theorem decideOnes_grant (sh : Shot) (l : List Nat) (x : State × BitVec 32) :
    Unchanged [.emt] x.1 (l.foldl (State.decideOne sh) x).1 ∧
      ∀ k, bitOf (l.foldl (State.decideOne sh) x).2.toNat k = true → bitOf x.2.toNat k = true ∨ (k ∈ l ∧ MayGrant x.1) := by
  induction l generalizing x with
  | nil => exact ⟨.refl _ _, fun k hk => .inl hk⟩
  | cons a l ih =>
    obtain ⟨hframe, hbits⟩ := State.decideOne_grants sh x a
    obtain ⟨hframes, hrest⟩ := ih (State.decideOne sh x a)
    refine ⟨hframe.trans hframes, fun k hk => ?_⟩
    rcases hrest k hk with hbit | ⟨hmem, hmay⟩
    · exact (hbits k hbit).imp id (fun ⟨hka, hmay⟩ => ⟨by simp [hka], hmay⟩)
    · exact .inr ⟨List.mem_cons_of_mem _ hmem, hmay.of_unchanged hframe (by decide)⟩

/-! ## The decision -/

/-- The parts that a decision touches: emission, the counts of denials, and the events it records. -/
def decisionParts : List Part := [.emt, .wide, .deferred, .recent] ++ eventParts

/-- `x` is `sh` decided: its mask loses emitters only, and only emitters of it are granted, where `s` permits grants. -/
def DecidedAs (s : State) (sh x : Shot) : Prop :=
  x.decided = true ∧ x.slot = sh.slot ∧ x.idx = sh.idx ∧ x.pix = sh.pix ∧ x.code = sh.code ∧ x.prof = sh.prof ∧
    (∀ k, bitOf x.mask.toNat k = true → bitOf sh.mask.toNat k = true) ∧
    ∀ k, bitOf x.granted.toNat k = true → bitOf x.mask.toNat k = true ∧ MayGrant s

theorem not_bitOf_zero (k : Nat) : ¬ bitOf (0 : BitVec 32).toNat k = true := by simp [bitOf]

theorem State.updBoards_decision (s : State) : Unchanged decisionParts s s.updBoards := by
  have hemt : Unchanged decisionParts s { s with emt := { s.emt with boardInhibit := BitVec.ofNat 8 s.boardMask } } :=
    (s.setEmt_unchanged _).mono (by decide)
  exact .ite hemt (hemt.trans ((State.event_unchanged _ _ _ _).mono (by decide)))

theorem State.bump_decision (s : State) (id n : Nat) : Unchanged decisionParts s (s.bump id n) :=
  .ite (.refl _ s) ((s.updWide_unchanged _ _).mono (by decide))

theorem State.countDenials_decision (s : State) (n : Nat) : Unchanged decisionParts s (s.countDenials n) := by
  have hcount (x : State) (id off b : Nat) : Unchanged decisionParts x ((x.bump id n).event off b {}) :=
    (x.bump_decision _ _).trans ((State.event_unchanged _ _ _ _).mono (by decide))
  unfold State.countDenials
  exact .ite (.refl _ s) (.thenIf (hcount _ _ _ _) (hcount _ _ _ _))

theorem State.monitorSwitch_decision (s : State) (sh : Shot) : Unchanged decisionParts s (s.monitorSwitch sh) := by
  have hemt (x : Emission) : Unchanged decisionParts s { s with emt := x } := (s.setEmt_unchanged x).mono (by decide)
  unfold State.monitorSwitch
  split
  · exact hemt _
  · split
    · exact hemt _
    · exact hemt _

theorem State.gapClamp_decision (s : State) (c p : Nat) : Unchanged decisionParts s (s.gapClamp c p) :=
  .forN (fun s _ => .ite ((s.event_unchanged _ _ _).mono (by decide)) (.refl _ s)) s

theorem State.decideShot_spec (s : State) (sh : Shot) (throttle : Bool) :
    Unchanged decisionParts s (s.decideShot sh throttle).1 ∧ DecidedAs s sh (s.decideShot sh throttle).2 := by
  have hboards := s.updBoards_decision
  unfold State.decideShot
  dsimp only
  split
  · exact ⟨hboards.trans (State.bump_decision _ _ _), rfl, rfl, rfl, rfl, rfl, rfl,
      fun k hk => absurd hk (not_bitOf_zero k), fun k hk => absurd hk (not_bitOf_zero k)⟩
  · have hclamp : Unchanged decisionParts s.updBoards ((if spanClamps sh (s.updBoards.fixShot sh) then
        s.updBoards.paramClamp sh.pc (s.updBoards.fixShot sh).stag else s.updBoards).gapClamp sh.code sh.prof) :=
      (Unchanged.ite ((State.event_unchanged _ _ _ _).mono (by decide)) (.refl _ _)).trans (State.gapClamp_decision _ _ _)
    have hmask (k : Nat) := s.updBoards.fixShot_mask sh (k := k)
    have hfix : (s.updBoards.fixShot sh).decided = true ∧ (s.updBoards.fixShot sh).slot = sh.slot ∧
        (s.updBoards.fixShot sh).idx = sh.idx ∧ (s.updBoards.fixShot sh).pix = sh.pix ∧
        (s.updBoards.fixShot sh).code = sh.code ∧ (s.updBoards.fixShot sh).prof = sh.prof := ⟨rfl, rfl, rfl, rfl, rfl, rfl⟩
    have hbase := hboards.trans hclamp
    generalize State.gapClamp _ _ _ = y at hbase ⊢
    generalize s.updBoards.fixShot sh = x at hmask hfix ⊢
    obtain ⟨hframe, hgrants⟩ := decideOnes_grant x (maskList x.mask) (y, 0)
    obtain ⟨hdecided, hslot, hidx, hpix, hcode, hprof⟩ := hfix
    refine ⟨((hbase.trans (hframe.mono (by decide))).trans (State.countDenials_decision _ _)).trans
      (State.monitorSwitch_decision _ _), hdecided, hslot, hidx, hpix, hcode, hprof, hmask, fun k hk => ?_⟩
    obtain ⟨hmem, hmay⟩ := (hgrants k hk).resolve_left (not_bitOf_zero k)
    exact ⟨(mem_maskList.mp hmem).2, hmay.of_unchanged hbase (by decide)⟩

theorem State.modWhl_same {s : State} {f : Wheel → Wheel} (h : f s.whl = s.whl) : s.modWhl f = s := by
  unfold State.modWhl
  rw [h]

theorem State.decide_spec {s : State} {sh : Shot} (h : ∀ b, s.whl.eofAt = some b → sh.slot < b) :
    Unchanged decisionParts s (s.decide_ sh).1 ∧ DecidedAs s sh (s.decide_ sh).2 := by
  have hboundary : s.decideBoundary sh.slot = s := by
    unfold State.decideBoundary
    split
    · next b hb => exact if_neg (Nat.not_le.mpr (h b hb))
    · rfl
  have hheld : s.heldAt sh.slot = s.whl.held := by
    unfold State.heldAt
    split
    · next b hb => exact if_neg (Nat.not_le.mpr (h b hb))
    · rfl
  unfold State.decide_
  dsimp only
  rw [hboundary, hheld]
  by_cases hh : s.whl.held = true
  · rw [if_pos hh]
    exact ⟨.refl _ s, rfl, rfl, rfl, rfl, rfl, rfl, fun k hk => s.fixShot_mask sh hk,
      fun k hk => absurd hk (not_bitOf_zero k)⟩
  · rw [if_neg hh]
    have hopen : s.whl.held = false := by simpa using hh
    rw [State.modWhl_same (s := s) (by rw [← hopen])]
    obtain ⟨hframe, hdecided⟩ := s.decideShot_spec sh (s.throttles sh)
    have hwhl : (s.decideShot sh (s.throttles sh)).1.whl = s.whl := hframe .whl (by decide)
    rw [State.modWhl_same (by rw [hwhl])]
    exact ⟨hframe, hdecided⟩

/-- BUDGET_DECISION decides the first undecided shot, at its decision tick or now (R111). -/
theorem budgetDecision_decides {s : State} (t : Nat) {sh : Shot} (hf : s.whl.shots.find? (fun h => !h.decided) = some sh)
    (hb : ∀ b, s.whl.eofAt = some b → sh.slot < b) :
    Completes (.budgetDecision t) s fun u => max s.now (max t (sh.slot - 32)) = u.now ∧
      (∃ x : Shot, DecidedAs s sh x ∧
        u.whl = { s.whl with shots := s.whl.shots.map (fun h => if h.slot = sh.slot then x else h) }) ∧
      Unchanged ([.whl, .emt] ++ recording) s u := by
  have hexec : exec (.budgetDecision t) s = .next (s.at (max t (sh.slot - 32))).decideNext := by
    change execBudgetDecision t s = _
    unfold execBudgetDecision
    rw [hf]
  have htime := s.at_unchanged (max t (sh.slot - 32))
  have hnow := s.at_now (max t (sh.slot - 32))
  have hwhl := s.at_whl (max t (sh.slot - 32))
  refine .of_next hexec ?_
  generalize s.at (max t (sh.slot - 32)) = y at htime hnow hwhl ⊢
  rw [← hwhl] at hf hb
  obtain ⟨hframe, hdecided, hslot, hidx, hpix, hcode, hprof, hmask, hgrants⟩ := State.decide_spec hb
  have hkept : (y.decide_ sh).1.whl = s.whl := (hframe .whl (by decide)).trans hwhl
  unfold State.decideNext
  rw [hf]
  dsimp only
  refine ⟨?_, ⟨(y.decide_ sh).2, ⟨hdecided, hslot, hidx, hpix, hcode, hprof, hmask, fun k hk => ?_⟩, ?_⟩, ?_⟩
  · rw [State.modWhl_now, hframe.now (by decide), hnow]
  · exact (hgrants k hk).imp id (fun hmay => hmay.of_unchanged htime (by decide))
  · rw [State.modWhl_whl, hkept]
  · exact (htime.mono (by decide)).trans ((hframe.mono (by decide)).trans ((State.modWhl_unchanged _ _).mono (by decide)))

end Sys2Proof.Machine
end

section
/-! PROOFS. Changes that keep the tick from which a pixel without a shot opens (log 35): events, counts, and the change of any
part but the capture block. -/

namespace Sys2Proof.Machine

/-- From `s` to `u` only these parts change, and an empty pixel opens from the same tick. -/
structure Calm (but : List Part) (s u : State) : Prop where
  parts : Unchanged but s u
  opens : u.cap.pixOpenAt = s.cap.pixOpenAt

namespace Calm

theorem refl (but : List Part) (s : State) : Calm but s s := ⟨.refl but s, rfl⟩

theorem trans {but : List Part} {a b c : State} (h : Calm but a b) (k : Calm but b c) : Calm but a c :=
  ⟨h.parts.trans k.parts, k.opens.trans h.opens⟩

theorem mono {but more : List Part} {s u : State} (h : Calm but s u) (k : but ⊆ more) : Calm more s u :=
  ⟨h.parts.mono k, h.opens⟩

theorem of_unchanged {l but : List Part} {s u : State} (h : Unchanged l s u) (hc : Part.cap ∉ l) (k : l ⊆ but) :
    Calm but s u := ⟨h.mono k, congrArg Capture.pixOpenAt (h .cap hc)⟩

theorem ite {but : List Part} {s x y : State} {c : Prop} [Decidable c] (hx : Calm but s x) (hy : Calm but s y) :
    Calm but s (if c then x else y) := by
  split
  · exact hx
  · exact hy

/-- A further step that is taken under a condition only. -/
theorem thenIf {but : List Part} {s x y : State} {c : Prop} [Decidable c] (hx : Calm but s x) (hy : Calm but x y) :
    Calm but s (if c then y else x) := ite (hx.trans hy) hx

theorem foldl {but : List Part} {α : Type} (l : List α) {f : State → α → State} (h : ∀ s a, Calm but s (f s a))
    (s : State) : Calm but s (l.foldl f s) := by
  induction l generalizing s with
  | nil => exact refl but s
  | cons a l ih => exact (h s a).trans (ih _)

theorem forN {but : List Part} {n : Nat} {f : State → Nat → State} (h : ∀ s k, Calm but s (f s k)) (s : State) :
    Calm but s (forN n s f) := foldl _ h s

end Calm

theorem Quiet.pixOpenAt {s u : State} (h : Quiet s u) : u.cap.pixOpenAt = s.cap.pixOpenAt := by
  unfold Quiet at h
  rw [h]

section
variable {but : List Part} (s : State)

theorem State.event_calm (off b : Nat) (i : Info) (k : eventParts ⊆ but) : Calm but s (s.event off b i) :=
  ⟨(s.event_unchanged off b i).mono k, (s.event_quiet off b i).pixOpenAt⟩

theorem State.bump_calm (id n : Nat) (k : [Part.wide, .deferred, .recent] ⊆ but) : Calm but s (s.bump id n) :=
  .ite (.refl but s) (.of_unchanged (s.updWide_unchanged _ _) (by decide) k)

theorem State.putWide_calm (id v : Nat) (k : [Part.wide, .deferred, .recent] ⊆ but) : Calm but s (s.putWide id v) :=
  .of_unchanged (s.updWide_unchanged _ _) (by decide) k

theorem State.setLan_calm (x : Lanes) (k : [Part.lan] ⊆ but) : Calm but s { s with lan := x } :=
  .of_unchanged (s.setLan_unchanged x) (by decide) k

theorem State.setCal_unchanged (x : Calib) : Unchanged [.cal] s { s with cal := x } := by
  intro p hp
  cases p <;> first | rfl | exact absurd (by decide) hp

theorem State.setCal_calm (x : Calib) (k : [Part.cal] ⊆ but) : Calm but s { s with cal := x } :=
  .of_unchanged (s.setCal_unchanged x) (by decide) k

theorem State.modWhl_calm (f : Wheel → Wheel) (k : [Part.whl] ⊆ but) : Calm but s (s.modWhl f) :=
  .of_unchanged (s.modWhl_unchanged f) (by decide) k

theorem State.modKiln_calm (i : Nat) (f : Kiln → Kiln) (k : [Part.kln] ⊆ but) : Calm but s (s.modKiln i f) :=
  .of_unchanged (s.setKln_unchanged _) (by decide) k

theorem State.modGlaze_calm (i : Nat) (f : Glaze → Glaze) (k : [Part.glz] ⊆ but) : Calm but s (s.modGlaze i f) :=
  .of_unchanged (s.setGlz_unchanged _) (by decide) k

theorem State.setPq_calm (x : PointQ) (k : [Part.pq] ⊆ but) : Calm but s { s with pq := x } :=
  .of_unchanged (s.setPq_unchanged x) (by decide) k

end

/-! ## Changes in one sector -/

/-- A calm change of these parts that leaves every Kiln but that of sector `k` as it is, and of that one keeps `g`. -/
structure InKiln {α : Type} (but : List Part) (g : Kiln → α) (k : Nat) (s u : State) : Prop where
  calm : Calm but s u
  others : ∀ i, i ≠ k → u.kiln i = s.kiln i
  keeps : g (u.kiln k) = g (s.kiln k)

namespace InKiln
variable {α : Type} {but : List Part} {g : Kiln → α} {k : Nat}

theorem refl (s : State) : InKiln but g k s s := ⟨.refl but s, fun _ _ => rfl, rfl⟩

theorem trans {a b c : State} (h : InKiln but g k a b) (h' : InKiln but g k b c) : InKiln but g k a c :=
  ⟨h.calm.trans h'.calm, fun i hi => (h'.others i hi).trans (h.others i hi), h'.keeps.trans h.keeps⟩

theorem of_calm {l : List Part} {s u : State} (h : Calm l s u) (hk : Part.kln ∉ l) (hl : l ⊆ but) : InKiln but g k s u :=
  have hkiln (i : Nat) : u.kiln i = s.kiln i := congrArg (fun m => fget ({} : Kiln) m i) (h.parts .kln hk)
  ⟨h.mono hl, fun i _ => hkiln i, congrArg g (hkiln k)⟩

theorem modKiln (s : State) {f : Kiln → Kiln} (hg : g (f (s.kiln k)) = g (s.kiln k)) (hl : [Part.kln] ⊆ but) :
    InKiln but g k s (s.modKiln k f) := by
  refine ⟨s.modKiln_calm k f hl, fun i hi => ?_, ?_⟩
  · rw [State.modKiln_kiln, if_neg hi]
  · rw [State.modKiln_kiln, if_pos rfl, hg]

theorem ite {s x y : State} {c : Prop} [Decidable c] (hx : InKiln but g k s x) (hy : InKiln but g k s y) :
    InKiln but g k s (if c then x else y) := by
  split
  · exact hx
  · exact hy

/-- A further step that is taken under a condition only. -/
theorem thenIf {s x y : State} {c : Prop} [Decidable c] (hx : InKiln but g k s x) (hy : InKiln but g k x y) :
    InKiln but g k s (if c then y else x) := ite (hx.trans hy) hx

theorem mono {more : List Part} {s u : State} (h : InKiln but g k s u) (hl : but ⊆ more) : InKiln more g k s u :=
  ⟨h.calm.mono hl, h.others, h.keeps⟩

/-- Of the Kiln itself nothing need be kept. -/
theorem forget {s u : State} (h : InKiln but g k s u) : InKiln but (fun _ => ()) k s u := ⟨h.calm, h.others, rfl⟩

/-- What is kept of one Kiln is kept of every Kiln. -/
theorem keepsAll {s u : State} (h : InKiln but g k s u) (i : Nat) : g (u.kiln i) = g (s.kiln i) := by
  by_cases hi : i = k
  · rw [hi, h.keeps]
  · rw [h.others i hi]

end InKiln

end Sys2Proof.Machine
end

section
/-! PROOFS. The start of a slot (R104, R140, R154, R217 to R219): the slot before it ends, the settings of its actions apply,
the Kilns open their pixel, and its granted emitters fire. -/

namespace Sys2Proof.Machine

/-! ## The end of a slot and its lanes -/

/-- The parts that the end of a slot reaches, the Wheel's slot in progress apart: lanes, calibration, counts, events. -/
def laneParts : List Part := [.lan, .cal, .wide, .deferred, .recent] ++ eventParts

theorem State.finishRefs_calm (s : State) : Calm laneParts s s.finishRefs := by
  unfold State.finishRefs
  split
  · exact .refl _ s
  · refine Calm.trans (.foldl _ (fun x k => ?_) s) (State.setLan_calm _ _ (by decide))
    exact .thenIf (x.setLan_calm _ (by decide)) ((State.bump_calm _ _ _ (by decide)).trans
      (State.event_calm _ _ _ _ (by decide)))

theorem State.calSlotEnd_calm (s : State) : Calm laneParts s s.calSlotEnd := by
  unfold State.calSlotEnd
  split
  · exact .ite (s.setCal_calm _ (by decide)) (.refl _ s)
  · exact .refl _ s

/-- The end of a slot leaves no slot in progress. -/
theorem State.endSlot_spec (s : State) :
    Calm (.whl :: laneParts) s s.endSlot ∧ s.endSlot.whl = { s.whl with cur := none } := by
  have h := s.finishRefs_calm.trans (State.calSlotEnd_calm _)
  unfold State.endSlot
  refine ⟨(h.mono (by decide)).trans (State.modWhl_calm _ _ (by decide)), ?_⟩
  rw [State.modWhl_whl, h.parts .whl (by decide)]

theorem State.notSteady_calm (s : State) (l : Nat) : Calm laneParts s (s.notSteady l) :=
  .ite (s.setCal_calm _ (by decide)) (.refl _ s)

theorem State.forcedGains_calm (s : State) (first : Bool) : Calm laneParts s (s.forcedGains first) := by
  refine .forN (fun x l => ?_) s
  dsimp only
  split
  · exact .refl _ x
  · have hgain (f : Lane → Lane) (c : Prop) [Decidable c] :
        Calm laneParts x (if c then (x.modLane l f).notSteady l else x.modLane l f) :=
      .thenIf (x.setLan_calm _ (by decide)) (State.notSteady_calm _ _)
    exact .ite (hgain _ _) ((hgain _ _).trans (State.event_calm _ _ _ _ (by decide)))

/-! ## What follows in the slot -/

/-- The parts that the settings of a slot reach. -/
def slotParts : List Part := [.whl, .lan, .cal, .kln, .glz, .shf, .wide, .deferred, .recent] ++ eventParts

/-- From `s` to `u` settings of a slot apply: of the Wheel only the queue, the period to come and the note of landings
change. -/
structure SlotApplies (s u : State) : Prop where
  parts : Unchanged slotParts s u
  whl : u.whl = { s.whl with queue := u.whl.queue, periodNext := u.whl.periodNext, setps := u.whl.setps }

namespace SlotApplies

theorem refl (s : State) : SlotApplies s s := ⟨.refl _ s, rfl⟩

theorem trans {a b c : State} (h : SlotApplies a b) (k : SlotApplies b c) : SlotApplies a c :=
  ⟨h.parts.trans k.parts, by rw [k.whl, h.whl]⟩

theorem of_unchanged {but : List Part} {s u : State} (h : Unchanged but s u) (hw : Part.whl ∉ but) (k : but ⊆ slotParts) :
    SlotApplies s u := ⟨h.mono k, by rw [h .whl hw]⟩

theorem of_landed {s u : State} (h : Landed s u) : SlotApplies s u := ⟨h.parts.mono (by decide), by rw [h.whl]⟩

theorem of_queue (s : State) (f : Wheel → List QEntry) : SlotApplies s (s.modWhl (fun w => { w with queue := f w })) :=
  ⟨(s.modWhl_unchanged _).mono (by decide), rfl⟩

theorem foldl {α : Type} (l : List α) {f : State → α → State} (h : ∀ s a, SlotApplies s (f s a)) (s : State) :
    SlotApplies s (l.foldl f s) := by
  induction l generalizing s with
  | nil => exact refl s
  | cons a l ih => exact (h s a).trans (ih _)

theorem ite {s x y : State} {c : Prop} [Decidable c] (hx : SlotApplies s x) (hy : SlotApplies s y) :
    SlotApplies s (if c then x else y) := by
  split
  · exact hx
  · exact hy

end SlotApplies

theorem State.applyEntry_applies (s : State) (e : QEntry) : SlotApplies s (s.applyEntry e) := by
  unfold State.applyEntry
  split
  · exact .of_unchanged (s.selLanes_unchanged _ _ _) (by decide) (by decide)
  · exact .of_unchanged (s.selLanes_unchanged _ _ _) (by decide) (by decide)
  · exact .of_landed (s.landSetp_landed _ _ _ _)
  all_goals exact .refl s

theorem State.applySlot_applies (s : State) (a : Nat) (first : Bool) : SlotApplies s (s.applySlot a first) :=
  (SlotApplies.of_queue s _).trans (.foldl _ State.applyEntry_applies _)

/-- What is due of the events of a sector: its queue and its capture. -/
def Kiln.due (x : Kiln) : List KEvent × Nat := (x.queue, x.capState)

theorem State.predDeadline_inKiln (s : State) (k slot : Nat) :
    InKiln (.kln :: eventParts) Kiln.due k s (s.predDeadline k slot) := by
  have hkiln (l : BitVec 64) : InKiln (.kln :: eventParts) Kiln.due k s
      (s.modKiln k (fun x => { x with predShut := true, late := l })) := .modKiln s rfl (by decide)
  have hevent (x : State) (off b : Nat) (i : Info) : InKiln (.kln :: eventParts) Kiln.due k x (x.event off b i) :=
    .of_calm (x.event_calm off b i (List.Subset.refl _)) (by decide) (by decide)
  exact .ite (hkiln _) ((hkiln _).trans (hevent _ _ _ _))

/-- A pixel opens in a sector: no event of it is binned, no capture begins. -/
theorem State.kilnOpen_inKiln (s : State) (k slot : Nat) :
    InKiln (.kln :: eventParts) Kiln.due k s (s.kilnOpen k slot) := by
  unfold State.kilnOpen
  exact (((InKiln.ite (.refl s) (s.predDeadline_inKiln k slot)).trans (.modKiln _ rfl (by decide))).trans
    (.modKiln _ rfl (by decide))).trans (.modKiln _ rfl (by decide))

/-- The slot's settings apply, and at a pixel's first slot the Kilns open it. -/
theorem State.slotSettings_apply (s : State) (a : Nat) (first : Bool) : SlotApplies s
    (if first then forN 8 ((s.applySlot a first).forcedGains first) (fun s k => s.kilnOpen k a)
      else (s.applySlot a first).forcedGains first).joinGates := by
  have happly : SlotApplies s ((s.applySlot a first).forcedGains first) :=
    (s.applySlot_applies a first).trans
      (.of_unchanged (State.forcedGains_calm _ _).parts (by decide) (by decide))
  have hopen (x : State) : SlotApplies x (forN 8 x (fun s k => s.kilnOpen k a)) :=
    .of_unchanged (Calm.forN (fun s k => (s.kilnOpen_inKiln k a).calm) x).parts (by decide) (by decide)
  exact (SlotApplies.ite (happly.trans (hopen _)) happly).trans
    (.of_unchanged (State.joinGates_unchanged _) (by decide) (by decide))

/-! ## Firing (R154) -/

/-- Only granted emitters fire, each its own burst. -/
theorem State.fireShot_spec (s : State) (sh : Shot) : Unchanged [.emt] s (s.fireShot sh) ∧
    ∀ p ∈ (s.fireShot sh).emt.pulses, bitOf sh.granted.toNat p.k = true ∧ p ∈ burstOf sh p.k := by
  have hfire : (s.fireShot sh).emt.pulses = ((maskList sh.granted).filter (fun k => s.fireOk k)).flatMap (burstOf sh) := by
    unfold State.fireShot
    dsimp only
    split
    · split
      · rfl
      · split <;> rfl
    · rfl
  refine ⟨?_, fun p hp => ?_⟩
  · unfold State.fireShot
    dsimp only
    split
    · exact .ite (s.setEmt_unchanged _) (.ite (s.setEmt_unchanged _) (s.setEmt_unchanged _))
    · exact s.setEmt_unchanged _
  · rw [hfire, List.mem_flatMap] at hp
    obtain ⟨k, hk, hburst⟩ := hp
    have hpk : p.k = k := by
      obtain ⟨o, -, rfl⟩ := List.mem_map.mp hburst
      rfl
    rw [hpk]
    exact ⟨(mem_maskList.mp (List.mem_filter.mp hk).1).2, hburst⟩

theorem State.blankFired_unchanged (s : State) (sh : Shot) : Unchanged [.lan] s (s.blankFired sh) :=
  .foldl _ _ (fun s _ => .ite (.ite (.refl _ s) (s.setLan_unchanged _)) (.refl _ s)) s

/-! ## The start of a slot (R104) -/

/-- The slot of a decided shot starts: it is the slot in progress, in the open pixel, and its granted emitters fire. -/
theorem State.slotStart_spec {s : State} {sh : Shot} {rest : List Shot} (hshots : s.whl.shots = sh :: rest)
    (hd : sh.decided = true) :
    (s.slotStart sh).now = s.now ∧ (s.slotStart sh).whl.cur = some sh ∧ (s.slotStart sh).whl.shots = rest ∧
      (s.slotStart sh).pix.shots = (if sh.idx = 0 then [] else s.pix.shots) ++ [sh] ∧
      (sh.idx = 0 → (s.slotStart sh).pix.first = some sh.slot) ∧
      (∀ p ∈ (s.slotStart sh).emt.pulses, bitOf sh.granted.toNat p.k = true ∧ p ∈ burstOf sh p.k) ∧
      (s.slotStart sh).whl.regs = s.whl.regs ∧ SameRegs [] s (s.slotStart sh) := by
  unfold State.slotStart
  dsimp only
  rw [hd, if_pos rfl]
  dsimp only
  obtain ⟨hend, hcur⟩ := s.endSlot_spec
  have hend := hend.parts
  generalize s.endSlot = e at hend hcur ⊢
  have hpix : e.pix = s.pix := hend .pix (by decide)
  -- the pixel opens, the slot is entered
  have henter : ∃ y, y = (if decide (sh.idx = 0) then e.openPixel sh else e).enterSlot sh ∧ y.now = s.now ∧ y.regs = s.regs ∧
      y.whl = { s.whl with cur := some sh, shots := rest } ∧
      y.pix.shots = (if sh.idx = 0 then [] else s.pix.shots) ++ [sh] ∧ (sh.idx = 0 → y.pix.first = some sh.slot) := by
    refine ⟨_, rfl, ?_⟩
    by_cases h0 : sh.idx = 0
    · simp only [h0, decide_true, if_true, State.enterSlot, State.openPixel, hcur, hshots, List.drop_succ_cons,
        List.drop_zero, List.nil_append, implies_true, and_true]
      exact ⟨hend .now (by decide), hend .regs (by decide)⟩
    · simp only [h0, decide_false, if_false, State.enterSlot, hcur, hshots, hpix, List.drop_succ_cons,
        List.drop_zero, false_implies, and_true, Bool.false_eq_true]
      exact ⟨hend .now (by decide), hend .regs (by decide)⟩
  obtain ⟨y, hy, hynow, hyregs, hywhl, hyshots, hyfirst⟩ := henter
  rw [← hy]
  have happly := y.slotSettings_apply sh.slot (decide (sh.idx = 0))
  generalize State.joinGates _ = z at happly ⊢
  obtain ⟨hfire, hpulses⟩ := z.fireShot_spec sh
  have hblank := (z.fireShot sh).blankFired_unchanged sh
  have hemt : ((z.fireShot sh).blankFired sh).emt = (z.fireShot sh).emt := hblank .emt (by decide)
  have hafter := hfire.mono (by decide : [Part.emt] ⊆ [Part.emt, .lan]) |>.trans (hblank.mono (by decide))
  generalize (z.fireShot sh).blankFired sh = u at hblank hemt hafter ⊢
  have hwhl : u.whl = z.whl := hafter .whl (by decide)
  have hupix : u.pix = y.pix := (hafter .pix (by decide)).trans (happly.parts .pix (by decide))
  have hzwhl := happly.whl
  rw [hywhl] at hzwhl
  have hcur : u.whl.cur = some sh := by rw [hwhl, hzwhl]
  have hrest : u.whl.shots = rest := by rw [hwhl, hzwhl]
  have hwregs : u.whl.regs = s.whl.regs := by rw [hwhl, hzwhl]
  unfold State.purge
  simp only [State.modWhl_now, State.modWhl_whl, State.modWhl_pix, State.modWhl_emt, hupix, hemt]
  refine ⟨?_, hcur, hrest, hyshots, hyfirst, hpulses, hwregs, fun off _ => ?_⟩
  · rw [hafter.now (by decide), happly.parts.now (by decide), hynow]
  · have hregs : u.regs = s.regs := (hafter .regs (by decide)).trans ((happly.parts .regs (by decide)).trans hyregs)
    exact congrArg (fun m => fget (regReset off) m off) hregs

/-! ## SLOT_START -/

theorem State.closeDue_early {s : State} (h : ∀ c e, s.nextPix = some (c, e) → s.now < c) (n : Nat) : s.closeDue n = s := by
  cases n with
  | zero => rfl
  | succ n =>
    unfold State.closeDue
    split
    · next c e hp => exact if_neg (Nat.not_le.mpr (h c e hp))
    · rfl

theorem State.dueBefore_early {s : State} {a : Nat} (hpix : ∀ c e, s.nextPix = some (c, e) → s.now < c)
    (hb : ∀ b, s.whl.eofAt = some b → a < b) : s.dueBefore a = s := by
  unfold State.dueBefore
  rw [State.closeDue_early hpix]
  dsimp only
  split
  · next b heof => rw [decide_eq_false (Nat.not_le.mpr (hb b heof))]; rfl
  · rfl

/-- With no close and no boundary before it, the next shot's slot starts at its tick (R13, R104). -/
theorem exec_slotStart {s : State} (t : Nat) (uecc : Bool) {sh : Shot} {rest : List Shot} (hshots : s.whl.shots = sh :: rest)
    (hb : ∀ b, s.whl.eofAt = some b → sh.slot < b)
    (hpix : ∀ c e, s.nextPix = some (c, e) → max s.now (max t sh.slot) < c) :
    exec (.slotStart t uecc) s = .next (if uecc then (s.at (max t sh.slot)).wheelUecc
      else (s.at (max t sh.slot)).slotStart sh) := by
  have hdue : (s.at (max t sh.slot)).dueBefore sh.slot = s.at (max t sh.slot) := by
    refine State.dueBefore_early (fun c e hp => ?_) (by simpa using hb)
    rw [State.at_now]
    refine hpix c e ?_
    simpa only [State.nextPix, State.at_whl] using hp
  change execSlotStart t uecc s = _
  unfold execSlotStart
  rw [hshots]
  dsimp only
  rw [hdue, State.at_whl, hshots]

theorem slotStart_entersTheSlot {s : State} (t : Nat) {sh : Shot} {rest : List Shot} (hshots : s.whl.shots = sh :: rest)
    (hd : sh.decided = true) (hb : ∀ b, s.whl.eofAt = some b → sh.slot < b)
    (hpix : ∀ c e, s.nextPix = some (c, e) → max s.now (max t sh.slot) < c) :
    Completes (.slotStart t false) s fun u => u.now = max s.now (max t sh.slot) ∧ u.whl.cur = some sh ∧ u.whl.shots = rest ∧
      u.pix.shots = (if sh.idx = 0 then [] else s.pix.shots) ++ [sh] ∧ (sh.idx = 0 → u.pix.first = some sh.slot) ∧
      (∀ p ∈ u.emt.pulses, bitOf sh.granted.toNat p.k = true ∧ p ∈ burstOf sh p.k) ∧ u.whl.regs = s.whl.regs ∧
      SameRegs [] s u := by
  have hslot := State.slotStart_spec (s := s.at (max t sh.slot)) (by rw [State.at_whl, hshots]) hd
  rw [State.at_now, State.at_pix, State.at_whl] at hslot
  refine .of_next ((exec_slotStart t false hshots hb hpix).trans (by rw [if_neg Bool.false_ne_true])) ?_
  simpa only [SameRegs, State.at_reg] using hslot

end Sys2Proof.Machine
end

section
/-! PROOFS. An uncorrectable word in the timeline queue (R490, R494): the fault latches its reason, which the entry into SAFE
keeps, and the unit is in SAFE. -/

namespace Sys2Proof.Machine

/-! ## The latched reasons of unit-fatal faults stay -/

/-- From `s` to `u` no reason of a unit-fatal fault is latched or cleared. -/
def SameFatal (s u : State) : Prop := u.log.fatal = s.log.fatal

namespace SameFatal

theorem refl (s : State) : SameFatal s s := rfl

theorem trans {a b c : State} (h : SameFatal a b) (k : SameFatal b c) : SameFatal a c := Eq.trans k h

theorem of_unchanged {but : List Part} {s u : State} (h : Unchanged but s u) (hl : Part.log ∉ but) : SameFatal s u :=
  congrArg FaultLog.fatal (h .log hl)

theorem ite {s x y : State} {c : Prop} [Decidable c] (hx : SameFatal s x) (hy : SameFatal s y) :
    SameFatal s (if c then x else y) := by
  split
  · exact hx
  · exact hy

/-- A further step that is taken under a condition only. -/
theorem thenIf {s x y : State} {c : Prop} [Decidable c] (hx : SameFatal s x) (hy : SameFatal x y) :
    SameFatal s (if c then y else x) := ite (hx.trans hy) hx

theorem forN {n : Nat} {f : State → Nat → State} (h : ∀ s k, SameFatal s (f s k)) (s : State) :
    SameFatal s (forN n s f) := by
  unfold Machine.forN
  induction List.range n generalizing s with
  | nil => exact refl s
  | cons k l ih => exact (h s k).trans (ih _)

end SameFatal

theorem State.raise_sameFatal (s : State) (off : Nat) (f : BitVec 16) : SameFatal s (s.raise off f) :=
  .of_unchanged (s.raise_unchanged off f) (by decide)

theorem State.capCond_sameFatal (s : State) (a u f : Nat) (i : Bool) (d : Nat) : SameFatal s (s.capCond a u f i d) :=
  .ite rfl (.refl s)

theorem State.signal_sameFatal (s : State) (v : Nat) : SameFatal s (s.signal v) := by
  unfold State.signal
  dsimp only
  (repeat' split) <;> rfl

theorem State.logPush_sameFatal (s : State) (e : LogEntry) : SameFatal s (s.logPush e) := by
  have hpend (l : List LogEntry) : SameFatal s { s with log := { s.log with pend := l } } := rfl
  exact (SameFatal.thenIf (hpend _) (State.capCond_sameFatal _ _ _ _ _ _)).trans (State.signal_sameFatal _ _)

theorem State.event_sameFatal (s : State) (off b : Nat) (i : Info) : SameFatal s (s.event off b i) :=
  (s.raise_sameFatal _ _).trans (State.logPush_sameFatal _ _)

/-! ## The Coil's report -/

theorem State.coilSend_sameFatal (s : State) (x : CoilPkt) : SameFatal s (s.coilSend x) := .ite rfl (.refl s)

theorem State.coilTo_sameFatal (s : State) (cls typ dst : Nat) (l : List (BitVec 128)) :
    SameFatal s (s.coilTo cls typ dst l) := by
  have hused (x : State) (c : Nat) : SameFatal x (x.coilSeqUsed c) := rfl
  unfold State.coilTo
  split
  · exact (s.coilSend_sameFatal _).trans (hused _ _)
  · exact .refl s

theorem State.coilReport_sameFatal (s : State) (a w f o : Nat) : SameFatal s (s.coilReport a w f o) := by
  have hput (id v : Nat) : SameFatal s (s.putWide id v) := .of_unchanged (s.updWide_unchanged id _) (by decide)
  have hcoil (x : State) (f : Coil → Coil) : SameFatal x (x.modCoil f) := rfl
  exact .thenIf ((hput _ _).trans (hcoil _ _)) (State.event_sameFatal _ _ _ _)

theorem State.coilStatus_sameFatal (s : State) : SameFatal s s.coilStatus := by
  have hcoil (f : Coil → Coil) : SameFatal s (s.modCoil f) := rfl
  exact .ite ((hcoil _).trans (.ite (State.coilReport_sameFatal _ _ _ _ _) (State.coilTo_sameFatal _ _ _ _ _))) (.refl s)

theorem State.coilLiveFrom_sameFatal (u s : State) : SameFatal u (u.coilLiveFrom s) :=
  .ite (.ite (.refl u) u.coilStatus_sameFatal) (.refl u)

/-! ## The entry into SAFE (R93, R94) -/

theorem State.latchCauses_sameFatal (s : State) (c : Nat) : SameFatal s (s.latchCauses c) :=
  (s.raise_sameFatal _ _).trans (.forN (fun x _ => .ite (x.logPush_sameFatal _) (.refl x)) _)

theorem State.permitOff_sameFatal (s : State) : SameFatal s s.permitOff := by
  have hsec (x : Sec) : SameFatal s { s with sec := x } := rfl
  exact .ite ((hsec _).trans (State.event_sameFatal _ _ _ _)) (.refl s)

theorem State.voidOpenPixel_sameFatal (s : State) (c : Nat) : SameFatal s (s.voidOpenPixel c) := by
  have hkiln (x : State) (k : Nat) (f : Kiln → Kiln) : SameFatal x (x.modKiln k f) := rfl
  have hwhl (x : State) (w : Wheel) : SameFatal x { x with whl := w } := rfl
  unfold State.voidOpenPixel
  split
  · exact .refl s
  · refine SameFatal.trans (.forN (fun x k => ?_) s) (hwhl _ _)
    exact ((hkiln x _ _).trans (hkiln _ _ _)).trans (State.event_sameFatal _ _ _ _)

theorem State.cutFrame_sameFatal (s : State) (c : CutInfo) : SameFatal s (s.cutFrame c) := by
  have hframe (x : State) (n : Nat) (f : FrameQ → FrameQ) : SameFatal x (x.modFrame n f) := rfl
  have hcut (x : State) (p : Pixel) (w : Wheel) : SameFatal x { x with pix := p, whl := w } := rfl
  exact (SameFatal.thenIf (s.voidOpenPixel_sameFatal _) (hframe _ _ _)).trans (hcut _ _ _)

theorem State.safeCut_sameFatal (s : State) (c : Nat) : SameFatal s (s.safeCut c) := by
  have hboot (x : State) : SameFatal x x.interruptBoot := .ite rfl (.refl x)
  have hcap (x : State) (y : Capture) : SameFatal x { x with cap := y } := rfl
  have hdrop (x : State) : SameFatal x x.dropOssd := .ite ((hcap x _).trans (State.event_sameFatal _ _ _ _)) (.refl x)
  have hhalt (x : State) (w : Wheel) (e : Emission) : SameFatal x { x with whl := w, emt := e } := rfl
  have hstop (x : State) : SameFatal x x.stopBurst := rfl
  exact ((((hboot s).trans (hstop _)).trans (hdrop _)).trans (State.cutFrame_sameFatal _ _)).trans
    (.thenIf (hhalt _ _ _) (State.event_sameFatal _ _ _ _))

theorem State.safeEnter_sameFatal (s : State) (c : Nat) : SameFatal s (s.safeEnter c) := by
  have hmode (x : State) (y : Modes) : SameFatal x { x with mode := y } := rfl
  have hset (x : State) (m : Mode) : SameFatal x (x.setMode m) :=
    ((hmode x _).trans (State.event_sameFatal _ _ _ _)).trans (State.coilStatus_sameFatal _)
  have hleave (x : State) : SameFatal x x.leaveStandby := rfl
  have htrigger (x : State) : SameFatal x x.safeTrigger := .ite (x.capCond_sameFatal _ _ _ _ _) (.refl x)
  have hcal (x : State) (y : Calib) : SameFatal x { x with cal := y } := rfl
  have habort (x : State) : SameFatal x x.calAbort := .ite ((hcal x _).trans (State.event_sameFatal _ _ _ _)) (.refl x)
  have henter (x : State) : SameFatal x (((x.safeCut c).permitOff.setMode .safe).event Reg.GLB_MODE_STAT 3 {}) :=
    (((x.safeCut_sameFatal c).trans (State.permitOff_sameFatal _)).trans (hset _ _)).trans
      (State.event_sameFatal _ _ _ _)
  unfold State.safeEnter
  refine (SameFatal.ite (.refl s) (s.latchCauses_sameFatal c)).trans
    (.ite (.refl _) (.ite (State.permitOff_sameFatal _) ?_))
  exact (((henter _).trans (hleave _)).trans (htrigger _)).trans (habort _)

/-! ## The fault -/

theorem bitOf_or_pow {x : BitVec 4} {b : Nat} (hb : b < 4) : bitOf (x ||| BitVec.ofNat 4 (2 ^ b)).toNat b = true := by
  rw [bitOf, BitVec.toNat_or, Nat.testBit_or, BitVec.toNat_ofNat, Nat.testBit_mod_two_pow, Nat.testBit_two_pow_self,
    decide_eq_true hb, Bool.and_true, Bool.or_true]

/-- A unit-fatal fault recorded, with the bit of FLT_INFO.fatal that latches it (R494). -/
def State.latchFatal (s : State) (code b : Nat) (i : Info) : State :=
  { s.faultEntry code i with log := { (s.faultEntry code i).log with
    fatal := (s.faultEntry code i).log.fatal ||| BitVec.ofNat 4 (2 ^ b) } }

theorem State.fatal_eq (s : State) (code b cause : Nat) (i : Info) :
    s.fatal code (some b) cause i = ((s.latchFatal code b i).safeEnter (2 ^ cause)).coilLiveFrom s := rfl

/-- A unit-fatal fault with a bit of FLT_INFO.fatal latches it; outside RESET it ends in SAFE (R494). -/
theorem State.fatal_latches {s : State} (h : s.pins.inReset = false) (code cause : Nat) {b : Nat} (hb : b < 4) (i : Info) :
    (s.fatal code (some b) cause i).now = s.now ∧ (s.fatal code (some b) cause i).mode.active = .safe ∧
      bitOf (s.fatal code (some b) cause i).log.fatal.toNat b = true := by
  have hnow := (s.fatal_steady code (some b) cause i).parts.now (by decide)
  have hpins : (s.latchFatal code b i).pins = s.pins := s.faultEntry_pins code i
  have hbit : bitOf (s.latchFatal code b i).log.fatal.toNat b = true := bitOf_or_pow hb
  rw [State.fatal_eq] at hnow ⊢
  generalize s.latchFatal code b i = x at hnow hpins hbit ⊢
  have hkept := (x.safeEnter_sameFatal (2 ^ cause)).trans (State.coilLiveFrom_sameFatal _ s)
  rw [← hpins] at h
  refine ⟨hnow, ?_, ?_⟩
  · rw [State.coilLiveFrom_mode, State.safeEnter_active h]
  · rw [hkept, hbit]

/-- Where the queue words of the slot are uncorrectable the unit is in SAFE, with bit 2 latched (R490, R494). -/
theorem slotStart_uecc_entersSafe {s : State} (t : Nat) {sh : Shot} {rest : List Shot} (hshots : s.whl.shots = sh :: rest)
    (hb : ∀ b, s.whl.eofAt = some b → sh.slot < b)
    (hpix : ∀ c e, s.nextPix = some (c, e) → max s.now (max t sh.slot) < c) (hr : s.pins.inReset = false) :
    Completes (.slotStart t true) s fun u => u.now = max s.now (max t sh.slot) ∧ u.mode.active = .safe ∧
      bitOf u.log.fatal.toNat 2 = true := by
  have hpins : (s.at (max t sh.slot)).pins.inReset = false := by rw [State.at_pins, hr]
  obtain ⟨hnow, hsafe, hbit⟩ := State.fatal_latches hpins 0xE20 4 (b := 2) (by decide)
    { detail := (s.at (max t sh.slot)).whl.pc }
  exact .of_next ((exec_slotStart t true hshots hb hpix).trans (by rw [if_pos rfl]; rfl))
    ⟨hnow.trans (s.at_now _), hsafe, hbit⟩

end Sys2Proof.Machine
end

section
/-! PROOFS. STEP and MARK at their own tick (R107, R147, R148): the set-point that lands, the record that is placed behind the
pixels closed so far. -/

namespace Sys2Proof.Machine

/-! ## Records to the Point Queue (R313) -/

/-- The parts that a record on its way to the consumers reaches. -/
def recordParts : List Part := [.pq, .wide, .deferred, .recent] ++ eventParts

theorem State.modCon_calm (s : State) (c : Nat) (f : Consumer → Consumer) : Calm recordParts s (s.modCon c f) :=
  s.setPq_calm _ (by decide)

theorem State.conPush_calm (s : State) (c n : Nat) (r : BitVec 128) : Calm recordParts s (s.conPush c n r) := by
  have hwaits (x : State) : Calm recordParts x x.hostWaits := .of_unchanged x.hostWaits_unchanged (by decide) (by decide)
  unfold State.conPush
  exact .thenIf (.thenIf (s.modCon_calm _ _) (hwaits _))
    ((State.modCon_calm _ _ _).trans (State.event_calm _ _ _ _ (by decide)))

theorem State.conHold_calm (s : State) (c : Nat) (r : BitVec 128) (whole : Bool) :
    Calm recordParts s (s.conHold c r whole) := (s.modCon_calm _ _).trans (State.bump_calm _ _ _ (by decide))

theorem State.conGap_calm (s : State) (c : Nat) (multi : Bool) : Calm recordParts s (s.conGap c multi) :=
  (s.modCon_calm _ _).trans (State.bump_calm _ _ _ (by decide))

theorem State.conEnq_calm (s : State) (c n : Nat) (r : BitVec 128) : Calm recordParts s (s.conEnq c n r) := by
  have hlost (w : Bool) : Calm recordParts s ((s.conDead c).conHold c r w) :=
    ((s.modCon_calm _ _).trans (State.event_calm _ _ _ _ (by decide))).trans (State.conHold_calm _ _ _ _)
  have hpush (x : Consumer → Consumer) : Calm recordParts s ((s.modCon c x).conPush c n r) :=
    (s.modCon_calm _ _).trans (State.conPush_calm _ _ _ _)
  unfold State.conEnq
  dsimp only
  refine .ite (.refl _ s) ?_
  split
  · exact s.conPush_calm _ _ _
  · refine .ite (.ite (hpush _) (.ite (hpush _) (hlost _))) (.ite (.ite ?_ (hlost _)) (s.conHold_calm _ _ _))
    exact (s.conGap_calm _ _).trans (State.conPush_calm _ _ _ _)
  · refine .ite ?_ (s.conHold_calm _ _ _)
    exact ((s.conGap_calm _ _).trans (State.modCon_calm _ _ _)).trans (State.conPush_calm _ _ _ _)

theorem State.modFrame_calm (s : State) (fid : Nat) (f : FrameQ → FrameQ) : Calm recordParts s (s.modFrame fid f) :=
  s.setPq_calm _ (by decide)

theorem State.enqueue_calm (s : State) (fid : Nat) (r : BitVec 128) : Calm recordParts s (s.enqueue fid r) := by
  unfold State.enqueue
  split
  · exact .refl _ s
  · exact .ite (.forN (fun x c => x.conEnq_calm c _ r) s) (s.modFrame_calm _ _)

/-! ## MARK (R148, R308) -/

theorem State.modGlaze_glaze (s : State) (k i : Nat) (f : Glaze → Glaze) :
    (s.modGlaze k f).glaze i = if i = k then f (s.glaze k) else s.glaze i := by
  unfold State.modGlaze State.glaze fmod
  dsimp only
  rw [fget_fset]

/-- The parts that a MARK reaches. -/
def markParts : List Part := .glz :: recordParts

/-- The copies of a sector whose place has come are written; the others stay. -/
theorem State.marksOut_spec (s : State) (k : Nat) : Calm markParts s (s.marksOut k) ∧
    (s.marksOut k).glz = (s.modGlaze k (fun g => { g with marks := g.marks.filter (fun m => decide (g.passed < m.1)) })).glz := by
  have hout (l : List (Nat × Nat × BitVec 128)) (x : State) :
      Calm recordParts x (l.foldl (fun s m => s.enqueue m.2.1 m.2.2) x) :=
    .foldl l (fun s m => s.enqueue_calm _ _) x
  unfold State.marksOut
  exact ⟨(s.modGlaze_calm k _ (by decide)).trans ((hout _ _).mono (by decide)), (hout _ _).parts .glz (by decide)⟩

/-- The copy of a MARK in one sector: it joins the sector's copies, those whose place has come are written. -/
theorem State.markSector_spec (s : State) (k : Nat) (m : Nat × Nat × BitVec 128) :
    let u := (s.modGlaze k (fun g => { g with marks := g.marks ++ [m] })).marksOut k
    Calm markParts s u ∧ (∀ i, i ≠ k → u.glaze i = s.glaze i) ∧ ((s.glaze k).passed < m.1 → m ∈ (u.glaze k).marks) := by
  have hadd := s.modGlaze_calm (but := markParts) k (fun g => { g with marks := g.marks ++ [m] }) (by decide)
  obtain ⟨hout, hglz⟩ := (s.modGlaze k (fun g => { g with marks := g.marks ++ [m] })).marksOut_spec k
  have hglaze (i : Nat) := congrArg (fun q => fget ({} : Glaze) q i) hglz
  refine ⟨hadd.trans hout, fun i hi => ?_, fun hm => ?_⟩
  · refine (hglaze i).trans ?_
    change State.glaze _ i = _
    rw [State.modGlaze_glaze, if_neg hi, State.modGlaze_glaze, if_neg hi]
  · change m ∈ (fget _ _ k : Glaze).marks
    rw [hglaze k]
    change m ∈ (State.glaze _ k).marks
    rw [State.modGlaze_glaze, if_pos rfl, State.modGlaze_glaze, if_pos rfl]
    simp [hm]

theorem State.utimeAt_eq {s u : State} (h : u.tsu = s.tsu) (t : Nat) : u.utimeAt t = s.utimeAt t := by
  unfold State.utimeAt
  rw [h]

/-- The copy of a MARK for sector `k`, behind `64 * n` lane-pixels. -/
def State.markCopy (s : State) (n tag : Nat) (v : Word) (a k : Nat) : Nat × Nat × BitVec 128 :=
  (64 * n, s.whl.fid, markRec k tag v (s.utimeAt a))

/-- A MARK places its record behind the pixels closed so far in every sector. -/
theorem State.placeMark_spec (s : State) (tag : Nat) (v : Word) (a : Nat) : Calm markParts s (s.placeMark tag v a) ∧
    ∀ k, k < 8 → (s.glaze k).passed < 64 * s.whl.pixTotal →
      s.markCopy s.whl.pixTotal tag v a k ∈ ((s.placeMark tag v a).glaze k).marks := by
  have hsectors (n : Nat) : ∃ u, u = forN n s (fun s' k => (s'.modGlaze k (fun g =>
        { g with marks := g.marks ++ [s'.markCopy s.whl.pixTotal tag v a k] })).marksOut k) ∧ Calm markParts s u ∧
      (∀ k, n ≤ k → u.glaze k = s.glaze k) ∧ ∀ k, k < n → (s.glaze k).passed < 64 * s.whl.pixTotal →
        s.markCopy s.whl.pixTotal tag v a k ∈ (u.glaze k).marks := by
    induction n with
    | zero => exact ⟨s, rfl, .refl _ s, fun _ _ => rfl, fun k hk => absurd hk (Nat.not_lt_zero k)⟩
    | succ n ih =>
      obtain ⟨u, hu, hcalm, hlater, hplaced⟩ := ih
      have hcopy : u.markCopy s.whl.pixTotal tag v a n = s.markCopy s.whl.pixTotal tag v a n := by
        have hwhl : u.whl = s.whl := hcalm.parts .whl (by decide)
        rw [State.markCopy, State.markCopy, hwhl, State.utimeAt_eq (hcalm.parts .tsu (by decide))]
      obtain ⟨hstep, hothers, hmark⟩ := u.markSector_spec n (u.markCopy s.whl.pixTotal tag v a n)
      rw [forN_succ, ← hu]
      refine ⟨_, rfl, hcalm.trans hstep, fun k hk => ?_, fun k hk hp => ?_⟩
      · rw [hothers k (by omega), hlater k (by omega)]
      · by_cases hkn : k = n
        · subst hkn
          rw [hlater k (Nat.le_refl k), hcopy] at hmark
          rw [hcopy]
          exact hmark hp
        · rw [hothers k hkn]
          exact hplaced k (by omega) hp
  obtain ⟨u, hu, hcalm, -, hplaced⟩ := hsectors 8
  have hmark : s.placeMark tag v a = u := hu.symm
  rw [hmark]
  exact ⟨hcalm, hplaced⟩

/-! ## STEP (R147, R195) -/

theorem State.landSp_calm (s : State) (i : Nat) (v : Int) (isStep : Bool) (addr path : Nat) :
    Calm (.str :: eventParts) s (s.landSp i v isStep addr path) := by
  have hax (c : Prop) [Decidable c] (f : Axis → Axis) : Calm (.str :: eventParts) s (if c then s else s.modAx i f) :=
    .ite (.refl _ s) (.of_unchanged (s.setStr_unchanged _) (by decide) (by decide))
  exact .ite (hax _ _) ((hax _ _).trans (State.event_calm _ _ _ _ (by decide)))

theorem State.modAx_ax (s : State) (i : Nat) (f : Axis → Axis) : (s.modAx i f).ax i = f (s.ax i) := by
  unfold State.modAx State.ax
  by_cases hi : i = 0
  · simp only [hi, if_true]
  · simp only [hi, if_false]

/-- The set-point of a STEP lands behind those that have landed, within the bounds of its axis. -/
theorem State.landSp_step (s : State) (i : Nat) (v : Int) (addr path : Nat) :
    ((s.landSp i v true addr path).ax i).spNext = (s.ax i).spNext ++ [(s.spBound i v, s.now, true)] := by
  have hlands : (s.landSp i v true addr path).str =
      (s.modAx i (fun x => { x with spNext := x.spNext ++ [(s.spBound i v, s.now, true)] })).str := by
    unfold State.landSp
    simp only [Bool.not_true, Bool.false_and, Bool.false_eq_true, if_false]
    split
    · rfl
    · exact State.event_str _ _ _ _
  have hax := s.modAx_ax i (fun x => { x with spNext := x.spNext ++ [(s.spBound i v, s.now, true)] })
  unfold State.ax at hax ⊢
  rw [hlands, hax]

/-! ## STEP_ACTION and MARK_ACTION -/

theorem State.spBound_eq {s u : State} (h : u.regs = s.regs) (i : Nat) (v : Int) : u.spBound i v = s.spBound i v := by
  simp only [State.spBound, State.regI, State.reg, h]

/-- The next STEP in timeline order lands its set-point at its own tick (R107, R147). -/
theorem stepAction_lands {s : State} (t : Nat) {a i o : Nat} {e : QEntry} {v : Int}
    (hnext : s.nextTimed (QEntry.timed false) = some (a, e)) (hact : e.act = .step i v o) :
    Completes (.stepAction t) s fun u => u.now = max s.now (max t a) ∧ u.whl = { s.whl with queue := s.whl.queue.erase e } ∧
      (u.ax i).spNext = (s.ax i).spNext ++ [(s.spBound i v, u.now, true)] ∧ Unchanged ([.whl, .str] ++ recording) s u := by
  have hexec : exec (.stepAction t) s = .next (((s.at (max t a)).unqueue e).landSp i v true e.pc 3) := by
    change execStepAction t s = _
    unfold execStepAction State.timedAct
    rw [hnext]
    dsimp only
    rw [hact]
  have htime := s.at_unchanged (max t a)
  have hnow := s.at_now (max t a)
  have hwhl := s.at_whl (max t a)
  refine .of_next hexec ?_
  generalize s.at (max t a) = y at htime hnow hwhl ⊢
  have hqueue : Unchanged [.whl] y (y.unqueue e) := y.modWhl_unchanged _
  have hland := ((y.unqueue e).landSp_calm i v true e.pc 3).parts
  have hsp := (y.unqueue e).landSp_step i v e.pc 3
  have hstr : y.str = s.str := htime .str (by decide)
  have hregs : (y.unqueue e).regs = s.regs := htime .regs (by decide)
  have hkept : ((y.unqueue e).landSp i v true e.pc 3).now = y.now := hland.now (by decide)
  refine ⟨hkept.trans hnow, ?_, ?_, ?_⟩
  · rw [hland .whl (by decide), ← hwhl]
    rfl
  · rw [hsp, hkept, State.spBound_eq hregs]
    change (y.ax i).spNext ++ _ = _
    simp only [State.ax, hstr]
    rfl
  · exact (htime.mono (by decide)).trans ((hqueue.mono (by decide)).trans (hland.mono (by decide)))

/-- The next MARK in timeline order is placed at its own tick (R148, R308). -/
theorem markAction_places {s : State} (t : Nat) {a tag o : Nat} {e : QEntry} {v : Word}
    (hnext : s.nextTimed (QEntry.timed true) = some (a, e)) (hact : e.act = .mark tag v o) :
    Completes (.markAction t) s fun u => u.now = max s.now (max t a) ∧ u.whl = { s.whl with queue := s.whl.queue.erase e } ∧
      (∀ k, k < 8 → (s.glaze k).passed < 64 * s.whl.pixTotal →
        (64 * s.whl.pixTotal, s.whl.fid, markRec k tag v (s.utimeAt a)) ∈ (u.glaze k).marks) ∧
      Unchanged ([.whl, .glz, .pq] ++ recording) s u := by
  have hexec : exec (.markAction t) s = .next (((s.at (max t a)).unqueue e).placeMark tag v a) := by
    change execMarkAction t s = _
    unfold execMarkAction State.timedAct
    rw [hnext]
    dsimp only
    rw [hact]
  have htime := s.at_unchanged (max t a)
  have hnow := s.at_now (max t a)
  have hwhl := s.at_whl (max t a)
  refine .of_next hexec ?_
  generalize s.at (max t a) = y at htime hnow hwhl ⊢
  have hqueue : Unchanged [.whl] y (y.unqueue e) := y.modWhl_unchanged _
  obtain ⟨hplace, hmarks⟩ := (y.unqueue e).placeMark_spec tag v a
  have hglaze (k : Nat) : (y.unqueue e).glaze k = s.glaze k :=
    congrArg (fun g => fget ({} : Glaze) g k) (htime .glz (by decide))
  have htotal : (y.unqueue e).whl.pixTotal = s.whl.pixTotal := (congrArg Wheel.pixTotal hwhl :)
  have hfid : (y.unqueue e).whl.fid = s.whl.fid := (congrArg Wheel.fid hwhl :)
  have hut : (y.unqueue e).utimeAt a = s.utimeAt a := State.utimeAt_eq (htime .tsu (by decide)) a
  refine ⟨(hplace.parts.now (by decide)).trans hnow, ?_, fun k hk hp => ?_, ?_⟩
  · rw [hplace.parts .whl (by decide), ← hwhl]
    rfl
  · have hmem := hmarks k hk
    rw [hglaze, State.markCopy, htotal, hfid, hut] at hmem
    exact hmem hp
  · exact (htime.mono (by decide)).trans ((hqueue.mono (by decide)).trans (hplace.parts.mono (by decide)))

end Sys2Proof.Machine
end

section
/-! PROOFS. The close of a pixel (R109, R224, R241, R257, R259): the STEPs and MARKs before it, the hand-off queues of the
sectors, the lanes and calibration behind it. -/

namespace Sys2Proof.Machine

/-! ## STEPs and MARKs before the close (R107) -/

/-- The parts that STEPs and MARKs reach. -/
def timedParts : List Part := .whl :: .str :: markParts

theorem State.timedAct_spec (s : State) (a : Nat) (e : QEntry) : Calm timedParts s (s.timedAct a e) ∧
    (s.timedAct a e).whl = { s.whl with queue := s.whl.queue.erase e } := by
  have hqueue : Calm timedParts s (s.unqueue e) := s.modWhl_calm _ (by decide)
  unfold State.timedAct
  dsimp only
  split
  · have hland := (s.unqueue e).landSp_calm
    exact ⟨hqueue.trans ((hland _ _ _ _ _).mono (by decide)), (hland _ _ _ _ _).parts .whl (by decide)⟩
  · next tag v _ _ =>
    obtain ⟨hplace, -⟩ := (s.unqueue e).placeMark_spec tag v a
    exact ⟨hqueue.trans (hplace.mono (by decide)), hplace.parts .whl (by decide)⟩
  · exact ⟨hqueue, rfl⟩

theorem State.dueTimed_spec (s : State) (t n : Nat) : Calm timedParts s (s.dueTimed t n) ∧
    (s.dueTimed t n).whl = { s.whl with queue := (s.dueTimed t n).whl.queue } := by
  induction n generalizing s with
  | zero => exact ⟨.refl _ s, rfl⟩
  | succ n ih =>
    unfold State.dueTimed
    split
    · next a e _ =>
      split
      · obtain ⟨hact, hwhl⟩ := s.timedAct_spec a e
        obtain ⟨hrest, hlater⟩ := ih (s.timedAct a e)
        exact ⟨hact.trans hrest, by rw [hlater, hwhl]⟩
      · exact ⟨.refl _ s, rfl⟩
    · exact ⟨.refl _ s, rfl⟩

/-! ## Hand-offs (R253, R259, R262) -/

/-- The parts that the close of a pixel in a sector reaches. -/
def closeParts : List Part := [.kln, .emt] ++ markParts

section
variable {α : Type} {g : Kiln → α} {k : Nat} (s : State)

theorem State.event_inKiln (off b : Nat) (i : Info) : InKiln closeParts g k s (s.event off b i) :=
  .of_calm (s.event_calm off b i (List.Subset.refl _)) (by decide) (by decide)

theorem State.bump_inKiln (id n : Nat) : InKiln closeParts g k s (s.bump id n) :=
  .of_calm (s.bump_calm id n (List.Subset.refl _)) (by decide) (by decide)

theorem State.modGlaze_inKiln (i : Nat) (f : Glaze → Glaze) : InKiln closeParts g k s (s.modGlaze i f) :=
  .of_calm (s.modGlaze_calm i f (List.Subset.refl _)) (by decide) (by decide)

theorem State.handFlags_inKiln (i j : Nat) (p : Pixel) (d : Desc) (restart : Bool) :
    InKiln closeParts g k s (s.handFlags i j p d restart) := by
  have hem (n : Nat) (f : Emitter → Emitter) : InKiln closeParts g k s (s.modEm n f) :=
    .of_calm (.of_unchanged (s.setEmt_unchanged _) (by decide) (List.Subset.refl _)) (by decide) (by decide)
  have hcount (x : State) (id off b : Nat) (i : Info) : InKiln closeParts g k x ((x.bump id).event off b i) :=
    (x.bump_inKiln _ _).trans (State.event_inKiln _ _ _ _)
  have hmiss (x : State) (id off b fid : Nat) (f : FrameQ → FrameQ) (i : Info) :
      InKiln closeParts g k x (((x.bump id).modFrame fid f).event off b i) :=
    ((x.bump_inKiln _ _).trans (.of_calm (State.modFrame_calm _ _ _) (by decide) (by decide))).trans
      (State.event_inKiln _ _ _ _)
  unfold State.handFlags
  exact .thenIf (.thenIf (.thenIf (hem _ _) (hcount _ _ _ _ _)) (hcount _ _ _ _ _)) (hmiss _ _ _ _ _ _ _)

end

/-- A hand-off takes a lane-pixel out of the queue; a capture of the sector goes on as before. -/
theorem State.handOff_inKiln (s : State) (k : Nat) : InKiln closeParts Kiln.capState k s (s.handOff k) := by
  have hkiln (x : State) (f : Kiln → Kiln) (hf : (f (x.kiln k)).capState = (x.kiln k).capState) :
      InKiln closeParts Kiln.capState k x (x.modKiln k f) := .modKiln x hf (by decide)
  unfold State.handOff
  split
  · exact .refl s
  · next h r _ =>
    dsimp only
    have hpush (x : State) (q : GJob) : InKiln closeParts Kiln.capState k x (x.glazePush k q) := x.modGlaze_inKiln _ _
    split
    · exact (hkiln s _ rfl).trans (hpush _ _)
    · refine .ite ((hkiln s _ rfl).trans (hpush _ _)) ?_
      exact (((hkiln s _ rfl).trans (hkiln _ _ rfl)).trans (State.handFlags_inKiln _ _ _ _ _ _)).trans (hpush _ _)

theorem State.handOverdue_inKiln (s : State) (k n : Nat) :
    InKiln closeParts Kiln.capState k s (s.handOverdue k n) := by
  induction n generalizing s with
  | zero => exact .refl s
  | succ n ih =>
    unfold State.handOverdue
    split
    · exact .ite ((s.handOff_inKiln k).trans (ih _)) (.refl s)
    · exact .refl s

/-! ## One sector closes the pixel (R257, R260, R264) -/

theorem State.binWhile_empty {s : State} {k : Nat} (h : (s.kiln k).queue = []) (p : KEvent → Bool) :
    s.binWhile k p = s.modKiln k (fun x => { x with queue := [] }) := by
  unfold State.binWhile
  rw [h]
  rfl

/-- The hand that a sector takes at the close of pixel `p`: lane 0, at the close or later. -/
def Takes (p : Pixel) (x : Kiln) : Prop := ∃ h ∈ x.hands, h.pix = p ∧ h.j = 0 ∧ p.close ≤ h.start

theorem Takes.of_hands {p : Pixel} {x y : Kiln} (h : Takes p x) (hy : y.hands = x.hands) : Takes p y := by
  unfold Takes
  rw [hy]
  exact h

theorem State.pushHand_takes (s : State) (k : Nat) (p : Pixel) (buf : Option Nat) (void : Nat) :
    InKiln closeParts (fun _ => ()) k s (s.pushHand k p buf void) ∧ Takes p ((s.pushHand k p buf void).kiln k) := by
  refine ⟨.modKiln s rfl (by decide), ?_⟩
  unfold State.pushHand
  rw [State.modKiln_kiln, if_pos rfl]
  refine ⟨_, List.mem_append_right _ (List.mem_singleton_self _), rfl, rfl, ?_⟩
  dsimp only
  split
  · exact Nat.le_max_left _ _
  · exact Nat.le_refl _

/-- The SPARE buffer begins its capture or its clear; the hand-off queue stays. -/
theorem State.spareEntry_inKiln (s : State) (k : Nat) : InKiln closeParts Kiln.hands k s (s.spareEntry k) := by
  have hkiln (x : State) (f : Kiln → Kiln) (hf : (f (x.kiln k)).hands = (x.kiln k).hands) :
      InKiln closeParts Kiln.hands k x (x.modKiln k f) := .modKiln x hf (by decide)
  have hput (x : State) (id v : Nat) : InKiln closeParts Kiln.hands k x (x.putWide id v) :=
    .of_calm (x.putWide_calm id v (List.Subset.refl _)) (by decide) (by decide)
  have hwave (x : State) (i n : Nat) :
      InKiln closeParts Kiln.hands k x { x with cap := { x.cap with waveIdx := i, waveWraps := n } } :=
    .of_calm (l := [.cap]) ⟨x.setCap_unchanged _, rfl⟩ (by decide) (by decide)
  unfold State.spareEntry
  refine .ite ?_ ((hkiln s _ rfl).trans (hkiln _ _ rfl))
  exact (((hkiln s _ rfl).trans (hwave _ _ _)).trans (hkiln _ _ rfl)).trans (hput _ _ _)

theorem State.rotate_takes (s : State) (k : Nat) (p : Pixel) :
    InKiln closeParts (fun _ => ()) k s (s.rotate k p) ∧ Takes p ((s.rotate k p).kiln k) := by
  obtain ⟨hpush, htakes⟩ := s.pushHand_takes k p (some (s.kiln k).fill) (s.kiln k).void
  unfold State.rotate
  dsimp only
  generalize s.pushHand k p (some (s.kiln k).fill) (s.kiln k).void = x at hpush htakes ⊢
  refine ⟨(hpush.trans (.modKiln x rfl (by decide))).trans (State.modGlaze_inKiln _ _ _), ?_⟩
  refine htakes.of_hands (InKiln.keeps (but := closeParts) (InKiln.trans ?_ (State.modGlaze_inKiln _ _ _)))
  exact .modKiln x rfl (by decide)

/-- With no capture unfinished, at most a clear ends before the roles rotate. -/
theorem State.spareDue_inKiln {s : State} {k : Nat} (h : (s.kiln k).capState ≠ 1) :
    InKiln closeParts (fun _ => ()) k s (s.spareDue k) := by
  unfold State.spareDue
  rw [if_neg (c := (s.kiln k).capState = 1) h]
  exact .ite (.modKiln s rfl (by decide)) (.refl s)

/-- With no event to bin and no capture unfinished, a sector closes a pixel into its hand-off queue. -/
theorem State.kilnClose_takes {s : State} {k : Nat} (p : Pixel) (hq : (s.kiln k).queue = [])
    (hc : (s.kiln k).capState ≠ 1) :
    InKiln closeParts (fun _ => ()) k s (s.kilnClose k p) ∧ Takes p ((s.kilnClose k p).kiln k) := by
  have hbin : InKiln closeParts Kiln.capState k s ((s.binWhile k (fun _ => true)).handOverdue k 128) := by
    rw [State.binWhile_empty hq]
    exact (InKiln.modKiln s rfl (by decide)).trans (State.handOverdue_inKiln _ _ _)
  unfold State.kilnClose
  dsimp only
  generalize State.handOverdue _ _ _ = x at hbin ⊢
  have hspare : InKiln closeParts (fun _ => ()) k x (x.spareDue k) := State.spareDue_inKiln (by rw [hbin.keeps]; exact hc)
  have hdone := hbin.forget.trans hspare
  generalize x.spareDue k = y at hdone ⊢
  have hfill (b : Bool) (id n : Nat) : InKiln closeParts (fun _ => ()) k y ((y.fillDone k p b).bump id n) :=
    (InKiln.modKiln y rfl (by decide)).trans (State.bump_inKiln _ _ _)
  have hfilled := hdone.trans (hfill (decide ((y.kiln k).cell ≠ p.az) && decide (p.az < y.shf.cells)) (Id.KLN_PIX_COUNT + k) 1)
  generalize State.bump _ _ _ = z at hfilled ⊢
  obtain ⟨hrotate, htakes⟩ := z.rotate_takes k p
  have hturned := hfilled.trans hrotate
  generalize z.rotate k p = w at hturned htakes ⊢
  have hmiss (c : Prop) [Decidable c] (off b : Nat) (i : Info) :
      InKiln closeParts Kiln.hands k w (if c then w.event off b i else w) := .ite (w.event_inKiln _ _ _) (.refl w)
  have hspare (x : State) (c : Prop) [Decidable c] (off b : Nat) (i : Info) :
      InKiln closeParts Kiln.hands k x ((if c then x.event off b i else x).spareEntry k) :=
    (InKiln.ite (x.event_inKiln _ _ _) (.refl x)).trans (State.spareEntry_inKiln _ k)
  exact ⟨hturned.trans ((hmiss _ _ _ _).trans (hspare _ _ _ _ _)).forget,
    htakes.of_hands ((hmiss _ _ _ _).trans (hspare _ _ _ _ _)).keeps⟩

/-- All sectors close the pixel, each into its own hand-off queue. -/
theorem State.kilnsClose_takes {s : State} (p : Pixel) (h : ∀ k, k < 8 → (s.kiln k).queue = [] ∧ (s.kiln k).capState ≠ 1) :
    Calm closeParts s (s.kilnsClose p) ∧ ∀ k, k < 8 → Takes p ((s.kilnsClose p).kiln k) := by
  have hsectors (n : Nat) (hn : n ≤ 8) : ∃ u, u = forN n s (fun s k => s.kilnClose k p) ∧ Calm closeParts s u ∧
      (∀ k, n ≤ k → u.kiln k = s.kiln k) ∧ ∀ k, k < n → Takes p (u.kiln k) := by
    induction n with
    | zero => exact ⟨s, rfl, .refl _ s, fun _ _ => rfl, fun k hk => absurd hk (Nat.not_lt_zero k)⟩
    | succ n ih =>
      obtain ⟨u, hu, hcalm, hlater, htaken⟩ := ih (by omega)
      obtain ⟨hqueue, hcap⟩ := h n (by omega)
      rw [← hlater n (Nat.le_refl n)] at hqueue hcap
      obtain ⟨hclose, htakes⟩ := State.kilnClose_takes p hqueue hcap
      rw [forN_succ, ← hu]
      refine ⟨_, rfl, hcalm.trans hclose.calm, fun k hk => ?_, fun k hk => ?_⟩
      · rw [hclose.others k (by omega), hlater k (by omega)]
      · by_cases hkn : k = n
        · subst hkn
          exact htakes
        · rw [hclose.others k hkn]
          exact htaken k (by omega)
  obtain ⟨u, hu, hcalm, -, htaken⟩ := hsectors 8 (Nat.le_refl 8)
  have hbeyond (c : Prop) [Decidable c] (i : Info) (k : Nat) :
      InKiln closeParts Kiln.hands k u (if c then (u.bump Id.SHF_OOR).event Reg.SHF_STAT 3 i else u) :=
    .ite ((u.bump_inKiln _ _).trans (State.event_inKiln _ _ _ _)) (.refl u)
  unfold State.kilnsClose
  rw [← hu]
  exact ⟨hcalm.trans (hbeyond _ _ 0).calm, fun k hk => (htaken k hk).of_hands (hbeyond _ _ k).keeps⟩

end Sys2Proof.Machine
end

section
/-! PROOFS. The close of a pixel as a whole: what the lanes and calibration do at it (R224 to R228, R239, R241), and the
pixel closed in every sector (R109, R257). -/

namespace Sys2Proof.Machine

/-! ## The lanes (R222 to R228) -/

/-- The parts that the lanes and calibration reach at a boundary. -/
def fieldParts : List Part := [.lan, .cal, .freeNext, .wide, .deferred, .recent] ++ eventParts

theorem State.event_field (s : State) (off b : Nat) (i : Info) : Calm fieldParts s (s.event off b i) :=
  s.event_calm off b i (by decide)

theorem State.bump_field (s : State) (id n : Nat) : Calm fieldParts s (s.bump id n) := s.bump_calm id n (by decide)

theorem State.setLan_field (s : State) (x : Lanes) : Calm fieldParts s { s with lan := x } := s.setLan_calm x (by decide)

theorem State.setCal_field (s : State) (x : Calib) : Calm fieldParts s { s with cal := x } := s.setCal_calm x (by decide)

theorem State.laneBoundary_calm (s : State) (l d : Nat) : Calm fieldParts s (s.laneBoundary l d) := by
  have hlane (f : Lane → Lane) : Calm fieldParts s (s.modLane l f) := s.setLan_field _
  have hsteady (x : State) : Calm fieldParts x (x.notSteady l) := (x.notSteady_calm l).mono (by decide)
  unfold State.laneBoundary
  exact .thenIf (.thenIf (.thenIf (.thenIf (hlane _) (State.event_field _ _ _ _)) (hsteady _)) (State.bump_field _ _ _))
    (State.event_field _ _ _ _)

theorem State.lanesBoundary_calm (s : State) (d : Nat) : Calm fieldParts s (s.lanesBoundary d) := by
  have hsettle (x : State) (k : Nat) : Calm fieldParts x (x.settleSector k) :=
    .ite ((x.setLan_field _).trans (.forN (fun y _ => y.setLan_field _) _)) (.refl _ x)
  have hpower (x : State) (k : Nat) : Calm fieldParts x (x.sectorPower k) :=
    .ite (x.setLan_field _) (.ite (x.setLan_field _) (.refl _ x))
  unfold State.lanesBoundary
  exact (Calm.forN (fun x l => x.laneBoundary_calm l d) s).trans
    (.forN (fun x k => (hsettle x k).trans (hpower _ k)) _)

/-! ## Calibration (R239, R241) -/

theorem State.calEnd_calm (s : State) (l st : Nat) : Calm fieldParts s (s.calEnd l st) := by
  have hrun (f : CalRun → CalRun) : Calm fieldParts s (s.modRun l f) := s.setCal_field _
  unfold State.calEnd
  exact ((hrun _).trans (State.setCal_field _ _)).trans
    (.ite (State.event_field _ _ _ _) (.ite (State.event_field _ _ _ _) (.refl _ _)))

theorem State.calTryEnd_calm (s : State) (expired : Bool) (l : Nat) : Calm fieldParts s (s.calTryEnd expired l) := by
  unfold State.calTryEnd
  exact .ite (.refl _ s) (.ite (s.calEnd_calm _ _) (.ite (s.calEnd_calm _ _) (.ite (s.calEnd_calm _ _) (.refl _ s))))

theorem State.calFail_calm (s : State) (r : Nat) : Calm fieldParts s (s.calFail r) :=
  (s.setCal_field _).trans (State.event_field _ _ _ _)

theorem State.calAccept_calm (s : State) : Calm fieldParts s s.calAccept := by
  have hfree : Calm fieldParts s s.freeUsed := .of_unchanged s.freeUsed_unchanged (by decide) (by decide)
  unfold State.calAccept
  exact (hfree.trans (State.setCal_field _ _)).trans (State.event_field _ _ _ _)

theorem State.calVerdict_calm (s : State) : Calm fieldParts s s.calVerdict := by
  have hput (id v : Nat) : Calm fieldParts s (s.putWide id v) := s.putWide_calm id v (by decide)
  unfold State.calVerdict
  exact .ite ((hput _ _).trans (.ite (State.calFail_calm _ _) (.ite (State.calFail_calm _ _)
    (.ite (State.calFail_calm _ _) (State.calAccept_calm _))))) (.refl _ s)

theorem State.calSwap_calm (s : State) : Calm fieldParts s s.calSwap := by
  unfold State.calSwap
  exact (((s.setCal_field _).trans (State.bump_field _ _ _)).trans (State.putWide_calm _ _ _ (by decide))).trans
    (State.event_field _ _ _ _)

theorem State.calBoundary_calm (s : State) (frame : Bool) : Calm fieldParts s (s.calBoundary frame) := by
  have hends (x : State) : Calm fieldParts x (forN 512 x (fun s l => if s.laneOff l then s.calTryEnd false l else s)) :=
    .forN (fun y l => .ite (y.calTryEnd_calm false l) (.refl _ y)) x
  have hverdict : Calm fieldParts s (if s.cal.st = 1 then
      (forN 512 s (fun s l => if s.laneOff l then s.calTryEnd false l else s)).calVerdict else s) :=
    .ite ((hends s).trans (State.calVerdict_calm _)) (.refl _ s)
  unfold State.calBoundary
  dsimp only
  generalize (if s.cal.st = 1 then State.calVerdict _ else s) = x at hverdict ⊢
  split
  · exact hverdict.trans (.ite x.calSwap_calm (.refl _ x))
  · exact hverdict

/-! ## The pixel closes (R109, R257) -/

/-- The parts that the close of a pixel reaches: neither a register nor the tick. -/
def pixParts : List Part := [.pix, .whl, .str, .kln, .emt, .lan, .cal, .freeNext, .glz] ++ recordParts

theorem State.setPix_unchanged (s : State) (p : Pixel) : Unchanged [.pix] s { s with pix := p } := by
  intro q hq
  cases q <;> first | rfl | exact absurd (by decide) hq

theorem State.kilnsOpen_spec (s : State) (a n : Nat) :
    Calm (.kln :: eventParts) s (forN n s (fun s k => s.kilnOpen k a)) ∧
      ∀ k, ((forN n s (fun s k => s.kilnOpen k a)).kiln k).due = (s.kiln k).due := by
  induction n with
  | zero => exact ⟨.refl _ s, fun _ => rfl⟩
  | succ n ih =>
    obtain ⟨hcalm, hdue⟩ := ih
    rw [forN_succ]
    have hsector := (forN n s (fun s k => s.kilnOpen k a)).kilnOpen_inKiln n a
    exact ⟨hcalm.trans hsector.calm, fun k => (hsector.keepsAll k).trans (hdue k)⟩

/-- A pixel without a shot opens in every sector; what is due of their events stays. -/
theorem State.openEmpty_spec (s : State) (seq : Nat) : Calm pixParts s (s.openEmpty seq) ∧ (s.openEmpty seq).whl = s.whl ∧
    ∀ k, ((s.openEmpty seq).kiln k).due = (s.kiln k).due := by
  have hopens : ∃ p, s.openEmpty seq = forN 8 { s with pix := p }
      (fun s' k => s'.kilnOpen k (max s.whl.frameAt s.cap.pixOpenAt)) := ⟨_, rfl⟩
  obtain ⟨p, hp⟩ := hopens
  have hpix : Calm pixParts s { s with pix := p } := .of_unchanged (s.setPix_unchanged p) (by decide) (by decide)
  obtain ⟨hcalm, hdue⟩ := State.kilnsOpen_spec { s with pix := p } (max s.whl.frameAt s.cap.pixOpenAt) 8
  rw [hp]
  exact ⟨hpix.trans (hcalm.mono (by decide)), hcalm.parts .whl (by decide), hdue⟩

/-- What a closed pixel is in the hand-off queue of a sector. -/
def Handed (close : Nat) (eof : Bool) (az el : Nat) (x : Kiln) : Prop :=
  ∃ h ∈ x.hands, h.pix.az = az ∧ h.pix.el = el ∧ h.pix.eof = eof ∧ h.pix.close = close ∧ h.j = 0 ∧ close ≤ h.start

theorem Takes.handed {s : State} {close az el : Nat} {eof : Bool} {x : Kiln}
    (h : Takes (s.closedPixel close eof az el) x) : Handed close eof az el x := by
  obtain ⟨hand, hmem, hpix, hj, hstart⟩ := h
  exact ⟨hand, hmem, by rw [hpix]; rfl, by rw [hpix]; rfl, by rw [hpix]; rfl, by rw [hpix]; rfl, hj, hstart⟩

/-- What is due before a pixel closes is done, and the slot in progress ends. -/
theorem State.slotDone_spec (s : State) (close n : Nat) : Calm pixParts s (s.dueTimed close n).endSlot ∧
    (∃ q, (s.dueTimed close n).endSlot.whl = { s.whl with queue := q, cur := none }) ∧
    ∀ k, (s.dueTimed close n).endSlot.kiln k = s.kiln k := by
  obtain ⟨htimed, hqueue⟩ := s.dueTimed_spec close n
  generalize s.dueTimed close n = x at htimed hqueue ⊢
  obtain ⟨hend, hcur⟩ := x.endSlot_spec
  generalize x.endSlot = y at hend hcur ⊢
  refine ⟨(htimed.mono (by decide)).trans (hend.mono (by decide)), ⟨_, by rw [hcur, hqueue]⟩, fun k => ?_⟩
  exact congrArg (fun m => fget ({} : Kiln) m k) ((hend.parts .kln (by decide)).trans (htimed.parts .kln (by decide)))

/-- The pixel `close`d: counted, none open, and in the hand-off queue of every sector. -/
structure PixClosed (close : Nat) (eof : Bool) (az el : Nat) (s u : State) : Prop where
  now : u.now = s.now
  total : u.whl.pixTotal = s.whl.pixTotal + 1
  pix : u.pix = {}
  cur : u.whl.cur = none
  shots : u.whl.shots = s.whl.shots
  opens : u.cap.pixOpenAt = max s.cap.pixOpenAt close
  handed : ∀ k, k < 8 → Handed close eof az el (u.kiln k)

/-- The pixel is counted and none is open. -/
def State.pixDone (s : State) (close : Nat) : State :=
  { s with
    pix := {}, lan := { s.lan with refTimes := [] }, cap := { s.cap with pixOpenAt := max s.cap.pixOpenAt close }
    whl := { s.whl with pixTotal := s.whl.pixTotal + 1 } }

theorem State.pixDone_closes {s y : State} {close az el : Nat} {eof : Bool} {q : List QEntry} (h : Calm pixParts s y)
    (hwhl : y.whl = { s.whl with queue := q, cur := none }) (hk : ∀ k, k < 8 → Handed close eof az el (y.kiln k)) :
    PixClosed close eof az el s (y.pixDone close) where
  now := h.parts.now (by decide)
  total := by
    change y.whl.pixTotal + 1 = _
    rw [hwhl]
  pix := rfl
  cur := by
    change y.whl.cur = _
    rw [hwhl]
  shots := by
    change y.whl.shots = _
    rw [hwhl]
  opens := congrArg (max · close) h.opens
  handed := hk

/-- What the lanes and calibration do at a boundary leaves the pixel closed. -/
theorem PixClosed.field {s x u : State} {close az el : Nat} {eof : Bool} (h : PixClosed close eof az el s x)
    (hu : Calm fieldParts x u) : PixClosed close eof az el s u := by
  have hwhl : u.whl = x.whl := hu.parts .whl (by decide)
  have hkiln (k : Nat) : u.kiln k = x.kiln k := congrArg (fun m => fget ({} : Kiln) m k) (hu.parts .kln (by decide))
  exact {
    now := (hu.parts.now (by decide)).trans h.now
    total := by rw [hwhl, h.total]
    pix := (hu.parts .pix (by decide)).trans h.pix
    cur := by rw [hwhl, h.cur]
    shots := by rw [hwhl, h.shots]
    opens := hu.opens.trans h.opens
    handed := fun k hk => by
      rw [hkiln]
      exact h.handed k hk }

/-- Actions that are done for leave the queue. -/
theorem PixClosed.purge {s u : State} {close az el : Nat} {eof : Bool} (h : PixClosed close eof az el s u) :
    PixClosed close eof az el s u.purge := by
  unfold State.purge
  exact ⟨h.now, h.total, h.pix, h.cur, h.shots, h.opens, h.handed⟩

theorem State.pixClose_closes {s : State} {close az el : Nat} {eof : Bool} (seq : Nat)
    (h : ∀ k, k < 8 → (s.kiln k).queue = [] ∧ (s.kiln k).capState ≠ 1) :
    PixClosed close eof az el s (s.pixClose close eof az el seq) := by
  obtain ⟨hdone, ⟨q, hwhl⟩, hkiln⟩ := s.slotDone_spec close 64
  unfold State.pixClose
  dsimp only
  generalize (s.dueTimed close 64).endSlot = a at hdone hwhl hkiln ⊢
  have hopen : Calm pixParts a (if a.pix.first.isSome then a else a.openEmpty seq) ∧
      (if a.pix.first.isSome then a else a.openEmpty seq).whl = a.whl ∧
      ∀ k, ((if a.pix.first.isSome then a else a.openEmpty seq).kiln k).due = (a.kiln k).due := by
    split
    · exact ⟨.refl _ a, rfl, fun _ => rfl⟩
    · exact a.openEmpty_spec seq
  obtain ⟨hopened, hopenwhl, hdue⟩ := hopen
  generalize (if a.pix.first.isSome then a else a.openEmpty seq) = b at hopened hopenwhl hdue ⊢
  have hidle (k : Nat) (hk : k < 8) : (b.kiln k).queue = [] ∧ (b.kiln k).capState ≠ 1 := by
    obtain ⟨hqueue, hcap⟩ := h k hk
    have hsame := hdue k
    rw [hkiln k, Kiln.due, Kiln.due, Prod.mk.injEq] at hsame
    exact ⟨hsame.1.trans hqueue, hsame.2 ▸ hcap⟩
  obtain ⟨hclose, htaken⟩ := State.kilnsClose_takes (b.closedPixel close eof az el) hidle
  generalize b.kilnsClose (b.closedPixel close eof az el) = x at hclose htaken ⊢
  have hlanes := x.lanesBoundary_calm (close - (b.closedPixel close eof az el).first.getD close)
  generalize x.lanesBoundary _ = y at hlanes ⊢
  have hbefore : Calm pixParts s y :=
    ((hdone.trans hopened).trans (hclose.mono (by decide))).trans (hlanes.mono (by decide))
  have hywhl : y.whl = { s.whl with queue := q, cur := none } :=
    (hlanes.parts .whl (by decide)).trans ((hclose.parts .whl (by decide)).trans (hopenwhl.trans hwhl))
  have hykiln (k : Nat) : y.kiln k = x.kiln k := congrArg (fun m => fget ({} : Kiln) m k) (hlanes.parts .kln (by decide))
  exact (State.pixDone_closes hbefore hywhl fun k hk => by
    rw [hykiln]
    exact (htaken k hk).handed).field (State.calBoundary_calm _ eof)

/-- The next PIX closes its pixel at its own tick (R109, R257). -/
theorem pixelClose_closes {s : State} (t : Nat) {c az el seq : Nat} {e : QEntry} {eof : Bool}
    (hnext : s.nextPix = some (c, e)) (hact : e.act = .pix c eof az el seq)
    (h : ∀ k, k < 8 → (s.kiln k).queue = [] ∧ (s.kiln k).capState ≠ 1) :
    Completes (.pixelClose t) s fun u => u.now = max s.now (max t c) ∧ u.whl.pixTotal = s.whl.pixTotal + 1 ∧ u.pix = {} ∧
      u.whl.cur = none ∧ u.whl.shots = s.whl.shots ∧ u.cap.pixOpenAt = max s.cap.pixOpenAt c ∧
      ∀ k, k < 8 → Handed c eof az el (u.kiln k) := by
  have hsame : (s.at (max t c)).nextPix = some (c, e) := by rw [← hnext, State.nextPix, State.nextPix, State.at_whl]
  have hexec : exec (.pixelClose t) s = .next (((s.at (max t c)).unqueue e).pixClose c eof az el seq).purge := by
    change execPixelClose t s = _
    unfold execPixelClose State.closeNext
    rw [hnext]
    dsimp only
    rw [hsame]
    dsimp only
    rw [hact]
  have htime := s.at_quiet (max t c)
  have hnow := s.at_now (max t c)
  have hwhl := s.at_whl (max t c)
  have hkln := s.at_kln (max t c)
  refine .of_next hexec ?_
  generalize s.at (max t c) = y at htime hnow hwhl hkln ⊢
  have hkiln (k : Nat) : (y.unqueue e).kiln k = s.kiln k := congrArg (fun m => fget ({} : Kiln) m k) hkln
  have hclosed := State.pixClose_closes (s := y.unqueue e) (close := c) (az := az) (el := el) (eof := eof) seq
    (fun k hk => by rw [hkiln]; exact h k hk)
  replace hclosed := hclosed.purge
  generalize ((y.unqueue e).pixClose c eof az el seq).purge = x at hclosed ⊢
  refine ⟨hclosed.now.trans hnow, hclosed.total.trans ?_, hclosed.pix, hclosed.cur, hclosed.shots.trans ?_,
    hclosed.opens.trans ?_, hclosed.handed⟩
  · exact congrArg (·.pixTotal + 1) hwhl
  · exact (congrArg Wheel.shots hwhl :)
  · exact congrArg (max · c) htime.pixOpenAt

/-! ## The timeline -/

/-- Settles O35: each event through what the block does at its tick, the close of a pixel through the sectors one by one. -/
theorem timelineEventsComeDue : Obligations.TimelineEventsComeDue := by
  unfold Obligations.TimelineEventsComeDue
  refine ⟨fun t s sh hf hb => ?_, fun t s sh rest hshots hd hb hpix => slotStart_entersTheSlot t hshots hd hb hpix,
    fun t s sh rest hshots _ hb hpix hr => slotStart_uecc_entersSafe t hshots hb hpix hr,
    fun t s a e i v o hnext hact => stepAction_lands t hnext hact,
    fun t s a e tag v o hnext hact => markAction_places t hnext hact,
    fun t s c e eof az el seq hnext hact h => pixelClose_closes t hnext hact h⟩
  obtain ⟨u, hexec, hnow, ⟨x, ⟨hdecided, hslot, hidx, hpix, hcode, hprof, hmask, hgrants⟩, hwhl⟩, hparts⟩ :=
    budgetDecision_decides t hf hb
  exact ⟨u, hexec, hnow, ⟨x, hdecided, hslot, hidx, hpix, hcode, hprof, hmask, hgrants, hwhl⟩, hparts⟩

end Sys2Proof.Machine
end

section
/-! PROOFS. The Wheel's words (R124 to R151): a word as the sum of its fields, the fields of each instruction, and the decoder
and the encoder as each other's inverse. -/

namespace Sys2Proof.Machine

/-! ## Bits of a field -/

theorem bitsOf_lt (w hi lo : Nat) : bitsOf w hi lo < 2 ^ (hi + 1 - lo) := Nat.mod_lt _ (Nat.two_pow_pos _)

theorem testBit_bitsOf (w hi lo j : Nat) : (bitsOf w hi lo).testBit j = (decide (lo + j ≤ hi) && w.testBit (lo + j)) := by
  rw [bitsOf, Nat.testBit_mod_two_pow, Nat.testBit_shiftRight]
  congr 1
  exact decide_eq_decide.mpr (by omega)

/-- A field of one bit. -/
theorem bitsOf_self (w i : Nat) : bitsOf w i i = b2n (bitOf w i) := by
  rw [bitsOf, show i + 1 - i = 1 by omega, Nat.pow_one, Nat.shiftRight_eq_div_pow, ← Nat.toNat_testBit]
  cases h : w.testBit i <;> simp [bitOf, b2n, h]

theorem testBit_bitMask (hi lo i : Nat) : (bitMask hi lo).testBit i = decide (lo ≤ i ∧ i ≤ hi) := by
  rw [bitMask, Nat.testBit_mul_two_pow, Nat.testBit_two_pow_sub_one, ← Bool.decide_and]
  exact decide_eq_decide.mpr (by omega)

/-! ## Fields and the values they hold -/

/-- The value `val` at bits [hi:lo] of a word. -/
structure Slot where
  hi : Nat
  lo : Nat
  val : Nat

/-- Bit `i` belongs to the field. -/
def Slot.has (x : Slot) (i : Nat) : Prop := x.lo ≤ i ∧ i ≤ x.hi

/-- The word that holds these values, and 0 elsewhere. -/
def slotSum (l : List Slot) : Nat := (l.map (fun x => x.val * 2 ^ x.lo)).sum

/-- Fields from the highest down, none reaching the one before it. -/
structure Falling (l : List Slot) : Prop where
  apart : l.Pairwise (fun x y => y.hi < x.lo)
  proper : ∀ x ∈ l, x.lo ≤ x.hi

/-- Every value fits its field. -/
def Fits (l : List Slot) : Prop := ∀ x ∈ l, x.val < 2 ^ (x.hi + 1 - x.lo)

/-- The word holds these values at these fields, and no bit elsewhere. -/
structure Holds (w : Nat) (l : List Slot) : Prop where
  vals : ∀ x ∈ l, bitsOf w x.hi x.lo = x.val
  only : ∀ i, w.testBit i = true → ∃ x ∈ l, x.has i

theorem Falling.tail {x : Slot} {l : List Slot} (h : Falling (x :: l)) : Falling l :=
  ⟨(List.pairwise_cons.mp h.apart).2, fun y hy => h.proper y (.tail _ hy)⟩

theorem slotSum_nil : slotSum [] = 0 := rfl

theorem slotSum_cons (x : Slot) (l : List Slot) : slotSum (x :: l) = x.val * 2 ^ x.lo + slotSum l := by
  rw [slotSum, List.map_cons, List.sum_cons, ← slotSum]

theorem slotSum_lt {l : List Slot} (hl : Falling l) (hf : Fits l) {n : Nat} (hn : ∀ x ∈ l, x.hi < n) :
    slotSum l < 2 ^ n := by
  induction l generalizing n with
  | nil => exact Nat.two_pow_pos n
  | cons x l ih =>
    have hrest : slotSum l < 2 ^ x.lo :=
      ih hl.tail (fun y hy => hf y (.tail _ hy)) (List.pairwise_cons.mp hl.apart).1
    have hx := hf x (.head _)
    have hle := hl.proper x (.head _)
    have hxn := hn x (.head _)
    calc x.val * 2 ^ x.lo + slotSum l
      _ < x.val * 2 ^ x.lo + 2 ^ x.lo := Nat.add_lt_add_left hrest _
      _ = (x.val + 1) * 2 ^ x.lo := (Nat.succ_mul _ _).symm
      _ ≤ 2 ^ (x.hi + 1 - x.lo) * 2 ^ x.lo := Nat.mul_le_mul_right _ hx
      _ = 2 ^ (x.hi + 1) := by rw [← Nat.pow_add, Nat.sub_add_cancel (by omega)]
      _ ≤ 2 ^ n := Nat.pow_le_pow_right Nat.two_pos hxn

/-- A set bit of a value that fits lies in its field. -/
theorem Fits.has {l : List Slot} (hf : Fits l) {x : Slot} (hx : x ∈ l) {j : Nat} (hb : x.val.testBit j = true) :
    x.lo + j ≤ x.hi := by
  by_contra hj
  rw [Nat.testBit_lt_two_pow ((hf x hx).trans_le (Nat.pow_le_pow_right Nat.two_pos (by omega)))] at hb
  cases hb

/-- A bit of the sum is a bit of the value of its field. -/
theorem testBit_slotSum {l : List Slot} (hl : Falling l) (hf : Fits l) (i : Nat) :
    (slotSum l).testBit i = true ↔ ∃ x ∈ l, x.lo ≤ i ∧ x.val.testBit (i - x.lo) = true := by
  induction l with
  | nil => simp [slotSum]
  | cons x l ih =>
    have hbelow := (List.pairwise_cons.mp hl.apart).1
    have hfl : Fits l := fun y hy => hf y (.tail _ hy)
    have hrest : slotSum l < 2 ^ x.lo := slotSum_lt hl.tail hfl hbelow
    rw [slotSum_cons, Nat.mul_comm, Nat.testBit_two_pow_mul_add _ hrest]
    by_cases hi : i < x.lo
    · simp [hi, ih hl.tail hfl]
    · have hnone : ¬ ∃ y ∈ l, y.lo ≤ i ∧ y.val.testBit (i - y.lo) = true := by
        rintro ⟨y, hy, hyi, hb⟩
        have hy_hi := hbelow y hy
        have hle := hfl.has hy hb
        omega
      simp only [List.mem_cons, exists_eq_or_imp, hnone, or_false, hi, if_false, Nat.le_of_not_lt hi, true_and]

theorem Falling.unique {l : List Slot} (hl : Falling l) {x y : Slot} (hx : x ∈ l) (hy : y ∈ l) {i : Nat} (hxi : x.has i)
    (hyi : y.has i) : x = y := by
  by_contra hne
  have : Std.Symm (fun x y : Slot => y.hi < x.lo ∨ x.hi < y.lo) := ⟨fun _ _ h => h.symm⟩
  have hapart := (hl.apart.imp (S := fun x y => y.hi < x.lo ∨ x.hi < y.lo) (fun h => .inl h)).forall hx hy hne
  unfold Slot.has at hxi hyi
  omega

/-- A word holds values exactly when they fit their fields and it is their sum. -/
theorem holds_iff {l : List Slot} (hl : Falling l) (w : Nat) : Holds w l ↔ Fits l ∧ slotSum l = w := by
  constructor
  · rintro ⟨hvals, honly⟩
    have hf : Fits l := fun x hx => by
      rw [← hvals x hx]
      exact bitsOf_lt _ _ _
    refine ⟨hf, Nat.eq_of_testBit_eq fun i => Bool.eq_iff_iff.mpr ?_⟩
    have hbit {x : Slot} (hx : x ∈ l) (hi : x.has i) : x.val.testBit (i - x.lo) = w.testBit i := by
      rw [← hvals x hx, testBit_bitsOf, Nat.add_sub_cancel' hi.1, decide_eq_true hi.2, Bool.true_and]
    rw [testBit_slotSum hl hf]
    constructor
    · rintro ⟨x, hx, hi, hb⟩
      have hle := hf.has hx hb
      rwa [hbit hx ⟨hi, by omega⟩] at hb
    · intro hb
      obtain ⟨x, hx, hi⟩ := honly i hb
      exact ⟨x, hx, hi.1, (hbit hx hi).trans hb⟩
  · rintro ⟨hf, rfl⟩
    refine ⟨fun x hx => Nat.eq_of_testBit_eq fun j => Bool.eq_iff_iff.mpr ?_, fun i hb => ?_⟩
    · rw [testBit_bitsOf, Bool.and_eq_true, decide_eq_true_eq, testBit_slotSum hl hf]
      constructor
      · rintro ⟨hj, y, hy, hyj, hb⟩
        have hle := hf.has hy hb
        obtain rfl := hl.unique hy hx ⟨hyj, by omega⟩ ⟨by omega, hj⟩
        rwa [Nat.add_sub_cancel_left] at hb
      · intro hb
        exact ⟨hf.has hx hb, x, hx, by omega, by rwa [Nat.add_sub_cancel_left]⟩
    · obtain ⟨x, hx, hi, hb⟩ := (testBit_slotSum hl hf i).mp hb
      have hle := hf.has hx hb
      exact ⟨x, hx, hi, by omega⟩

/-! ## Reserved bits (R125) -/

/-- Bit `i` lies in one of these fields. -/
def InFields (i : Nat) : List (Nat × Nat) → Prop
  | [] => False
  | f :: F => (f.2 ≤ i ∧ i ≤ f.1) ∨ InFields i F

theorem testBit_fieldMask (F : List (Nat × Nat)) (m i : Nat) :
    (F.foldl (fun m f => m ||| bitMask f.1 f.2) m).testBit i = true ↔ m.testBit i = true ∨ InFields i F := by
  induction F generalizing m with
  | nil => simp [InFields]
  | cons f F ih => simp [InFields, ih, testBit_bitMask, or_assoc]

/-- Bit `i` lies in one of these fields, whose value is not 0. -/
def LiveAt (i : Nat) : List Slot → Prop
  | [] => False
  | x :: l => (x.val ≠ 0 ∧ x.lo ≤ i ∧ i ≤ x.hi) ∨ LiveAt i l

theorem liveAt_iff {i : Nat} {l : List Slot} : LiveAt i l ↔ ∃ x ∈ l, x.val ≠ 0 ∧ x.has i := by
  induction l with
  | nil => simp [LiveAt]
  | cons x l ih => simp [LiveAt, ih, Slot.has]

theorem inFields_slots {i : Nat} {l : List Slot} : InFields i (l.map (fun x => (x.hi, x.lo))) ↔ ∃ x ∈ l, x.has i := by
  induction l with
  | nil => simp [InFields]
  | cons x l ih => simp [InFields, ih, Slot.has]

/-- No bit below the opcode is set outside these fields. -/
theorem onlyFields_iff (w : Nat) (F : List (Nat × Nat)) :
    onlyFields w F = true ↔ ∀ i, i < 56 → w.testBit i = true → InFields i F := by
  have hmask (i : Nat) : (F.foldl (fun m f => m ||| bitMask f.1 f.2) 0).testBit i = true ↔ InFields i F := by
    rw [testBit_fieldMask, Nat.zero_testBit]
    simp
  rw [onlyFields, decide_eq_true_eq, Nat.eq_iff_testBit_eq]
  refine forall_congr' fun i => ?_
  rw [← hmask]
  simp only [Nat.testBit_and, Nat.testBit_xor, Nat.testBit_mod_two_pow, Nat.testBit_two_pow_sub_one, Nat.zero_testBit]
  by_cases hi : i < 56 <;> simp [hi]

/-! ## The fields of each instruction (R126 to R151) -/

/-- The opcode of an instruction (R126). -/
def Wop.opcode : Wop → Nat
  | .jmp _ => 0x01 | .br _ _ => 0x02 | .loop _ _ => 0x03 | .call _ => 0x04 | .ret => 0x05 | .waitev _ _ _ => 0x06
  | .halt => 0x07 | .sync _ _ _ _ _ => 0x08 | .ldi _ _ => 0x10 | .mov _ _ => 0x11 | .alu op _ _ _ => op.opcode
  | .shot _ _ _ _ => 0x20 | .gate _ _ _ _ => 0x21 | .zoom _ _ _ _ _ => 0x22 | .pix _ _ _ => 0x23 | .step _ _ _ => 0x24
  | .mark _ _ _ => 0x25 | .setp _ _ _ _ => 0x26 | .budget _ _ _ _ => 0x30

/-- The operands in their fields, from the highest down; the bit that selects an immediate is 0. -/
def Wop.slots : Wop → List Slot
  | .jmp (.reg i) | .call (.reg i) => [⟨55, 55, 1⟩, ⟨51, 48, i⟩]
  | .jmp (.imm v) | .call (.imm v) => [⟨55, 55, 0⟩, ⟨13, 0, v⟩]
  | .br cond target => [⟨51, 48, cond⟩, ⟨13, 0, target⟩]
  | .loop (.reg i) e => [⟨55, 55, 1⟩, ⟨51, 48, i⟩, ⟨13, 0, e⟩]
  | .loop (.imm v) e => [⟨55, 55, 0⟩, ⟨47, 32, v⟩, ⟨13, 0, e⟩]
  | .ret | .halt => []
  | .waitev wd timeout mask => [⟨55, 52, wd⟩, ⟨47, 32, timeout⟩, ⟨7, 0, mask⟩]
  | .sync wd src timeout n offset => [⟨55, 52, wd⟩, ⟨51, 48, src⟩, ⟨47, 32, timeout⟩, ⟨31, 28, n⟩, ⟨15, 0, offset⟩]
  | .ldi wd imm => [⟨55, 52, wd⟩, ⟨31, 0, imm⟩]
  | .mov wd wa => [⟨55, 52, wd⟩, ⟨51, 48, wa⟩]
  | .alu _ wd wa (.reg i) => [⟨55, 52, wd⟩, ⟨51, 48, wa⟩, ⟨47, 44, i⟩, ⟨43, 43, 0⟩]
  | .alu _ wd wa (.imm v) => [⟨55, 52, wd⟩, ⟨51, 48, wa⟩, ⟨43, 43, 1⟩, ⟨15, 0, v⟩]
  | .shot (.reg i) prof stag code => [⟨55, 55, 1⟩, ⟨51, 48, i⟩, ⟨46, 44, prof⟩, ⟨43, 40, stag⟩, ⟨39, 36, code⟩]
  | .shot (.imm v) prof stag code => [⟨55, 55, 0⟩, ⟨46, 44, prof⟩, ⟨43, 40, stag⟩, ⟨39, 36, code⟩, ⟨31, 0, v⟩]
  | .gate ta lanes close open_ => [⟨55, 52, ta⟩, ⟨47, 32, lanes⟩, ⟨29, 16, close⟩, ⟨13, 0, open_⟩]
  | .zoom src win ta lanes start => [⟨55, 54, src⟩, ⟨53, 52, win⟩, ⟨51, 48, ta⟩, ⟨47, 32, lanes⟩, ⟨13, 0, start⟩]
  | .pix eof (.reg i) (.reg j) => [⟨55, 55, b2n eof⟩, ⟨54, 54, 1⟩, ⟨53, 53, 1⟩, ⟨51, 48, i⟩, ⟨47, 44, j⟩]
  | .pix eof (.reg i) (.imm v) => [⟨55, 55, b2n eof⟩, ⟨54, 54, 1⟩, ⟨53, 53, 0⟩, ⟨51, 48, i⟩, ⟨41, 32, v⟩]
  | .pix eof (.imm u) (.reg j) => [⟨55, 55, b2n eof⟩, ⟨54, 54, 0⟩, ⟨53, 53, 1⟩, ⟨47, 44, j⟩, ⟨12, 0, u⟩]
  | .pix eof (.imm u) (.imm v) => [⟨55, 55, b2n eof⟩, ⟨54, 54, 0⟩, ⟨53, 53, 0⟩, ⟨41, 32, v⟩, ⟨12, 0, u⟩]
  | .step ax (.reg i) offset => [⟨55, 55, ax⟩, ⟨54, 54, 1⟩, ⟨51, 48, i⟩, ⟨47, 32, offset⟩]
  | .step ax (.imm v) offset => [⟨55, 55, ax⟩, ⟨54, 54, 0⟩, ⟨47, 32, offset⟩, ⟨23, 0, v⟩]
  | .mark wa tag offset => [⟨51, 48, wa⟩, ⟨47, 32, tag⟩, ⟨15, 0, offset⟩]
  | .setp (.reg i) true _ param => [⟨55, 55, 1⟩, ⟨54, 54, 1⟩, ⟨51, 48, i⟩, ⟨43, 32, param⟩]
  | .setp (.imm v) true _ param => [⟨55, 55, 0⟩, ⟨54, 54, 1⟩, ⟨43, 32, param⟩, ⟨15, 0, v⟩]
  | .setp (.reg i) false (.reg j) param =>
    [⟨55, 55, 1⟩, ⟨54, 54, 0⟩, ⟨53, 53, 1⟩, ⟨51, 48, i⟩, ⟨47, 44, j⟩, ⟨43, 32, param⟩]
  | .setp (.imm v) false (.reg j) param =>
    [⟨55, 55, 0⟩, ⟨54, 54, 0⟩, ⟨53, 53, 1⟩, ⟨47, 44, j⟩, ⟨43, 32, param⟩, ⟨15, 0, v⟩]
  | .setp (.reg i) false (.imm k) param =>
    [⟨55, 55, 1⟩, ⟨54, 54, 0⟩, ⟨53, 53, 0⟩, ⟨51, 48, i⟩, ⟨43, 32, param⟩, ⟨25, 16, k⟩]
  | .setp (.imm v) false (.imm k) param =>
    [⟨55, 55, 0⟩, ⟨54, 54, 0⟩, ⟨53, 53, 0⟩, ⟨43, 32, param⟩, ⟨25, 16, k⟩, ⟨15, 0, v⟩]
  | .budget wd (.reg i) prof code => [⟨55, 52, wd⟩, ⟨51, 48, i⟩, ⟨47, 47, 1⟩, ⟨42, 40, prof⟩, ⟨39, 36, code⟩]
  | .budget wd (.imm v) prof code => [⟨55, 52, wd⟩, ⟨47, 47, 0⟩, ⟨42, 40, prof⟩, ⟨39, 36, code⟩, ⟨4, 0, v⟩]

/-- The word of an instruction, field by field. -/
def Wop.layout (op : Wop) : List Slot := ⟨63, 56, op.opcode⟩ :: op.slots

/-- Operands beyond what their fields bound: the conditions of BR, the sources of SYNC, no destination of CMP, no index of a
SETP for all instances. -/
def Wop.legal : Wop → Prop
  | .br cond _ => cond ≤ 8
  | .sync _ src _ n _ => src = 2 ∨ (src = 0 ∧ (n < 8 ∨ n = 15)) ∨ (src = 1 ∧ n = 0)
  | .alu op wd _ _ => op = .cmp → wd = 0
  | .setp _ all index _ => all = true → index = .imm 0
  | _ => True

theorem b2n_le (b : Bool) : b2n b ≤ 1 := by cases b <;> decide

theorem cmp_dest_iff (op : AluOp) (wd : Nat) : (wd < if op = .cmp then 1 else 16) ↔ wd < 16 ∧ (op = .cmp → wd = 0) := by
  by_cases h : op = .cmp
  · simp only [h, if_true, forall_const]
    omega
  · simp [h]

theorem Wop.opcode_lt (op : Wop) : op.opcode < 2 ^ 8 := by
  cases op
  case alu op _ _ _ => cases op <;> simp [Wop.opcode, AluOp.opcode]
  all_goals simp [Wop.opcode]

theorem Wop.slots_lt (op : Wop) : ∀ x ∈ op.slots, x.hi < 56 := by
  fun_cases Wop.slots op <;> simp

theorem Wop.layout_falling (op : Wop) : Falling op.layout := by
  have hslots : Falling op.slots := by
    constructor <;> fun_cases Wop.slots op <;> simp
  refine ⟨List.pairwise_cons.mpr ⟨op.slots_lt, hslots.apart⟩, fun x hx => ?_⟩
  obtain rfl | hx := List.mem_cons.mp hx
  · exact (by decide : 56 ≤ 63)
  · exact hslots.proper x hx

/-- An instruction fits its fields when its values do and it is legal. -/
theorem Wop.wf_iff (op : Wop) : op.wf = true ↔ Fits op.layout ∧ op.legal := by
  have hop : op.opcode < 2 ^ (63 + 1 - 56) := op.opcode_lt
  simp only [Fits, Wop.layout, List.forall_mem_cons, hop, true_and]
  fun_cases Wop.slots op
  all_goals simp [Wop.wf, Wop.legal, Src.wf, b2n_le, cmp_dest_iff]
  all_goals grind

theorem packWop_nil (op : Nat) : packWop op [] = op * 2 ^ 56 := by
  rw [packWop, List.map_nil, List.sum_nil, Nat.add_zero]

theorem packWop_cons (op v lo : Nat) (l : List (Nat × Nat)) : packWop op ((v, lo) :: l) = v * 2 ^ lo + packWop op l := by
  rw [packWop, packWop, List.map_cons, List.sum_cons, Nat.add_left_comm]

theorem encodeWop_eq (op : Wop) : encodeWop op = slotSum op.layout := by
  unfold Wop.layout
  fun_cases Wop.slots op
  all_goals
    simp only [encodeWop, Wop.opcode, Src.fields, packWop_cons, packWop_nil, slotSum_cons, slotSum_nil,
      List.cons_append, List.nil_append]
    omega

/-- The word of an instruction: its opcode and its values in their fields, no other bit. -/
def Wop.IsWord (op : Wop) (w : Nat) : Prop := Holds w op.layout ∧ op.legal

theorem Wop.isWord_iff (op : Wop) (w : Nat) : op.IsWord w ↔ op.wf = true ∧ encodeWop op = w := by
  rw [Wop.IsWord, holds_iff op.layout_falling, op.wf_iff, encodeWop_eq, and_right_comm]

theorem Wop.IsWord.lt {op : Wop} {w : Nat} (h : op.IsWord w) : w < 2 ^ 64 := by
  obtain ⟨hfits, rfl⟩ := (holds_iff op.layout_falling w).mp h.1
  refine slotSum_lt op.layout_falling hfits (List.forall_mem_cons.mpr ⟨(by decide : 63 < 64), fun x hx => ?_⟩)
  exact (op.slots_lt x hx).trans (by decide)

/-! ## The decoder (R125) -/

theorem useOnly_uses {w : Nat} {F : List (Nat × Nat)} {op op' : Wop} (h : useOnly w F op = some op') :
    onlyFields w F = true := by
  unfold useOnly at h
  split at h
  · assumption
  · cases h

/-- A field outside those in use is 0. -/
theorem bitsOf_unused {w hi lo : Nat} {F : List (Nat × Nat)} (h : onlyFields w F = true) (hhi : hi < 56)
    (hout : ∀ i, lo ≤ i → i ≤ hi → ¬InFields i F) : bitsOf w hi lo = 0 := by
  refine Nat.eq_of_testBit_eq fun j => ?_
  rw [testBit_bitsOf, Nat.zero_testBit, Bool.and_eq_false_imp, decide_eq_true_eq]
  intro hj
  by_contra hb
  exact hout _ (Nat.le_add_right _ _) hj ((onlyFields_iff w F).mp h _ (by omega) (by simpa using hb))

/-- A word that uses only fields of the instruction, with its opcode and its values, holds its layout. -/
theorem holds_of_useOnly {w : Nat} (hw : w < 2 ^ 64) {F : List (Nat × Nat)} {op op' : Wop} (h : useOnly w F op = some op')
    (hop : bitsOf w 63 56 = op.opcode) (hspan : ∀ i, InFields i F → InFields i (op.slots.map (fun x => (x.hi, x.lo))))
    (hvals : ∀ x ∈ op.slots, bitsOf w x.hi x.lo = x.val) (hlegal : op.legal) : op'.IsWord w := by
  unfold useOnly at h
  split at h
  case isFalse => cases h
  case isTrue honly =>
    cases h
    refine ⟨⟨List.forall_mem_cons.mpr ⟨hop, hvals⟩, fun i hb => ?_⟩, hlegal⟩
    by_cases hi : i < 56
    · obtain ⟨x, hx, hxi⟩ := inFields_slots.mp (hspan i ((onlyFields_iff w F).mp honly i hi hb))
      exact ⟨x, .tail _ hx, hxi⟩
    · refine ⟨_, .head _, Nat.le_of_not_lt hi, ?_⟩
      by_contra h64
      replace h64 : ¬ i ≤ 63 := h64
      rw [Nat.testBit_lt_two_pow (hw.trans_le (Nat.pow_le_pow_right Nat.two_pos (by omega)))] at hb
      cases hb

/-- A word that holds the layout of an instruction uses only fields that take in those with a value other than 0. -/
theorem Holds.useOnly {w : Nat} {F : List (Nat × Nat)} {op : Wop} (h : Holds w op.layout)
    (hspan : ∀ i, LiveAt i op.slots → InFields i F) : useOnly w F op = some op := by
  unfold Machine.useOnly
  rw [if_pos]
  refine (onlyFields_iff w F).mpr fun i hi hb => ?_
  obtain ⟨x, hx, hxi⟩ := h.only i hb
  obtain rfl | hslot := List.mem_cons.mp hx
  · exact absurd hxi.1 (Nat.not_le_of_lt hi)
  · refine hspan i (liveAt_iff.mpr ⟨x, hslot, fun hzero => ?_, hxi⟩)
    have hbit := testBit_bitsOf w x.hi x.lo (i - x.lo)
    rw [h.vals x hx, hzero, Nat.add_sub_cancel' hxi.1, decide_eq_true hxi.2, hb, Nat.zero_testBit] at hbit
    cases hbit

section
variable {w : Nat} (hw : w < 2 ^ 64) {op : Wop}
include hw

theorem decodeTarget_sound {f : Src → Wop} (hf : f = .jmp ∨ f = .call) (hop : ∀ t, bitsOf w 63 56 = (f t).opcode)
    (h : decodeTarget w f = some op) : op.IsWord w := by
  unfold decodeTarget at h
  obtain rfl | rfl := hf
  all_goals
    split at h
    all_goals
      refine holds_of_useOnly hw h (hop _) ?_ ?_ trivial
      · exact fun i hi => by simp only [Wop.slots, InFields, List.map, or_false] at hi ⊢; omega
      · simp [Wop.slots, bitsOf_self, b2n, fieldWa, *]

theorem decodeBr_sound (hop : bitsOf w 63 56 = 0x02) (h : decodeBr w = some op) : op.IsWord w := by
  obtain ⟨hcond, h⟩ := Option.ite_none_right_eq_some.mp h
  refine holds_of_useOnly hw h hop ?_ ?_ hcond
  · exact fun i hi => by simp only [Wop.slots, InFields, List.map, or_false] at hi ⊢; omega
  · simp [Wop.slots]

theorem decodeLoop_sound (hop : bitsOf w 63 56 = 0x03) (h : decodeLoop w = some op) : op.IsWord w := by
  unfold decodeLoop at h
  split at h
  all_goals
    refine holds_of_useOnly hw h hop ?_ ?_ trivial
    · exact fun i hi => by simp only [Wop.slots, InFields, List.map, or_false] at hi ⊢; omega
    · simp [Wop.slots, bitsOf_self, b2n, fieldWa, *]

theorem decodeSync_sound (hop : bitsOf w 63 56 = 0x08) (h : decodeSync w = some op) : op.IsWord w := by
  obtain ⟨hsrc, h⟩ := Option.ite_none_right_eq_some.mp h
  refine holds_of_useOnly hw h hop ?_ ?_ hsrc
  · exact fun i hi => by simp only [Wop.slots, InFields, List.map, or_false] at hi ⊢; omega
  · simp [Wop.slots, fieldWd]

theorem decodeAlu_sound {o : AluOp} (h : decodeAlu w o = some op) (hop : bitsOf w 63 56 = o.opcode) : op.IsWord w := by
  unfold decodeAlu at h
  by_cases hcmp : o = .cmp
  · subst hcmp
    simp only [if_true, List.nil_append] at h
    split at h
    all_goals
      have hwd : bitsOf w 55 52 = 0 :=
        bitsOf_unused (useOnly_uses h) (by decide) (fun i _ _ => by simp only [InFields, or_false]; omega)
      refine holds_of_useOnly hw h hop ?_ ?_ (fun _ => rfl)
      · exact fun i hi => by simp only [Wop.slots, InFields, List.map, or_false] at hi ⊢; omega
      · simp [Wop.slots, bitsOf_self, b2n, fieldWa, fieldWb, *]
  · simp only [hcmp, if_false, List.cons_append, List.nil_append] at h
    split at h
    all_goals
      refine holds_of_useOnly hw h hop ?_ ?_ (fun h => absurd h hcmp)
      · exact fun i hi => by simp only [Wop.slots, InFields, List.map, or_false] at hi ⊢; omega
      · simp [Wop.slots, bitsOf_self, b2n, fieldWd, fieldWa, fieldWb, *]

theorem decodeShot_sound (hop : bitsOf w 63 56 = 0x20) (h : decodeShot w = some op) : op.IsWord w := by
  unfold decodeShot at h
  split at h
  all_goals
    refine holds_of_useOnly hw h hop ?_ ?_ trivial
    · exact fun i hi => by simp only [Wop.slots, InFields, List.map, or_false] at hi ⊢; omega
    · simp [Wop.slots, bitsOf_self, b2n, fieldWa, *]

theorem decodePix_sound (hop : bitsOf w 63 56 = 0x23) (h : decodePix w = some op) : op.IsWord w := by
  unfold decodePix at h
  cases haz : bitOf w 54
  all_goals
    cases hel : bitOf w 53
    all_goals
      simp only [haz, hel, if_true, if_false, Bool.false_eq_true] at h
      refine holds_of_useOnly hw h hop ?_ ?_ trivial
      · exact fun i hi => by simp only [Wop.slots, InFields, List.map, or_false] at hi ⊢; omega
      · simp [Wop.slots, bitsOf_self, b2n, fieldWa, fieldWb, *]

theorem decodeStep_sound (hop : bitsOf w 63 56 = 0x24) (h : decodeStep w = some op) : op.IsWord w := by
  unfold decodeStep at h
  split at h
  all_goals
    refine holds_of_useOnly hw h hop ?_ ?_ trivial
    · exact fun i hi => by simp only [Wop.slots, InFields, List.map, or_false] at hi ⊢; omega
    · simp [Wop.slots, bitsOf_self, b2n, fieldWa, *]

theorem decodeSetp_sound (hop : bitsOf w 63 56 = 0x26) (h : decodeSetp w = some op) : op.IsWord w := by
  unfold decodeSetp at h
  cases hval : bitOf w 55
  all_goals
    simp only [hval, if_true, if_false, Bool.false_eq_true] at h
    split at h
    case isTrue =>
      refine holds_of_useOnly hw h hop ?_ ?_ (fun _ => rfl)
      · exact fun i hi => by simp only [Wop.slots, InFields, List.map, or_false] at hi ⊢; omega
      · simp [Wop.slots, bitsOf_self, b2n, fieldWa, *]
    case isFalse =>
      split at h
      all_goals
        refine holds_of_useOnly hw h hop ?_ ?_ nofun
        · exact fun i hi => by simp only [Wop.slots, InFields, List.map, or_false] at hi ⊢; omega
        · simp [Wop.slots, bitsOf_self, b2n, fieldWa, fieldWb, *]

theorem decodeBudget_sound (hop : bitsOf w 63 56 = 0x30) (h : decodeBudget w = some op) : op.IsWord w := by
  unfold decodeBudget at h
  split at h
  all_goals
    refine holds_of_useOnly hw h hop ?_ ?_ trivial
    · exact fun i hi => by simp only [Wop.slots, InFields, List.map, or_false] at hi ⊢; omega
    · simp [Wop.slots, bitsOf_self, b2n, fieldWa, fieldWd, *]

/-- A word that decodes is the word of what it decodes to. -/
theorem decodeWop_sound (h : decodeWop w = some op) : op.IsWord w := by
  have hplain {F : List (Nat × Nat)} {o : Wop} (h : useOnly w F o = some op) (hop : bitsOf w 63 56 = o.opcode)
      (hspan : F = o.slots.map (fun x => (x.hi, x.lo))) (hvals : ∀ x ∈ o.slots, bitsOf w x.hi x.lo = x.val)
      (hlegal : o.legal) : op.IsWord w :=
    holds_of_useOnly hw h hop (by grind) hvals hlegal
  unfold decodeWop at h
  split at h
  case h_1 hop => exact decodeTarget_sound hw (.inl rfl) (fun _ => hop) h
  case h_2 hop => exact decodeBr_sound hw hop h
  case h_3 hop => exact decodeLoop_sound hw hop h
  case h_4 hop => exact decodeTarget_sound hw (.inr rfl) (fun _ => hop) h
  case h_8 hop => exact decodeSync_sound hw hop h
  case h_18 hop => exact decodeShot_sound hw hop h
  case h_21 hop => exact decodePix_sound hw hop h
  case h_22 hop => exact decodeStep_sound hw hop h
  case h_24 hop => exact decodeSetp_sound hw hop h
  case h_25 hop => exact decodeBudget_sound hw hop h
  case h_26 => cases h
  case h_11 hop | h_12 hop | h_13 hop | h_14 hop | h_15 hop | h_16 hop | h_17 hop => exact decodeAlu_sound hw h hop
  all_goals
    refine hplain h ‹_› rfl ?_ trivial
    simp [Wop.slots, fieldWd, fieldWa]

end

theorem b2n_eq_one {b : Bool} : b2n b = 1 ↔ b = true := by cases b <;> decide

theorem b2n_eq_zero {b : Bool} : b2n b = 0 ↔ b = false := by cases b <;> decide

theorem b2n_inj {a b : Bool} : b2n a = b2n b ↔ a = b := by cases a <;> cases b <;> decide

theorem decodeWop_alu {w : Nat} {o : AluOp} (h : bitsOf w 63 56 = o.opcode) : decodeWop w = decodeAlu w o := by
  unfold decodeWop
  rw [h]
  cases o <;> rfl

/-- The word of an instruction decodes to it. -/
theorem Wop.IsWord.decodes {op : Wop} {w : Nat} (h : op.IsWord w) : decodeWop w = some op := by
  obtain ⟨h, hlegal⟩ := h
  have hop : bitsOf w 63 56 = op.opcode := h.vals _ (.head _)
  have hvals : ∀ x ∈ op.slots, bitsOf w x.hi x.lo = x.val := fun x hx => h.vals x (.tail _ hx)
  fun_cases Wop.slots op
  all_goals
    simp only [Wop.slots, List.forall_mem_cons, bitsOf_self, b2n_eq_one, b2n_eq_zero, b2n_inj] at hvals
    simp only [Wop.opcode] at hop
    simp only [Wop.legal, forall_const] at hlegal
  case case8 | case9 =>
    simp only [decodeWop, hop]
    exact h.useOnly nofun
  case case14 op _ _ _ | case15 op _ _ _ =>
    rw [decodeWop_alu hop]
    by_cases hcmp : op = .cmp
    · obtain rfl := hlegal hcmp
      subst hcmp
      simp only [decodeAlu, fieldWa, fieldWb, hvals, if_true, if_false, List.nil_append, Bool.false_eq_true]
      exact h.useOnly fun i hi => by simp only [Wop.slots, LiveAt, InFields, or_false] at hi ⊢; omega
    · simp only [decodeAlu, fieldWd, fieldWa, fieldWb, hvals, hcmp, if_true, if_false, List.cons_append, List.nil_append,
        Bool.false_eq_true]
      exact h.useOnly fun i hi => by simp only [Wop.slots, LiveAt, InFields, or_false] at hi ⊢; omega
  case' case27 | case28 => rw [hlegal] at h ⊢
  all_goals
    simp only [decodeWop, hop, decodeTarget, decodeBr, decodeLoop, decodeSync, decodeShot, decodePix, decodeStep,
      decodeSetp, decodeBudget, hvals, hlegal, fieldWd, fieldWa, fieldWb, if_true, if_false, Bool.false_eq_true]
    exact h.useOnly fun i hi => by simp only [Wop.slots, LiveAt, InFields, or_false] at hi ⊢; omega

/-- Settles O15: a word below 2^64 decodes to an instruction exactly when it is that instruction's word. -/
theorem wheelWordsRoundTrip : Obligations.WheelWordsRoundTrip := by
  refine ⟨fun op hwf => ?_, fun w op hw h => (op.isWord_iff w).mp (decodeWop_sound hw h)⟩
  have hword := (op.isWord_iff _).mpr ⟨hwf, rfl⟩
  exact ⟨hword.lt, hword.decodes⟩

/-- Settles O16: each word is evaluated. -/
theorem wheelWordsAsWritten : Obligations.WheelWordsAsWritten := by
  unfold Obligations.WheelWordsAsWritten
  decide

end Sys2Proof.Machine
end

section
/-! PROOFS. Wheel instructions that act on the Wheel alone (R126 to R137, R151): the command of an instruction at its issue, its
completion with or without a taken branch, its faults. -/

namespace Sys2Proof.Machine

/-! ## Results and flags (R128, R136) -/

theorem aluShl_spec (x y : Word) : AluSpec .shl x.toNat y.toNat (aluResult .shl x y).toNat (aluCarry .shl x y) := by
  refine ⟨?_, by simp [aluCarry, bitOf, and_assoc]⟩
  unfold aluResult
  dsimp only
  split
  · rw [BitVec.toNat_shiftLeft, Nat.shiftLeft_eq]
  · have hdvd : 2 ^ 32 ∣ x.toNat * 2 ^ y.toNat := Dvd.dvd.mul_left (pow_dvd_pow 2 (by omega)) _
    exact (Nat.mod_eq_zero_of_dvd hdvd).symm

theorem aluShr_spec (x y : Word) : AluSpec .shr x.toNat y.toNat (aluResult .shr x y).toNat (aluCarry .shr x y) := by
  refine ⟨?_, by simp [aluCarry, bitOf, and_assoc]⟩
  unfold aluResult
  dsimp only
  split
  · rw [BitVec.toNat_ushiftRight, Nat.shiftRight_eq_div_pow]
  · exact (Nat.div_eq_of_lt (x.isLt.trans_le (Nat.pow_le_pow_right Nat.two_pos (by omega)))).symm

/-- Results and carries are those of R128 and R136. -/
theorem alu_spec (op : AluOp) (x y : Word) : AluSpec op x.toNat y.toNat (aluResult op x y).toNat (aluCarry op x y) := by
  have hx := x.isLt
  have hy := y.isLt
  cases op with
  | add => exact ⟨BitVec.toNat_add x y, by simp [aluCarry]⟩
  | sub | cmp =>
    refine ⟨?_, by simp [aluCarry]⟩
    change (x - y).toNat = _
    rw [BitVec.toNat_sub]
    congr 1
    omega
  | and => exact ⟨fun i => by simp [aluResult], rfl⟩
  | or => exact ⟨fun i => by simp [aluResult], rfl⟩
  | shl => exact aluShl_spec x y
  | shr => exact aluShr_spec x y

/-! ## Completion (R127, R133) -/

/-- What an instruction without a taken branch leaves: the next one issues `n` cycles later, the rest of the Wheel is as the
instruction made it. -/
theorem State.retire_completes {s x : State} {t : Nat} (hx : Unchanged [.whl] (s.at (s.issueTick t)) x)
    (hpc : x.whl.pc = s.whl.pc) (hloops : x.whl.loops = s.whl.loops) (h : s.nextPc < 16384) (n : Nat) :
    Retired n (s.issueTick t) s (x.retire n) ∧ Unchanged [.whl] (s.at (s.issueTick t)) (x.retire n) ∧
      (x.retire n).whl = { x.whl with
        pc := (x.retire n).whl.pc, loops := (x.retire n).whl.loops, readyAt := (x.retire n).whl.readyAt } := by
  have hnow : x.now = s.issueTick t := by rw [hx.now (by decide), State.issueTick_now]
  have hnext : x.nextPc = s.nextPc := by simp only [State.nextPc, hpc, hloops]
  rw [State.retire_eq n (by rwa [hnext])]
  refine ⟨⟨hnext, ?_, ?_⟩, hx.trans (x.modWhl_unchanged _), rfl⟩
  · simp only [State.modWhl_whl, hpc, hloops]
  · simp only [State.modWhl_whl, hnow]

/-- Execution goes on at an index of the bank. -/
theorem State.goto_eq {s : State} {pc : Nat} (h : pc < 16384) (cycles : Nat) (loops : List LoopCtr) :
    s.goto pc cycles loops = s.modWhl (fun w => { w with pc, loops, readyAt := s.now + 2 * cycles }) := if_pos h

/-- Beyond the bank the Wheel faults with PC_RANGE (R119). -/
theorem State.goto_beyond {s : State} {pc : Nat} (h : 16384 ≤ pc) (cycles : Nat) (loops : List LoopCtr) :
    s.goto pc cycles loops = s.wheelFault 2 := if_neg (by omega)

/-! ## Arithmetic, LDI and MOV (R135, R136) -/

theorem exec_alu {s : State} {op : AluOp} {wd wa : Nat} {b : Src} (t : Nat) (h : s.issues (.alu op wd wa b)) :
    exec (op.command t) s = .next ((s.at (s.issueTick t)).arith op wd wa b) := by
  have hexec : exec (op.command t) s = .next (s.issue t (fun s o => s.arithIf op o)) := by cases op <;> rfl
  rw [hexec, State.issue_eq t _ h]
  exact congrArg _ (if_pos rfl)

/-- The Wheel after an arithmetic instruction, its completion apart. -/
def Wheel.computed (w : Wheel) (op : AluOp) (wd : Nat) (r : Word) (c : Bool) : Wheel :=
  { w with regs := if op = .cmp then w.regs else fset 0 w.regs wd r, z := decide (r = 0), n := r.msb, c }

theorem State.arith_eq (s : State) (op : AluOp) (wd wa : Nat) (b : Src) : s.arith op wd wa b =
    (s.modWhl fun w => w.computed op wd (aluResult op (s.wreg wa) (s.src b)) (aluCarry op (s.wreg wa) (s.src b))).retire 1 := by
  unfold State.arith Wheel.computed
  dsimp only
  split <;> rfl

/-- Settles O17: the operation writes flags and result, and completes without a branch. -/
theorem arithmeticResultsAndFlags : Obligations.ArithmeticResultsAndFlags := by
  intro t s op wd wa b hi hpc
  refine .of_next (exec_alu t hi) ⟨aluResult op (s.wreg wa) (s.src b), ?_⟩
  rw [State.arith_eq, State.at_wreg, State.at_src]
  have hspec := alu_spec op (s.wreg wa) (s.src b)
  generalize aluResult op (s.wreg wa) (s.src b) = r at hspec ⊢
  generalize aluCarry op (s.wreg wa) (s.src b) = c at hspec ⊢
  obtain ⟨hretired, hothers, hwhl⟩ := State.retire_completes
    (State.modWhl_unchanged (s.at (s.issueTick t)) fun w => w.computed op wd r c)
    (by simp [Wheel.computed]) (by simp [Wheel.computed]) hpc 1
  generalize State.retire _ 1 = u at hretired hothers hwhl ⊢
  rw [State.modWhl_whl, State.at_whl] at hwhl
  have hregs (i : Nat) : u.wreg i = fget 0 (if op = .cmp then s.whl.regs else fset 0 s.whl.regs wd r) i := by
    rw [State.wreg, hwhl]
    rfl
  refine ⟨?_, ?_, ?_, fun hop => ?_, fun i hi => ?_, hretired, ?_, hothers⟩
  · rw [hwhl]
    exact hspec
  · rw [hwhl]
    exact decide_eq_decide.mpr BitVec.toNat_inj.symm
  · rw [hwhl]
    exact BitVec.msb_eq_getLsbD_last r
  · rw [hregs, if_neg hop, fget_fset_same]
  · rw [hregs]
    split
    · rfl
    · exact fget_fset_ne _ _ _ _ (hi.resolve_left ‹_›)
  · rw [hwhl]
    rfl

/-- A register is written, and the instruction completes. -/
theorem State.load_completes {s : State} (t : Nat) (h : s.nextPc < 16384) (wd : Nat) (v : Word) :
    let u := ((s.at (s.issueTick t)).setW wd v).retire 1
    u.wreg wd = v ∧ (∀ i, i ≠ wd → u.wreg i = s.wreg i) ∧ Retired 1 (s.issueTick t) s u ∧
      u.whl = { s.whl with regs := u.whl.regs, pc := u.whl.pc, loops := u.whl.loops, readyAt := u.whl.readyAt } ∧
      Unchanged [.whl] (s.at (s.issueTick t)) u := by
  obtain ⟨hretired, hothers, hwhl⟩ := State.retire_completes (State.setW_unchanged (s.at (s.issueTick t)) wd v)
    (by simp [State.setW]) (by simp [State.setW]) h 1
  intro u
  have hregs (i : Nat) : u.wreg i = if i = wd then v else s.wreg i := by
    rw [← State.at_wreg s (s.issueTick t), ← State.setW_wreg, State.wreg, hwhl]
    rfl
  refine ⟨by rw [hregs, if_pos rfl], fun i hi => by rw [hregs, if_neg hi], hretired, ?_, hothers⟩
  rw [hwhl, State.setW, State.modWhl_whl, State.at_whl]

/-- Settles O18: both write one register and complete without a branch. -/
theorem loadsAndMovesLeaveTheFlags : Obligations.LoadsAndMovesLeaveTheFlags := by
  constructor
  · intro t s wd v hi hpc
    have hexec : exec (.ldi t) s = .next (s.issue t _) := rfl
    rw [State.issue_eq t _ hi] at hexec
    exact .of_next hexec (State.load_completes t hpc wd _)
  · intro t s wd wa hi hpc
    have hexec : exec (.mov t) s = .next (s.issue t _) := rfl
    rw [State.issue_eq t _ hi] at hexec
    dsimp only at hexec
    rw [State.at_wreg] at hexec
    exact .of_next hexec (State.load_completes t hpc wd _)

/-! ## Branches (R130, R131, R133) -/

/-- The conditions under which a branch is taken (R130). -/
def CondHolds (cond : Nat) (w : Wheel) : Prop :=
  cond = 0 ∨ (cond = 1 ∧ w.z = true) ∨ (cond = 2 ∧ w.z = false) ∨ (cond = 3 ∧ w.n = true) ∨ (cond = 4 ∧ w.n = false) ∨
  (cond = 5 ∧ w.c = true) ∨ (cond = 6 ∧ w.c = false) ∨ (cond = 7 ∧ w.c = false ∧ w.z = false) ∨
  (cond = 8 ∧ (w.c = true ∨ w.z = true))

theorem condTaken_iff {cond : Nat} (h : cond ≤ 8) (w : Wheel) : condTaken cond w.z w.n w.c = true ↔ CondHolds cond w := by
  unfold CondHolds
  interval_cases cond <;> simp [condTaken]

theorem CondHolds.le {cond : Nat} {w : Wheel} (h : CondHolds cond w) : cond ≤ 8 := by
  unfold CondHolds at h
  omega

theorem exec_br {s : State} {cond target : Nat} (t : Nat) (h : s.issues (.br cond target)) : exec (.br t) s =
    .next (if condTaken cond s.whl.z s.whl.n s.whl.c then (s.at (s.issueTick t)).branch target 2
      else (s.at (s.issueTick t)).retire 1) := by
  change Host.Outcome.next (s.issue t _) = _
  rw [State.issue_eq t _ h, State.at_whl]

theorem exec_jmp {s : State} {tgt : Src} (t : Nat) (h : s.issues (.jmp tgt)) :
    exec (.jmp t) s = .next ((s.at (s.issueTick t)).branch (s.src tgt).toNat 2) := by
  change Host.Outcome.next (s.issue t _) = _
  rw [State.issue_eq t _ h]
  dsimp only
  rw [State.jump, State.at_src]

/-- A branch within the bank makes its target the next instruction. -/
theorem State.branch_taken (s : State) (t : Nat) {target : Nat} (h : target < 16384) :
    let u := (s.at (s.issueTick t)).branch target 2
    u.whl.pc = target ∧ u.whl.readyAt = s.issueTick t + 4 ∧ u.whl.loops = loopLeave target s.whl.loops ∧
      u.whl = { s.whl with pc := u.whl.pc, loops := u.whl.loops, readyAt := u.whl.readyAt } ∧
      Unchanged [.whl] (s.at (s.issueTick t)) u := by
  unfold State.branch
  rw [State.goto_eq h, State.issueTick_now, State.at_whl]
  refine ⟨rfl, rfl, rfl, ?_, State.modWhl_unchanged _ _⟩
  rw [State.modWhl_whl, State.at_whl]

/-- Settles O19: a branch is taken by its condition; a taken one goes to its target or beyond the bank. -/
theorem branchesFollowTheirConditions : Obligations.BranchesFollowTheirConditions := by
  refine ⟨fun t s cond target hi htarget hcond => ?_, fun t s cond target hi hle hcond hpc => ?_,
    fun t s tgt hi htarget => .of_next (exec_jmp t hi) (s.branch_taken t htarget), fun t s tgt hi htarget => ?_⟩
  · have htaken := (condTaken_iff (CondHolds.le hcond) s.whl).mpr hcond
    exact .of_next ((exec_br t hi).trans (by rw [if_pos htaken])) (s.branch_taken t htarget)
  · have hpassed := (condTaken_iff hle s.whl).not.mpr hcond
    refine .of_next ((exec_br t hi).trans (by rw [if_neg hpassed])) ?_
    obtain ⟨hretired, hothers, hwhl⟩ := State.retire_completes (.refl _ (s.at (s.issueTick t))) (by rw [State.at_whl])
      (by rw [State.at_whl]) hpc 1
    rw [State.at_whl] at hwhl
    exact ⟨hretired, hothers, hwhl⟩
  · refine .of_next (exec_jmp t hi) ?_
    rw [State.branch, State.goto_beyond htarget]
    exact State.wheelFault_faults _ _

/-! ## What a fault leaves (R119) -/

/-- From `s` to `u` the registers, the banks and the return addresses stay. -/
structure KeepsProgram (s u : State) : Prop where
  regs : u.whl.regs = s.whl.regs
  mem : u.whl.mem = s.whl.mem
  rets : u.whl.rets = s.whl.rets

namespace KeepsProgram

theorem refl (s : State) : KeepsProgram s s := ⟨rfl, rfl, rfl⟩

theorem of_whl {s u : State} (h : u.whl = s.whl) : KeepsProgram s u := ⟨by rw [h], by rw [h], by rw [h]⟩

theorem of_unchanged {but : List Part} {s u : State} (h : Unchanged but s u) (hw : Part.whl ∉ but) : KeepsProgram s u :=
  .of_whl (h .whl hw)

theorem trans {a b c : State} (h : KeepsProgram a b) (k : KeepsProgram b c) : KeepsProgram a c :=
  ⟨k.regs.trans h.regs, k.mem.trans h.mem, k.rets.trans h.rets⟩

theorem ite {s x y : State} {c : Prop} [Decidable c] (hx : KeepsProgram s x) (hy : KeepsProgram s y) :
    KeepsProgram s (if c then x else y) := by
  split
  · exact hx
  · exact hy

end KeepsProgram

theorem State.voidOpenPixel_whl (s : State) (c : Nat) :
    (s.voidOpenPixel c).whl = { s.whl with pixTotal := (s.voidOpenPixel c).whl.pixTotal } := by
  unfold State.voidOpenPixel
  split
  · rfl
  · have hvoid (p : Pixel) : Unchanged landParts s (forN 8 s (fun s k =>
        (((s.pushHand k p none (s.kiln k).void).clearFill k).event (secOff Reg.KLN_STAT k) 7 { inst := k }))) :=
      .forN (fun x k => ((x.modKiln_land _ _).trans (State.modKiln_land _ _ _)).trans
        ((State.event_unchanged _ _ _ _).mono (by decide))) s
    dsimp only
    rw [hvoid _ .whl (by decide)]

theorem State.cutFrame_keepsProgram (s : State) (c : CutInfo) : KeepsProgram s (s.cutFrame c) := by
  have hvoid : KeepsProgram s (s.voidOpenPixel c.cause) :=
    ⟨by rw [State.voidOpenPixel_whl], by rw [State.voidOpenPixel_whl], by rw [State.voidOpenPixel_whl]⟩
  refine hvoid.trans ?_
  unfold State.cutFrame
  dsimp only
  split <;> exact ⟨rfl, rfl, rfl⟩

theorem State.haltWheel_whl (s : State) (faulted : Bool) : (s.haltWheel faulted).whl = { s.whl with
    state := if faulted then .faulted else if s.wheelRuns then .idle else s.whl.state
    wait := none, stopReq := false, haltReq := false, startHeld := false, held := false } := by
  unfold State.haltWheel
  dsimp only
  split
  · rw [State.event_whl]
  · rfl

theorem State.haltWheel_keepsProgram (s : State) (faulted : Bool) : KeepsProgram s (s.haltWheel faulted) :=
  ⟨by rw [State.haltWheel_whl], by rw [State.haltWheel_whl], by rw [State.haltWheel_whl]⟩

theorem State.wheelFault_keepsProgram (s : State) (code : Nat) : KeepsProgram s (s.wheelFault code) := by
  unfold State.wheelFault
  dsimp only
  refine KeepsProgram.trans (b := State.fault _ _ _ _ _) ?_ (((State.cutFrame_keepsProgram _ _).trans
    (State.haltWheel_keepsProgram _ _)).trans (.of_whl (State.wheelIdle_whl _)))
  refine ⟨?_, ?_, ?_⟩ <;> rw [State.fault_whl, State.putWide_whl, State.modWhl_whl]

/-! ## CALL, RET, LOOP (R131 to R133) -/

theorem exec_call {s : State} {tgt : Src} (t : Nat) (h : s.issues (.call tgt)) :
    exec (.call t) s = .next ((s.at (s.issueTick t)).callTo tgt) := by
  change Host.Outcome.next (s.issue t _) = _
  rw [State.issue_eq t _ h]

theorem exec_ret {s : State} (t : Nat) (h : s.issues .ret) :
    exec (.ret t) s = .next (s.at (s.issueTick t)).retFrom := by
  change Host.Outcome.next (s.issue t _) = _
  rw [State.issue_eq t _ h]

theorem exec_loop {s : State} {count : Src} {e : Nat} (t : Nat) (h : s.issues (.loop count e)) :
    exec (.loop t) s = .next ((s.at (s.issueTick t)).loopStart count e) := by
  change Host.Outcome.next (s.issue t _) = _
  rw [State.issue_eq t _ h]

/-- A fault at the issue leaves the return addresses as they were. -/
theorem State.issueFault (s : State) (a code : Nat) :
    FaultedWith code ((s.at a).wheelFault code) ∧ ((s.at a).wheelFault code).whl.rets = s.whl.rets :=
  ⟨State.wheelFault_faults _ _, by rw [((s.at a).wheelFault_keepsProgram code).rets, State.at_whl]⟩

section
variable {s : State} (t : Nat)

theorem call_continues {tgt : Src} (h : s.issues (.call tgt)) (htarget : (s.src tgt).toNat < 16384)
    (hdepth : s.whl.rets.length < 8) : Completes (.call t) s fun u => u.whl.pc = (s.src tgt).toNat ∧
      u.whl.rets = (s.whl.pc + 1) :: s.whl.rets ∧ u.whl.readyAt = s.issueTick t + 4 ∧
      u.whl = { s.whl with pc := u.whl.pc, rets := u.whl.rets, readyAt := u.whl.readyAt } ∧
      Unchanged [.whl] (s.at (s.issueTick t)) u := by
  refine .of_next (exec_call t h) ?_
  unfold State.callTo
  dsimp only
  rw [State.at_src, State.at_whl, if_neg (by omega), if_neg (by omega), State.goto_eq htarget]
  refine ⟨rfl, ?_, ?_, ?_, (State.modWhl_unchanged _ _).trans (State.modWhl_unchanged _ _)⟩
  · simp only [State.modWhl_whl, State.at_whl]
  · simp only [State.modWhl_whl, State.modWhl_now, State.issueTick_now]
  · simp only [State.modWhl_whl, State.at_whl]

theorem ret_continues {a : Nat} {r : List Nat} (h : s.issues .ret) (hrets : s.whl.rets = a :: r) (ha : a < 16384) :
    Completes (.ret t) s fun u => u.whl.pc = a ∧ u.whl.rets = r ∧ u.whl.readyAt = s.issueTick t + 4 ∧
      u.whl = { s.whl with pc := u.whl.pc, rets := u.whl.rets, readyAt := u.whl.readyAt } ∧
      Unchanged [.whl] (s.at (s.issueTick t)) u := by
  refine .of_next (exec_ret t h) ?_
  unfold State.retFrom
  rw [State.at_whl, hrets]
  dsimp only
  rw [State.goto_eq ha]
  refine ⟨rfl, rfl, ?_, ?_, (State.modWhl_unchanged _ _).trans (State.modWhl_unchanged _ _)⟩
  · simp only [State.modWhl_whl, State.modWhl_now, State.issueTick_now]
  · simp only [State.modWhl_whl, State.at_whl]

theorem call_beyond {tgt : Src} (h : s.issues (.call tgt)) (htarget : 16384 ≤ (s.src tgt).toNat) :
    Completes (.call t) s fun u => FaultedWith 2 u ∧ u.whl.rets = s.whl.rets := by
  refine .of_next (exec_call t h) ?_
  unfold State.callTo
  dsimp only
  rw [State.at_src, if_pos htarget]
  exact s.issueFault _ _

theorem call_tooDeep {tgt : Src} (h : s.issues (.call tgt)) (htarget : (s.src tgt).toNat < 16384)
    (hdepth : 8 ≤ s.whl.rets.length) : Completes (.call t) s fun u => FaultedWith 3 u ∧ u.whl.rets = s.whl.rets := by
  refine .of_next (exec_call t h) ?_
  unfold State.callTo
  dsimp only
  rw [State.at_src, State.at_whl, if_neg (by omega), if_pos hdepth]
  exact s.issueFault _ _

theorem ret_empty (h : s.issues .ret) (hrets : s.whl.rets = []) :
    Completes (.ret t) s fun u => FaultedWith 4 u ∧ u.whl.rets = s.whl.rets := by
  refine .of_next (exec_ret t h) ?_
  unfold State.retFrom
  rw [State.at_whl, hrets]
  dsimp only
  rw [← hrets]
  exact s.issueFault _ _

/-- Where LOOP goes on within the bank, only the program counter and the counters change. -/
theorem State.loop_continues {pc : Nat} (h : pc < 16384) (loops : List LoopCtr) :
    let u := (s.at (s.issueTick t)).goto pc 1 loops
    u.whl.pc = pc ∧ u.whl.loops = loops ∧ u.whl.readyAt = s.issueTick t + 2 ∧
      u.whl = { s.whl with pc := u.whl.pc, loops := u.whl.loops, readyAt := u.whl.readyAt } ∧
      Unchanged [.whl] (s.at (s.issueTick t)) u := by
  rw [State.goto_eq h, State.issueTick_now]
  refine ⟨rfl, rfl, rfl, ?_, State.modWhl_unchanged _ _⟩
  rw [State.modWhl_whl, State.at_whl]

end

theorem State.loopStart_eq (s : State) (a : Nat) (count : Src) (e : Nat) : (s.at a).loopStart count e =
    if e ≤ s.whl.pc then (s.at a).wheelFault 1
    else if (s.src count).toNat = 0 then (s.at a).goto (e + 1) 1 s.whl.loops
    else if 4 ≤ s.whl.loops.length then (s.at a).wheelFault 5
    else (s.at a).goto (s.whl.pc + 1) 1 ({ left := (s.src count).toNat, first := s.whl.pc + 1, last := e } :: s.whl.loops) := by
  unfold State.loopStart
  rw [State.at_src, State.at_whl]

/-- Settles O20: CALL and RET by what they find on the stack, LOOP by its end, its count and the counters active. -/
theorem callsReturnsAndLoops : Obligations.CallsReturnsAndLoops := by
  refine ⟨⟨fun t s tgt hi htarget hdepth => call_continues t hi htarget hdepth,
    fun t s a r hi hrets ha => ret_continues t hi hrets ha, fun t s tgt hi htarget => call_beyond t hi htarget,
    fun t s tgt hi htarget hdepth => call_tooDeep t hi htarget hdepth, fun t s hi hrets => ret_empty t hi hrets⟩,
    fun t s count e hi hend hcount he => ?_, fun t s count e hi hend hcount hroom hpc => ?_,
    fun t s count e hi hend => ?_, fun t s count e hi hend hcount hfull => ?_⟩
  all_goals
    refine .of_next (exec_loop t hi) ?_
    rw [State.loopStart_eq]
  · rw [if_neg (by omega), if_pos hcount]
    exact State.loop_continues t (by omega) _
  · rw [if_neg (by omega), if_neg (by omega), if_neg (by omega)]
    exact State.loop_continues t (by omega) _
  · rw [if_pos hend]
    exact State.wheelFault_faults _ _
  · rw [if_neg (by omega), if_neg (by omega), if_pos hfull]
    exact State.wheelFault_faults _ _

/-! ## Loop counters (R133) -/

theorem loopEnd_other {pc : Nat} {x : LoopCtr} (h : pc ≠ x.last) (out : List LoopCtr) :
    loopEnd pc (x :: out) = (pc + 1, x :: out) := by
  unfold loopEnd
  rw [if_neg (Ne.symm h)]

theorem loopEnd_again {n first last : Nat} (h : 1 < n) (out : List LoopCtr) :
    loopEnd last ({ left := n, first, last } :: out) = (first, { left := n - 1, first, last } :: out) := by
  unfold loopEnd
  rw [if_pos rfl, if_neg (Nat.not_le_of_lt h)]

theorem loopEnd_spent {n first last : Nat} (h : n ≤ 1) (out : List LoopCtr) :
    loopEnd last ({ left := n, first, last } :: out) = loopEnd last out := by
  rw [loopEnd, if_pos rfl, if_pos h]

/-- `k` completions of the end of a body take `k` off its count, while some of it is left. -/
theorem loopEnd_iterate {n first last k : Nat} (h : k < n) (out : List LoopCtr) :
    (fun x => (loopEnd last x).2)^[k] ({ left := n, first, last } :: out) = { left := n - k, first, last } :: out := by
  induction k with
  | zero => rfl
  | succ k ih =>
    rw [Function.iterate_succ_apply', ih (by omega), loopEnd_again (by omega), Nat.sub_sub]

/-- Settles O21, by counting the completions of the body's end. -/
theorem loopBodiesRunTheirCount : Obligations.LoopBodiesRunTheirCount := by
  intro n first last out
  refine ⟨fun k hk => ⟨n - k, loopEnd_iterate (by omega) out, ?_⟩,
    fun hn => ⟨n - (n - 1), loopEnd_iterate (by omega) out, loopEnd_spent (by omega) out⟩,
    fun pc hpc => loopEnd_other hpc out⟩
  rw [loopEnd_again (by omega)]

/-! ## WAITEV (R115, R137) -/

theorem exec_waitev {s : State} {wd timeout mask : Nat} (t : Nat) (h : s.issues (.waitev wd timeout mask)) :
    exec (.waitev t) s = .next ((s.at (s.issueTick t)).waitEv wd timeout mask) := by
  change Host.Outcome.next (s.issue t _) = _
  rw [State.issue_eq t _ h]

@[simp] theorem State.at_evPending (s : State) (t mask : Nat) : (s.at t).evPending mask = s.evPending mask := by
  unfold State.evPending
  rw [State.at_whl]

/-- The end of a wait: register `wd` holds `v`, the pending events are `ev`, Z is `z`; N, C, the other registers, the grid and
the queue are as they were. -/
def WaitEnded (wd : Nat) (v : Word) (ev : BitVec 8) (z : Bool) (s u : State) : Prop :=
  u.wreg wd = v ∧ u.whl.hostev = ev ∧ u.whl.z = z ∧ u.whl.state = .running ∧ u.whl.wait = none ∧
    (∀ i, i ≠ wd → u.wreg i = s.wreg i) ∧ u.whl.n = s.whl.n ∧ u.whl.c = s.whl.c ∧ u.whl.anchor = s.whl.anchor ∧
    u.whl.queue = s.whl.queue ∧ u.whl.pc = s.nextPc

section
variable {s : State} (hpc : s.nextPc < 16384)
include hpc

theorem State.waitDone_ends (a wd : Nat) (v : Word) (z : Bool) :
    WaitEnded wd v s.whl.hostev z s ((s.at a).waitDone wd v z) ∧ Unchanged [.whl] (s.at a) ((s.at a).waitDone wd v z) := by
  have hnext : (s.at a).nextPc < 16384 := by rwa [State.at_nextPc]
  refine ⟨?_, State.waitDone_unchanged _ _ _ hnext⟩
  rw [State.waitDone_eq _ _ _ hnext]
  simp only [WaitEnded, State.wreg, State.modWhl_whl, State.at_whl, State.at_nextPc, fget_fset_same, true_and, and_true]
  exact fun i hi => fget_fset_ne _ _ _ _ hi

/-- The pending events of the mask are taken, the others stay (R115). -/
theorem State.consume_ends (a wd mask : Nat) :
    WaitEnded wd ((s.whl.hostev &&& BitVec.ofNat 8 mask).setWidth 32) (s.whl.hostev &&& ~~~(BitVec.ofNat 8 mask)) false s
        ((s.at a).consume wd mask) ∧ Unchanged [.whl] (s.at a) ((s.at a).consume wd mask) := by
  have hleft (x y : BitVec 8) : x &&& ~~~(x &&& y) = x &&& ~~~y := by
    ext i hi
    cases h : x[i] <;> simp [h]
  have htaken (f : Wheel → Wheel) (hf : (f s.whl).pc = s.whl.pc ∧ (f s.whl).loops = s.whl.loops) :
      ((s.at a).modWhl f).nextPc = s.nextPc := by
    rw [State.modWhl_nextPc, State.at_whl, hf.1, hf.2, State.nextPc]
  unfold State.consume
  dsimp only
  have hnext := htaken (fun w => { w with
    hostev := w.hostev &&& ~~~((s.at a).whl.hostev &&& BitVec.ofNat 8 mask), evAt := (s.at a).now
    evUsed := (s.at a).whl.hostev &&& BitVec.ofNat 8 mask }) ⟨rfl, rfl⟩
  have hbank := hpc
  rw [← hnext] at hbank
  refine ⟨?_, (State.modWhl_unchanged _ _).trans (State.waitDone_unchanged _ _ _ hbank)⟩
  rw [State.waitDone_eq _ _ _ hbank, hnext]
  simp only [WaitEnded, State.wreg, State.modWhl_whl, State.at_whl, fget_fset_same, hleft, BitVec.ofNat_toNat, true_and,
    and_true]
  exact fun i hi => fget_fset_ne _ _ _ _ hi

end

theorem exec_waitevEvent {s : State} (t : Nat) {wd mask e : Nat} (hw : s.whl.wait = some (.hostEv wd mask e))
    (hev : s.evPending mask = true) (hle : max s.now t ≤ e) :
    exec (.waitevEvent t) s = .next ((s.at t).consume wd mask) := by
  change execWaitevEvent t s = _
  unfold execWaitevEvent
  dsimp only
  rw [State.at_whl, hw]
  dsimp only
  rw [State.at_evPending, State.at_now, hev, decide_eq_true hle]
  rfl

theorem exec_waitevTimeout {s : State} (t : Nat) {wd mask e : Nat} (hw : s.whl.wait = some (.hostEv wd mask e)) :
    exec (.waitevTimeout t) s = .next (if s.evPending mask then (s.at (max t e)).consume wd mask
      else (s.at (max t e)).waitDone wd 0 true) := by
  change execWaitevTimeout t s = _
  unfold execWaitevTimeout
  rw [hw]
  dsimp only
  rw [State.at_evPending]

/-- Settles O22: WAITEV, its event and its timeout take the pending events, miss them, or wait. -/
theorem waitingForHostEvents : Obligations.WaitingForHostEvents := by
  refine ⟨fun t s wd timeout mask hi hpc hev => ?_, fun t s wd mask hi hpc hev => ?_, fun t s wd timeout mask hi ht hev => ?_,
    fun t s wd mask e hw hev hle hpc => .of_next (exec_waitevEvent t hw hev hle) (State.consume_ends hpc _ _ _),
    fun t s wd mask e hw hpc => .of_next (exec_waitevTimeout t hw) ?_⟩
  · refine .of_next (exec_waitev t hi) ?_
    rw [State.waitEv, State.at_evPending, if_pos hev]
    exact State.consume_ends hpc _ _ _
  · refine .of_next (exec_waitev t hi) ?_
    rw [State.waitEv, State.at_evPending, if_neg (by simp [hev]), if_pos rfl]
    exact State.waitDone_ends hpc _ _ _ _
  · refine .of_next (exec_waitev t hi) ?_
    rw [State.waitEv, State.at_evPending, if_neg (by simp [hev]), if_neg (by omega), State.issueTick_now]
    exact ⟨by rw [State.modWhl_whl, State.at_whl], State.modWhl_unchanged _ _⟩
  · obtain ⟨hgot, hgotFrame⟩ := State.consume_ends hpc (max t e) wd mask
    obtain ⟨hmissed, hmissedFrame⟩ := State.waitDone_ends hpc (max t e) wd 0 true
    cases hev : s.evPending mask
    · exact ⟨hmissedFrame, fun _ => hmissed, nofun⟩
    · exact ⟨hgotFrame, nofun, fun _ => hgot⟩

/-! ## BUDGET (R151, R165) -/

theorem exec_budget {s : State} {wd : Nat} {e : Src} {prof code : Nat} (t : Nat) (h : s.issues (.budget wd e prof code)) :
    exec (.budget t) s = .next ((s.at (s.issueTick t)).budgetOp wd e prof code) := by
  change Host.Outcome.next (s.issue t _) = _
  rw [State.issue_eq t _ h]

/-- The smaller content of an emitter's two buckets in the beam sector, 0 with no sector known. -/
def State.beamRoom (s : State) (k : Nat) : Nat :=
  match s.beamSector with
  | some sec => min (s.bucket k sec 0) (s.bucket k sec 1)
  | none => 0

/-- The cost of one burst (R165). -/
def State.burstCost (s : State) (k prof code : Nat) : Nat :=
  s.appliedCode k prof * s.profWidth prof * (pulsesIn (s.codeOffs code prof) (s.profWidth prof) 0).length

theorem State.budgetQuery_eq (s : State) (k prof code : Nat) :
    s.budgetQuery k prof code = (s.beamRoom k, s.burstCost k prof code) := by
  unfold State.budgetQuery State.beamRoom State.burstCost
  dsimp only
  cases s.beamSector <;> rfl

/-- The cost of a burst does not change as time passes. -/
theorem State.at_burstCost (s : State) (t k prof code : Nat) : (s.at t).burstCost k prof code = s.burstCost k prof code := by
  have hwidth (p : Nat) : (s.at t).profWidth p = s.profWidth p := by rw [State.profWidth, State.at_emt, ← State.profWidth]
  have hcode : (s.at t).appliedCode k prof = s.appliedCode k prof := by
    rw [State.appliedCode, State.at_emt, ← State.appliedCode]
  have hoffs : (s.at t).codeOffs code prof = s.codeOffs code prof := by
    simp only [State.codeOffs, State.codeEntry, State.at_emt, State.at_bit, hwidth]
    rfl
  rw [State.burstCost, hwidth, hcode, hoffs, ← State.burstCost]

/-- A register and the flag Z are written, and the instruction completes 8 cycles later. -/
theorem State.query_completes {s : State} (t : Nat) (h : s.nextPc < 16384) (wd : Nat) (v : Word) (z : Bool) :
    let u := (((s.at (s.issueTick t)).setW wd v).modWhl fun w => { w with z }).retire 8
    u.wreg wd = v ∧ u.whl.z = z ∧ (∀ i, i ≠ wd → u.wreg i = s.wreg i) ∧ u.whl.n = s.whl.n ∧ u.whl.c = s.whl.c ∧
      Retired 8 (s.issueTick t) s u ∧ Unchanged [.whl] (s.at (s.issueTick t)) u := by
  obtain ⟨hretired, hothers, hwhl⟩ := State.retire_completes
    ((State.setW_unchanged (s.at (s.issueTick t)) wd v).trans (State.modWhl_unchanged _ fun w => { w with z }))
    (by simp [State.setW]) (by simp [State.setW]) h 8
  intro u
  have hregs (i : Nat) : u.wreg i = if i = wd then v else s.wreg i := by
    rw [← State.at_wreg s (s.issueTick t), ← State.setW_wreg, State.wreg, hwhl]
    rfl
  refine ⟨by rw [hregs, if_pos rfl], by rw [hwhl]; rfl, fun i hi => by rw [hregs, if_neg hi], ?_, ?_, hretired, hothers⟩
  all_goals
    rw [hwhl, State.setW]
    simp only [State.modWhl_whl, State.at_whl]

/-- Settles O26: the query at the issue tick, written into register and flag, and the completion 8 cycles later. -/
theorem budgetReadsTheSmallerBucket : Obligations.BudgetReadsTheSmallerBucket := by
  refine ⟨fun t s wd e prof code hi hk hpc => ?_, fun t s wd e prof code hi hk => ?_⟩
  all_goals
    refine .of_next (exec_budget t hi) ?_
    unfold State.budgetOp
    rw [State.at_src]
  · rw [if_neg (by omega), State.budgetQuery_eq, State.at_burstCost]
    exact State.query_completes t hpc wd _ _
  · rw [if_pos hk]
    exact State.wheelFault_faults _ _

end Sys2Proof.Machine
end

section
/-! PROOFS. HALT (R134), the commands of the Wheel from outside (R99, R100, R115, R118, R120, R527), and words that are no
instruction (R119, R494). -/

namespace Sys2Proof.Machine

/-! ## What the shared operations leave of the Wheel -/

theorem State.canIssue_running {s : State} (h : s.canIssue = true) : s.whl.state = .running := by
  simp only [State.canIssue, Bool.and_eq_true, decide_eq_true_eq] at h
  obtain ⟨⟨⟨⟨hstate, -⟩, -⟩, -⟩, -⟩ := h
  exact hstate

theorem State.wheelRuns_of_running {s : State} (h : s.whl.state = .running) : s.wheelRuns = true := by
  rw [State.wheelRuns, h]

theorem State.frameEnds_whl (s : State) :
    s.frameEnds.whl = { s.whl with frameOpen := false, voidRest := s.frameEnds.whl.voidRest } := by
  unfold State.frameEnds
  split
  · rfl
  · next hclosed =>
    rw [← Bool.eq_false_of_not_eq_true hclosed]

theorem State.kilnEof_whl (s : State) (seq : Nat) : (s.kilnEof seq).whl = s.whl := by
  have hkilns : Unchanged landParts s (s.kilnEof seq) :=
    .ite (.forN (fun x k => x.modKiln_land k _) s) (.refl _ s)
  exact hkilns .whl (by decide)

/-! ## HALT (R134) -/

theorem exec_halt {s : State} (t : Nat) (h : s.issues .halt) :
    exec (.halt t) s = .next (s.at (s.issueTick t)).haltOp := by
  change Host.Outcome.next (s.issue t _) = _
  rw [State.issue_eq t _ h]

/-- The end of a running program leaves no action and keeps the registers. -/
theorem State.haltNow_whl {s : State} (h : s.whl.state = .running) :
    s.haltNow.whl.state = .idle ∧ s.haltNow.whl.queue = [] ∧ s.haltNow.whl.shots = [] ∧
      s.haltNow.whl.frameOpen = false ∧ s.haltNow.whl.regs = s.whl.regs := by
  have hruns (f : Wheel → Wheel) (hf : (f s.frameEnds.whl).state = s.frameEnds.whl.state) :
      (s.frameEnds.modWhl f).wheelRuns = true := by
    apply State.wheelRuns_of_running
    rw [State.modWhl_whl, hf, State.frameEnds_whl]
    exact h
  unfold State.haltNow State.endProgram
  rw [State.wheelIdle_whl, State.haltWheel_whl, hruns _ rfl, State.modWhl_whl, State.frameEnds_whl]
  exact ⟨rfl, rfl, rfl, rfl, rfl⟩

/-- The close that HALT waits for becomes a boundary where no other waits, and nothing issues any more. -/
theorem State.haltBoundary_waits (s : State) :
    s.haltBoundary.whl.state = s.whl.state ∧ s.haltBoundary.whl.haltReq = true ∧
      (s.whl.lastEof = false → s.whl.eofAt = none → s.haltBoundary.whl.eofAt = some s.whl.prevClose) := by
  unfold State.haltBoundary
  dsimp only
  split
  · next hlast => exact ⟨rfl, rfl, fun h => absurd hlast (by simp [h])⟩
  · rw [State.modWhl_whl, State.kilnEof_whl, State.modWhl_whl]
    dsimp only
    cases h : s.whl.eofAt
    · exact ⟨rfl, rfl, fun _ _ => rfl⟩
    · exact ⟨rfl, rfl, fun _ => nofun⟩

section
variable {s : State} (t : Nat) (h : s.issues .halt)
include h

theorem halt_beforeAnyPix (hshots : s.whl.issShots = 0) (hpix : s.whl.anyPix = false) : Completes (.halt t) s fun u =>
    u.whl.state = .idle ∧ u.whl.queue = [] ∧ u.whl.shots = [] ∧ u.whl.frameOpen = false ∧ u.whl.regs = s.whl.regs := by
  refine .of_next (exec_halt t h) ?_
  unfold State.haltOp
  rw [State.at_whl, hshots, hpix, if_neg (by simp), if_pos Bool.not_false]
  have hend := State.haltNow_whl (s := s.at (s.issueTick t)) (by rw [State.at_whl, State.canIssue_running h.1])
  rwa [State.at_whl] at hend

theorem halt_beforeTheClose (hshots : s.whl.issShots = 0) (hpix : s.whl.anyPix = true)
    (hclose : s.issueTick t < s.whl.prevClose) : Completes (.halt t) s fun u =>
      u.whl.state = .running ∧ u.canIssue = false ∧ u.whl.haltReq = true ∧
        (s.whl.lastEof = false → s.whl.eofAt = none → u.whl.eofAt = some s.whl.prevClose) := by
  refine .of_next (exec_halt t h) ?_
  unfold State.haltOp
  rw [State.at_whl, hshots, hpix, State.issueTick_now, if_neg (by simp), if_neg (by simp), if_pos hclose]
  obtain ⟨hstate, hreq, heof⟩ := (s.at (s.issueTick t)).haltBoundary_waits
  rw [State.at_whl] at hstate heof
  exact ⟨hstate.trans (State.canIssue_running h.1), by simp [State.canIssue, hreq], hreq, heof⟩

theorem halt_openPix (hshots : s.whl.issShots ≠ 0) : Completes (.halt t) s (FaultedWith 7) := by
  refine .of_next (exec_halt t h) ?_
  unfold State.haltOp
  rw [State.at_whl, if_pos hshots]
  exact State.wheelFault_faults _ _

end

/-! ## Start (R118) -/

/-- A swap that is not armed is not taken. -/
theorem State.idleSwap_unarmed {s : State} (h : s.whl.armed = false) : s.idleSwap = s := if_neg (by simp [h])

/-- A program has started from `s`: RUNNING at instruction 0, the grid anchored 1,024 ticks ahead, registers and banks as they
were. -/
def ProgramStarted (s u : State) : Prop :=
  u.whl.state = .running ∧ u.whl.pc = 0 ∧ u.whl.z = false ∧ u.whl.n = false ∧ u.whl.c = false ∧ u.whl.rets = [] ∧
    u.whl.loops = [] ∧ u.whl.queue = [] ∧ u.whl.anchor = u.now + 1024 ∧ u.whl.period = s.whl.periodNext ∧
    u.whl.regs = s.whl.regs ∧ u.whl.mem = s.whl.mem ∧ u.whl.bank = s.whl.bank

/-- The parts that a start reaches besides the Wheel. -/
def startParts : List Part := [.lan, .kln, .shf, .wide, .deferred, .recent] ++ eventParts

/-- The start of a program that takes no swap. -/
theorem State.wheelRun_starts {s : State} (h : s.armSeen = false) : ProgramStarted s s.wheelRun := by
  have hshelf : Unchanged startParts s s.shfSample := s.shfSample_unchanged.mono (by decide)
  have hgates (x : State) : Unchanged startParts x x.gatesOff :=
    .forN (fun x l => (x.setLan_unchanged _).mono (by decide)) x
  have hkilns (x : State) : Unchanged startParts x x.kilnStart :=
    .forN (fun x k => (x.setKln_unchanged _).mono (by decide)) x
  have hbefore := (hshelf.trans (hgates _)).trans (hkilns _)
  unfold ProgramStarted State.wheelRun
  dsimp only
  rw [State.bankSwap_unarmed h]
  generalize s.shfSample.gatesOff.kilnStart = x at hbefore ⊢
  have hwhl : x.whl = s.whl := hbefore .whl (by decide)
  rw [State.modWhl_whl, hwhl, State.modWhl_now, hbefore.now (by decide)]
  exact ⟨rfl, rfl, rfl, rfl, rfl, rfl, rfl, rfl, rfl, rfl, rfl, rfl, rfl⟩

/-- With no swap armed and nothing to wait for, the program starts at once. -/
theorem State.wheelBegin_runs {s : State} (harm : s.whl.armed = false) (hwait : s.startWaits = false) :
    s.wheelBegin = s.wheelRun := by
  unfold State.wheelBegin
  rw [State.idleSwap_unarmed harm]
  exact if_neg (by simp [hwait])

theorem exec_wheelStart {s : State} (t : Nat) (p : Path) (h : s.gated = false) :
    exec (.wheelStart t p) s = .next (s.at t).wheelStart := by
  change Host.Outcome.next _ = _
  rw [State.at_gated, h]
  rfl

theorem wheelStart_starts {s : State} (t : Nat) (p : Path) (hg : s.gated = false) (hm : s.mode.active.scanning = true)
    (hr : s.wheelRuns = false) (harm : s.whl.armed = false) (hseen : (s.at t).armSeen = false)
    (hwait : (s.at t).startWaits = false) : Completes (.wheelStart t p) s (ProgramStarted s) := by
  refine .of_next (exec_wheelStart t p hg) ?_
  have hstarts := State.wheelRun_starts hseen
  rw [ProgramStarted, State.at_whl] at hstarts
  rw [State.wheelStart, State.at_mode, State.at_wheelRuns, hm, hr, Bool.not_false, Bool.and_self, if_pos rfl,
    State.wheelBegin_runs (by rw [State.at_whl, harm]) hwait]
  exact hstarts

theorem wheelStart_without {s : State} (t : Nat) (p : Path) (hg : s.gated = false)
    (h : s.mode.active.scanning = false ∨ s.wheelRuns = true) : Completes (.wheelStart t p) s fun u => u = s.at t := by
  refine .of_next (exec_wheelStart t p hg) (if_neg ?_)
  rw [State.at_mode, State.at_wheelRuns]
  rcases h with h | h <;> simp [h]

/-! ## Stop, swap and abort (R100, R118, R120) -/

theorem wheelStop_requests {s : State} (t : Nat) (p : Path) (hg : s.gated = false) (hr : s.wheelRuns = true) :
    Completes (.wheelStop t p) s fun u => u.whl = { s.whl with stopReq := true } ∧ Unchanged [.whl] (s.at t) u := by
  have hexec : exec (.wheelStop t p) s = .next ((s.at t).modWhl fun w => { w with stopReq := true }) := by
    change Host.Outcome.next _ = _
    rw [State.at_gated, hg, if_neg Bool.false_ne_true, State.wheelStop, State.at_wheelRuns, if_pos hr]
  refine .of_next hexec ⟨?_, State.modWhl_unchanged _ _⟩
  rw [State.modWhl_whl, State.at_whl]

theorem exec_armSwap {s : State} (t : Nat) (p : Path) (hg : s.gated = false) : exec (.armSwap t p) s =
    .next (if s.mode.active = .guard then (s.at t).accessErr Reg.WHL_CMD (pathCode p) else (s.at t).armWrite true) := by
  change Host.Outcome.next _ = _
  rw [State.at_gated, hg, if_neg Bool.false_ne_true, State.wheelArm, State.at_mode]

theorem armSwap_arms {s : State} (t : Nat) (p : Path) (hg : s.gated = false) (hm : s.mode.active ≠ .guard) :
    Completes (.armSwap t p) s fun u =>
      u.whl.armed = true ∧ u.whl.bank = s.whl.bank ∧ u.whl.mem = s.whl.mem ∧ Unchanged [.whl] (s.at t) u := by
  refine .of_next ((exec_armSwap t p hg).trans (congrArg _ (if_neg hm))) ⟨rfl, ?_, ?_, State.modWhl_unchanged _ _⟩
  all_goals rw [State.armWrite, State.modWhl_whl, State.at_whl]

theorem armSwap_inGuard {s : State} (t : Nat) (p : Path) (hg : s.gated = false) (hm : s.mode.active = .guard) :
    Completes (.armSwap t p) s fun u => u.whl = s.whl ∧
      u = (s.at t).event Reg.GLB_REG_STAT 4 { addr := Reg.WHL_CMD, path := pathCode p } := by
  refine .of_next ((exec_armSwap t p hg).trans (congrArg _ (if_pos hm))) ⟨?_, rfl⟩
  rw [State.accessErr_whl, State.at_whl]

theorem State.idleSwap_mem (s : State) : s.idleSwap.whl.mem = s.whl.mem := by
  have hswap : s.bankSwap.whl.mem = s.whl.mem := by
    unfold State.bankSwap
    split
    · rw [State.event_whl, State.modWhl_whl]
    · rfl
  unfold State.idleSwap
  split
  · exact hswap
  · rfl

theorem disarm_disarms {s : State} (t : Nat) (p : Path) (hg : s.gated = false) :
    Completes (.disarm t p) s fun u => u.whl.armed = false ∧ u.whl.mem = s.whl.mem := by
  have hexec : exec (.disarm t p) s = .next ((s.at t).idleSwap.armWrite false) := by
    change Host.Outcome.next _ = _
    rw [State.at_gated, hg]
    rfl
  refine .of_next hexec ⟨rfl, ?_⟩
  rw [State.armWrite, State.modWhl_whl]
  exact (State.idleSwap_mem _).trans (by rw [State.at_whl])

/-- A cut frame leaves no action and no frame, and the program as it ran. -/
theorem State.cutFrame_cuts (s : State) (c : CutInfo) : (s.cutFrame c).whl.shots = [] ∧
    (s.cutFrame c).whl.frameOpen = false ∧ (s.cutFrame c).whl.state = s.whl.state := by
  have hstate : (s.voidOpenPixel c.cause).whl.state = s.whl.state := by rw [State.voidOpenPixel_whl]
  refine ⟨rfl, rfl, ?_⟩
  unfold State.cutFrame
  dsimp only
  split
  · exact hstate
  · exact hstate

theorem wheelAbort_ends {s : State} (t : Nat) (p : Path) (hg : s.gated = false) (hr : s.wheelRuns = true) :
    Completes (.wheelAbort t p) s fun u => u.whl.state = .idle ∧ u.whl.queue = [] ∧ u.whl.shots = [] ∧
      u.whl.frameOpen = false ∧ u.whl.mem = s.whl.mem := by
  obtain ⟨c, hexec⟩ : ∃ c, exec (.wheelAbort t p) s = .next (((s.at t).cutFrame c).haltWheel false).wheelIdle := by
    refine ⟨{ cause := 2, mode := (s.at t).mode.active.code, wheelFault := 15 }, ?_⟩
    change Host.Outcome.next _ = _
    rw [State.at_gated, hg, if_neg Bool.false_ne_true, State.wheelAbort, State.at_wheelRuns, if_pos hr]
  have hkept := (s.at t).cutFrame_keepsProgram c
  obtain ⟨hqueue, -⟩ := (s.at t).cutFrame_whl c
  obtain ⟨hshots, hframe, hstate⟩ := (s.at t).cutFrame_cuts c
  generalize (s.at t).cutFrame c = x at hexec hkept hqueue hshots hframe hstate
  have hruns : x.wheelRuns = true := by
    rw [← hr]
    unfold State.wheelRuns
    rw [hstate, State.at_whl]
  refine .of_next hexec ?_
  rw [State.wheelIdle_whl, State.haltWheel_whl, hruns]
  exact ⟨rfl, hqueue, hshots, hframe, hkept.mem.trans (by rw [State.at_whl])⟩

/-! ## Host events (R115, R527) -/

/-- Events are posted where no WAITEV consumes events in the same cycle. -/
theorem State.hostEvent_adds {s : State} (t : Nat) (ev : BitVec 8)
    (h : (s.at t).sameCycle s.whl.evAt (s.at t).now = false) :
    ((s.at t).hostEvent ev).whl = { s.whl with hostev := s.whl.hostev ||| ev } ∧
      Unchanged [.whl] (s.at t) ((s.at t).hostEvent ev) := by
  refine ⟨?_, State.modWhl_unchanged _ _⟩
  unfold State.hostEvent
  dsimp only
  have hall : ev &&& ~~~0 = ev := BitVec.and_allOnes
  rw [State.modWhl_whl, State.at_whl, h, if_neg Bool.false_ne_true, hall]

theorem hostEventPost_adds {s : State} (t : Nat) (p : Path) (ev : BitVec 8) (hg : s.gated = false)
    (h : (s.at t).sameCycle s.whl.evAt (s.at t).now = false) : Completes (.hostEventPost t p ev) s fun u =>
      u.whl = { s.whl with hostev := s.whl.hostev ||| ev } ∧ Unchanged [.whl] (s.at t) u := by
  refine .of_next (u := (s.at t).hostEvent ev) ?_ (State.hostEvent_adds t ev h)
  change Host.Outcome.next _ = _
  rw [State.at_gated, hg]
  rfl

theorem wevEdge_adds {s : State} (t : Nat) (n : Fin 8) (hg : s.gated = false) (hpin : s.mfpCode (15 + n) = 7)
    (h : (s.at t).sameCycle s.whl.evAt (s.at t).now = false) : Completes (.wevEdge t n) s fun u =>
      u.whl = { s.whl with hostev := s.whl.hostev ||| BitVec.ofNat 8 (2 ^ n.val) } ∧ Unchanged [.whl] (s.at t) u := by
  refine .of_next (u := (s.at t).hostEvent (BitVec.ofNat 8 (2 ^ n.val))) ?_ (State.hostEvent_adds t _ h)
  have howner : (s.at t).mfpCode (15 + n) = 7 := by rw [State.mfpCode, State.at_fld, ← State.mfpCode, hpin]
  change Host.Outcome.next _ = _
  rw [howner, State.at_gated, hg]
  rfl

/-! ## Program banks (R99) -/

theorem bankKey_word (k : Nat) : bankKey (0x208000 + 4 * k) = k := by
  unfold bankKey
  omega

theorem exec_programBankWrite {s : State} (t : Nat) (p : Path) {k : Nat} (val : Word) (hg : s.gated = false)
    (hk : k < 65536) (harm : s.whl.armed = false) : exec (.programBankWrite t p (0x208000 + 4 * k) 4 val) s =
      .next (if k / 32768 = s.whl.bank then (s.at t).accessErr (0x208000 + 4 * k) (pathCode p)
        else (s.at t).modWhl fun w => { w with mem := fset 0 w.mem k val }) := by
  change execProgramBankWrite _ _ _ _ _ _ = _
  unfold execProgramBankWrite
  dsimp only
  rw [if_neg (by omega), State.at_gated, hg, if_neg Bool.false_ne_true, if_neg (by omega), State.bankWrite,
    State.idleSwap_unarmed (by rw [State.at_whl, harm]), State.at_whl, harm, bankKey_word]
  have haligned : (0x208000 + 4 * k) % 4 = 0 := by omega
  simp [haligned]

theorem bankWrite_staged {s : State} (t : Nat) (p : Path) {k : Nat} (val : Word) (hg : s.gated = false) (hk : k < 65536)
    (hbank : k / 32768 ≠ s.whl.bank) (harm : s.whl.armed = false) :
    Completes (.programBankWrite t p (0x208000 + 4 * k) 4 val) s fun u => (∀ j, fget 0 u.whl.mem j =
      if j = k then val else fget 0 s.whl.mem j) ∧ Unchanged [.whl] (s.at t) u ∧ u.whl = { s.whl with mem := u.whl.mem } := by
  refine .of_next ((exec_programBankWrite t p val hg hk harm).trans (congrArg _ (if_neg hbank))) ?_
  refine ⟨fun j => ?_, State.modWhl_unchanged _ _, ?_⟩
  · rw [State.modWhl_whl, State.at_whl]
    exact fget_fset _ _ _ _ _
  · rw [State.modWhl_whl, State.at_whl]

theorem bankWrite_active {s : State} (t : Nat) (p : Path) {k : Nat} (val : Word) (hg : s.gated = false) (hk : k < 65536)
    (hbank : k / 32768 = s.whl.bank) (harm : s.whl.armed = false) :
    Completes (.programBankWrite t p (0x208000 + 4 * k) 4 val) s fun u => u.whl = s.whl ∧
      u = (s.at t).event Reg.GLB_REG_STAT 4 { addr := 0x208000 + 4 * k, path := pathCode p } := by
  refine .of_next ((exec_programBankWrite t p val hg hk harm).trans (congrArg _ (if_pos hbank))) ⟨?_, rfl⟩
  rw [State.accessErr_whl, State.at_whl]

/-! ## What a unit-fatal fault leaves of the program (R93, R494) -/

theorem State.latchCauses_keepsProgram (s : State) (c : Nat) : KeepsProgram s (s.latchCauses c) := by
  have hlogged (x : State) : Unchanged eventParts x (forN 8 x fun s b =>
      if bitOf c b then s.logPush { code := infoCode Reg.GLB_SAFE_CAUSE b } else s) :=
    .forN (fun x _ => .ite ((x.logPush_unchanged _).mono (by decide)) (.refl _ x)) x
  exact (KeepsProgram.of_whl (s.raise_whl _ _)).trans (.of_unchanged (hlogged _) (by decide))

theorem State.safeCut_keepsProgram (s : State) (c : Nat) : KeepsProgram s (s.safeCut c) := by
  have hboot : KeepsProgram s s.interruptBoot := .ite (.of_whl rfl) (.refl s)
  have hstop (x : State) : KeepsProgram x x.stopBurst := .of_whl rfl
  have hdrop (x : State) : KeepsProgram x x.dropOssd := .ite (.of_whl (State.event_whl _ _ _ _)) (.refl x)
  exact (((hboot.trans (hstop _)).trans (hdrop _)).trans (State.cutFrame_keepsProgram _ _)).trans
    (State.haltWheel_keepsProgram _ _)

theorem State.setMode_keepsProgram (s : State) (m : Mode) : KeepsProgram s (s.setMode m) :=
  have hmode (x : Modes) : KeepsProgram s { s with mode := x } := .of_whl rfl
  ((hmode _).trans (.of_whl (State.event_whl _ _ _ _))).trans
    (.of_unchanged (State.coilStatus_steady _).parts (by decide))

theorem State.safeEnter_keepsProgram (s : State) (c : Nat) : KeepsProgram s (s.safeEnter c) := by
  have hpermit (x : State) : KeepsProgram x x.permitOff := .of_unchanged x.permitOff_unchanged (by decide)
  have henter (x : State) : KeepsProgram x (((x.safeCut c).permitOff.setMode .safe).event Reg.GLB_MODE_STAT 3 {}) :=
    (((x.safeCut_keepsProgram c).trans (hpermit _)).trans (State.setMode_keepsProgram _ _)).trans
      (.of_whl (State.event_whl _ _ _ _))
  have hleave (x : State) : KeepsProgram x x.leaveStandby := .of_whl rfl
  have htrigger (x : State) : KeepsProgram x x.safeTrigger := .ite (.of_whl (State.capCond_whl _ _ _ _ _ _)) (.refl x)
  have habort (x : State) : KeepsProgram x x.calAbort := .ite (.of_whl (State.event_whl _ _ _ _)) (.refl x)
  unfold State.safeEnter
  refine (KeepsProgram.ite (.refl s) (s.latchCauses_keepsProgram c)).trans (.ite (.refl _) (.ite (hpermit _) ?_))
  exact (((henter _).trans (hleave _)).trans (htrigger _)).trans (habort _)

theorem State.fatal_keepsProgram (s : State) (code b cause : Nat) (i : Info) :
    KeepsProgram s (s.fatal code (some b) cause i) := by
  have hlatch : KeepsProgram s (s.latchFatal code b i) := .of_whl (s.faultEntry_whl code i)
  rw [State.fatal_eq]
  exact (hlatch.trans (State.safeEnter_keepsProgram _ _)).trans
    (.of_unchanged (State.coilLiveFrom_steady _ _).parts (by decide))

/-! ## Words that are no instruction (R119, R494) -/

theorem exec_illegalInstruction {s : State} (t : Nat) (uecc : Bool) (h : s.canIssue = true)
    (hop : uecc = true ∨ s.fetchOp = none) : ∃ a, exec (.illegalInstruction t uecc) s =
      .next (if uecc then (s.at a).wheelUecc else (s.at a).wheelFault 1) := by
  refine ⟨max t s.whl.readyAt, ?_⟩
  change execIllegalInstruction _ _ _ = _
  unfold execIllegalInstruction State.issueAt
  dsimp only
  rw [if_pos h, State.at_canIssue, State.at_fetchOp, h]
  rcases hop with rfl | hop
  · rfl
  · rw [hop]
    rfl

theorem illegalInstruction_faults {s : State} (t : Nat) (h : s.canIssue = true) (hop : s.fetchOp = none) :
    Completes (.illegalInstruction t false) s fun u => FaultedWith 1 u ∧ u.whl.regs = s.whl.regs := by
  obtain ⟨a, hexec⟩ := exec_illegalInstruction t false h (.inr hop)
  refine .of_next hexec ⟨State.wheelFault_faults _ _, ?_⟩
  exact ((s.at a).wheelFault_keepsProgram 1).regs.trans (by rw [State.at_whl])

theorem illegalInstruction_uecc {s : State} (t : Nat) (h : s.canIssue = true) (hr : s.pins.inReset = false) :
    Completes (.illegalInstruction t true) s fun u =>
      u.mode.active = .safe ∧ bitOf u.log.fatal.toNat 2 = true ∧ u.whl.regs = s.whl.regs := by
  obtain ⟨a, hexec⟩ := exec_illegalInstruction t true h (.inl rfl)
  obtain ⟨-, hsafe, hbit⟩ := State.fatal_latches (s := s.at a) (by rw [State.at_pins, hr]) 0xE20 4 (by decide : 2 < 4)
    { detail := (s.at a).whl.pc }
  refine .of_next hexec ⟨hsafe, hbit, ?_⟩
  exact ((s.at a).fatal_keepsProgram 0xE20 2 4 _).regs.trans (by rw [State.at_whl])

/-- Settles O27: each command by what it does in the states of its clause. -/
theorem haltAndWheelCommands : Obligations.HaltAndWheelCommands :=
  ⟨⟨fun t _ => halt_beforeAnyPix t, fun t _ => halt_beforeTheClose t, fun t _ => halt_openPix t⟩,
    fun t p _ => wheelStart_starts t p, fun t p _ => wheelStart_without t p, fun t p _ => wheelStop_requests t p,
    fun t p _ => armSwap_arms t p, fun t p _ => armSwap_inGuard t p, fun t p _ => disarm_disarms t p,
    fun t p _ => wheelAbort_ends t p, fun t p ev _ => hostEventPost_adds t p ev, fun t n _ => wevEdge_adds t n,
    fun t p _ val _ => bankWrite_staged t p val, fun t p _ val _ => bankWrite_active t p val,
    fun t _ => illegalInstruction_faults t, fun t _ => illegalInstruction_uecc t⟩

end Sys2Proof.Machine
end

section
/-! PROOFS. What the log, the Coil and the entry into SAFE leave of emission (R93, R485, R494): the emitters, the pulse
under observation, and the EMT block's wide values with the updates that wait for them. -/

namespace Sys2Proof.Machine

/-! ## Changes that leave emission as it is -/

/-- Identifiers 0x1800 to 0x1FFF are those of the EMT block (R185). -/
def emtValue (id : Nat) : Bool := decide (id / 0x800 = 3)

/-- A wide value as the hardware holds it: its stored word and the updates that a freeze defers (R34). -/
def State.stored (s : State) (id : Nat) : BitVec 128 × List (Nat × WideUpd) :=
  (s.wideRaw id, s.deferred.filter (fun x => decide (x.1 = id)))

theorem State.wideN_stored (s : State) (id : Nat) :
    s.wideN id = ((s.stored id).2.foldl (fun v x => x.2.apply (idBits id) v) (s.stored id).1).toNat := rfl

/-- From `s` to `u` no wide value of the EMT block changes, and the same pulse is under observation. -/
structure MonitorKept (s u : State) : Prop where
  value : ∀ id, emtValue id = true → u.stored id = s.stored id
  obs : u.emt.obs = s.emt.obs

/-- The emitters keep their states too. -/
structure EmissionKept (s u : State) : Prop extends MonitorKept s u where
  emitters : u.emt.emitters = s.emt.emitters

section
variable {s u : State}

theorem MonitorKept.wideRaw (h : MonitorKept s u) {id : Nat} (hid : emtValue id = true) : u.wideRaw id = s.wideRaw id :=
  congrArg Prod.fst (h.value id hid)

theorem MonitorKept.wideN (h : MonitorKept s u) {id : Nat} (hid : emtValue id = true) : u.wideN id = s.wideN id := by
  rw [State.wideN_stored, State.wideN_stored, h.value id hid]

theorem MonitorKept.trans {a b c : State} (h : MonitorKept a b) (k : MonitorKept b c) : MonitorKept a c where
  value id hid := (k.value id hid).trans (h.value id hid)
  obs := k.obs.trans h.obs

theorem EmissionKept.em (h : EmissionKept s u) (k : Nat) : u.em k = s.em k := by
  unfold State.em
  rw [h.emitters]

end

namespace EmissionKept

/-- A change of other parts. -/
theorem of_same {s u : State} (h : (u.wide, u.deferred, u.emt.obs, u.emt.emitters) =
    (s.wide, s.deferred, s.emt.obs, s.emt.emitters)) : EmissionKept s u := by
  simp only [Prod.mk.injEq] at h
  obtain ⟨hwide, hdeferred, hobs, hemitters⟩ := h
  exact ⟨⟨fun id _ => by rw [State.stored, State.stored, State.wideRaw, State.wideRaw, hwide, hdeferred], hobs⟩, hemitters⟩

theorem of_unchanged {but : List Part} {s u : State} (h : Unchanged but s u)
    (hb : Part.wide ∉ but ∧ Part.deferred ∉ but ∧ Part.emt ∉ but) : EmissionKept s u := by
  obtain ⟨hwide, hdeferred, hemt⟩ := hb
  have hsame : u.emt = s.emt := h .emt hemt
  exact of_same (by rw [hsame, h.deferred hdeferred, show u.wide = s.wide from h .wide hwide])

theorem refl (s : State) : EmissionKept s s := of_same rfl

theorem trans {a b c : State} (h : EmissionKept a b) (k : EmissionKept b c) : EmissionKept a c :=
  ⟨h.toMonitorKept.trans k.toMonitorKept, k.emitters.trans h.emitters⟩

theorem ite {s x y : State} {c : Prop} [Decidable c] (hx : EmissionKept s x) (hy : EmissionKept s y) :
    EmissionKept s (if c then x else y) := by
  split
  · exact hx
  · exact hy

/-- A further step that is taken under a condition only. -/
theorem thenIf {s x y : State} {c : Prop} [Decidable c] (hx : EmissionKept s x) (hy : EmissionKept x y) :
    EmissionKept s (if c then y else x) := ite (hx.trans hy) hx

theorem foldl {α : Type} (l : List α) {f : State → α → State} (h : ∀ s a, EmissionKept s (f s a)) (s : State) :
    EmissionKept s (l.foldl f s) := by
  induction l generalizing s with
  | nil => exact refl s
  | cons a l ih => exact (h s a).trans (ih _)

end EmissionKept

/-! ## Events, values and faults -/

section
variable (s : State)

theorem State.event_emission (off b : Nat) (i : Info) : EmissionKept s (s.event off b i) :=
  .of_unchanged (s.event_unchanged off b i) (by decide)

theorem State.raise_emission (off : Nat) (f : BitVec 16) : EmissionKept s (s.raise off f) :=
  .of_unchanged (s.raise_unchanged off f) (by decide)

theorem State.logPush_emission (e : LogEntry) : EmissionKept s (s.logPush e) :=
  .of_unchanged (s.logPush_unchanged e) (by decide)

/-- A wide value of another block is updated. -/
theorem State.updWide_emission {id : Nat} (u : WideUpd) (h : emtValue id = false) : EmissionKept s (s.updWide id u) := by
  have hemt : (s.updWide id u).emt = s.emt := s.updWide_unchanged id u .emt (by decide)
  refine ⟨⟨fun o ho => ?_, by rw [hemt]⟩, by rw [hemt]⟩
  have hne : o ≠ id := by
    rintro rfl
    simp [h] at ho
  unfold State.stored
  by_cases hz : s.isFrozen id = true
  · obtain ⟨hwait, hword⟩ := State.updWide_frozen u hz
    rw [hword, hwait, List.filter_append]
    simp [hne.symm]
  · obtain ⟨hwait, hword⟩ := State.updWide_free u (by simpa using hz)
    rw [hwait, hword, if_neg hne]

theorem State.putWide_emission {id : Nat} (v : Nat) (h : emtValue id = false) : EmissionKept s (s.putWide id v) :=
  s.updWide_emission _ h

theorem State.bump_emission {id : Nat} (n : Nat) (h : emtValue id = false) : EmissionKept s (s.bump id n) :=
  .ite (.refl s) (s.updWide_emission _ h)

theorem State.setLog_emission (x : FaultLog) : EmissionKept s { s with log := x } := .of_same rfl

theorem State.faultEntry_emission (code : Nat) (i : Info) : EmissionKept s (s.faultEntry code i) :=
  (s.logPush_emission _).trans (State.raise_emission _ _ _)

theorem State.faultCe_emission (code : Nat) (i : Info) : EmissionKept s (s.faultCe code i) := by
  unfold State.faultCe
  exact .ite (((s.setLog_emission _).trans (State.logPush_emission _ _)).trans (State.raise_emission _ _ _))
    ((s.setLog_emission _).trans (State.bump_emission _ _ (by decide)))

theorem State.fault_emission (code off : Nat) (f : BitVec 16) (i : Info) : EmissionKept s (s.fault code off f i) :=
  (s.raise_emission _ _).trans (.ite (State.faultCe_emission _ _ _) (State.faultEntry_emission _ _ _))

/-! ## The log settles (R350, R352, R485) -/

theorem State.setMem_emission (x : Mem) : EmissionKept s { s with mem := x } := .of_same rfl

theorem State.setCap_emission (x : Capture) : EmissionKept s { s with cap := x } := .of_same rfl

theorem State.memPut_emission (a n v : Nat) : EmissionKept s (s.memPut a n v) :=
  .foldl _ (fun x _ => x.setMem_emission _) s

theorem State.recMove_emission (off : Nat) : EmissionKept s (s.recMove off) := .ite (.of_same rfl) (.of_same rfl)

theorem State.recPtr_emission : EmissionKept s s.recPtr := s.putWide_emission _ (by decide)

theorem State.portFault_emission (p l c q : Nat) : EmissionKept s (s.portFault p l c q) :=
  (s.putWide_emission _ (by decide)).trans (State.fault_emission _ _ _ _ _)

theorem State.recPut_emission (r : BitVec 128) : EmissionKept s (s.recPut r) := by
  have hlost (x : State) (v : Nat) : EmissionKept x ((x.bump Id.CAP_REC_FAULTS).putWide Id.CAP_REC_BAD v) :=
    (x.bump_emission _ (by decide)).trans (State.putWide_emission _ _ (by decide))
  unfold State.recPut
  refine .ite (.refl s) (.ite ?_ ?_)
  · exact ((s.memPut_emission _ _ _).trans (State.recMove_emission _ _)).trans (State.recPtr_emission _)
  · exact (((((s.portFault_emission _ _ _ _).trans (State.fault_emission _ _ _ _ _)).trans (hlost _ _)).trans
      (State.setCap_emission _ _)).trans (State.recMove_emission _ _)).trans (State.recPtr_emission _)

theorem State.recWrite_emission (r : BitVec 128) : EmissionKept s (s.recWrite r) := by
  unfold State.recWrite
  split
  · exact s.recPut_emission r
  · exact ((s.setCap_emission _).trans (State.recPut_emission _ _)).trans (State.recPut_emission _ _)

theorem State.logRing_emission (e : LogEntry) : EmissionKept s (s.logRing e) :=
  .thenIf (s.setLog_emission _) (State.raise_emission _ _ _)

theorem State.logHost_emission (r : BitVec 128) : EmissionKept s (s.logHost r) :=
  .ite (.of_same rfl) ((s.bump_emission _ (by decide)).trans (State.raise_emission _ _ _))

theorem State.logCommit_emission (e : LogEntry) : EmissionKept s (s.logCommit e) :=
  .thenIf ((s.logRing_emission e).trans (State.logHost_emission _ _)) (State.recWrite_emission _ _)

/-- The passing of time leaves emission as it is. -/
theorem State.at_emission (t : Nat) : EmissionKept s (s.at t) := by
  have hnow : EmissionKept s { s with now := max s.now t } := .of_same rfl
  unfold State.at State.settleLog
  exact hnow.trans (.ite (.refl _) ((State.setLog_emission _ _).trans (.foldl _ State.logCommit_emission _)))

/-! ## The Coil (R407) -/

theorem State.modCoil_emission (f : Coil → Coil) : EmissionKept s (s.modCoil f) := .of_same rfl

theorem State.coilTo_emission (cls typ dst : Nat) (l : List (BitVec 128)) : EmissionKept s (s.coilTo cls typ dst l) := by
  have hsend (x : CoilPkt) : EmissionKept s (s.coilSend x) := .ite (s.modCoil_emission _) (.refl s)
  have hused (x : State) (c : Nat) : EmissionKept x (x.coilSeqUsed c) := x.modCoil_emission _
  unfold State.coilTo
  split
  · exact (hsend _).trans (hused _ _)
  · exact .refl s

theorem emtValue_node (a : Nat) : emtValue (Id.COIL_NODE + a) = false := by
  unfold emtValue Id.COIL_NODE
  exact decide_eq_false (by omega)

theorem State.coilReport_emission (a w f o : Nat) : EmissionKept s (s.coilReport a w f o) :=
  .thenIf ((s.putWide_emission _ (emtValue_node _)).trans (State.modCoil_emission _ _)) (State.event_emission _ _ _ _)

theorem State.coilStatus_emission : EmissionKept s s.coilStatus :=
  .ite ((s.modCoil_emission _).trans (.ite (State.coilReport_emission _ _ _ _ _) (State.coilTo_emission _ _ _ _ _)))
    (.refl s)

theorem State.coilLive_emission (n : Nat) : EmissionKept s (s.coilLive n) := .ite (.refl s) s.coilStatus_emission

theorem State.coilLiveFrom_emission (a : State) : EmissionKept s (s.coilLiveFrom a) :=
  .ite (s.coilLive_emission _) (.refl s)

/-! ## The entry into SAFE (R93, R94) -/

theorem State.latchCauses_emission (c : Nat) : EmissionKept s (s.latchCauses c) :=
  (s.raise_emission _ _).trans (.foldl _ (fun x _ => .ite (x.logPush_emission _) (.refl x)) _)

theorem State.voidOpenPixel_emission (c : Nat) : EmissionKept s (s.voidOpenPixel c) := by
  have hkiln (x : State) (k : Nat) (f : Kiln → Kiln) : EmissionKept x (x.modKiln k f) := .of_same rfl
  unfold State.voidOpenPixel
  split
  · exact .refl s
  · refine EmissionKept.trans (.foldl _ (fun x k => ?_) s) (.of_same rfl)
    exact ((hkiln x _ _).trans (hkiln _ _ _)).trans (State.event_emission _ _ _ _)

theorem State.safeCut_emission (c : Nat) : EmissionKept s (s.safeCut c) := by
  have hboot : EmissionKept s s.interruptBoot := .ite (.of_same rfl) (.refl s)
  have hstop (x : State) : EmissionKept x x.stopBurst := .of_same rfl
  have hdrop (x : State) : EmissionKept x x.dropOssd :=
    .ite ((x.setCap_emission _).trans (State.event_emission _ _ _ _)) (.refl x)
  have hframe (x : State) (n : Nat) (f : FrameQ → FrameQ) : EmissionKept x (x.modFrame n f) := .of_same rfl
  have hcut (x : State) (d : CutInfo) : EmissionKept x (x.cutFrame d) :=
    (EmissionKept.thenIf (x.voidOpenPixel_emission _) (hframe _ _ _)).trans (.of_same rfl)
  have hhalt (x : State) (f : Bool) : EmissionKept x (x.haltWheel f) :=
    .thenIf (.of_same rfl) (State.event_emission _ _ _ _)
  exact (((hboot.trans (hstop _)).trans (hdrop _)).trans (hcut _ _)).trans (hhalt _ _)

theorem State.safeEnter_emission (c : Nat) : EmissionKept s (s.safeEnter c) := by
  have hpermit (x : State) : EmissionKept x x.permitOff := .of_unchanged x.permitOff_unchanged (by decide)
  have hmode (x : State) (m : Modes) : EmissionKept x { x with mode := m } := .of_same rfl
  have hset (x : State) (m : Mode) : EmissionKept x (x.setMode m) :=
    ((hmode x _).trans (State.event_emission _ _ _ _)).trans (State.coilStatus_emission _)
  have henter (x : State) : EmissionKept x (((x.safeCut c).permitOff.setMode .safe).event Reg.GLB_MODE_STAT 3 {}) :=
    (((x.safeCut_emission c).trans (hpermit _)).trans (hset _ _)).trans (State.event_emission _ _ _ _)
  have hleave (x : State) : EmissionKept x x.leaveStandby := .of_same rfl
  have htrigger (x : State) : EmissionKept x x.safeTrigger := .ite (.ite (x.setCap_emission _) (.refl x)) (.refl x)
  have hcal (x : State) (y : Calib) : EmissionKept x { x with cal := y } := .of_same rfl
  have habort (x : State) : EmissionKept x x.calAbort := .ite ((hcal x _).trans (State.event_emission _ _ _ _)) (.refl x)
  unfold State.safeEnter
  refine (EmissionKept.ite (.refl s) (s.latchCauses_emission c)).trans (.ite (.refl _) (.ite (hpermit _) ?_))
  exact (((henter _).trans (hleave _)).trans (htrigger _)).trans (habort _)

/-- A unit-fatal fault without a latched reason leaves the emitters and the observation to the one that raised it. -/
theorem State.fatal_emission (code cause : Nat) (i : Info) : EmissionKept s (s.fatal code none cause i) :=
  ((s.faultEntry_emission code i).trans (State.safeEnter_emission _ _)).trans (State.coilLiveFrom_emission _ _)

end

end Sys2Proof.Machine
end

section
/-! PROOFS. The driver bus, the refill of the buckets, and the commands on all emitters (R157 to R160, R165, R170, R176,
R181, R183). -/

namespace Sys2Proof.Machine

/-! ## Emitters -/

theorem State.modEm_em (s : State) (k : Nat) (f : Emitter → Emitter) (j : Nat) :
    (s.modEm k f).em j = if j = k then f (s.em k) else s.em j := fget_fset _ _ _ _ _

theorem State.modEm_unchanged (s : State) (k : Nat) (f : Emitter → Emitter) : Unchanged [.emt] s (s.modEm k f) :=
  s.setEmt_unchanged _

/-- A change of one emitter after the other changes each of them once. -/
theorem forN_em {f : State → Nat → State} {g : Emitter → Emitter}
    (h : ∀ s k j, (f s k).em j = if j = k then g (s.em k) else s.em j) (n : Nat) (s : State) (j : Nat) :
    (forN n s f).em j = if j < n then g (s.em j) else s.em j := by
  induction n generalizing j with
  | zero => rfl
  | succ n ih =>
    rw [forN_succ, h, ih, ih, if_neg (Nat.lt_irrefl n)]
    by_cases hj : j = n
    · simp [hj]
    · rw [if_neg hj]
      exact if_congr (by omega) rfl rfl

theorem State.placeProofs_unchanged (s : State) : Unchanged [.emt] s s.placeProofs :=
  .forN (fun s k => .ite (s.placeProof_unchanged k) (.refl _ s)) s

theorem State.placeProofs_emission (s : State) : EmissionKept s s.placeProofs := by
  have hplace (x : State) (k : Nat) : EmissionKept x (x.placeProof k) := by
    unfold State.placeProof
    dsimp only
    split
    · exact .of_same rfl
    · exact .refl x
  exact .foldl _ (fun x k => .ite (hplace x k) (.refl x)) s

/-! ## TABLE packets (R157, R159, R160) -/

/-- A table is to be sent, and a channel of it is left (R159). -/
def State.tableWaits (s : State) : Prop :=
  (s.emt.tblFrame = true ∨ s.emt.dirty = true) ∧ s.emt.tblNext < 32 ∧ s.onVco = true

/-- The CRC-8 of the next channel's packet. -/
def State.tableCrc (s : State) : Nat := crc8 120 (tableBits s.emt.tblNext (fget 0 s.emt.codeSnap s.emt.tblNext))

/-- The next channel's packet is sent, and `echo` comes back. -/
def State.tableSent (s : State) (echo : Byte) : State :=
  if s.tableCrc = echo.toNat then s.tblAdvance true
  else if s.emt.tblTried then
    (s.tblAdvance false).event Reg.EMT_STAT 3 { inst := s.emt.tblNext, detail := s.emt.tblNext }
  else ({ s with emt := { s.emt with tblTried := true } }).bump Id.EMT_DRV_RESENDS

theorem exec_tablePacket {s : State} (t : Nat) (echo : Byte) (h : s.tableWaits) :
    exec (.tablePacket t echo) s = .next ((s.at t).tableSent echo) := by
  obtain ⟨htable, hnext, hvco⟩ := h
  have hsends : (((s.at t).emt.tblFrame || (s.at t).emt.dirty) && decide ((s.at t).emt.tblNext < 32) &&
      (s.at t).onVco) = true := by simp [htable, hnext, hvco, State.at_onVco]
  change execTablePacket t echo s = _
  unfold execTablePacket State.tableSent
  dsimp only
  rw [if_pos hsends]
  change (if (s.at t).tableCrc = echo.toNat then _ else _) = _
  split
  · rfl
  · split <;> rfl

theorem tablePacket_without {s : State} (t : Nat) (echo : Byte)
    (h : (s.emt.tblFrame = false ∧ s.emt.dirty = false) ∨ 32 ≤ s.emt.tblNext ∨ s.onVco = false) :
    Completes (.tablePacket t echo) s fun u => u = s.at t := by
  refine .of_next (if_neg ?_) rfl
  rw [State.at_emt, State.at_onVco]
  rcases h with ⟨hframe, hdirty⟩ | hdone | hvco
  · simp [hframe, hdirty]
  · simp [Nat.not_lt.mpr hdone]
  · simp [hvco]

theorem State.tblAdvance_unchanged (s : State) (ok : Bool) : Unchanged [.emt] s (s.tblAdvance ok) := s.setEmt_unchanged _

theorem State.tableSent_unchanged (s : State) (echo : Byte) : Unchanged ([.emt] ++ recording) s (s.tableSent echo) := by
  have hadvance (ok : Bool) : Unchanged ([.emt] ++ recording) s (s.tblAdvance ok) :=
    (s.tblAdvance_unchanged ok).mono (by decide)
  have hresend (x : State) : Unchanged ([.emt] ++ recording) x (x.bump Id.EMT_DRV_RESENDS) :=
    (State.bump_quiet x _ _).unchanged.mono (by decide)
  exact .ite (hadvance true) (.ite ((hadvance false).trans ((State.event_recording _ _ _ _).mono (by decide)))
    (((s.setEmt_unchanged _).mono (by decide)).trans (hresend _)))

/-- The packet's echo is right: the channel is done and noted. -/
theorem State.tableSent_echoed {s : State} {echo : Byte} (h : s.tableCrc = echo.toNat) :
    s.tableSent echo = s.tblAdvance true := if_pos h

/-- The first wrong echo: the packet is sent again, and counted. -/
theorem State.tableSent_again {s : State} {echo : Byte} (h : s.tableCrc ≠ echo.toNat) (ht : s.emt.tblTried = false) :
    s.tableSent echo = ({ s with emt := { s.emt with tblTried := true } }).bump Id.EMT_DRV_RESENDS := by
  rw [State.tableSent, if_neg h, ht, if_neg Bool.false_ne_true]

/-- The second wrong echo: the channel is passed over and flagged. -/
theorem State.tableSent_passedOver {s : State} {echo : Byte} (h : s.tableCrc ≠ echo.toNat) (ht : s.emt.tblTried = true) :
    s.tableSent echo =
      (s.tblAdvance false).event Reg.EMT_STAT 3 { inst := s.emt.tblNext, detail := s.emt.tblNext } := by
  rw [State.tableSent, if_neg h, ht, if_pos rfl]

theorem State.tableSent_active (s : State) (echo : Byte) : (s.tableSent echo).emt.active = s.emt.active := by
  unfold State.tableSent
  split
  · rfl
  · split
    · rw [State.event_emt]
      rfl
    · rw [State.bump_emt]

/-- What one TABLE packet does to the channel, the echoes noted, the count of packets sent again and the flag. -/
theorem tablePacket_sends {s : State} (t : Nat) (echo : Byte) (h : s.tableWaits) :
    Completes (.tablePacket t echo) s fun u => Unchanged ([.emt] ++ recording) s u ∧ u.emt.active = s.emt.active ∧
      (s.tableCrc = echo.toNat → u.emt.tblNext = s.emt.tblNext + 1 ∧
        u.emt.tblAck = s.emt.tblAck ||| BitVec.ofNat 32 (2 ^ s.emt.tblNext) ∧ u.emt.tblTried = false) ∧
      (s.tableCrc ≠ echo.toNat → s.emt.tblTried = false → u.emt = { s.emt with tblTried := true } ∧
        (s.isFrozen Id.EMT_DRV_RESENDS = false → bitsOf (u.wideRaw Id.EMT_DRV_RESENDS).toNat 31 0 =
          (bitsOf ((s.at t).wideRaw Id.EMT_DRV_RESENDS).toNat 31 0 + 1) % 2 ^ 32)) ∧
      (s.tableCrc ≠ echo.toNat → s.emt.tblTried = true → u.emt.tblNext = s.emt.tblNext + 1 ∧
        u.emt.tblAck = s.emt.tblAck ∧ u.emt.tblTried = false ∧ u.shows Reg.EMT_STAT 3) := by
  have htime := (s.at_unchanged t).mono (more := [.emt] ++ recording) (by decide)
  have hfrozen := s.at_isFrozen t Id.EMT_DRV_RESENDS
  have hemt : (s.at t).emt = s.emt := s.at_emt t
  have hcrc : (s.at t).tableCrc = s.tableCrc := by rw [State.tableCrc, hemt, ← State.tableCrc]
  refine .of_next (exec_tablePacket t echo h) ?_
  generalize s.at t = b at htime hfrozen hemt hcrc ⊢
  rw [← hcrc, ← hemt]
  refine ⟨htime.trans (b.tableSent_unchanged echo), b.tableSent_active echo, fun hok => ?_, fun hbad hfirst => ?_,
    fun hbad hsecond => ?_⟩
  · rw [State.tableSent_echoed hok]
    exact ⟨rfl, rfl, rfl⟩
  · rw [State.tableSent_again hbad hfirst]
    refine ⟨State.bump_emt _ _ _, fun hf => ?_⟩
    have hfree : ({ b with emt := { b.emt with tblTried := true } } : State).isFrozen Id.EMT_DRV_RESENDS = false :=
      hfrozen.trans hf
    exact State.bump_counts (by decide) hfree
  · rw [State.tableSent_passedOver hbad hsecond, State.event_emt]
    exact ⟨rfl, rfl, rfl, State.event_shows _ _ (by decide) _⟩

/-! ## SELECT packets (R157 to R160) -/

/-- A SELECT of profile 0 to 15 has odd parity over its eight bits. -/
theorem selectBits_odd (commit : Bool) {prof : Nat} (h : prof < 16) :
    popCount 8 (BitVec.ofNat 8 (selectBits commit prof)).toNat % 2 = 1 := by
  have hall : ∀ commit : Bool, ∀ prof < 16,
      popCount 8 (BitVec.ofNat 8 (selectBits commit prof)).toNat % 2 = 1 := by decide
  exact hall commit prof h

/-- A table changed outside the scanning modes is complete: a SELECT of its own commits it (R160). -/
def State.commitsAlone (s : State) : Bool := !s.mode.active.scanning && s.emt.dirty && s.emt.tblDoneAt.isSome

theorem State.at_commitsAlone (s : State) (t : Nat) : (s.at t).commitsAlone = s.commitsAlone := by
  rw [State.commitsAlone, State.at_mode, State.at_emt, ← State.commitsAlone]

/-- The SELECT with its commit bit is on the bus. -/
def State.selectSent (s : State) (commit : Bool) : State :=
  { s with emt := { s.emt with
    sel := BitVec.ofNat 8 (selectBits commit s.selProfile), lastProfile := s.selProfile } }

theorem exec_selectPacket (t : Nat) (s : State) : ∃ commit, exec (.selectPacket t) s = .next
    (if (s.at t).commitsAlone then ((s.at t).selectSent commit).tblCommit else (s.at t).selectSent commit) := ⟨_, rfl⟩

theorem selectPacket_selects (t : Nat) (s : State) : Completes (.selectPacket t) s fun u =>
    Unchanged [.emt] (s.at t) u ∧ u.emt.lastProfile = (s.at t).selProfile ∧
      ((s.at t).selProfile < 16 → popCount 8 u.emt.sel.toNat % 2 = 1) ∧
      (s.commitsAlone = true → u.emt.active = s.emt.codeSnap ∧ u.emt.width = s.emt.widthSnap ∧ u.emt.dirty = false) ∧
      (s.commitsAlone = false → u.emt.active = s.emt.active ∧ u.emt.width = s.emt.width ∧ u.emt.dirty = s.emt.dirty) := by
  obtain ⟨commit, hexec⟩ := exec_selectPacket t s
  have hemt : (s.at t).emt = s.emt := s.at_emt t
  rw [State.at_commitsAlone] at hexec
  refine .of_next hexec ?_
  generalize s.at t = b at hemt ⊢
  have hsent : Unchanged [.emt] b (b.selectSent commit) := b.setEmt_unchanged _
  have hodd : b.selProfile < 16 → popCount 8 (b.selectSent commit).emt.sel.toNat % 2 = 1 := selectBits_odd commit
  rw [← hemt]
  cases hlone : s.commitsAlone
  · rw [if_neg Bool.false_ne_true]
    exact ⟨hsent, rfl, hodd, fun hc => absurd hc Bool.false_ne_true, fun _ => ⟨rfl, rfl, rfl⟩⟩
  · rw [if_pos rfl]
    exact ⟨hsent.trans (State.setEmt_unchanged _ _), rfl, hodd, fun _ => ⟨rfl, rfl, rfl⟩, fun hc => by cases hc⟩

theorem drvResend_restarts {s : State} (t : Nat) (p : Path) (hg : s.gated = false) : Completes (.drvResend t p) s fun u =>
    Unchanged [.emt] (s.at t) u ∧ u.emt.tblNext = 0 ∧ u.emt.tblAck = 0 ∧ u.emt.tblDoneAt = none ∧
      u.emt.active = s.emt.active ∧ u.emt.width = s.emt.width ∧ (u.emt.tblFrame = true ∨ u.emt.dirty = true) := by
  refine .of_next (congrArg Host.Outcome.next (State.onBar_at hg t _)) ?_
  rw [← s.at_emt t]
  refine ⟨State.setEmt_unchanged _ _, rfl, rfl, rfl, rfl, rfl, ?_⟩
  change (s.at t).emt.tblFrame = true ∨ ((s.at t).emt.dirty || !(s.at t).emt.tblFrame) = true
  cases (s.at t).emt.tblFrame <;> simp

/-! ## The Budget Monitor and the pulse monitor (R165, R170) -/

/-- A bucket's content by its capacity and its rate, those of the fast buckets where `i` is 0, else of the slow ones. -/
theorem State.bucket_eq (s : State) (k sec i : Nat) : s.bucket k sec i =
    min (s.wideN (Id.EMT_EBM_FAST_CAP + if i = 0 then 0 else 2))
      ((fget (0, 0) s.emt.buckets (bucketKey k sec i)).1 + s.wideN (Id.EMT_EBM_FAST_CAP + if i = 0 then 1 else 3) *
        (s.emt.refills - (fget (0, 0) s.emt.buckets (bucketKey k sec i)).2)) := by
  unfold State.bucket
  split <;> rfl

/-- One refill more, made now. -/
def State.refilled (s : State) : State := { s with emt := { s.emt with refills := s.emt.refills + 1, refillAt := s.now } }

/-- One refill adds the rate to a bucket, held at its capacity (R165). -/
theorem State.refilled_bucket {s u : State} (hkept : ∀ id, emtValue id = true → u.wideN id = s.wideN id)
    (hbuckets : u.emt.buckets = s.emt.buckets) (hrefills : u.emt.refills = s.emt.refills + 1) {k sec i : Nat}
    (h : (fget (0, 0) s.emt.buckets (bucketKey k sec i)).2 ≤ s.emt.refills) :
    u.bucket k sec i = min (s.wideN (Id.EMT_EBM_FAST_CAP + if i = 0 then 0 else 2))
      (s.bucket k sec i + s.wideN (Id.EMT_EBM_FAST_CAP + if i = 0 then 1 else 3)) := by
  have hcap : emtValue (Id.EMT_EBM_FAST_CAP + if i = 0 then 0 else 2) = true := by split <;> decide
  have hrate : emtValue (Id.EMT_EBM_FAST_CAP + if i = 0 then 1 else 3) = true := by split <;> decide
  rw [State.bucket_eq, State.bucket_eq, hkept _ hcap, hkept _ hrate, hbuckets, hrefills, Nat.succ_sub h, Nat.mul_succ]
  omega

theorem ebmRefill_refills {s : State} (t : Nat) (hvco : s.onVco = true) : Completes (.ebmRefill t) s fun u =>
    u.now = max s.now (max t (s.emt.refillAt + 1024)) ∧
      u.emt = { s.emt with refills := s.emt.refills + 1, refillAt := u.now } ∧ Unchanged ([.emt] ++ recording) s u ∧
      ∀ k sec i, (fget (0, 0) s.emt.buckets (bucketKey k sec i)).2 ≤ s.emt.refills →
        u.bucket k sec i = min (s.wideN (Id.EMT_EBM_FAST_CAP + if i = 0 then 0 else 2))
          (s.bucket k sec i + s.wideN (Id.EMT_EBM_FAST_CAP + if i = 0 then 1 else 3)) := by
  have htime := (s.at_unchanged (max t (s.emt.refillAt + 1024))).mono (more := [.emt] ++ recording) (by decide)
  have hkept := (s.at_emission (max t (s.emt.refillAt + 1024))).toMonitorKept
  have hnow := s.at_now (max t (s.emt.refillAt + 1024))
  have hemt := s.at_emt (max t (s.emt.refillAt + 1024))
  refine .of_next (u := (s.at (max t (s.emt.refillAt + 1024))).refilled) (if_pos (by rwa [State.at_onVco])) ?_
  generalize s.at (max t (s.emt.refillAt + 1024)) = b at htime hkept hnow hemt ⊢
  have hemt' : b.refilled.emt = { s.emt with refills := s.emt.refills + 1, refillAt := b.now } := by
    rw [State.refilled, hemt]
  refine ⟨hnow, hemt', htime.trans ((b.setEmt_unchanged _).mono (by decide)), fun k sec i hle => ?_⟩
  exact State.refilled_bucket (u := b.refilled) (fun id hid => hkept.wideN hid) (by rw [← hemt]; rfl)
    (by rw [← hemt]; rfl) hle

theorem refbufReady_readies {s : State} (t : Nat) {a : Nat} (h : s.emt.refbufAt = some a) :
    Completes (.refbufReady t) s fun u => a ≤ u.now ∧ u.emt = { s.emt with refbufReady := true, refbufAt := none } ∧
      Unchanged [.emt] (s.at (max t a)) u := by
  have hexec : exec (.refbufReady t) s = .next
      { s.at (max t a) with emt := { (s.at (max t a)).emt with refbufReady := true, refbufAt := none } } := by
    change execRefbufReady t s = _
    unfold execRefbufReady
    rw [h]
  refine .of_next hexec ⟨?_, by rw [State.at_emt], State.setEmt_unchanged _ _⟩
  change a ≤ (s.at (max t a)).now
  rw [State.at_now]
  omega

/-! ## CLEAR_FAIL and PROVE_ALL (R176, R181) -/

/-- A failed emitter waits for its proof. -/
def Emitter.cleared (e : Emitter) : Emitter := { e with st := 6, wholeOff := false, cls := 0 }

/-- The FAILED emitters are cleared. -/
def State.clearEmitters (s : State) : State :=
  forN 32 s (fun s k =>
    if (s.em k).st = 5 then s.modEm k (fun e => { e with st := 6, wholeOff := false, cls := 0 }) else s)

theorem State.clearEmitters_em (s : State) {k : Nat} (h : k < 32) :
    s.clearEmitters.em k = if (s.em k).st = 5 then (s.em k).cleared else s.em k := by
  rw [State.clearEmitters, forN_em (g := fun e => if e.st = 5 then e.cleared else e), if_pos h]
  intro x k j
  by_cases h5 : (x.em k).st = 5
  · rw [if_pos h5, if_pos h5, State.modEm_em, Emitter.cleared]
  · rw [if_neg h5, if_neg h5]
    by_cases hj : j = k
    · rw [hj, if_pos rfl]
    · rw [if_neg hj]

theorem State.clearEmitters_unchanged (s : State) : Unchanged [.emt] s s.clearEmitters :=
  .forN (fun s k => .ite (s.modEm_unchanged k _) (.refl _ s)) s

/-- CLEAR_FAIL is accepted in SAFE, READY and SERVICE, not from Greenware, and not in the cycle of a failure (R181,
R182). -/
def State.clearsFail (s : State) (p : Path) : Prop :=
  p ≠ .greenware ∧ (s.mode.active = .safe ∨ s.mode.active = .ready ∨ s.mode.active = .service) ∧
    ∀ a, s.emt.failAt = some a → s.sameCycle a s.now = false

theorem State.clearFail_accepted {s : State} {p : Path} (h : s.clearsFail p) :
    s.clearFail p = if s.clearEmitters.whl.frameOpen then s.clearEmitters.placeProofs else s.clearEmitters := by
  obtain ⟨hpath, hmode, hcycle⟩ := h
  unfold State.clearFail State.clearEmitters
  dsimp only
  rw [if_neg]
  split
  · next a ha => simpa [hpath, hcycle a ha] using fun hsafe hready => (hmode.resolve_left hsafe).resolve_left hready
  · simpa [hpath] using fun hsafe hready => (hmode.resolve_left hsafe).resolve_left hready

theorem State.clearFail_refused {s : State} {p : Path} (h : ¬ s.clearsFail p) :
    s.clearFail p = s.event Reg.EMT_STAT 11 { path := pathCode p } := by
  unfold State.clearFail
  refine if_pos ?_
  by_contra hno
  refine h ?_
  unfold State.clearsFail
  cases hat : s.emt.failAt with
  | none =>
    simp [hat] at hno ⊢
    tauto
  | some a =>
    simp [hat] at hno ⊢
    tauto

theorem State.clearFail_em {s : State} {p : Path} (h : s.clearsFail p) {k : Nat} (hk : k < 32) :
    (s.clearFail p).em k = if (s.em k).st = 5 then (s.em k).cleared else s.em k := by
  rw [State.clearFail_accepted h, ← s.clearEmitters_em hk]
  exact (EmissionKept.ite (State.placeProofs_emission _) (.refl _)).em k

theorem State.clearFail_unchanged (s : State) (p : Path) : Unchanged ([.emt] ++ recording) s (s.clearFail p) := by
  by_cases h : s.clearsFail p
  · rw [State.clearFail_accepted h]
    exact (s.clearEmitters_unchanged.trans (.ite (State.placeProofs_unchanged _) (.refl _ _))).mono (by decide)
  · rw [State.clearFail_refused h]
    exact (s.event_recording _ _ _).mono (by decide)

theorem clearFail_clearsOrRefuses {s : State} (t : Nat) (p : Path) (hg : s.gated = false) :
    Completes (.clearFail t p) s fun u =>
      ((s.at t).clearsFail p → ∀ k, k < 32 → ((s.em k).st = 5 → (u.em k).st = 6 ∧ (u.em k).wholeOff = false) ∧
        ((s.em k).st ≠ 5 → u.em k = s.em k)) ∧
      (¬ (s.at t).clearsFail p → u.emt = s.emt ∧ u.shows Reg.EMT_STAT 11) ∧
      Unchanged ([.emt, .coil] ++ recording) s u := by
  refine .of_next (congrArg Host.Outcome.next (State.onBar_at hg t _)) ?_
  have htime := (s.at_unchanged t).mono (more := [.emt, .coil] ++ recording) (by decide)
  have hemt := s.at_emt t
  generalize s.at t = b at htime hemt ⊢
  have hcoil := (b.clearFail p).coilLive_steady b.safeLive
  have hlive : (b.clearFailed p).emt = (b.clearFail p).emt := hcoil.parts .emt (by decide)
  have hshown := (State.coilLive_keepsClock (b.clearFail p) b.safeLive).shows Reg.EMT_STAT 11
  have hem (k : Nat) : (b.clearFailed p).em k = (b.clearFail p).em k := by rw [State.em, hlive, ← State.em]
  have hstart (k : Nat) : b.em k = s.em k := by rw [State.em, hemt, ← State.em]
  refine ⟨fun hok k hk => ?_, fun hno => ?_, (htime.trans ((b.clearFail_unchanged p).mono (by decide))).trans
    (hcoil.parts.mono (by decide))⟩
  · rw [hem, State.clearFail_em hok hk, hstart]
    exact ⟨fun h5 => by rw [if_pos h5]; exact ⟨rfl, rfl⟩, fun h5 => if_neg h5⟩
  · have hflag : (b.clearFail p).shows Reg.EMT_STAT 11 := by
      rw [State.clearFail_refused hno]
      exact State.event_shows _ _ (by decide) _
    exact ⟨by rw [hlive, State.clearFail_refused hno, State.event_emt, hemt], hshown hflag⟩

theorem proveAll_requests {s : State} (t : Nat) (p : Path) (hg : s.gated = false) : Completes (.proveAll t p) s fun u =>
    Unchanged [.emt] (s.at t) u ∧ ∀ k, k < 32 → u.em k = { s.em k with proveReq := true } := by
  refine .of_next (congrArg Host.Outcome.next (State.onBar_at hg t _))
    ⟨.forN (fun s k => s.modEm_unchanged k _) _, fun k hk => ?_⟩
  rw [State.proveAll, forN_em (g := fun e => { e with proveReq := true }) (fun s k j => s.modEm_em k _ j), if_pos hk,
    (s.at_emission t).em]

/-- Settles O38: each command by what it does in the states of its clause. -/
theorem driverTablesAndBuckets : Obligations.DriverTablesAndBuckets :=
  ⟨fun t echo _ => ⟨tablePacket_sends t echo, tablePacket_without t echo⟩, fun t s => selectPacket_selects t s,
    fun t p _ => drvResend_restarts t p, fun t _ => ebmRefill_refills t, fun t _ _ => refbufReady_readies t,
    fun t p s hg => by
      have hclear := clearFail_clearsOrRefuses t p hg
      rw [State.clearsFail, State.at_mode, State.at_emt] at hclear
      exact hclear, fun t p _ => proveAll_requests t p⟩

end Sys2Proof.Machine
end

section
/-! PROOFS. Failures, failed proofs and observations (R173, R174, R176, R178, R180, R185): what each leaves of the monitor,
and the state in which it leaves its emitter. -/

namespace Sys2Proof.Machine

/-! ## Failures (R180) -/

/-- The emitter is FAILED with this class. -/
def Emitter.failed (e : Emitter) (cls : Nat) (whole : Bool) : Emitter :=
  { e with st := 5, cls, wholeOff := whole, opens := 0 }

/-- A failure takes WHOLE_OFF effect by the policy in force, and always where it is SHORT or OVER. -/
def State.failsWhole (s : State) (cls : Nat) : Bool := !s.emt.policy || decide (cls = 2 ∨ cls = 3)

/-- A failure marks its emitter, in a state `x`, before the fault is logged. -/
theorem State.emtFail_marks {s : State} {k : Nat} (h : (s.em k).st ≠ 5) (cls m : Nat) :
    ∃ x i, s.emtFail k cls m = (if s.failsWhole cls then (x.stopBurst.fatal 0xE30 none 2 i).coilLiveFrom s
      else x.faultEntry 0xA30 i) ∧ MonitorKept s x ∧ x.pins = s.pins ∧
      ∀ j, x.em j = if j = k then (s.em k).failed cls (s.failsWhole cls) else s.em j := by
  refine ⟨_, _, if_neg h, ?_, ?_, fun j => ?_⟩
  · refine MonitorKept.trans ?_ (State.raise_emission _ _ _).toMonitorKept
    exact ⟨fun _ _ => rfl, rfl⟩
  · exact State.raise_pins _ _ _
  · rw [(State.raise_emission _ _ _).em]
    exact s.modEm_em k (fun e => e.failed cls (s.failsWhole cls)) j

/-- What the fault of a failure leaves of the state `x` in which the emitter is marked. -/
theorem State.failFault_emission (s x : State) (whole : Bool) (i : Info) : EmissionKept x
    (if whole then (x.stopBurst.fatal 0xE30 none 2 i).coilLiveFrom s else x.faultEntry 0xA30 i) := by
  have hstop : EmissionKept x x.stopBurst := .of_same rfl
  exact .ite ((hstop.trans (State.fatal_emission _ _ _ _)).trans (State.coilLiveFrom_emission _ _))
    (x.faultEntry_emission _ _)

theorem State.emtFail_monitor (s : State) (k cls m : Nat) : MonitorKept s (s.emtFail k cls m) := by
  by_cases h : (s.em k).st = 5
  · rw [State.emtFail, if_pos h]
    exact (EmissionKept.refl s).toMonitorKept
  · obtain ⟨x, i, hfail, hkept, -⟩ := State.emtFail_marks h cls m
    rw [hfail]
    exact hkept.trans (State.failFault_emission _ _ _ _).toMonitorKept

theorem State.emtFail_em {s : State} {k : Nat} (h : (s.em k).st ≠ 5) (cls m : Nat) :
    (s.emtFail k cls m).em k = (s.em k).failed cls (s.failsWhole cls) := by
  obtain ⟨x, i, hfail, -, -, hem⟩ := State.emtFail_marks h cls m
  rw [hfail, (State.failFault_emission _ _ _ _).em, hem, if_pos rfl]

/-- Outside RESET a failure of WHOLE_OFF effect enters SAFE. -/
theorem State.emtFail_safe {s : State} {k cls : Nat} (h : (s.em k).st ≠ 5) (hw : s.failsWhole cls = true)
    (hr : s.pins.inReset = false) (m : Nat) : (s.emtFail k cls m).mode.active = .safe := by
  obtain ⟨x, i, hfail, -, hpins, -⟩ := State.emtFail_marks h cls m
  rw [hfail, if_pos hw, State.coilLiveFrom_mode]
  exact State.fatal_active (by rw [← hr, ← hpins]; rfl) _ _ _

/-! ## Failed proofs (R178) -/

/-- An emitter whose proof yielded no GOOD observation. -/
def Emitter.unproved (e : Emitter) : Emitter := if e.st = 3 then { e with st := 4, grace := 0 } else e

theorem State.proofFailed_emt (s : State) (k : Nat) : (s.proofFailed k).emt = { s.emt with
    proofs := s.emt.proofs.filter (fun p => decide (p.k ≠ k)), emitters := (s.proofFailed k).emt.emitters } := by
  unfold State.proofFailed
  dsimp only
  split
  · rw [State.event_emt]
    rfl
  · rfl

theorem State.proofFailed_em (s : State) (k : Nat) : (s.proofFailed k).em k = (s.em k).unproved := by
  unfold State.proofFailed Emitter.unproved
  change State.em (if (s.em k).st = 3 then _ else _) k = _
  by_cases h : (s.em k).st = 3
  · rw [if_pos h, if_pos h, (State.event_emission _ _ _ _).em, State.modEm_em, if_pos rfl]
    rfl
  · rw [if_neg h, if_neg h]
    rfl

theorem State.proofFailed_unverified {s : State} {k : Nat} (h : (s.em k).st = 3) : ((s.proofFailed k).em k).st = 4 := by
  rw [State.proofFailed_em, Emitter.unproved, if_pos h]

theorem State.proofFailed_unchanged (s : State) (k : Nat) : Unchanged (.emt :: eventParts) s (s.proofFailed k) :=
  .thenIf ((s.setEmt_unchanged _).mono (by decide)) (((State.modEm_unchanged _ _ _).mono (by decide)).trans
    ((State.event_unchanged _ _ _ _).mono (by decide)))

theorem State.proofFailed_monitor (s : State) (k : Nat) : MonitorKept s (s.proofFailed k) where
  value id _ := by
    rw [State.stored, State.stored, (s.proofFailed_unchanged k).wideRaw (by decide),
      (s.proofFailed_unchanged k).deferred (by decide)]
  obs := by rw [State.proofFailed_emt]

/-! ## The result of an observation (R174, R176, R178) -/

theorem State.obsResult_monitor (s : State) (k cls word : Nat) (proof : Bool) :
    MonitorKept s (s.obsResult k cls word proof) := by
  have hem (f : Emitter → Emitter) : MonitorKept s (s.modEm k f) := ⟨fun _ _ => rfl, rfl⟩
  have hrest (x : State) (hx : MonitorKept s x) : MonitorKept s (if proof then x.proofFailed k else x) := by
    split
    · exact hx.trans (x.proofFailed_monitor k)
    · exact hx
  unfold State.obsResult
  dsimp only
  split
  · exact hem _
  · refine hrest _ ?_
    split
    · exact s.emtFail_monitor _ _ _
    · split
      · split
        · exact (hem _).trans (State.emtFail_monitor _ _ _ _)
        · exact hem _
      · exact (EmissionKept.refl s).toMonitorKept

/-- A GOOD observation verifies an emitter in FIRST_OBS, PROOF_DUE or UNVERIFIED. -/
theorem State.obsResult_good {s : State} {k : Nat} (h : (s.em k).st = 1 ∨ (s.em k).st = 3 ∨ (s.em k).st = 4) (word : Nat)
    (proof : Bool) : ((s.obsResult k 0 word proof).em k).st = 2 ∧ ((s.obsResult k 0 word proof).em k).unobs = 0 := by
  have hgood : (decide ((s.em k).st = 1 ∨ (s.em k).st = 3 ∨ (s.em k).st = 4) ||
      (proof && decide ((s.em k).st = 6))) = true := by rw [decide_eq_true h, Bool.true_or]
  unfold State.obsResult
  rw [if_pos rfl, State.modEm_em, if_pos rfl, hgood]
  exact ⟨rfl, rfl⟩

/-- A SHORT or OVER observation fails the emitter with WHOLE_OFF effect. -/
theorem State.obsResult_fails {s : State} {k cls : Nat} (hcls : cls = 2 ∨ cls = 3) (h : (s.em k).st ≠ 5)
    (hr : s.pins.inReset = false) (word : Nat) (proof : Bool) :
    (s.obsResult k cls word proof).em k = (s.em k).failed cls true ∧
      (s.obsResult k cls word proof).mode.active = .safe := by
  have hwhole : s.failsWhole cls = true := by rw [State.failsWhole, decide_eq_true hcls, Bool.or_true]
  have hresult : s.obsResult k cls word proof =
      if proof then (s.emtFail k cls word).proofFailed k else s.emtFail k cls word := by
    unfold State.obsResult
    rw [if_neg (by omega), if_pos hcls]
  have hem := State.emtFail_em h cls word
  rw [hwhole] at hem
  have hsafe := State.emtFail_safe h hwhole hr word
  rw [hresult]
  split
  · refine ⟨?_, ?_⟩
    · rw [State.proofFailed_em, hem]
      rfl
    · rw [(State.proofFailed_unchanged _ k) .mode (by decide), hsafe]
  · exact ⟨hem, hsafe⟩

/-- An OPEN observation within the allowance only counts. -/
theorem State.obsResult_open {s : State} {k : Nat} (h : (s.em k).opens + 1 ≤ s.fld Reg.EMT_CTL 10 8) (word : Nat) :
    s.obsResult k 1 word false = s.modEm k (fun e => { e with opens := e.opens + 1 }) := by
  have hfld (f : Emitter → Emitter) : (s.modEm k f).fld Reg.EMT_CTL 10 8 = s.fld Reg.EMT_CTL 10 8 := rfl
  unfold State.obsResult
  rw [if_neg (by decide), if_neg Bool.false_ne_true, if_neg (by decide), if_pos (by decide)]
  dsimp only
  rw [hfld, State.modEm_em, if_pos rfl]
  exact if_neg (Nat.not_lt.mpr h)

/-! ## The observation (R173, R185) -/

theorem State.classify_lt (s : State) (m : Measure) (x width : Nat) : s.classify m x width < 5 := by
  unfold State.classify
  dsimp only
  split_ifs <;> decide

theorem State.classify_of_regs {s u : State} (h : u.regs = s.regs) (m : Measure) (x width : Nat) :
    u.classify m x width = s.classify m x width := by
  unfold State.classify State.fld State.reg
  rw [h]

/-- The emitter and the class of an observation stand in the low bits of EMT_OBS_LAST, which holds 64 bits. -/
theorem State.obsWord_low (s : State) {k cls : Nat} (hk : k < 32) (hcls : cls < 8) (m : Measure) :
    bitsOf (s.obsWord k cls m % 2 ^ 64) 4 0 = k ∧ bitsOf (s.obsWord k cls m % 2 ^ 64) 7 5 = cls := by
  obtain ⟨fields, hword⟩ : ∃ fields, s.obsWord k cls m = packFields ((5, k) :: (3, cls) :: fields) := ⟨_, rfl⟩
  simp only [hword, packFields, bitsOf, Nat.shiftRight_eq_div_pow]
  omega

/-- The observation `o` is made, with `word` for EMT_OBS_LAST; its class has not taken effect yet. -/
def State.observed (s : State) (o : Obs) (word : Nat) : State :=
  let u := (({ s with emt := { s.emt with obs := none } } : State).putWide Id.EMT_OBS_LAST word).freeUsed
  { u with emt := { u.emt with
    proofs := if o.proof then u.emt.proofs.filter (fun p => decide (p.k ≠ o.k)) else u.emt.proofs } }

theorem State.observe_made {s : State} {o : Obs} (ho : s.emt.obs = some o) (hstart : o.started = true)
    (hmon : s.monRuns = true) (hbuf : s.emt.refbufReady = true) (l : List Nat) : s.observe l =
      let x := o.code * (s.reg Reg.EMT_SENSE_GAIN).toNat
      let cls := s.classify (Machine.measure l x) x o.width
      let word := s.obsWord o.k cls (Machine.measure l x)
      (s.observed o word).obsResult o.k cls word o.proof := by
  unfold State.observe
  rw [ho]
  change (if (!o.started) = true then _ else if (!s.monRuns) = true then _ else
    if (!s.emt.refbufReady) = true then _ else _) = _
  rw [hstart, hmon, hbuf]
  rfl

theorem State.observed_unchanged (s : State) (o : Obs) (word : Nat) :
    Unchanged [.emt, .wide, .deferred, .recent, .freeNext] s (s.observed o word) :=
  ((((s.setEmt_unchanged _).mono (by decide)).trans ((State.updWide_unchanged _ _ _).mono (by decide))).trans
    ((State.freeUsed_unchanged _).mono (by decide))).trans ((State.setEmt_unchanged _ _).mono (by decide))

theorem State.observed_emt (s : State) (o : Obs) (word : Nat) : (s.observed o word).emt =
    { s.emt with obs := none, proofs := (s.observed o word).emt.proofs } := by
  have hput (x : State) : (x.putWide Id.EMT_OBS_LAST word).freeUsed.emt = x.emt := x.putWide_emt _ _
  unfold State.observed
  dsimp only
  rw [hput]

theorem State.observed_word {s : State} (h : s.isFrozen Id.EMT_OBS_LAST = false) (o : Obs) (word : Nat) :
    ((s.observed o word).wideRaw Id.EMT_OBS_LAST).toNat = word % 2 ^ 64 := by
  have hfree : ({ s with emt := { s.emt with obs := none } } : State).isFrozen Id.EMT_OBS_LAST = false := h
  change ((State.putWide _ Id.EMT_OBS_LAST word).wideRaw Id.EMT_OBS_LAST).toNat = _
  rw [State.putWide, (State.updWide_free _ hfree).2, if_pos rfl, WideUpd.apply, BitVec.toNat_ofNat, BitVec.toNat_ofNat,
    show idBits Id.EMT_OBS_LAST = 64 by decide]
  omega

end Sys2Proof.Machine
end

section
/-! PROOFS. Proofs from their decision to their pulse, the observation as a command, and the trigger sample (R166, R173 to
R175, R178, R180). -/

namespace Sys2Proof.Machine

/-! ## The decision on a proof (R166, R178) -/

/-- Bringing the board inhibitions up to date changes nothing else of emission (R162). -/
theorem State.updBoards_emt (s : State) :
    s.updBoards.emt = { s.emt with boardInhibit := s.updBoards.emt.boardInhibit } := by
  unfold State.updBoards
  dsimp only
  split
  · rfl
  · rw [State.event_emt]

/-- The state in which the proof at `tick` is decided. -/
def State.proofView (s : State) (t tick : Nat) : State := (s.at (max t (tick - 32))).updBoards

section
variable (s : State) (t tick : Nat)

theorem State.proofView_unchanged : Unchanged ([.emt] ++ recording) s (s.proofView t tick) :=
  ((s.at_unchanged _).mono (by decide)).trans ((State.updBoards_decision _).mono (by decide))

theorem State.proofView_now : (s.proofView t tick).now = max s.now (max t (tick - 32)) := by
  rw [State.proofView, (State.updBoards_decision _).now (by decide), State.at_now]

theorem State.proofView_emt :
    (s.proofView t tick).emt = { s.emt with boardInhibit := (s.proofView t tick).emt.boardInhibit } := by
  rw [State.proofView, State.updBoards_emt, State.at_emt]

theorem State.proofView_em (k : Nat) : (s.proofView t tick).em k = s.em k := by
  rw [State.em, State.proofView_emt, ← State.em]

theorem State.proofView_appliedCode (k p : Nat) : (s.proofView t tick).appliedCode k p = s.appliedCode k p := by
  rw [State.appliedCode, State.proofView_emt, ← State.appliedCode]

end

/-- The proof of emitter `k` is granted, and its cost charged. -/
def State.proofGranted (s : State) (k : Nat) : State :=
  let u := s.grantCharge k (s.appliedCode k 8 * 20)
  { u with emt := { u.emt with
    proofs := u.emt.proofs.map (fun q => if q.k = k then { q with decided := true, granted := true } else q) } }

/-- The proof of emitter `k` is no longer needed. -/
def State.proofDropped (s : State) (k : Nat) : State :=
  { s with emt := { s.emt with proofs := s.emt.proofs.filter (fun q => decide (q.k ≠ k)) } }

theorem exec_proofDecision {s : State} (t : Nat) {k : Fin 32} {p : Proof}
    (hp : s.emt.proofs.find? (fun p => decide (p.k = k.val) && !p.decided) = some p) :
    let tick := p.slot + s.whl.period - 512
    let b := s.proofView t tick
    exec (.proofDecision t k) s = .next (if needsProof (s.em k).st = false then b.proofDropped k
      else if b.grant k tick 10 (s.appliedCode k 8 * 20) = true then b.proofGranted k else b.proofFailed k) := by
  intro tick b
  have hem : b.em k = s.em k := s.proofView_em t tick k
  have hcode : b.appliedCode k 8 = s.appliedCode k 8 := s.proofView_appliedCode t tick k 8
  rw [← hem, ← hcode]
  change execProofDecision t k s = _
  unfold execProofDecision
  rw [hp]
  change (if (!needsProof (b.em k).st) = true then _ else _) = _
  simp only [Bool.not_eq_true']
  split
  · rfl
  · change (if b.grant k tick 10 (b.appliedCode k 8 * 20) = true then _ else _) = _
    split <;> rfl

theorem State.grantCharge_emt (s : State) (k cost : Nat) :
    (s.grantCharge k cost).emt = { s.emt with buckets := (s.grantCharge k cost).emt.buckets } := by
  unfold State.grantCharge
  split <;> rfl

theorem State.grantCharge_unchanged (s : State) (k cost : Nat) : Unchanged [.emt] s (s.grantCharge k cost) := by
  unfold State.grantCharge
  split
  · exact s.setEmt_unchanged _
  · exact .refl _ s

theorem State.proofGranted_unchanged (s : State) (k : Nat) : Unchanged [.emt] s (s.proofGranted k) :=
  (s.grantCharge_unchanged _ _).trans (State.setEmt_unchanged _ _)

theorem State.proofGranted_proofs (s : State) (k : Nat) : (s.proofGranted k).emt.proofs =
    s.emt.proofs.map (fun q => if q.k = k then { q with decided := true, granted := true } else q) := by
  unfold State.proofGranted
  dsimp only
  rw [State.grantCharge_emt]

theorem proofDecision_decides {s : State} (t : Nat) {k : Fin 32} {p : Proof}
    (hp : s.emt.proofs.find? (fun p => decide (p.k = k.val) && !p.decided) = some p) :
    let tick := p.slot + s.whl.period - 512
    let b := s.proofView t tick
    Completes (.proofDecision t k) s fun u => u.now = max s.now (max t (tick - 32)) ∧
      (needsProof (s.em k).st = true → b.grant k tick 10 (s.appliedCode k 8 * 20) = true →
        u.emt.proofs = s.emt.proofs.map (fun q => if q.k = k.val then { q with decided := true, granted := true } else q) ∧
        s.sec.permit = true ∧ s.committed Reg.EMT_EBM_LOCK = true) ∧
      ((needsProof (s.em k).st = false ∨ b.grant k tick 10 (s.appliedCode k 8 * 20) = false) →
        u.emt.proofs = s.emt.proofs.filter (fun q => decide (q.k ≠ k.val)) ∧ u.emt.buckets = s.emt.buckets ∧
        ((s.em k).st = 3 → (u.em k).st = 4)) ∧
      Unchanged ([.emt] ++ recording) s u := by
  intro tick b
  have hframe : Unchanged ([.emt] ++ recording) s b := s.proofView_unchanged t tick
  have hnow : b.now = max s.now (max t (tick - 32)) := s.proofView_now t tick
  have hemt : b.emt = { s.emt with boardInhibit := b.emt.boardInhibit } := s.proofView_emt t tick
  have hem : b.em k = s.em k := s.proofView_em t tick k
  have hproofs : b.emt.proofs = s.emt.proofs := by rw [hemt]
  have hbuckets : b.emt.buckets = s.emt.buckets := by rw [hemt]
  have hexec : exec (.proofDecision t k) s = .next (if needsProof (s.em k).st = false then b.proofDropped k
    else if b.grant k tick 10 (s.appliedCode k 8 * 20) = true then b.proofGranted k else b.proofFailed k) :=
    exec_proofDecision t hp
  by_cases hneed : needsProof (s.em k).st = false
  · rw [if_pos hneed] at hexec
    refine .of_next hexec ⟨hnow, fun hn => absurd (hneed.symm.trans hn) Bool.false_ne_true,
      fun _ => ⟨?_, hbuckets, fun h3 => ?_⟩, hframe.trans ((b.setEmt_unchanged _).mono (by decide))⟩
    · rw [State.proofDropped, hproofs]
    · rw [h3] at hneed
      exact absurd hneed (by decide)
  · rw [if_neg hneed] at hexec
    by_cases hgrant : b.grant k tick 10 (s.appliedCode k 8 * 20) = true
    · have hmay := (State.grant_mayGrant hgrant).of_unchanged hframe (by decide)
      obtain ⟨hpermit, -, -, hlock⟩ := hmay
      have hgranted := b.proofGranted_unchanged k
      rw [if_pos hgrant] at hexec
      refine .of_next hexec ⟨(hgranted.now (by decide)).trans hnow, fun _ _ => ⟨?_, hpermit, hlock⟩, fun hno => ?_,
        hframe.trans (hgranted.mono (by decide))⟩
      · rw [State.proofGranted_proofs, hproofs]
      · rcases hno with hno | hno
        · exact absurd hno hneed
        · exact absurd (hno.symm.trans hgrant) Bool.false_ne_true
    · have hfailed := b.proofFailed_unchanged k
      rw [if_neg hgrant] at hexec
      refine .of_next hexec ⟨(hfailed.now (by decide)).trans hnow, fun _ hg => absurd hg hgrant,
        fun _ => ⟨?_, ?_, fun h3 => ?_⟩, hframe.trans (hfailed.mono (by decide))⟩
      · rw [State.proofFailed_emt, hproofs]
      · rw [State.proofFailed_emt, hbuckets]
      · exact State.proofFailed_unverified (by rw [hem, h3])

/-! ## The pulse of a proof (R178) -/

/-- The parts that decide whether the converters run are the registers, the clock and the temperature. -/
theorem Unchanged.monRuns {but : List Part} {s u : State} (h : Unchanged but s u)
    (hb : Part.regs ∉ but ∧ Part.clk ∉ but ∧ Part.thm ∉ but) : u.monRuns = s.monRuns := by
  obtain ⟨hregs, hclk, hthm⟩ := hb
  have hclk' : u.clk = s.clk := h .clk hclk
  have hthm' : u.thm = s.thm := h .thm hthm
  simp only [State.monRuns, State.bit, h.reg hregs, State.onVco, hclk', hthm']

/-- The pulse of emitter `k`'s proof starts now, and is under observation. -/
def State.proofStarted (s : State) (k : Nat) : State :=
  { s with emt := { s.emt with
    pulses := s.emt.pulses ++ [Pulse.mk k s.now 20]
    obs := some (Obs.mk k true s.now (s.appliedCode k 8) 20 true false) } }

/-- The pulse fires: its tile is blanked, and it is counted and shown. -/
def State.proofFired (s : State) (k : Nat) : State :=
  (((s.proofStarted k).blankTile k s.now).bump Id.EMT_PROOF_COUNT).event Reg.EMT_STAT 2 { inst := k, detail := k }

/-- The observation in hand is given up. -/
def State.unobserved (s : State) : State := { s with emt := { s.emt with obs := none } }

theorem exec_proofPulse {s : State} (t : Nat) {k : Fin 32} {p : Proof}
    (hp : s.emt.proofs.find? (fun p => decide (p.k = k.val) && p.granted) = some p) :
    let b := s.at (max t (p.slot + s.whl.period - 512))
    exec (.proofPulse t k) s = .next (if b.fireOk k = true then
      (if (b.proofFired k).monRuns = true then b.proofFired k else ((b.proofFired k).proofFailed k).unobserved)
      else b.proofFailed k) := by
  intro b
  change execProofPulse t k s = _
  unfold execProofPulse
  rw [hp]
  change (if b.fireOk k = true then _ else _) = _
  split <;> rfl

theorem State.blankTile_unchanged (s : State) (k t : Nat) : Unchanged [.lan] s (s.blankTile k t) :=
  .ite (.refl _ s) (s.setLan_unchanged _)

theorem State.proofFired_unchanged (s : State) (k : Nat) : Unchanged ([.emt, .lan] ++ recording) s (s.proofFired k) := by
  have hstarted : Unchanged ([.emt, .lan] ++ recording) s (s.proofStarted k) := (s.setEmt_unchanged _).mono (by decide)
  have hcounted (x : State) : Unchanged ([.emt, .lan] ++ recording) x (x.bump Id.EMT_PROOF_COUNT) :=
    (State.bump_quiet x _ _).unchanged.mono (by decide)
  exact ((hstarted.trans ((State.blankTile_unchanged _ _ _).mono (by decide))).trans (hcounted _)).trans
    ((State.event_recording _ _ _ _).mono (by decide))

theorem State.proofFired_now (s : State) (k : Nat) : (s.proofFired k).now = s.now := by
  rw [State.proofFired, State.event_now, State.bump_now, (State.blankTile_unchanged _ _ _).now (by decide)]
  rfl

theorem State.proofFired_emt (s : State) (k : Nat) : (s.proofFired k).emt = (s.proofStarted k).emt := by
  rw [State.proofFired, State.event_emt, State.bump_emt]
  exact State.blankTile_unchanged _ _ _ .emt (by decide)

theorem State.proofFired_counts {s : State} (k : Nat) (h : s.isFrozen Id.EMT_PROOF_COUNT = false) :
    bitsOf ((s.proofFired k).wideRaw Id.EMT_PROOF_COUNT).toNat 31 0 =
      (bitsOf (s.wideRaw Id.EMT_PROOF_COUNT).toNat 31 0 + 1) % 2 ^ 32 := by
  have hblank : Unchanged [.emt, .lan] s ((s.proofStarted k).blankTile k s.now) :=
    Unchanged.trans (b := s.proofStarted k) ((s.setEmt_unchanged _).mono (by decide))
      ((State.blankTile_unchanged _ _ _).mono (by decide))
  rw [State.proofFired, (State.event_unchanged _ _ _ _).wideRaw (by decide), State.bump_counts (by decide),
    hblank.wideRaw (by decide)]
  rw [hblank.isFrozen (by decide) (by decide) (by decide), h]

/-- A proof that fires, whether or not it is observed. -/
theorem State.proofFired_ends (s : State) (k : Nat) :
    Unchanged (.emt :: eventParts) (s.proofFired k) (if (s.proofFired k).monRuns = true then s.proofFired k
        else ((s.proofFired k).proofFailed k).unobserved) ∧
      (if (s.proofFired k).monRuns = true then s.proofFired k
        else ((s.proofFired k).proofFailed k).unobserved).emt.pulses = (s.proofStarted k).emt.pulses := by
  split
  · exact ⟨.refl _ _, congrArg Emission.pulses (s.proofFired_emt k)⟩
  · refine ⟨(State.proofFailed_unchanged _ k).trans ((State.setEmt_unchanged _ _).mono (by decide)), ?_⟩
    change ((s.proofFired k).proofFailed k).emt.pulses = _
    rw [State.proofFailed_emt, State.proofFired_emt]

theorem proofPulse_fires {s : State} (t : Nat) {k : Fin 32} {p : Proof}
    (hp : s.emt.proofs.find? (fun p => decide (p.k = k.val) && p.granted) = some p) :
    let b := s.at (max t (p.slot + s.whl.period - 512))
    Completes (.proofPulse t k) s fun u => u.now = b.now ∧ Unchanged ([.emt, .lan] ++ recording) s u ∧
      (b.fireOk k = true → u.emt.pulses = s.emt.pulses ++ [{ k := k, at_ := b.now, half := 20 }] ∧
        (s.isFrozen Id.EMT_PROOF_COUNT = false → bitsOf (u.wideRaw Id.EMT_PROOF_COUNT).toNat 31 0 =
          (bitsOf (b.wideRaw Id.EMT_PROOF_COUNT).toNat 31 0 + 1) % 2 ^ 32) ∧
        (s.monRuns = true → u.emt.obs = some
          { k := k, proof := true, at_ := b.now, code := s.appliedCode k 8, width := 20, started := true })) ∧
      (b.fireOk k = false → u.emt.pulses = s.emt.pulses ∧
        u.emt.proofs = s.emt.proofs.filter (fun q => decide (q.k ≠ k.val)) ∧ ((s.em k).st = 3 → (u.em k).st = 4)) := by
  intro b
  have htime : Unchanged ([.emt, .lan] ++ recording) s b := (s.at_unchanged _).mono (by decide)
  have hemt : b.emt = s.emt := s.at_emt _
  have hexec : exec (.proofPulse t k) s = .next (if b.fireOk k = true then
      (if (b.proofFired k).monRuns = true then b.proofFired k else ((b.proofFired k).proofFailed k).unobserved)
      else b.proofFailed k) := exec_proofPulse t hp
  by_cases hfire : b.fireOk k = true
  · have hmon : (b.proofFired k).monRuns = s.monRuns :=
      (htime.trans (b.proofFired_unchanged k)).monRuns (by decide)
    have hfired : (b.proofFired k).emt = (b.proofStarted k).emt := b.proofFired_emt k
    obtain ⟨hend, hpulses⟩ := b.proofFired_ends k
    rw [if_pos hfire] at hexec
    refine .of_next hexec ⟨(hend.now (by decide)).trans (b.proofFired_now k),
      htime.trans ((b.proofFired_unchanged k).trans (hend.mono (by decide))),
      fun _ => ⟨hpulses.trans ?_, fun hfree => ?_, fun hruns => ?_⟩,
      fun hno => absurd (hno.symm.trans hfire) Bool.false_ne_true⟩
    · rw [← hemt]
      rfl
    · rw [hend.wideRaw (by decide), State.proofFired_counts _ ((s.at_isFrozen _ _).trans hfree)]
    · rw [hmon, if_pos hruns, hfired, State.appliedCode, ← hemt]
      rfl
  · have hfailed := b.proofFailed_unchanged k
    rw [if_neg hfire] at hexec
    refine .of_next hexec ⟨hfailed.now (by decide), htime.trans (hfailed.mono (by decide)), fun hyes => absurd hyes hfire,
      fun _ => ⟨?_, ?_, fun h3 => State.proofFailed_unverified ?_⟩⟩
    · rw [State.proofFailed_emt, hemt]
    · rw [State.proofFailed_emt, hemt]
    · rw [State.em, hemt, ← State.em, h3]

/-! ## The observation as a command (R173, R174) -/

theorem monitorObservation_without {s : State} (t : Nat) (l : List Nat) (h : s.emt.obs = none) :
    Completes (.monitorObservation t l) s fun u => u = s.at t := by
  refine .of_next (u := (s.at t).observe l) rfl ?_
  unfold State.observe
  rw [State.at_emt, h]

theorem monitorObservation_classifies {s : State} (t : Nat) (l : List Nat) {o : Obs} (ho : s.emt.obs = some o)
    (hstart : o.started = true) (hmon : s.monRuns = true) (hbuf : s.emt.refbufReady = true) (hk : o.k < 32) :
    let x := o.code * (s.reg Reg.EMT_SENSE_GAIN).toNat
    let cls := s.classify (measure l x) x o.width
    Completes (.monitorObservation t l) s fun u => u.emt.obs = none ∧
      (s.isFrozen Id.EMT_OBS_LAST = false → bitsOf (u.wideRaw Id.EMT_OBS_LAST).toNat 4 0 = o.k ∧
        bitsOf (u.wideRaw Id.EMT_OBS_LAST).toNat 7 5 = cls) ∧
      (cls = 0 → (s.em o.k).st = 1 ∨ (s.em o.k).st = 3 ∨ (s.em o.k).st = 4 → (u.em o.k).st = 2 ∧ (u.em o.k).unobs = 0) ∧
      (cls = 2 ∨ cls = 3 → (s.em o.k).st ≠ 5 → s.pins.inReset = false →
        (u.em o.k).st = 5 ∧ (u.em o.k).cls = cls ∧ (u.em o.k).wholeOff = true ∧ u.mode.active = .safe) ∧
      (cls = 1 → o.proof = false → (s.em o.k).opens + 1 ≤ s.fld Reg.EMT_CTL 10 8 →
        (u.em o.k).opens = (s.em o.k).opens + 1 ∧ (u.em o.k).st = (s.em o.k).st ∧ u.mode = s.mode) := by
  intro x cls
  have htime := s.at_unchanged t
  have hregs : (s.at t).reg Reg.EMT_SENSE_GAIN = s.reg Reg.EMT_SENSE_GAIN := htime.reg (by decide) _
  have hmade := State.observe_made (s := s.at t) (by rw [State.at_emt, ho]) hstart
    (by rw [htime.monRuns (by decide), hmon]) (by rw [State.at_emt, hbuf]) l
  dsimp only at hmade
  rw [hregs, State.classify_of_regs (htime .regs (by decide))] at hmade
  change (s.at t).observe l = ((s.at t).observed o ((s.at t).obsWord o.k cls (measure l x))).obsResult o.k cls
    ((s.at t).obsWord o.k cls (measure l x)) o.proof at hmade
  have hcls : cls < 5 := s.classify_lt _ _ _
  have hlow := (s.at t).obsWord_low hk (by omega : cls < 8) (measure l x)
  have hframe : Unchanged ([.emt, .freeNext] ++ recording) s
      ((s.at t).observed o ((s.at t).obsWord o.k cls (measure l x))) :=
    (htime.mono (by decide)).trans ((State.observed_unchanged _ _ _).mono (by decide))
  have hemt := (s.at t).observed_emt o ((s.at t).obsWord o.k cls (measure l x))
  have hword := fun hf => (State.observed_word (s := s.at t) hf o ((s.at t).obsWord o.k cls (measure l x)))
  refine .of_next (congrArg Host.Outcome.next hmade) ?_
  generalize (s.at t).obsWord o.k cls (measure l x) = word at hlow hframe hemt hword ⊢
  generalize (s.at t).observed o word = y at hframe hemt hword ⊢
  clear_value cls
  have hkept := y.obsResult_monitor o.k cls word o.proof
  have hem : y.em o.k = s.em o.k := by rw [State.em, hemt, State.at_emt, ← State.em]
  have hpins : y.pins = s.pins := hframe .pins (by decide)
  have hmode : y.mode = s.mode := hframe .mode (by decide)
  have hallow : y.fld Reg.EMT_CTL 10 8 = s.fld Reg.EMT_CTL 10 8 := by
    rw [State.fld, hframe.reg (by decide), ← State.fld]
  refine ⟨?_, fun hfree => ?_, fun h0 hst => ?_, fun h23 hst hr => ?_, fun h1 hproof hle => ?_⟩
  · rw [hkept.obs, hemt]
  · rw [hkept.wideRaw (by decide), hword ((s.at_isFrozen t _).trans hfree)]
    exact hlow
  · rw [h0]
    exact State.obsResult_good (by rwa [hem]) word o.proof
  · obtain ⟨hfailed, hsafe⟩ := State.obsResult_fails h23 (by rwa [hem]) (by rw [hpins, hr]) word o.proof
    rw [hfailed]
    exact ⟨rfl, rfl, rfl, hsafe⟩
  · have hopen := State.obsResult_open (s := y) (k := o.k) (by rwa [hem, hallow]) word
    rw [h1, hproof, hopen, State.modEm_em, if_pos rfl, hem]
    exact ⟨rfl, rfl, hmode⟩

/-! ## The trigger sample (R175) -/

/-- A sample is above the level while the trigger is enabled and the converters run. -/
def State.pulseSampled (s : State) (s1 : Nat) : Prop :=
  s.bit Reg.EMT_MON_CTL 2 = true ∧ s.monRuns = true ∧ s.fld Reg.EMT_MON_TRIG 9 0 < s1

/-- Where the line through the samples `s0` and `s1` crosses the level, in 1,024ths of a tick behind `fine`. -/
def State.crossing (s : State) (s0 s1 fine : Nat) : Nat :=
  fine + 1024 * (s.fld Reg.EMT_MON_TRIG 9 0 - s0) / (s1 - s0)

theorem exec_monitorTriggerSample {s : State} (t s0 : Nat) {s1 : Nat} (fine : Nat) (h : s.pulseSampled s1) :
    exec (.monitorTriggerSample t s0 s1 fine) s = .next ((s.at t).capCond 2
      (((s.at t).utime + s.crossing s0 s1 fine / 1024) % 2 ^ 64) (s.crossing s0 s1 fine % 1024) true 0) := by
  obtain ⟨hen, hmon, hlevel⟩ := h
  have hruns : (s.at t).monRuns = true := ((s.at_unchanged t).monRuns (by decide)).trans hmon
  have hsampled : ((s.at t).bit Reg.EMT_MON_CTL 2 && (s.at t).monRuns &&
      decide (s.fld Reg.EMT_MON_TRIG 9 0 < s1)) = true := by simp [State.at_bit, hen, hruns, hlevel]
  change execMonitorTriggerSample t s0 s1 fine s = _
  unfold execMonitorTriggerSample
  dsimp only
  rw [State.at_fld, if_pos hsampled]
  rfl

theorem exec_monitorTriggerSample_below {s : State} (t s0 : Nat) {s1 : Nat} (fine : Nat) (h : ¬ s.pulseSampled s1) :
    exec (.monitorTriggerSample t s0 s1 fine) s = .next (s.at t) := by
  change execMonitorTriggerSample t s0 s1 fine s = _
  unfold execMonitorTriggerSample
  dsimp only
  rw [if_neg]
  rw [State.at_bit, (s.at_unchanged t).monRuns (by decide), State.at_fld, Bool.and_eq_true, Bool.and_eq_true,
    decide_eq_true_eq, and_assoc]
  exact h

theorem monitorTriggerSample_conditions {s : State} (t s0 : Nat) {s1 : Nat} (fine : Nat) (h : s.pulseSampled s1)
    (hen : s.bit Reg.CAP_TRIG_EN 2 = true) : Completes (.monitorTriggerSample t s0 s1 fine) s fun u =>
      Unchanged recording s u ∧ u.cap.conds = (s.at t).cap.conds ++ [
        { at_ := u.now, src := 2, ut := ((s.at t).utime + s.crossing s0 s1 fine / 1024) % 2 ^ 64
          fine := s.crossing s0 s1 fine % 1024, interp := true, detail := 0 }] := by
  refine .of_next (exec_monitorTriggerSample t s0 fine h) ?_
  rw [State.capCond, State.at_bit, if_pos hen]
  exact ⟨(s.at_unchanged t).trans ((State.setCap_unchanged _ _).mono (by decide)), rfl⟩

theorem monitorTriggerSample_without {s : State} (t s0 : Nat) {s1 : Nat} (fine : Nat)
    (h : ¬ s.pulseSampled s1 ∨ s.bit Reg.CAP_TRIG_EN 2 = false) :
    Completes (.monitorTriggerSample t s0 s1 fine) s fun u => u = s.at t := by
  by_cases hs : s.pulseSampled s1
  · have hdis := h.resolve_left (not_not_intro hs)
    refine .of_next (exec_monitorTriggerSample t s0 fine hs) ?_
    rw [State.capCond, State.at_bit, hdis, if_neg Bool.false_ne_true]
  · exact .of_next (exec_monitorTriggerSample_below t s0 fine hs) rfl

/-- Settles O37: the decision and the pulse of a proof, the observation by its class, and the trigger sample. -/
theorem proofsAndObservations : Obligations.ProofsAndObservations := by
  refine ⟨fun t k _ _ => proofDecision_decides t, fun t k _ _ => proofPulse_fires t,
    fun t l _ => monitorObservation_without t l, fun t l _ _ => monitorObservation_classifies t l,
    fun t s0 s1 fine s => ⟨fun ⟨hen, hmon, hlevel, hcap⟩ => ?_, fun hno => ?_⟩⟩
  · exact monitorTriggerSample_conditions t s0 fine ⟨hen, hmon, hlevel⟩ hcap
  · refine monitorTriggerSample_without t s0 fine (Classical.or_iff_not_imp_right.mpr fun hcap => ?_)
    rintro ⟨hen, hmon, hlevel⟩
    simp [hen, hmon, Nat.not_le.mpr hlevel, hcap] at hno

end Sys2Proof.Machine
end

section
/-! PROOFS. One axis after a change (R199 to R203): the entry into a state, faults, STEER_STALL, and changes that move one
axis only. -/

namespace Sys2Proof.Machine

/-! ## One axis or trace changed -/

theorem State.modAx_unchanged (s : State) (a : Nat) (f : Axis → Axis) : Unchanged [.str] s (s.modAx a f) :=
  s.setStr_unchanged _

theorem State.modTr_unchanged (s : State) (a : Nat) (f : Trace → Trace) : Unchanged [.str] s (s.modTr a f) :=
  s.setStr_unchanged _

/-- A change of one axis leaves the other. -/
theorem State.modAx_ax_other (s : State) {a b : Nat} (h : ¬ (a = 0 ↔ b = 0)) (f : Axis → Axis) :
    (s.modAx a f).ax b = s.ax b := by
  unfold State.modAx State.ax
  obtain ⟨ha, hb⟩ | ⟨ha, hb⟩ : (a = 0 ∧ b ≠ 0) ∨ (a ≠ 0 ∧ b = 0) := by omega
  · simp only [ha, hb, if_true, if_false]
  · simp only [ha, hb, if_true, if_false]

/-- Every axis but AX_0 is AX_1. -/
theorem State.modAx_one (s : State) {a : Nat} (h : a ≠ 0) (f : Axis → Axis) : s.modAx 1 f = s.modAx a f := by
  simp [State.modAx, h]

theorem State.ax_of_str {s u : State} (h : u.str = s.str) (a : Nat) : u.ax a = s.ax a := by
  rw [State.ax, h, ← State.ax]

@[simp] theorem State.at_ax (s : State) (t a : Nat) : (s.at t).ax a = s.ax a := State.ax_of_str (s.at_str t) a

theorem State.modTr_tr (s : State) (a : Nat) (f : Trace → Trace) : (s.modTr a f).tr a = f (s.tr a) := by
  unfold State.modTr State.tr
  by_cases ha : a = 0 <;> simp [ha]

theorem State.modTr_tr_other (s : State) {a b : Nat} (h : ¬ (a = 0 ↔ b = 0)) (f : Trace → Trace) :
    (s.modTr a f).tr b = s.tr b := by
  unfold State.modTr State.tr
  obtain ⟨ha, hb⟩ | ⟨ha, hb⟩ : (a = 0 ∧ b ≠ 0) ∨ (a ≠ 0 ∧ b = 0) := by omega
  · simp only [ha, hb, if_true, if_false]
  · simp only [ha, hb, if_true, if_false]

theorem State.tr_of_str {s u : State} (h : u.str = s.str) (a : Nat) : u.tr a = s.tr a := by
  rw [State.tr, h, ← State.tr]

@[simp] theorem State.at_tr (s : State) (t a : Nat) : (s.at t).tr a = s.tr a := State.tr_of_str (s.at_str t) a

/-! ## STEER_STALL (R200) -/

/-- AX_0 is not in RUN, or AX_1 is enabled and not in RUN. -/
def Steering.stalls (x : Steering) : Bool := decide (x.ax0.st ≠ 3) || (x.ax1.enabled && decide (x.ax1.st ≠ 3))

theorem State.strUpdate_str (s : State) : s.strUpdate.str = { s.str with stall := s.str.stalls } := by
  unfold State.strUpdate State.stopBurst
  dsimp only
  split <;> rfl

theorem State.strUpdate_stall (s : State) : s.strUpdate.str.stall = s.strUpdate.str.stalls := by
  rw [State.strUpdate_str]
  rfl

theorem State.strUpdate_ax (s : State) (a : Nat) : s.strUpdate.ax a = s.ax a := by
  rw [State.ax, State.strUpdate_str, State.ax]

theorem State.strUpdate_unchanged (s : State) : Unchanged [.str, .emt] s s.strUpdate := by
  unfold State.strUpdate
  exact (Unchanged.thenIf (.refl _ s) ((s.setEmt_unchanged _).mono (by decide))).trans
    ((State.setStr_unchanged _ _).mono (by decide))

/-! ## Entry into a state (R199) -/

/-- The axis as it enters state `st` at tick `now`. -/
def Axis.entered (x : Axis) (st now : Nat) : Axis :=
  { x with
    st, u := 0, uSat := false, integ := if st = 2 then 0 else x.integ
    overN := 0, underN := 0, travelN := 0, trackN := 0, lockN := 0
    entry := decide (st = 2), since := now, window := none }

/-- A state other than OFF concerns the axis alone. -/
theorem State.axEnter_eq (s : State) {st : Nat} (h : st ≠ 0) (a : Nat) :
    s.axEnter a st = s.modAx a (fun x => x.entered st s.now) := if_neg (fun hoff => h hoff.2)

theorem State.axEnter_ax (s : State) (a st : Nat) : (s.axEnter a st).ax a = (s.ax a).entered st s.now := by
  have hmod := s.modAx_ax a (fun x => x.entered st s.now)
  by_cases h : a = 0 ∧ st = 0
  · exact (congrArg (fun x => State.ax x a) (if_pos h)).trans hmod
  · exact (congrArg (fun x => State.ax x a) (if_neg h)).trans hmod

theorem State.axEnter_unchanged (s : State) (a st : Nat) : Unchanged [.str] s (s.axEnter a st) :=
  .thenIf (s.modAx_unchanged a _) (State.setStr_unchanged _ _)

/-! ## Faults (R203) -/

/-- The axis as it faults with this reason at tick `now`. -/
def Axis.faulted (x : Axis) (now reason : Nat) : Axis := { x.entered 4 now with reason, integ := 0 }

/-- Of the steering engine a fault changes the axis and STEER_STALL. -/
theorem State.axFault_str (s : State) (a reason : Nat) :
    (s.axFault a reason).str = (s.modAx a (fun x => x.faulted s.now reason)).strUpdate.str := by
  have hstr : ((s.axEnter a 4).modAx a (fun x => { x with reason, integ := 0 })).str =
      (s.modAx a (fun x => x.faulted s.now reason)).str := by
    rw [State.axEnter_eq s (by decide)]
    unfold State.modAx Axis.faulted
    split <;> rfl
  unfold State.axFault
  rw [State.strUpdate_str, State.strUpdate_str, State.fault_str, State.bump_str, hstr]

/-- An axis in FAULT for this reason, without torque. -/
def Axis.FaultedFor (x : Axis) (reason : Nat) : Prop := x.st = 4 ∧ x.reason = reason ∧ x.u = 0

theorem Axis.faulted_faultedFor (x : Axis) (now reason : Nat) : (x.faulted now reason).FaultedFor reason :=
  ⟨rfl, rfl, rfl⟩

theorem State.axFault_ax (s : State) (a reason : Nat) : (s.axFault a reason).ax a = (s.ax a).faulted s.now reason := by
  rw [State.ax_of_str (s.axFault_str a reason), State.strUpdate_ax, State.modAx_ax]

/-- A fault of AX_0 raises STEER_STALL. -/
theorem State.axFault_zero (s : State) (reason : Nat) : (s.axFault 0 reason).str =
    { s.str with ax0 := s.str.ax0.faulted s.now reason, stall := true } := by
  rw [State.axFault_str, State.strUpdate_str]
  rfl

/-- The parts that steering may reach while no time passes. -/
def axisParts : List Part := [.str, .emt, .log, .stat, .wide, .deferred, .recent, .hif, .mem, .cap]

theorem State.axFault_unchanged (s : State) (a reason : Nat) : Unchanged axisParts s (s.axFault a reason) := by
  have hax := (s.axEnter_unchanged a 4).trans (State.modAx_unchanged _ a (fun x => { x with reason, integ := 0 }))
  exact (((hax.mono (by decide)).trans ((State.bump_quiet _ _ _).unchanged.mono (by decide))).trans
    ((State.fault_quiet _ _ _ _ _).unchanged.mono (by decide))).trans ((State.strUpdate_unchanged _).mono (by decide))

/-! ## Changes that move one axis -/

/-- What commands an axis: its enable bit, the set-point in force, and those that have landed since. -/
def Axis.command (x : Axis) : Bool × Int × List (Int × Nat × Bool) := (x.enabled, x.sp, x.spNext)

/-- From `s` to `u` axis `a` moves under the same command; the other axis, the sample clock and the registers stay. -/
structure AxisMoves (a : Nat) (s u : State) : Prop where
  parts : Unchanged axisParts s u
  other : ∀ b, ¬ (a = 0 ↔ b = 0) → u.ax b = s.ax b
  command : (u.ax a).command = (s.ax a).command
  sampleAt : u.str.sampleAt = s.str.sampleAt

namespace AxisMoves

theorem of_str {s u : State} (h : Unchanged axisParts s u) (hstr : u.str = s.str) (a : Nat) : AxisMoves a s u where
  parts := h
  other b _ := State.ax_of_str hstr b
  command := by rw [State.ax_of_str hstr]
  sampleAt := by rw [hstr]

theorem of_quiet {s u : State} (h : Quiet s u) (a : Nat) : AxisMoves a s u :=
  of_str (h.unchanged.mono (by decide)) h.str a

theorem refl (a : Nat) (s : State) : AxisMoves a s s := of_str (.refl _ s) rfl a

theorem trans {a : Nat} {x y z : State} (h : AxisMoves a x y) (k : AxisMoves a y z) : AxisMoves a x z where
  parts := h.parts.trans k.parts
  other b hb := (k.other b hb).trans (h.other b hb)
  command := k.command.trans h.command
  sampleAt := k.sampleAt.trans h.sampleAt

theorem ite {a : Nat} {s x y : State} {c : Prop} [Decidable c] (hx : AxisMoves a s x) (hy : AxisMoves a s y) :
    AxisMoves a s (if c then x else y) := by
  split
  · exact hx
  · exact hy

theorem now {a : Nat} {s u : State} (h : AxisMoves a s u) : u.now = s.now := h.parts.now (by decide)

theorem enabled {a : Nat} {s u : State} (h : AxisMoves a s u) : (u.ax a).enabled = (s.ax a).enabled :=
  congrArg Prod.fst h.command

end AxisMoves

section
variable (s : State) (a : Nat)

theorem State.modAx_moves {f : Axis → Axis} (h : ∀ x, (f x).command = x.command) : AxisMoves a s (s.modAx a f) where
  parts := (s.modAx_unchanged a f).mono (by decide)
  other b hb := s.modAx_ax_other hb f
  command := by rw [State.modAx_ax, h]
  sampleAt := by
    unfold State.modAx
    dsimp only
    split <;> rfl

theorem State.event_moves (off b : Nat) (i : Info) : AxisMoves a s (s.event off b i) := .of_quiet (s.event_quiet _ _ _) a

theorem State.strUpdate_moves : AxisMoves a s s.strUpdate where
  parts := s.strUpdate_unchanged.mono (by decide)
  other b _ := s.strUpdate_ax b
  command := by rw [State.strUpdate_ax]
  sampleAt := by rw [State.strUpdate_str]

/-- The index and the revolutions counted start afresh. -/
theorem State.setIndex_moves (i : Bool) (r : Nat) :
    AxisMoves a s { s with str := { s.str with indexSeen := i, revs := r } } where
  parts := (s.setStr_unchanged _).mono (by decide)
  other _ _ := rfl
  command := rfl
  sampleAt := rfl

theorem State.axEnter_moves (st : Nat) : AxisMoves a s (s.axEnter a st) :=
  have hmod := s.modAx_moves a (f := fun x => x.entered st s.now) (fun _ => rfl)
  .ite (hmod.trans (State.setIndex_moves _ a false _)) hmod

theorem State.axFault_moves (reason : Nat) : AxisMoves a s (s.axFault a reason) :=
  have hmod (x : State) := x.modAx_moves a (f := fun y => { y with reason, integ := 0 }) (fun _ => rfl)
  ((((s.axEnter_moves a 4).trans (hmod _)).trans (.of_quiet (State.bump_quiet _ _ _) a)).trans
    (.of_quiet (State.fault_quiet _ _ _ _ _) a)).trans (State.strUpdate_moves _ a)

theorem State.axLeaveOff_moves : AxisMoves a s (s.axLeaveOff a) := by
  unfold State.axLeaveOff
  exact .ite (.ite (s.axFault_moves a 9)
    ((AxisMoves.ite (s.setIndex_moves a false 0) (.refl a s)).trans (State.axEnter_moves _ a _))) (.refl a s)

end

/-- The end of the settle window, and the overdue one at a sample, move AX_1. -/
theorem State.windowEnd_moves (s : State) : AxisMoves 1 s s.windowEnd := by
  have hwindow := s.modAx_moves 1 (f := fun x => { x with window := none }) (fun _ => rfl)
  have hrun (x : State) := ((x.axEnter_moves 1 3).trans (State.event_moves _ 1 Reg.STR_STAT 3 { inst := 1 })).trans
    (State.strUpdate_moves _ 1)
  unfold State.windowEnd
  split
  · exact .refl 1 s
  · exact .ite (hwindow.trans (.ite (.ite (State.axFault_moves _ 1 8) (hrun _)) (.refl 1 _))) (.refl 1 s)

theorem State.windowOverdue_moves (s : State) : AxisMoves 1 s s.windowOverdue := by
  unfold State.windowOverdue
  split
  · exact .ite s.windowEnd_moves (.refl 1 s)
  · exact .refl 1 s

end Sys2Proof.Machine
end

section
/-! PROOFS. CONTROL_SAMPLE (R187, R193, R196, R199, R200): the set-point, the drive and the state that a sample leaves each
axis, what the traces leave, and the sample as a whole. -/

namespace Sys2Proof.Machine

/-! ## The set-point in force (R187, R193) -/

/-- The set-point of a sample at tick `now`: the last that landed before it. -/
def Axis.spAt (x : Axis) (now : Nat) : Int :=
  ((x.spNext.filter (fun y => decide (y.2.1 < now))).getLast?.map (fun y => y.1)).getD x.sp

theorem State.applySp_spec (s : State) (a : Nat) : Unchanged [.str] s (s.applySp a) ∧
    (∀ b, ¬ (a = 0 ↔ b = 0) → (s.applySp a).ax b = s.ax b) ∧ (s.applySp a).str.sampleAt = s.str.sampleAt ∧
    ((s.applySp a).ax a).sp = (s.ax a).spAt s.now ∧ ((s.applySp a).ax a).enabled = (s.ax a).enabled := by
  have hclock : (s.applySp a).str.sampleAt = s.str.sampleAt := by
    unfold State.applySp State.modAx
    dsimp only
    split <;> rfl
  refine ⟨s.modAx_unchanged a _, fun b hb => s.modAx_ax_other hb _, hclock, ?_⟩
  rw [State.applySp, State.modAx_ax]
  exact ⟨rfl, rfl⟩

/-- What the set-point does to the state, before the drive is computed. -/
def State.axFollows (s : State) (a : Nat) (old : Int) : State :=
  ((if (s.ax a).st = 0 then s.axLeaveOff a else s).axSpChange a old).axEntrySample a

theorem State.axSpChange_moves (s : State) (a : Nat) (old : Int) : AxisMoves a s (s.axSpChange a old) := by
  unfold State.axSpChange
  dsimp only
  by_cases ha : a = 0
  · subst ha
    rw [if_pos rfl]
    exact .ite (s.axEnter_moves 0 1) (.ite (s.axEnter_moves 0 2) (.ite (s.axEnter_moves 0 2) (.refl 0 s)))
  · simp only [if_neg ha, State.modAx_one s ha]
    exact .ite (s.modAx_moves a (fun _ => rfl)) (.refl a s)

theorem State.axFollows_moves (s : State) (a : Nat) (old : Int) : AxisMoves a s (s.axFollows a old) := by
  have hentry (x : State) : AxisMoves a x (x.axEntrySample a) := .ite (x.modAx_moves a (fun _ => rfl)) (.refl a x)
  exact ((AxisMoves.ite (s.axLeaveOff_moves a) (.refl a s)).trans (State.axSpChange_moves _ a old)).trans (hentry _)

/-! ## The drive (R196, R199) -/

/-- The drive is within the limit, and 0 in OFF and FAULT. -/
structure Axis.Drives (x : Axis) (limit : Nat) : Prop where
  within : x.u.natAbs ≤ limit
  still : x.st = 0 ∨ x.st = 4 → x.u = 0

theorem Axis.drives_of_zero {x : Axis} (h : x.u = 0) (limit : Nat) : x.Drives limit :=
  ⟨by simp [h], fun _ => h⟩

theorem Axis.Drives.congr {x y : Axis} {limit : Nat} (h : x.Drives limit) (hst : y.st = x.st) (hu : y.u = x.u) :
    y.Drives limit := ⟨by rw [hu]; exact h.within, by rw [hst, hu]; exact h.still⟩

theorem clampI_natAbs (n : Nat) (v : Int) : (clampI (-n) n v).natAbs ≤ n := by
  unfold clampI
  omega

/-- The command limit of axis `a`. -/
def State.uLimit (s : State) (a : Nat) : Nat := (s.reg (Reg.STR_LAW_ULIM + 0x20 * a)).toNat

theorem State.axLaw_ax (s : State) (a : Nat) :
    ((s.axLaw a).ax a).u.natAbs ≤ s.uLimit a ∧ ((s.axLaw a).ax a).st = (s.ax a).st := by
  unfold State.axLaw
  rw [State.modAx_ax]
  exact ⟨clampI_natAbs _ _, rfl⟩

theorem State.axIdleLaw_ax (s : State) (a : Nat) : ((s.axIdleLaw a).ax a).u = 0 := by
  unfold State.axIdleLaw
  rw [State.modAx_ax]

/-- The loop drives in STOPPED, SPINUP, SETTLING and RUN only. -/
theorem State.axDrive_drives (s : State) (a : Nat) : ((s.axDrive a).ax a).Drives (s.uLimit a) := by
  have hidle : ((s.axIdleLaw a).ax a).Drives (s.uLimit a) := Axis.drives_of_zero (s.axIdleLaw_ax a) _
  have hlaw (hst : (s.ax a).st ≠ 0 ∧ (s.ax a).st ≠ 4) : ((s.axLaw a).ax a).Drives (s.uLimit a) := by
    obtain ⟨hlimit, hkept⟩ := s.axLaw_ax a
    refine ⟨hlimit, fun h => ?_⟩
    rw [hkept] at h
    exact absurd h (not_or.mpr hst)
  unfold State.axDrive
  split
  · next hst =>
    split
    · exact hidle
    · exact hlaw (by simp [hst])
  · next hst => exact hlaw (by simp [hst])
  · next hst => exact hlaw (by simp [hst])
  · exact hidle

theorem State.axDrive_moves (s : State) (a : Nat) : AxisMoves a s (s.axDrive a) := by
  have hlaw : AxisMoves a s (s.axLaw a) := by
    unfold State.axLaw
    exact s.modAx_moves a (fun _ => rfl)
  have hidle : AxisMoves a s (s.axIdleLaw a) := s.modAx_moves a (fun _ => rfl)
  unfold State.axDrive
  split
  · exact .ite hidle hlaw
  · exact hlaw
  · exact hlaw
  · exact hidle

/-- The run lengths of the fault conditions are counted; command, state and drive stay. -/
theorem State.axCount_eq (s : State) (a : Nat) : ∃ f : Axis → Axis, s.axCount a = s.modAx a f ∧
    ∀ x, (f x).command = x.command ∧ (f x).st = x.st ∧ (f x).u = x.u := by
  unfold State.axCount
  dsimp only
  by_cases ha : a = 0
  · subst ha
    rw [if_pos rfl]
    exact ⟨_, rfl, fun _ => ⟨rfl, rfl, rfl⟩⟩
  · simp only [if_neg ha, State.modAx_one s ha]
    exact ⟨_, rfl, fun _ => ⟨rfl, rfl, rfl⟩⟩

/-- The drive of a sample, with the run lengths that its measurement gives. -/
theorem State.axCounted_drives (s : State) (a : Nat) :
    AxisMoves a s ((s.axDrive a).axCount a) ∧ (((s.axDrive a).axCount a).ax a).Drives (s.uLimit a) := by
  obtain ⟨f, heq, hf⟩ := (s.axDrive a).axCount_eq a
  rw [heq, State.modAx_ax]
  exact ⟨(s.axDrive_moves a).trans (State.modAx_moves _ a fun x => (hf x).1),
    (s.axDrive_drives a).congr (hf _).2.1 (hf _).2.2⟩

/-! ## Faults, RUN, and the end of a sample (R199, R201, R207) -/

/-- The axis faults with the first reason that holds; else AX_0 may enter RUN. -/
def State.axJudged (s : State) (a : Nat) : State :=
  if s.axReason a ≠ 0 then s.axFault a (s.axReason a) else if a = 0 then s.axLock else s

theorem State.axJudged_drives {s : State} {a limit : Nat} (h : (s.ax a).Drives limit) :
    AxisMoves a s (s.axJudged a) ∧ ((s.axJudged a).ax a).Drives limit := by
  unfold State.axJudged
  split
  · refine ⟨s.axFault_moves a _, Axis.drives_of_zero ?_ limit⟩
    rw [State.axFault_ax]
    rfl
  · split
    · next ha =>
      subst ha
      unfold State.axLock
      split
      · refine ⟨(s.axEnter_moves 0 3).trans (State.event_moves _ 0 _ _ _), Axis.drives_of_zero ?_ limit⟩
        rw [State.ax_of_str (State.event_str _ _ _ _), State.axEnter_ax]
        rfl
      · exact ⟨.refl 0 s, h⟩
    · exact ⟨.refl a s, h⟩

/-- A disabled axis ends the sample in OFF. -/
def State.axEnds (s : State) (a : Nat) : State :=
  if !(s.ax a).enabled && decide ((s.ax a).st ≠ 0) then s.axEnter a 0 else s

theorem State.axEnds_drives {s : State} {a limit : Nat} (h : (s.ax a).Drives limit) :
    AxisMoves a s (s.axEnds a) ∧ ((s.axEnds a).ax a).Drives limit ∧
      ((s.ax a).enabled = false → ((s.axEnds a).ax a).st = 0) := by
  unfold State.axEnds
  split
  · refine ⟨s.axEnter_moves a 0, Axis.drives_of_zero ?_ limit, fun _ => ?_⟩ <;> rw [State.axEnter_ax] <;> rfl
  · next hno => exact ⟨.refl a s, h, fun hoff => by simpa [hoff] using hno⟩

/-! ## One sample of an axis -/

/-- Axis `y` is `x` after its sample at tick `now` under this command limit. -/
structure Axis.SampledAs (now limit : Nat) (x y : Axis) : Prop where
  sp : y.sp = x.spAt now
  drives : y.Drives limit
  off : x.enabled = false → y.st = 0

/-- The stages of a sample, one after the other. -/
theorem State.axSample_eq (s : State) (a : Nat) : s.axSample a =
    ((((((s.applySp a).axFollows a (s.ax a).sp).axDrive a).axCount a).axJudged a).modAx a
      (fun x => { x with entry := false })).axEnds a := rfl

theorem State.axSample_samples (s : State) (a : Nat) :
    (s.ax a).SampledAs s.now (s.uLimit a) ((s.axSample a).ax a) ∧ Unchanged axisParts s (s.axSample a) ∧
      (∀ b, ¬ (a = 0 ↔ b = 0) → (s.axSample a).ax b = s.ax b) ∧ (s.axSample a).str.sampleAt = s.str.sampleAt := by
  rw [State.axSample_eq]
  obtain ⟨happly, hother, hclock, hsp, hen⟩ := s.applySp_spec a
  generalize s.applySp a = x at happly hother hclock hsp hen ⊢
  have hfollows := x.axFollows_moves a (s.ax a).sp
  generalize x.axFollows a (s.ax a).sp = y at hfollows ⊢
  have hlimit : y.uLimit a = s.uLimit a := by
    rw [State.uLimit, hfollows.parts.reg (by decide), happly.reg (by decide), State.uLimit]
  obtain ⟨hcount, hdrives⟩ := y.axCounted_drives a
  generalize (y.axDrive a).axCount a = z at hcount hdrives ⊢
  obtain ⟨hjudged, hdrives⟩ := State.axJudged_drives hdrives
  generalize z.axJudged a = j at hjudged hdrives ⊢
  have hentry := j.modAx_moves a (f := fun x => { x with entry := false }) (fun _ => rfl)
  have hbefore := ((hfollows.trans hcount).trans hjudged).trans hentry
  obtain ⟨hends, hdrives, hoff⟩ := State.axEnds_drives (a := a) (s := j.modAx a (fun x => { x with entry := false }))
    (by rw [State.modAx_ax]; exact hdrives.congr rfl rfl)
  have hall := hbefore.trans hends
  refine ⟨⟨?_, hlimit ▸ hdrives, fun hdis => hoff ?_⟩, (happly.mono (by decide)).trans hall.parts,
    fun b hb => (hall.other b hb).trans (hother b hb), hall.sampleAt.trans hclock⟩
  · rw [← hsp]
    exact congrArg (fun c => c.2.1) hall.command
  · rw [hbefore.enabled, hen, hdis]

/-! ## Traces (R205, R206) -/

/-- The parts that the traces may reach while no time passes. -/
def traceParts : List Part := [.str, .freeNext, .log, .stat, .wide, .deferred, .recent, .hif, .mem, .cap]

/-- From `s` to `u` the traces move; of steering nothing else changes. -/
structure TracesMove (s u : State) : Prop where
  parts : Unchanged traceParts s u
  str : u.str = { s.str with tr0 := u.str.tr0, tr1 := u.str.tr1 }

namespace TracesMove

theorem of_str {s u : State} (h : Unchanged traceParts s u) (hstr : u.str = s.str) : TracesMove s u :=
  ⟨h, by rw [hstr]⟩

theorem of_quiet {s u : State} (h : Quiet s u) : TracesMove s u := of_str (h.unchanged.mono (by decide)) h.str

theorem refl (s : State) : TracesMove s s := of_str (.refl _ s) rfl

theorem trans {x y z : State} (h : TracesMove x y) (k : TracesMove y z) : TracesMove x z :=
  ⟨h.parts.trans k.parts, by rw [k.str, h.str]⟩

theorem ite {s x y : State} {c : Prop} [Decidable c] (hx : TracesMove s x) (hy : TracesMove s y) :
    TracesMove s (if c then x else y) := by
  split
  · exact hx
  · exact hy

theorem ax {s u : State} (h : TracesMove s u) (a : Nat) : u.ax a = s.ax a := by
  unfold State.ax
  rw [h.str]

theorem sampleAt {s u : State} (h : TracesMove s u) : u.str.sampleAt = s.str.sampleAt := by rw [h.str]

theorem stall {s u : State} (h : TracesMove s u) : u.str.stall = s.str.stall := by rw [h.str]

theorem stalls {s u : State} (h : TracesMove s u) : u.str.stalls = s.str.stalls := by
  rw [h.str]
  rfl

end TracesMove

theorem State.modTr_moves (s : State) (a : Nat) (f : Trace → Trace) : TracesMove s (s.modTr a f) := by
  refine ⟨(s.modTr_unchanged a f).mono (by decide), ?_⟩
  unfold State.modTr
  dsimp only
  split <;> rfl

theorem State.traceDone_moves (s : State) (a : Nat) : TracesMove s (s.traceDone a) := by
  have hfree (x : State) : TracesMove x x.freeUsed := .of_str (x.freeUsed_unchanged.mono (by decide)) rfl
  unfold State.traceDone
  exact .ite ((((s.modTr_moves a _).trans (hfree _)).trans (.of_quiet (State.putWide_quiet _ _ _))).trans
    (.of_quiet (State.event_quiet _ _ _ _))) (.refl s)

theorem State.traceStep_moves (s : State) (a : Nat) (spChanged : Bool) : TracesMove s (s.traceStep a spChanged) := by
  have hstore (x : State) : TracesMove x (x.traceStore a) := by
    unfold State.traceStore
    exact x.modTr_moves a _
  unfold State.traceStep
  exact (((s.traceDone_moves a).trans (.ite (.ite (hstore _) (State.modTr_moves _ a _)) (.refl _))).trans
    (.ite (State.modTr_moves _ a _) (.refl _))).trans (State.modTr_moves _ a _)

/-! ## The sample as a whole -/

/-- The sample is taken, and both axes are measured. -/
def State.measured (s : State) : State := ({ s with str := { s.str with sampleAt := s.now } } : State).axMeasure

theorem State.measured_unchanged (s : State) : Unchanged [.str, .freeNext] s s.measured :=
  ((s.setStr_unchanged _).mono (by decide)).trans
    (((State.setStr_unchanged _ _).mono (by decide)).trans ((State.freeUsed_unchanged _).mono (by decide)))

theorem State.measured_command (s : State) (a : Nat) : (s.measured.ax a).command = (s.ax a).command := by
  unfold State.ax
  split <;> rfl

/-- Both axes after their samples, with STEER_STALL. -/
def State.steered (s : State) : State := ((s.measured.axSample 0).axSample 1).strUpdate

/-- The traces store the sample; a capture trigger counts for one sample. -/
def State.sampleTraced (s : State) (c0 c1 : Bool) : State :=
  let z := (s.traceStep 0 c0).traceStep 1 c1
  { z with str := { z.str with capTrig := false } }

/-- The tick of the sample that a command of tick `t` brings. -/
def State.sampleTick (s : State) (t : Nat) : Nat :=
  if s.str.sampleAt = 0 then t else max t (s.str.sampleAt + samplePeriod)

theorem exec_controlSample (t : Nat) (s : State) : ∃ c0 c1, exec (.controlSample t) s =
    .next ((s.at (s.sampleTick t)).windowOverdue.steered.sampleTraced c0 c1) := by
  change ∃ c0 c1, execControlSample t s = _
  unfold execControlSample State.sampleTick
  generalize (if s.str.sampleAt = 0 then t else max t (s.str.sampleAt + samplePeriod)) = due
  generalize hw : (s.at due).windowOverdue = w
  have hsteered : ((({ w with str := { w.str with sampleAt := w.now } } : State).axMeasure.axSample 0).axSample
    1).strUpdate = w.steered := rfl
  dsimp only
  rw [hw, hsteered]
  generalize w.steered = y
  exact ⟨_, _, rfl⟩

theorem State.sampleTraced_keeps (s : State) (c0 c1 : Bool) :
    Unchanged (.freeNext :: axisParts) s (s.sampleTraced c0 c1) ∧
    (∀ a, (s.sampleTraced c0 c1).ax a = s.ax a) ∧ (s.sampleTraced c0 c1).str.sampleAt = s.str.sampleAt ∧
    (s.sampleTraced c0 c1).str.stall = s.str.stall ∧ (s.sampleTraced c0 c1).str.stalls = s.str.stalls ∧
    (s.sampleTraced c0 c1).str.capTrig = false := by
  have htraces := (s.traceStep_moves 0 c0).trans (State.traceStep_moves _ 1 c1)
  unfold State.sampleTraced
  generalize (s.traceStep 0 c0).traceStep 1 c1 = z at htraces ⊢
  exact ⟨(htraces.parts.mono (by decide)).trans ((z.setStr_unchanged _).mono (by decide)), htraces.ax,
    htraces.sampleAt, htraces.stall, htraces.stalls, rfl⟩

theorem Axis.SampledAs.of_command {now limit : Nat} {x y z : Axis} (h : x.SampledAs now limit y)
    (hc : x.command = z.command) : z.SampledAs now limit y := by
  simp only [Axis.command, Prod.mk.injEq] at hc
  obtain ⟨hen, hsp, hnext⟩ := hc
  exact ⟨by rw [h.sp, Axis.spAt, Axis.spAt, hsp, hnext], h.drives, fun hoff => h.off (hen.trans hoff)⟩

theorem State.measured_sampleAt (s : State) : s.measured.str.sampleAt = s.now := rfl

/-- Each axis has been sampled, at the tick that the sample clock keeps. -/
theorem State.steered_samples (s : State) : Unchanged (.freeNext :: axisParts) s s.steered ∧
    s.steered.str.sampleAt = s.now ∧ s.steered.str.stall = s.steered.str.stalls ∧
    ∀ a, a < 2 → (s.ax a).SampledAs s.now (s.uLimit a) (s.steered.ax a) := by
  unfold State.steered
  have hmeasured := s.measured_unchanged
  have hcommand := s.measured_command
  have hstart := s.measured_sampleAt
  generalize s.measured = m at hmeasured hcommand hstart ⊢
  have hnow : m.now = s.now := hmeasured.now (by decide)
  have hlimit (a : Nat) : m.uLimit a = s.uLimit a := by
    rw [State.uLimit, hmeasured.reg (by decide), State.uLimit]
  obtain ⟨hsample0, hparts0, hother0, hclock0⟩ := m.axSample_samples 0
  generalize m.axSample 0 = x at hsample0 hparts0 hother0 hclock0 ⊢
  obtain ⟨hsample1, hparts1, hother1, hclock1⟩ := x.axSample_samples 1
  have hlimit1 : x.uLimit 1 = m.uLimit 1 := by rw [State.uLimit, hparts0.reg (by decide), State.uLimit]
  rw [hother0 1 (by decide), hparts0.now (by decide), hlimit1, hlimit, hnow] at hsample1
  rw [hlimit, hnow] at hsample0
  refine ⟨?_, ?_, ?_, fun a ha => ?_⟩
  · exact (hmeasured.mono (by decide)).trans (((hparts0.trans hparts1).mono (by decide)).trans
      ((State.strUpdate_unchanged _).mono (by decide)))
  · exact (State.strUpdate_moves _ 0).sampleAt.trans (hclock1.trans (hclock0.trans hstart))
  · exact State.strUpdate_stall _
  · rw [State.strUpdate_ax]
    obtain rfl | rfl : a = 0 ∨ a = 1 := by omega
    · rw [hother1 0 (by decide)]
      exact hsample0.of_command (hcommand 0)
    · exact hsample1.of_command (hcommand 1)

theorem controlSample_samples (t : Nat) (s : State) : Completes (.controlSample t) s fun u =>
    u.now = max s.now (s.sampleTick t) ∧ u.str.sampleAt = u.now ∧ u.str.capTrig = false ∧ u.str.stall = u.str.stalls ∧
      (∀ a, a < 2 → (s.ax a).SampledAs u.now (s.uLimit a) (u.ax a)) ∧
      Unchanged ([.str, .emt, .freeNext] ++ recording) s u := by
  obtain ⟨c0, c1, hexec⟩ := exec_controlSample t s
  have hnow := s.at_now (s.sampleTick t)
  have htime := s.at_unchanged (s.sampleTick t)
  have hstart := s.at_ax (s.sampleTick t)
  refine .of_next hexec ?_
  generalize s.at (s.sampleTick t) = b at hnow htime hstart ⊢
  have hwindow := b.windowOverdue_moves
  generalize b.windowOverdue = w at hwindow ⊢
  obtain ⟨hparts, hclock, hstall, hsample⟩ := w.steered_samples
  obtain ⟨htraces, hax, hkept, hsame, hstalls, htrig⟩ := w.steered.sampleTraced_keeps c0 c1
  generalize w.steered = y at hparts hclock hstall hsample htraces hax hkept hsame hstalls htrig ⊢
  have hend : (y.sampleTraced c0 c1).now = w.now := (htraces.now (by decide)).trans (hparts.now (by decide))
  have hcommand (a : Nat) (ha : a < 2) : (w.ax a).command = (s.ax a).command := by
    rw [← hstart]
    obtain rfl | rfl : a = 0 ∨ a = 1 := by omega
    · rw [hwindow.other 0 (by decide)]
    · exact hwindow.command
  have hlimit (a : Nat) : w.uLimit a = s.uLimit a := by
    rw [State.uLimit, hwindow.parts.reg (by decide), htime.reg (by decide), State.uLimit]
  have hall : Unchanged (.freeNext :: axisParts) b (y.sampleTraced c0 c1) :=
    (hwindow.parts.mono (by decide)).trans (hparts.trans htraces)
  refine ⟨(hend.trans hwindow.now).trans hnow, hkept.trans (hclock.trans hend.symm), htrig,
    hsame.trans (hstall.trans hstalls.symm), fun a ha => ?_, (htime.mono (by decide)).trans (hall.mono (by decide))⟩
  rw [hend, ← hlimit, hax]
  exact (hsample a ha).of_command (hcommand a ha)

end Sys2Proof.Machine
end

section
/-! PROOFS. The axis link and the encoder (R188 to R191, R201): what a frame, an edge and an index leave. -/

namespace Sys2Proof.Machine

/-! ## Faults: their flag, and the values they leave -/

/-- A fault shows the flags of its block. -/
theorem State.fault_shows (s : State) (code off : Nat) {b : Nat} (h : b < 16) (i : Info) :
    (s.fault code off (flag16 b) i).shows off b :=
  (KeepsClock.ite (State.faultCe_keepsClock _ code i) (State.faultEntry_keepsClock _ code i)).shows off b
    ((State.raise_shows _ _ _ _ _).mpr (.inr ⟨rfl, bitOf_flag16 h⟩))

theorem State.bump_wideRaw_other (s : State) {id o : Nat} (h : o ≠ id) (n : Nat) :
    (s.bump id n).wideRaw o = s.wideRaw o := by
  by_cases hn : n = 0
  · rw [State.bump, if_pos hn]
  · rw [State.bump_eq (Nat.pos_of_ne_zero hn)]
    by_cases hz : s.isFrozen id = true
    · exact (State.updWide_frozen _ hz).2 o
    · rw [(State.updWide_free _ (by simpa using hz)).2, if_neg h]

/-- Of the wide values a fault may count FLT_SUPPRESSED only (R488). -/
theorem State.fault_wideRaw (s : State) (code off : Nat) (f : BitVec 16) (i : Info) {id : Nat}
    (h : id ≠ Id.FLT_SUPPRESSED) : (s.fault code off f i).wideRaw id = s.wideRaw id := by
  have hraise (x : State) (o : Nat) (g : BitVec 16) : (x.raise o g).wideRaw id = x.wideRaw id :=
    (x.raise_unchanged o g).wideRaw (by decide) id
  have hpush (x : State) (e : LogEntry) : (x.logPush e).wideRaw id = x.wideRaw id :=
    (x.logPush_unchanged e).wideRaw (by decide) id
  have hlog (x : State) (l : FaultLog) : ({ x with log := l } : State).wideRaw id = x.wideRaw id := rfl
  unfold State.fault State.faultCe State.faultEntry
  dsimp only
  (repeat' split) <;> simp only [hraise, hpush, hlog, State.bump_wideRaw_other _ h]

/-! ## The axis link (R188, R189) -/

theorem exec_axisLinkFrame {s : State} (t : Nat) {a : Fin 2} (rx : Word) (h : (s.ax a).enabled = true) :
    exec (.axisLinkFrame t a rx) s = .next (if bitsOf rx.toNat 31 28 = 0b1010
      then (s.at t).modAx a (fun x => { x with rx := sgn 16 (bitsOf rx.toNat 27 12), linkBad := 0 })
      else (((s.at t).modAx a (fun x => { x with linkBad := x.linkBad + 1 })).bump Id.STR_LINK_ERRS).fault 0x840
        Reg.STR_STAT (flag16 5) { inst := a, detail := a }) := by
  change execAxisLinkFrame t a rx s = _
  unfold execAxisLinkFrame
  dsimp only
  rw [State.at_ax, if_pos h]
  split <;> rfl

theorem axisLinkFrame_without {s : State} (t : Nat) {a : Fin 2} (rx : Word) (h : (s.ax a).enabled = false) :
    Completes (.axisLinkFrame t a rx) s fun u => u = s.at t :=
  .of_next (if_neg (by simp [h])) rfl

theorem axisLinkFrame_reads {s : State} (t : Nat) {a : Fin 2} {rx : Word} (h : (s.ax a).enabled = true)
    (hsync : bitsOf rx.toNat 31 28 = 0b1010) : Completes (.axisLinkFrame t a rx) s fun u =>
      u.ax a = { s.ax a with rx := sgn 16 (bitsOf rx.toNat 27 12), linkBad := 0 } ∧ Unchanged [.str] (s.at t) u := by
  refine .of_next (exec_axisLinkFrame t rx h) ?_
  rw [if_pos hsync, State.modAx_ax, State.at_ax]
  exact ⟨rfl, State.modAx_unchanged _ _ _⟩

theorem axisLinkFrame_counts {s : State} (t : Nat) {a : Fin 2} {rx : Word} (h : (s.ax a).enabled = true)
    (hsync : bitsOf rx.toNat 31 28 ≠ 0b1010) : Completes (.axisLinkFrame t a rx) s fun u =>
      u.ax a = { s.ax a with linkBad := (s.ax a).linkBad + 1 } ∧ u.shows Reg.STR_STAT 5 ∧
      Unchanged ([.str] ++ recording) s u ∧
      (s.isFrozen Id.STR_LINK_ERRS = false → bitsOf (u.wideRaw Id.STR_LINK_ERRS).toNat 31 0 =
        (bitsOf ((s.at t).wideRaw Id.STR_LINK_ERRS).toNat 31 0 + 1) % 2 ^ 32) := by
  refine .of_next (exec_axisLinkFrame t rx h) ?_
  have htime := s.at_unchanged t
  have hax := s.at_ax t a
  have hfrozen := s.at_isFrozen t Id.STR_LINK_ERRS
  rw [if_neg hsync]
  generalize s.at t = b at htime hax hfrozen ⊢
  have hmod := b.modAx_unchanged a (fun x => { x with linkBad := x.linkBad + 1 })
  have hbad := b.modAx_ax a (fun x => { x with linkBad := x.linkBad + 1 })
  generalize b.modAx a (fun x => { x with linkBad := x.linkBad + 1 }) = x at hmod hbad ⊢
  have hquiet : Quiet x ((x.bump Id.STR_LINK_ERRS).fault 0x840 Reg.STR_STAT (flag16 5) { inst := a, detail := a }) :=
    (x.bump_quiet _ _).trans (State.fault_quiet _ _ _ _ _)
  refine ⟨?_, State.fault_shows _ _ _ (by decide) _, ?_, fun hf => ?_⟩
  · rw [State.ax_of_str hquiet.str, hbad, hax]
  · exact (htime.mono (by decide)).trans ((hmod.mono (by decide)).trans (hquiet.unchanged.mono (by decide)))
  · rw [State.fault_wideRaw _ _ _ _ _ (by decide), State.bump_counts (by decide), hmod.wideRaw (by decide)]
    rw [hmod.isFrozen (by decide) (by decide) (by decide), hfrozen, hf]

/-! ## Facet marks and the stamps of the index (R191, R373) -/

/-- An edge of an internal source of steering is stamped at most. -/
theorem State.tsuInternal_unchanged (s : State) {n : Nat} (h : n < 2) : Unchanged [.tsu] s (s.tsuInternal n) := by
  have hstamp : Unchanged [.tsu] s (s.tsuStamp n true) := by
    unfold State.tsuStamp
    rw [if_neg (by omega), if_neg (by omega)]
    exact s.setTsu_unchanged _
  exact .ite (.ite hstamp (.refl _ s)) (.refl _ s)

/-- Of the steering engine a facet mark changes the facet only. -/
theorem State.facetMark_keeps (s : State) : Unchanged [.str, .tsu] s s.facetMark ∧
    ∃ facet, s.facetMark.str = { s.str with facet } := by
  unfold State.facetMark
  split
  · split
    · next f _ =>
      have hstamp := State.tsuInternal_unchanged { s with str := { s.str with facet := some (f, s.now) } } (n := 1)
        (by decide)
      exact ⟨((s.setStr_unchanged _).mono (by decide)).trans (hstamp.mono (by decide)), _, hstamp .str (by decide)⟩
    · exact ⟨.refl _ s, _, rfl⟩
  · exact ⟨.refl _ s, _, rfl⟩

/-! ## Encoder edges (R190) -/

/-- One edge up or down, modulo the counts per revolution. -/
theorem State.countEdge_mod {s : State} (up : Bool) (hidx : s.str.idxAt ≠ some s.now) (h : s.str.count < s.cpr) :
    s.countEdge up = (if up then s.str.count + 1 else s.str.count + s.cpr - 1) % s.cpr := by
  unfold State.countEdge
  rw [if_neg hidx]
  cases up
  · rw [if_neg Bool.false_ne_true, if_neg Bool.false_ne_true]
    split
    · next h0 => rw [h0, Nat.zero_add, Nat.mod_eq_of_lt (by omega)]
    · rw [show s.str.count + s.cpr - 1 = s.str.count - 1 + s.cpr by omega, Nat.add_mod_right,
        Nat.mod_eq_of_lt (by omega)]
  · rw [if_pos rfl, if_pos rfl]
    split
    · rw [show s.str.count + 1 = s.cpr by omega, Nat.mod_self]
    · rw [Nat.mod_eq_of_lt (by omega)]

theorem exec_encoderEdge (t : Nat) (up : Bool) (s : State) : ∃ y : Steering,
    exec (.encoderEdge t up) s = .next ({ s.at t with str := y } : State).facetMark ∧ y.count = (s.at t).countEdge up ∧
    y.edgeNow = some (s.at t).now ∧ y.edgePrev = (s.at t).str.edgeNow ∧ y.ax0 = (s.at t).str.ax0 ∧
    y.ax1 = (s.at t).str.ax1 := ⟨_, rfl, rfl, rfl, rfl, rfl, rfl⟩

theorem encoderEdge_counts (t : Nat) (up : Bool) (s : State) : Completes (.encoderEdge t up) s fun u =>
    u.str.edgeNow = some u.now ∧ u.str.edgePrev = s.str.edgeNow ∧ u.str.ax0 = s.str.ax0 ∧ u.str.ax1 = s.str.ax1 ∧
    Unchanged ([.str, .tsu] ++ recording) s u ∧ (s.str.idxAt = some u.now → u.str.count = s.str.count) ∧
    (s.str.idxAt ≠ some u.now → s.str.count < s.cpr →
      u.str.count = (if up then s.str.count + 1 else s.str.count + s.cpr - 1) % s.cpr) := by
  obtain ⟨y, hexec, hcount, hedge, hprev, hax0, hax1⟩ := exec_encoderEdge t up s
  have htime := s.at_unchanged t
  have hcpr : (s.at t).cpr = s.cpr := congrArg BitVec.toNat (s.at_reg t _)
  rw [← hcpr, ← s.at_str t]
  refine .of_next hexec ?_
  generalize s.at t = b at htime hcount hedge hprev hax0 hax1 ⊢
  obtain ⟨hparts, facet, hstr⟩ := State.facetMark_keeps { b with str := y }
  have hnow : ({ b with str := y } : State).facetMark.now = b.now := hparts.now (by decide)
  rw [hnow, hstr]
  refine ⟨hedge, hprev, hax0, hax1, ?_, fun hidx => hcount.trans (if_pos hidx),
    fun hidx hlt => hcount.trans (State.countEdge_mod up hidx hlt)⟩
  exact (htime.mono (by decide)).trans (((b.setStr_unchanged y).mono (by decide)).trans (hparts.mono (by decide)))

/-! ## The index (R190) -/

/-- How far the count before an index is from the last of the revolution. -/
def State.indexMiss (s : State) : Nat :=
  (((if s.str.edgeNow = some s.now then s.str.countPrev else s.str.count : Nat) : Int) - (s.cpr - 1)).natAbs

/-- An index at this count faults AX_0. -/
def State.indexFaults (s : State) : Bool :=
  s.str.indexSeen && decide (s.fld Reg.STR_AX0_TMO 5 4 < s.indexMiss) && decide ((s.ax 0).st ≠ 0) &&
    decide ((s.ax 0).st ≠ 4)

/-- An index is stamped while AX_0 is enabled. -/
def State.indexStamped (s : State) : State := if (s.ax 0).enabled then s.tsuInternal 0 else s

theorem exec_encoderIndex (t : Nat) (s : State) : ∃ y : Steering,
    exec (.encoderIndex t) s = .next (if (s.at t).indexFaults
      then ({ s.at t with str := y } : State).indexStamped.axFault 0 2
      else ({ s.at t with str := y } : State).indexStamped.facetMark) ∧
    y.count = 0 ∧ y.idxAt = some (s.at t).now ∧ y.ax0 = (s.at t).str.ax0 ∧ y.ax1 = (s.at t).str.ax1 ∧
    ((s.ax 0).enabled = true → (s.ax 0).st ≠ 0 → y.indexSeen = true) := by
  change ∃ y, execEncoderIndex t s = _ ∧ _
  rw [← s.at_ax t 0]
  unfold execEncoderIndex
  generalize s.at t = b
  exact ⟨_, rfl, rfl, rfl, rfl, rfl, fun hen hst => by simp [hen, hst]⟩

theorem State.indexStamped_unchanged (s : State) : Unchanged [.tsu] s s.indexStamped :=
  .ite (s.tsuInternal_unchanged (by decide)) (.refl _ s)

theorem encoderIndex_resets (t : Nat) (s : State) : Completes (.encoderIndex t) s fun u =>
    u.now = (s.at t).now ∧ u.str.count = 0 ∧ u.str.idxAt = some u.now ∧
    ((s.ax 0).enabled = true → (s.ax 0).st ≠ 0 → u.str.indexSeen = true) ∧
    ((s.at t).indexFaults = true → (u.ax 0).st = 4 ∧ (u.ax 0).reason = 2 ∧ u.str.stall = true) ∧
    ((s.at t).indexFaults = false → u.str.ax0 = s.str.ax0) ∧ u.str.ax1 = s.str.ax1 ∧
    Unchanged ([.str, .tsu, .emt] ++ recording) s u := by
  obtain ⟨y, hexec, hcount, hidx, hax0, hax1, hseen⟩ := exec_encoderIndex t s
  have htime := s.at_unchanged t
  rw [s.at_str t] at hax0 hax1
  refine .of_next hexec ?_
  generalize s.at t = b at htime hidx ⊢
  have hstamped := State.indexStamped_unchanged { b with str := y }
  have hstr : ({ b with str := y } : State).indexStamped.str = y := hstamped .str (by decide)
  have hnow : ({ b with str := y } : State).indexStamped.now = b.now := hstamped.now (by decide)
  have hbefore : Unchanged ([.str, .tsu, .emt] ++ recording) s ({ b with str := y } : State).indexStamped :=
    (htime.mono (by decide)).trans (((b.setStr_unchanged y).mono (by decide)).trans (hstamped.mono (by decide)))
  generalize ({ b with str := y } : State).indexStamped = z at hstr hnow hbefore ⊢
  cases hbad : b.indexFaults
  · obtain ⟨hparts, facet, hmark⟩ := z.facetMark_keeps
    have hkept : z.facetMark.now = b.now := (hparts.now (by decide)).trans hnow
    rw [if_neg Bool.false_ne_true, hkept, hmark, hstr]
    exact ⟨rfl, hcount, hidx, hseen, fun h => absurd h Bool.false_ne_true, fun _ => hax0, hax1,
      hbefore.trans (hparts.mono (by decide))⟩
  · have hfault := z.axFault_unchanged 0 2
    have hkept : (z.axFault 0 2).now = b.now := (hfault.now (by decide)).trans hnow
    rw [if_pos rfl, hkept, State.axFault_ax, State.axFault_zero, hstr]
    exact ⟨rfl, hcount, hidx, hseen, fun _ => ⟨rfl, rfl, rfl⟩, fun h => absurd h.symm Bool.false_ne_true, hax1,
      hbefore.trans (hfault.mono (by decide))⟩

/-- Without an edge at the index's own tick the count itself is judged. -/
theorem State.at_indexFaults {s : State} {t : Nat} (hedge : s.str.edgeNow ≠ some (s.at t).now)
    (hseen : s.str.indexSeen = true) (hoff : (s.ax 0).st ≠ 0) (hfault : (s.ax 0).st ≠ 4) :
    (s.at t).indexFaults = decide (s.fld Reg.STR_AX0_TMO 5 4 < ((s.str.count : Int) - (s.cpr - 1)).natAbs) := by
  have hcpr : (s.at t).cpr = s.cpr := congrArg BitVec.toNat (s.at_reg t _)
  unfold State.indexFaults State.indexMiss
  rw [State.at_str, State.at_fld, State.at_ax, hcpr, if_neg hedge]
  simp [hseen, hoff, hfault]

/-- Settles O39: a sample through its axes and traces, frames by their sync field, edges and the index by the count. -/
theorem steeringSamplesAndEncoder : Obligations.SteeringSamplesAndEncoder := by
  refine ⟨fun t s => ?_, fun t a rx s => ⟨fun h hsync => axisLinkFrame_reads t h hsync,
    fun h hsync => axisLinkFrame_counts t h hsync, fun h => axisLinkFrame_without t rx h⟩,
    fun t up s => encoderEdge_counts t up s, fun t s => ?_⟩
  · obtain ⟨u, hexec, hnow, hclock, htrig, hstall, hsample, hparts⟩ := controlSample_samples t s
    refine ⟨u, hexec, hnow, hclock, htrig, hstall, fun a ha => ?_, hparts⟩
    obtain ⟨hsp, ⟨hwithin, hstill⟩, hoff⟩ := hsample a ha
    exact ⟨hsp, hwithin, hstill, hoff⟩
  · obtain ⟨u, hexec, hnow, hcount, hidx, hseen, hfaults, hkept, hax1, hparts⟩ := encoderIndex_resets t s
    refine ⟨u, hexec, hcount, hidx, hseen, fun hedge hindex hoff hfault => ?_, hax1, hparts⟩
    rw [State.at_indexFaults (hnow ▸ hedge) hindex hoff hfault] at hfaults hkept
    exact ⟨fun h => hfaults (decide_eq_true h), fun h => hkept (decide_eq_false (Nat.not_lt.mpr h))⟩

end Sys2Proof.Machine
end

section
/-! PROOFS. Time limits, enables, restarts and traces (R191, R199 to R203, R206). -/

namespace Sys2Proof.Machine

/-! ## Time limits (R201) -/

/-- AX_0 faults at a tick after `s`; `b` is `s` at that tick. -/
theorem State.axFault_zero_spec {s b : State} (htime : Unchanged recording s b) (hax : b.str.ax1 = s.str.ax1)
    (reason : Nat) : ((b.axFault 0 reason).ax 0).FaultedFor reason ∧ (b.axFault 0 reason).str.stall = true ∧
      (b.axFault 0 reason).str.ax1 = s.str.ax1 ∧ Unchanged ([.str, .emt] ++ recording) s (b.axFault 0 reason) := by
  rw [State.axFault_ax, State.axFault_zero]
  exact ⟨Axis.faulted_faultedFor _ _ _, rfl, hax,
    (htime.mono (by decide)).trans ((b.axFault_unchanged 0 reason).mono (by decide))⟩

/-- The first sample past the limit of SPINUP. -/
def State.spinupDue (s : State) : Nat := (s.ax 0).since + msT (100 * s.fld Reg.STR_AX0_TMO 15 8) + samplePeriod

theorem exec_spinupTimeout {s : State} (t : Nat) (hst : (s.ax 0).st = 2) (hentry : (s.ax 0).entry = false) :
    exec (.spinupTimeout t) s = .next ((s.at (max t s.spinupDue)).axFault 0 6) := by
  have hover : (s.at (max t s.spinupDue)).axSpinOver = true := by
    unfold State.axSpinOver
    rw [State.at_ax, State.at_fld, State.at_now, hentry, Bool.not_false, Bool.true_and, decide_eq_true_eq]
    unfold State.spinupDue samplePeriod
    omega
  change execSpinupTimeout t s = _
  unfold execSpinupTimeout
  dsimp only
  rw [if_pos (c := (decide ((s.ax 0).st = 2) && !(s.ax 0).entry) = true) (by simp [hst, hentry])]
  exact if_pos (by
    rw [State.at_ax, hst]
    exact hover)

theorem spinupTimeout_faults {s : State} (t : Nat) (hst : (s.ax 0).st = 2) (hentry : (s.ax 0).entry = false) :
    Completes (.spinupTimeout t) s fun u => (u.ax 0).FaultedFor 6 ∧ u.str.stall = true ∧
      (s.ax 0).since + msT (100 * s.fld Reg.STR_AX0_TMO 15 8) < u.now ∧ u.str.ax1 = s.str.ax1 ∧
      Unchanged ([.str, .emt] ++ recording) s u := by
  have hnow := s.at_now (max t s.spinupDue)
  obtain ⟨hfaulted, hstall, hax1, hparts⟩ := State.axFault_zero_spec (s.at_unchanged (max t s.spinupDue))
    (congrArg Steering.ax1 (s.at_str _)) 6
  refine .of_next (exec_spinupTimeout t hst hentry) ⟨hfaulted, hstall, ?_, hax1, hparts⟩
  rw [(State.axFault_unchanged _ _ _).now (by decide), hnow]
  unfold State.spinupDue samplePeriod
  omega

theorem spinupTimeout_without {s : State} (t : Nat) (h : (s.ax 0).st ≠ 2 ∨ (s.ax 0).entry = true) :
    Completes (.spinupTimeout t) s fun u => u = s.at t := by
  have hnot : ¬ (decide ((s.ax 0).st = 2) && !(s.ax 0).entry) = true := by
    rcases h with hst | hentry
    · simp [hst]
    · simp [hentry]
  refine .of_next (u := s.at t) ?_ rfl
  change execSpinupTimeout t s = _
  unfold execSpinupTimeout
  dsimp only
  rw [if_neg hnot, if_neg]
  rw [State.at_ax]
  rintro hover
  refine hnot ?_
  simp only [State.axSpinOver, State.at_ax, Bool.and_eq_true] at hover ⊢
  exact ⟨hover.1, hover.2.1⟩

theorem noEdgeTimeout_faults {s : State} (t : Nat) (hst : (s.ax 0).st = 3) (hedge : (s.at t).noEdge = true) :
    Completes (.noEdgeTimeout t) s fun u => (u.ax 0).FaultedFor 3 ∧ u.str.stall = true ∧ u.str.ax1 = s.str.ax1 ∧
      Unchanged ([.str, .emt] ++ recording) s u :=
  .of_next (if_pos (by simp [hst, hedge]))
    (State.axFault_zero_spec (s.at_unchanged t) (congrArg Steering.ax1 (s.at_str t)) 3)

theorem noEdgeTimeout_without {s : State} (t : Nat) (h : (s.ax 0).st ≠ 3 ∨ (s.at t).noEdge = false) :
    Completes (.noEdgeTimeout t) s fun u => u = s.at t := by
  refine .of_next (if_neg ?_) rfl
  rcases h with hst | hedge
  · simp [hst]
  · simp [hedge]

/-! ## The settle window (R199, R201) -/

/-- The window of AX_1 is over. -/
def State.windowClosed (s : State) : State := s.modAx 1 (fun x => { x with window := none })

/-- AX_1 has settled. -/
def State.settled (s : State) : State := ((s.axEnter 1 3).event Reg.STR_STAT 3 { inst := 1 }).strUpdate

theorem State.windowEnd_eq {s : State} {w : Nat} (h : (s.ax 1).window = some w) (hw : w ≤ s.now) :
    s.windowEnd = if (s.ax 1).st = 2 then
        if (s.reg Reg.STR_AX1_ERR).toNat < (s.ax 1).e.natAbs then s.windowClosed.axFault 1 8 else s.windowClosed.settled
      else s.windowClosed := by
  have hax : s.windowClosed.ax 1 = { s.ax 1 with window := none } := s.modAx_ax 1 _
  have htrack : s.windowClosed.axTrack = decide ((s.reg Reg.STR_AX1_ERR).toNat < (s.ax 1).e.natAbs) := by
    rw [State.axTrack, hax]
    rfl
  unfold State.windowEnd
  rw [h]
  change (if w ≤ s.now then if (s.windowClosed.ax 1).st = 2 then if s.windowClosed.axTrack = true then
    s.windowClosed.axFault 1 8 else s.windowClosed.settled else s.windowClosed else s) = _
  rw [if_pos hw, hax, htrack]
  simp only [decide_eq_true_eq]

theorem State.settled_spec (s : State) : (s.settled.ax 1).st = 3 ∧ (s.settled.ax 1).window = none ∧
    s.settled.str.stall = decide ((s.ax 0).st ≠ 3) ∧ AxisMoves 1 s s.settled := by
  have hmoves := (s.axEnter_moves 1 3).trans (State.event_moves _ 1 Reg.STR_STAT 3 { inst := 1 })
  have hax : ((s.axEnter 1 3).event Reg.STR_STAT 3 { inst := 1 }).ax 1 = (s.ax 1).entered 3 s.now :=
    (State.ax_of_str (State.event_str _ _ _ _) 1).trans (s.axEnter_ax 1 3)
  unfold State.settled
  generalize (s.axEnter 1 3).event Reg.STR_STAT 3 { inst := 1 } = x at hmoves hax ⊢
  rw [State.strUpdate_stall, Steering.stalls]
  change _ ∧ _ ∧ (decide ((x.strUpdate.ax 0).st ≠ 3) ||
    ((x.strUpdate.ax 1).enabled && decide ((x.strUpdate.ax 1).st ≠ 3))) = _ ∧ _
  rw [State.strUpdate_ax, State.strUpdate_ax, hax, hmoves.other 0 (by decide)]
  exact ⟨rfl, rfl, by simp [Axis.entered], hmoves.trans (State.strUpdate_moves x 1)⟩

theorem settleWindowEnd_ends {s : State} (t : Nat) {w : Nat} (h : (s.ax 1).window = some w) :
    Completes (.settleWindowEnd t) s fun u => u.now = max s.now (max t w) ∧
      (u.ax 1).window = none ∧ u.str.ax0 = s.str.ax0 ∧ ((s.ax 1).st ≠ 2 → (u.ax 1).st = (s.ax 1).st) ∧
      ((s.ax 1).st = 2 → (s.reg Reg.STR_AX1_ERR).toNat < (s.ax 1).e.natAbs → (u.ax 1).FaultedFor 8) ∧
      ((s.ax 1).st = 2 → (s.ax 1).e.natAbs ≤ (s.reg Reg.STR_AX1_ERR).toNat → (u.ax 1).st = 3 ∧
        u.str.stall = decide ((s.ax 0).st ≠ 3)) ∧ Unchanged ([.str, .emt] ++ recording) s u := by
  have hexec : exec (.settleWindowEnd t) s = .next (s.at (max t w)).windowEnd := by
    change execSettleWindowEnd t s = _
    unfold execSettleWindowEnd
    rw [h]
  have htime := (s.at_unchanged (max t w)).mono (more := [.str, .emt] ++ recording) (by decide)
  have hnow := s.at_now (max t w)
  have hax := s.at_ax (max t w)
  have hmoves := (s.at (max t w)).windowEnd_moves
  refine .of_next hexec ⟨hmoves.now.trans hnow, ?_⟩
  rw [← hax 1] at h
  have hend := State.windowEnd_eq h (by omega)
  rw [State.at_reg, hax 1] at hend
  generalize s.at (max t w) = b at htime hnow hax hmoves hend ⊢
  have hclosed : b.windowClosed.ax 1 = { s.ax 1 with window := none } := by rw [← hax]; exact b.modAx_ax 1 _
  have hother : b.windowClosed.ax 0 = s.ax 0 := (b.modAx_ax_other (by decide) _).trans (hax 0)
  have hax0 : b.windowEnd.str.ax0 = s.str.ax0 := (hmoves.other 0 (by decide)).trans (hax 0)
  have hparts : Unchanged ([.str, .emt] ++ recording) s b.windowEnd := htime.trans (hmoves.parts.mono (by decide))
  rw [hend] at hax0 hparts ⊢
  split
  · next hst =>
    split
    · next hlarge =>
      rw [if_pos hst, if_pos hlarge] at hax0 hparts
      rw [State.axFault_ax]
      exact ⟨rfl, hax0, fun hno => absurd hst hno, fun _ _ => Axis.faulted_faultedFor _ _ _,
        fun _ hsmall => absurd hlarge (Nat.not_lt.mpr hsmall), hparts⟩
    · next hsmall =>
      rw [if_pos hst, if_neg hsmall] at hax0 hparts
      obtain ⟨hrun, hwindow, hstall, -⟩ := b.windowClosed.settled_spec
      rw [hother] at hstall
      exact ⟨hwindow, hax0, fun hno => absurd hst hno, fun _ hlarge => absurd hlarge hsmall,
        fun _ _ => ⟨hrun, hstall⟩, hparts⟩
  · next hst =>
    rw [if_neg hst] at hax0 hparts
    rw [hclosed]
    exact ⟨rfl, hax0, fun _ => rfl, fun hyes => absurd hyes hst, fun hyes => absurd hyes hst, hparts⟩

/-! ## Enables (R191, R199) -/

/-- The state that an axis takes up depends on the set-point of AX_0 only. -/
theorem State.axStart_of_ax {s u : State} (h : (u.ax 0).sp = (s.ax 0).sp) (a : Nat) : u.axStart a = s.axStart a := by
  rw [State.axStart, h, State.axStart]

theorem Unchanged.axModeOk {but : List Part} {s u : State} (h : Unchanged but s u) (hm : Part.mode ∉ but) :
    u.axModeOk = s.axModeOk := by
  have hmode : u.mode = s.mode := h .mode hm
  rw [State.axModeOk, hmode, ← State.axModeOk]

theorem Unchanged.axClockLost {but : List Part} {s u : State} (h : Unchanged but s u)
    (hb : Part.mode ∉ but ∧ Part.clk ∉ but) : u.axClockLost = s.axClockLost := by
  have hmode : u.mode = s.mode := h .mode hb.1
  have hclk : u.clk = s.clk := h .clk hb.2
  rw [State.axClockLost, State.onVco, hmode, hclk, ← State.onVco, ← State.axClockLost]

/-- An enabled axis in OFF with a good configuration starts, in a mode and on a clock that let it. -/
theorem State.axLeaveOff_starts {s : State} {a : Nat} (hen : (s.ax a).enabled = true) (hcfg : (s.ax a).cfgOff = false)
    (hst : (s.ax a).st = 0) (hmode : s.axModeOk = true) (hclk : s.axClockLost = false) :
    ((s.axLeaveOff a).ax a).st = s.axStart a := by
  unfold State.axLeaveOff
  rw [if_pos (by simp [hen, hcfg, hst, hmode]), if_neg (by simp [hclk])]
  rw [State.axEnter_ax]
  refine State.axStart_of_ax ?_ a
  split <;> rfl

/-- The enable bit is set, and the verdict on the configuration kept. -/
def State.axTurnedOn (s : State) (a : Nat) : State :=
  s.modAx a (fun x => { x with enabled := true, cfgOff := s.axCfgBad a })

theorem State.axEnable_disabled {s : State} {a : Nat} (h : (s.ax a).enabled = false) : s.axEnable a true =
    if s.axCfgBad a then (s.axTurnedOn a).event Reg.STR_STAT 4 { inst := a }
    else ((s.axTurnedOn a).axLeaveOff a).strUpdate := if_pos (by simp [h])

theorem State.axTurnedOn_sp (s : State) (a : Nat) : ((s.axTurnedOn a).ax 0).sp = (s.ax 0).sp := by
  unfold State.axTurnedOn
  by_cases ha : a = 0
  · rw [ha, State.modAx_ax]
  · rw [State.modAx_ax_other _ (by simp [ha])]

/-- What setting the enable bit of axis `a` does to the axis. -/
theorem State.axEnable_on (s : State) (a : Nat) : ((s.axEnable a true).ax a).enabled = true ∧
    ((s.ax a).enabled = false → s.axCfgBad a = true →
      ((s.axEnable a true).ax a).st = (s.ax a).st ∧ (s.axEnable a true).shows Reg.STR_STAT 4) ∧
    ((s.ax a).enabled = false → s.axCfgBad a = false → (s.ax a).st = 0 → s.axModeOk = true → s.axClockLost = false →
      ((s.axEnable a true).ax a).st = s.axStart a) := by
  cases hen : (s.ax a).enabled
  · have hset : (s.axTurnedOn a).ax a = { s.ax a with enabled := true, cfgOff := s.axCfgBad a } := s.modAx_ax a _
    have hparts : Unchanged [.str] s (s.axTurnedOn a) := s.modAx_unchanged a _
    have hsp := s.axTurnedOn_sp a
    rw [State.axEnable_disabled hen]
    generalize s.axTurnedOn a = x at hset hparts hsp ⊢
    cases hbad : s.axCfgBad a
    · rw [if_neg Bool.false_ne_true, State.strUpdate_ax]
      refine ⟨?_, fun _ h => absurd h Bool.false_ne_true, fun _ _ hst hmode hclk => ?_⟩
      · rw [(x.axLeaveOff_moves a).enabled, hset]
      · rw [State.axLeaveOff_starts (by rw [hset]) (by rw [hset, hbad]) (by rw [hset, hst]) ?_ ?_,
          State.axStart_of_ax hsp]
        · rw [hparts.axModeOk (by decide), hmode]
        · rw [hparts.axClockLost (by decide), hclk]
    · rw [if_pos rfl, State.ax_of_str (State.event_str _ _ _ _), hset]
      exact ⟨rfl, fun _ _ => ⟨rfl, State.event_shows _ _ (by decide) _⟩, fun _ h => absurd h.symm Bool.false_ne_true⟩
  · refine ⟨?_, fun h => absurd h.symm Bool.false_ne_true, fun h => absurd h.symm Bool.false_ne_true⟩
    unfold State.axEnable
    rw [if_neg (by simp [hen]), State.modAx_ax]

/-- The configuration of AX_0 is that of its three registers (R191). -/
theorem State.axCfgBad_of_regs {s u : State} (h : SameRegs [Reg.STR_CTL] s u) (a : Nat) :
    u.axCfgBad a = s.axCfgBad a := by
  have hcpr : u.cpr = s.cpr := congrArg BitVec.toNat (h Reg.STR_AX0_CPR (by decide))
  have hfacets : u.facets = s.facets := by
    rw [State.facets, State.fld, h Reg.STR_AX0_GEOM (by decide), ← State.fld, ← State.facets]
  rw [State.axCfgBad, hcpr, hfacets, h Reg.STR_AX0_OFS (by decide), ← State.axCfgBad]

/-- The write of AXIS_ENABLE sets the axis's bit of STR_CTL and touches no other register. -/
theorem State.cWrite_axisEnable {s : State} (h : s.lastWrites = []) (p : Path) (a : Fin 2) :
    (s.cWrite Reg.STR_CTL (BitVec.ofNat 32 (65537 * 2 ^ a.val)) p).bit Reg.STR_CTL a = true ∧
      SameRegs [Reg.STR_CTL] s (s.cWrite Reg.STR_CTL (BitVec.ofNat 32 (65537 * 2 ^ a.val)) p) := by
  have hrow : rowAt Reg.STR_CTL = some (row .c Reg.STR_CTL 0x3 0x0 1) := by decide
  have hfirst : s.cycleWrites Reg.STR_CTL = [] := by simp [State.cycleWrites, h]
  have hreg := State.cWrite_reg_first hrow hfirst (BitVec.ofNat 32 (65537 * 2 ^ a.val)) p
  have hbits : ∀ b : Fin 2, (bitOf (BitVec.ofNat 32 (65537 * 2 ^ b.val)).toNat (b.val + 16) && bitOf 0x3 b.val) = true ∧
      bitOf (BitVec.ofNat 32 (65537 * 2 ^ b.val)).toNat b.val = true := by decide
  obtain ⟨hmask, hval⟩ := hbits a
  refine ⟨?_, fun off hoff => ?_⟩
  · rw [State.bit, hreg, if_pos rfl, bitOf_cMerge _ _ _ (by omega)]
    exact (if_pos hmask).trans hval
  · rw [hreg, if_neg (by simpa using hoff)]

theorem axisEnable_enables {s : State} (t : Nat) (p : Path) (a : Fin 2) (hg : s.gated = false)
    (hlast : s.lastWrites = []) : Completes (.axisEnable t p a) s fun u =>
    u.bit Reg.STR_CTL a = true ∧ SameRegs [Reg.STR_CTL] s u ∧ (u.ax a).enabled = true ∧
    ((s.ax a).enabled = false → s.axCfgBad a = true → (u.ax a).st = (s.ax a).st ∧ u.shows Reg.STR_STAT 4) ∧
    ((s.ax a).enabled = false → s.axCfgBad a = false → (s.ax a).st = 0 → s.axModeOk = true → s.axClockLost = false →
      (u.ax a).st = s.axStart a) := by
  refine .of_next (congrArg Host.Outcome.next (State.onBar_at hg t _)) ?_
  have htime := s.at_unchanged t
  have hax := s.at_ax t
  obtain ⟨hbit, hregs⟩ := State.cWrite_axisEnable ((s.at_lastWrites t).trans hlast) p a
  have hwrite := (s.at t).cWrite_unchanged Reg.STR_CTL (BitVec.ofNat 32 (65537 * 2 ^ a.val)) p
  generalize s.at t = b at htime hax hbit hregs hwrite ⊢
  generalize b.cWrite Reg.STR_CTL (BitVec.ofNat 32 (65537 * 2 ^ a.val)) p = x at hbit hregs hwrite ⊢
  have hx (i : Nat) : x.ax i = s.ax i := (State.ax_of_str (hwrite .str (by decide)) i).trans (hax i)
  have hsame : SameRegs [Reg.STR_CTL] s x := fun off hoff => (hregs off hoff).trans (htime.reg (by decide) off)
  have hend := x.axEnable_blocks a true
  obtain ⟨hen, hbad, hgood⟩ := x.axEnable_on a
  rw [State.axCfgBad_of_regs hsame, hx] at hbad hgood
  rw [hwrite.axModeOk (by decide), htime.axModeOk (by decide), hwrite.axClockLost (by decide),
    htime.axClockLost (by decide), State.axStart_of_ax (congrArg Axis.sp (hx 0))] at hgood
  refine ⟨?_, fun off hoff => (hend.reg (by decide) off).trans (hsame off hoff), hen, hbad, hgood⟩
  rw [State.bit, hend.reg (by decide), ← State.bit, hbit]

/-! ## Restarts (R203) -/

theorem axisRestart_starts {s : State} (t : Nat) (p : Path) (a : Fin 2) (hg : s.gated = false) (hst : (s.ax a).st = 4)
    (hen : (s.ax a).enabled = true) (hover : (s.at t).axPersists a = false) :
    Completes (.axisRestart t p a) s fun u => (u.ax a).st = s.axStart a ∧ (u.ax a).enabled = true ∧ (u.ax a).u = 0 ∧
      Unchanged [.str, .emt] (s.at t) u := by
  have hax := s.at_ax t
  refine .of_next (congrArg Host.Outcome.next ((State.onBar_at hg t _).trans (if_pos (by simp [hst, hen, hover])))) ?_
  generalize s.at t = b at hax ⊢
  rw [State.strUpdate_ax, State.axEnter_ax, State.axStart_of_ax (congrArg Axis.sp (hax 0)), hax]
  exact ⟨rfl, hen, rfl, ((b.axEnter_unchanged a _).mono (by decide)).trans (State.strUpdate_unchanged _)⟩

theorem axisRestart_without {s : State} (t : Nat) (p : Path) (a : Fin 2) (hg : s.gated = false)
    (h : (s.ax a).st ≠ 4 ∨ (s.ax a).enabled = false ∨ (s.at t).axPersists a = true) :
    Completes (.axisRestart t p a) s fun u => u = s.at t := by
  refine .of_next (congrArg Host.Outcome.next ((State.onBar_at hg t _).trans (if_neg ?_))) rfl
  rcases h with hst | hen | hpersists
  · simp [hst]
  · simp [hen]
  · simp [hpersists]

/-! ## Traces (R206) -/

/-- Of the axes 0 and 1, `1 - a` is the other one. -/
theorem axis_other (a : Fin 2) : ¬ (a.val = 0 ↔ 1 - a.val = 0) := by omega

theorem TracesMove.axes {s u : State} (h : TracesMove s u) : u.str.ax0 = s.str.ax0 ∧ u.str.ax1 = s.str.ax1 :=
  ⟨h.ax 0, h.ax 1⟩

theorem traceArm_arms {s : State} (t : Nat) (p : Path) (a : Fin 2) (hg : s.gated = false) :
    Completes (.traceArm t p a) s fun u =>
      u.tr a = { st := 1, seenSt := (s.ax a).st, seenStall := s.str.stall } ∧ u.tr (1 - a.val) = s.tr (1 - a.val) ∧
      u.str.ax0 = s.str.ax0 ∧ u.str.ax1 = s.str.ax1 ∧ Unchanged [.str] (s.at t) u := by
  refine .of_next (congrArg Host.Outcome.next (State.onBar_at hg t _)) ?_
  obtain ⟨hax0, hax1⟩ := (State.modTr_moves (s.at t) a
    (fun _ => { st := 1, seenSt := ((s.at t).ax a).st, seenStall := (s.at t).str.stall })).axes
  unfold State.traceArm
  rw [hax0, hax1, State.modTr_tr, State.modTr_tr_other _ (axis_other a), State.at_tr, State.at_ax, State.at_str]
  exact ⟨rfl, rfl, rfl, rfl, State.modTr_unchanged _ _ _⟩

theorem traceForce_marks {s : State} (t : Nat) (p : Path) (a : Fin 2) (hg : s.gated = false) (hst : (s.tr a).st = 1) :
    Completes (.traceForce t p a) s fun u => u.tr a = { s.tr a with forced := true } ∧ Unchanged [.str] (s.at t) u := by
  refine .of_next (congrArg Host.Outcome.next ((State.onBar_at hg t _).trans (if_pos (by rw [State.at_tr, hst])))) ?_
  rw [State.modTr_tr, State.at_tr]
  exact ⟨rfl, State.modTr_unchanged _ _ _⟩

theorem traceForce_without {s : State} (t : Nat) (p : Path) (a : Fin 2) (hg : s.gated = false) (hst : (s.tr a).st ≠ 1) :
    Completes (.traceForce t p a) s fun u => u = s.at t :=
  .of_next (congrArg Host.Outcome.next ((State.onBar_at hg t _).trans (if_neg (by rwa [State.at_tr])))) rfl

/-- A trace that has its samples is frozen with all of them. -/
theorem State.traceDone_freezes {s : State} {a : Nat} (ha : a < 2) (hst : (s.tr a).st = 2)
    (hpost : (s.tr a).postLeft = 0) : (s.traceDone a).tr a = { s.tr a with st := 3, count := (s.tr a).len } ∧
      (∀ b, ¬ (a = 0 ↔ b = 0) → (s.traceDone a).tr b = s.tr b) ∧ (s.traceDone a).shows Reg.STR_STAT (6 + a) := by
  have hframe (x : State) (id v off b : Nat) (i : Info) : ((x.freeUsed.putWide id v).event off b i).str = x.str := by
    rw [State.event_str, State.putWide_str]
    rfl
  unfold State.traceDone
  dsimp only
  rw [if_pos ⟨hst, hpost⟩]
  refine ⟨?_, fun b hb => ?_, State.event_shows _ _ (by omega) _⟩
  · rw [State.tr_of_str (hframe _ _ _ _ _ _), State.modTr_tr]
  · rw [State.tr_of_str (hframe _ _ _ _ _ _), State.modTr_tr_other _ hb]

theorem traceFreeze_freezes {s : State} (t : Nat) {a : Fin 2} (hst : (s.tr a).st = 2) (hpost : (s.tr a).postLeft = 0) :
    Completes (.traceFreeze t a) s fun u => (u.tr a).st = 3 ∧ (u.tr a).count = (s.tr a).len ∧
      (u.tr a).bufs = (s.tr a).bufs ∧ u.shows Reg.STR_STAT (6 + a.val) ∧ u.tr (1 - a.val) = s.tr (1 - a.val) ∧
      Unchanged ([.str, .freeNext] ++ recording) s u := by
  have hmoves := (s.at t).traceDone_moves a
  obtain ⟨hself, hother, hshown⟩ := State.traceDone_freezes (s := s.at t) a.isLt (by rwa [State.at_tr])
    (by rwa [State.at_tr])
  refine .of_next (u := (s.at t).traceDone a) rfl ?_
  rw [hself, hother _ (axis_other a), State.at_tr, State.at_tr]
  exact ⟨rfl, rfl, rfl, hshown, rfl, ((s.at_unchanged t).mono (by decide)).trans (hmoves.parts.mono (by decide))⟩

theorem traceFreeze_without {s : State} (t : Nat) {a : Fin 2} (h : (s.tr a).st ≠ 2 ∨ (s.tr a).postLeft ≠ 0) :
    Completes (.traceFreeze t a) s fun u => u = s.at t := by
  refine .of_next (congrArg Host.Outcome.next (if_neg ?_)) rfl
  rw [State.at_tr]
  exact fun hdone => h.elim (absurd hdone.1) (absurd hdone.2)

/-- Settles O40: each command by what it does in the states of its clause. -/
theorem axesFaultAndRestart : Obligations.AxesFaultAndRestart :=
  ⟨fun t _ => spinupTimeout_faults t, fun t _ => spinupTimeout_without t,
    fun t _ => ⟨noEdgeTimeout_faults t, noEdgeTimeout_without t⟩, fun t _ _ => settleWindowEnd_ends t,
    fun t p a _ => axisEnable_enables t p a, fun t p a _ => axisRestart_starts t p a,
    fun t p a _ => axisRestart_without t p a, fun t p a _ => traceArm_arms t p a,
    fun t p a _ hg => ⟨traceForce_marks t p a hg, traceForce_without t p a hg⟩,
    fun t _ _ => ⟨traceFreeze_freezes t, traceFreeze_without t⟩⟩

end Sys2Proof.Machine
end

section
/-! PROOFS. What events, counts of other blocks, faults and the entry into SAFE leave of the lanes (R93, R217, R254, R492 to
R494): the lane field, and the wide values of the LAN block. -/

namespace Sys2Proof.Machine

/-! ## Changes that leave the lanes as they are -/

/-- From `s` to `u` the lane field does not change, and no wide value of the LAN block (identifiers 0x2800 to 0x2FFF). -/
structure LanesKept (s u : State) : Prop where
  lan : u.lan = s.lan
  value : ∀ id, id / 0x800 = 5 → u.wideRaw id = s.wideRaw id

namespace LanesKept

/-- A change of other parts. -/
theorem of_same {s u : State} (h : (u.lan, u.wide) = (s.lan, s.wide)) : LanesKept s u := by
  simp only [Prod.mk.injEq] at h
  obtain ⟨hlan, hwide⟩ := h
  exact ⟨hlan, fun id _ => by rw [State.wideRaw, State.wideRaw, hwide]⟩

theorem of_unchanged {but : List Part} {s u : State} (h : Unchanged but s u) (hb : Part.lan ∉ but ∧ Part.wide ∉ but) :
    LanesKept s u := ⟨h .lan hb.1, fun id _ => h.wideRaw hb.2 id⟩

theorem refl (s : State) : LanesKept s s := of_same rfl

theorem trans {a b c : State} (h : LanesKept a b) (k : LanesKept b c) : LanesKept a c :=
  ⟨k.lan.trans h.lan, fun id hid => (k.value id hid).trans (h.value id hid)⟩

theorem ite {s x y : State} {c : Prop} [Decidable c] (hx : LanesKept s x) (hy : LanesKept s y) :
    LanesKept s (if c then x else y) := by
  split
  · exact hx
  · exact hy

/-- A further step that is taken under a condition only. -/
theorem thenIf {s x y : State} {c : Prop} [Decidable c] (hx : LanesKept s x) (hy : LanesKept x y) :
    LanesKept s (if c then y else x) := ite (hx.trans hy) hx

theorem foldl {α : Type} (l : List α) {f : State → α → State} (h : ∀ s a, LanesKept s (f s a)) (s : State) :
    LanesKept s (l.foldl f s) := by
  induction l generalizing s with
  | nil => exact refl s
  | cons a l ih => exact (h s a).trans (ih _)

theorem lane {s u : State} (h : LanesKept s u) (l : Nat) : u.lane l = s.lane l := by
  unfold State.lane
  rw [h.lan]

end LanesKept

/-! ## Events, counts and faults -/

section
variable (s : State)

theorem State.event_lanes (off b : Nat) (i : Info) : LanesKept s (s.event off b i) :=
  .of_unchanged (s.event_unchanged off b i) (by decide)

theorem State.raise_lanes (off : Nat) (f : BitVec 16) : LanesKept s (s.raise off f) :=
  .of_unchanged (s.raise_unchanged off f) (by decide)

theorem State.logPush_lanes (e : LogEntry) : LanesKept s (s.logPush e) :=
  .of_unchanged (s.logPush_unchanged e) (by decide)

/-- A wide value of another block is updated. -/
theorem State.updWide_lanes {id : Nat} (u : WideUpd) (h : id / 0x800 ≠ 5) : LanesKept s (s.updWide id u) where
  lan := s.updWide_unchanged id u .lan (by decide)
  value o ho := by
    have hne : o ≠ id := fun e => h (e ▸ ho)
    by_cases hz : s.isFrozen id = true
    · exact (State.updWide_frozen u hz).2 o
    · rw [(State.updWide_free u (by simpa using hz)).2, if_neg hne]

theorem State.putWide_lanes {id : Nat} (v : Nat) (h : id / 0x800 ≠ 5) : LanesKept s (s.putWide id v) :=
  s.updWide_lanes _ h

theorem State.bump_lanes {id : Nat} (n : Nat) (h : id / 0x800 ≠ 5) : LanesKept s (s.bump id n) :=
  .ite (.refl s) (s.updWide_lanes _ h)

theorem State.setLog_lanes (x : FaultLog) : LanesKept s { s with log := x } := .of_same rfl

theorem State.faultEntry_lanes (code : Nat) (i : Info) : LanesKept s (s.faultEntry code i) :=
  (s.logPush_lanes _).trans (State.raise_lanes _ _ _)

theorem State.fault_lanes (code off : Nat) (f : BitVec 16) (i : Info) : LanesKept s (s.fault code off f i) :=
  ⟨(s.fault_quiet code off f i).lan, fun id hid => s.fault_wideRaw code off f i (by rintro rfl; revert hid; decide)⟩

/-! ## The Coil (R407) -/

theorem State.modCoil_lanes (f : Coil → Coil) : LanesKept s (s.modCoil f) := .of_same rfl

theorem State.coilTo_lanes (cls typ dst : Nat) (l : List (BitVec 128)) : LanesKept s (s.coilTo cls typ dst l) := by
  have hsend (x : CoilPkt) : LanesKept s (s.coilSend x) := .ite (s.modCoil_lanes _) (.refl s)
  have hused (x : State) (c : Nat) : LanesKept x (x.coilSeqUsed c) := x.modCoil_lanes _
  unfold State.coilTo
  split
  · exact (hsend _).trans (hused _ _)
  · exact .refl s

theorem coilNode_ne_lan (a : Nat) : (Id.COIL_NODE + a) / 0x800 ≠ 5 := by
  unfold Id.COIL_NODE
  omega

theorem State.coilStatus_lanes : LanesKept s s.coilStatus := by
  have hreport (x : State) (a w f o : Nat) : LanesKept x (x.coilReport a w f o) :=
    .thenIf ((x.putWide_lanes _ (coilNode_ne_lan _)).trans (State.modCoil_lanes _ _)) (State.event_lanes _ _ _ _)
  exact .ite ((s.modCoil_lanes _).trans (.ite (hreport _ _ _ _ _) (State.coilTo_lanes _ _ _ _ _))) (.refl s)

theorem State.coilLiveFrom_lanes (a : State) : LanesKept s (s.coilLiveFrom a) :=
  .ite (.ite (.refl s) s.coilStatus_lanes) (.refl s)

/-! ## The entry into SAFE (R93, R94) -/

theorem State.modKiln_lanes (k : Nat) (f : Kiln → Kiln) : LanesKept s (s.modKiln k f) := .of_same rfl

theorem State.setCal_lanes (x : Calib) : LanesKept s { s with cal := x } := .of_same rfl

theorem State.calFail_lanes (r : Nat) : LanesKept s (s.calFail r) := (s.setCal_lanes _).trans (State.event_lanes _ _ _ _)

theorem State.voidOpenPixel_lanes (c : Nat) : LanesKept s (s.voidOpenPixel c) := by
  unfold State.voidOpenPixel
  split
  · exact .refl s
  · refine LanesKept.trans (.foldl _ (fun x k => ?_) s) (.of_same rfl)
    exact ((x.modKiln_lanes _ _).trans (State.modKiln_lanes _ _ _)).trans (State.event_lanes _ _ _ _)

theorem State.safeCut_lanes (c : Nat) : LanesKept s (s.safeCut c) := by
  have hboot : LanesKept s s.interruptBoot := .ite (.of_same rfl) (.refl s)
  have hstop (x : State) : LanesKept x x.stopBurst := .of_same rfl
  have hdrop (x : State) : LanesKept x x.dropOssd := by
    refine .ite (LanesKept.trans ?_ (State.event_lanes _ _ _ _)) (.refl x)
    exact .of_same rfl
  have hframe (x : State) (n : Nat) (f : FrameQ → FrameQ) : LanesKept x (x.modFrame n f) := .of_same rfl
  have hcut (x : State) (d : CutInfo) : LanesKept x (x.cutFrame d) :=
    (LanesKept.thenIf (x.voidOpenPixel_lanes _) (hframe _ _ _)).trans (.of_same rfl)
  have hhalt (x : State) (f : Bool) : LanesKept x (x.haltWheel f) := .thenIf (.of_same rfl) (State.event_lanes _ _ _ _)
  exact (((hboot.trans (hstop _)).trans (hdrop _)).trans (hcut _ _)).trans (hhalt _ _)

theorem State.safeEnter_lanes (c : Nat) : LanesKept s (s.safeEnter c) := by
  have hlatch (x : State) : LanesKept x (x.latchCauses c) :=
    (x.raise_lanes _ _).trans (.foldl _ (fun y _ => .ite (y.logPush_lanes _) (.refl y)) _)
  have hpermit (x : State) : LanesKept x x.permitOff := .of_unchanged x.permitOff_unchanged (by decide)
  have hmode (x : State) (m : Modes) : LanesKept x { x with mode := m } := .of_same rfl
  have hset (x : State) (m : Mode) : LanesKept x (x.setMode m) :=
    ((hmode x _).trans (State.event_lanes _ _ _ _)).trans (State.coilStatus_lanes _)
  have hleave (x : State) : LanesKept x x.leaveStandby := .of_same rfl
  have hcond (x : State) (a b f : Nat) (i : Bool) (d : Nat) : LanesKept x (x.capCond a b f i d) :=
    .ite (.of_same rfl) (.refl x)
  have htrigger (x : State) : LanesKept x x.safeTrigger := .ite (hcond _ _ _ _ _ _) (.refl x)
  have habort (x : State) : LanesKept x x.calAbort := .ite (x.calFail_lanes _) (.refl x)
  unfold State.safeEnter
  refine (LanesKept.ite (.refl s) (hlatch s)).trans (.ite (.refl _) (.ite (hpermit _) ?_))
  exact ((((((State.safeCut_lanes _ c).trans (hpermit _)).trans (hset _ _)).trans (State.event_lanes _ _ _ _)).trans
    (hleave _)).trans (htrigger _)).trans (habort _)

theorem State.fatal_lanes (code : Nat) (b : Option Nat) (cause : Nat) (i : Info) :
    LanesKept s (s.fatal code b cause i) := by
  unfold State.fatal
  refine LanesKept.trans (LanesKept.trans ?_ (State.safeEnter_lanes _ _)) (State.coilLiveFrom_lanes _ _)
  cases b with
  | none => exact s.faultEntry_lanes code i
  | some b => exact (s.faultEntry_lanes code i).trans (State.setLog_lanes _ _)

/-! ## The event queue of a Kiln (R254, R255, R492) -/

theorem sectorCount_ne_lan {base : Nat} (h : 0x3000 ≤ base) (k : Nat) : (base + k) / 0x800 ≠ 5 := by omega

theorem State.sectorFault_lanes (k : Nat) : LanesKept s (s.sectorFault k) := by
  have hcount (x : State) (c : Prop) [Decidable c] :
      LanesKept x (if c then x else x.bump (Id.FLT_SECTOR_RECOV + k)) :=
    .ite (.refl x) (x.bump_lanes _ (sectorCount_ne_lan (by decide) k))
  unfold State.sectorFault
  exact .thenIf (((s.modKiln_lanes _ _).trans (hcount _ _)).trans (State.setLog_lanes _ _))
    ((State.raise_lanes _ _ _).trans (State.fatal_lanes _ _ _ _ _))

/-- A loss at the queue of sector `k`: counted in KLN_FIFO_DROP, with its fault (R254). -/
theorem State.fifoDrop_lanes (k code : Nat) (f : BitVec 16) (off : Nat) (i : Info) :
    LanesKept s (((s.bump (Id.KLN_FIFO_DROP + k)).fault code off f i).sectorFault k) :=
  ((s.bump_lanes _ (sectorCount_ne_lan (by decide) k)).trans (State.fault_lanes _ _ _ _ _)).trans
    (State.sectorFault_lanes _ _)

theorem State.binEvent_lanes (k : Nat) (e : KEvent) : LanesKept s (s.binEvent k e) := by
  unfold State.binEvent
  exact .ite ((s.modKiln_lanes _ _).trans (State.bump_lanes _ _ (sectorCount_ne_lan (by decide) k)))
    (s.fifoDrop_lanes _ _ _ _ _)

theorem State.kilnPush_lanes (k : Nat) (e : KEvent) : LanesKept s (s.kilnPush k e) := by
  have hoverdue : LanesKept s (s.binOverdue k) :=
    (s.modKiln_lanes _ _).trans (.foldl _ (fun x e => x.binEvent_lanes k e) _)
  unfold State.kilnPush
  exact hoverdue.trans (.ite (State.fifoDrop_lanes _ _ _ _ _ _) (State.modKiln_lanes _ _ _))

end

/-- With no event waiting, one that enters waits alone. -/
theorem State.kilnPush_queue {s : State} {k : Nat} (h : (s.kiln k).queue = []) (e : KEvent) :
    ((s.kilnPush k e).kiln k).queue = [e] := by
  have hempty : ((s.binOverdue k).kiln k).queue = [] := by
    rw [State.binOverdue, State.binWhile_empty h, State.modKiln_kiln, if_pos rfl]
  unfold State.kilnPush
  dsimp only
  rw [hempty, if_neg (by decide), State.modKiln_kiln, if_pos rfl, hempty]
  rfl

end Sys2Proof.Machine
end

section
/-! PROOFS. LANE_EDGE (R213 to R221): which lanes time an edge, its dead time and count, and where its word goes. -/

namespace Sys2Proof.Machine

/-! ## Lanes and counters -/

theorem State.lane_of_lan {s u : State} (h : u.lan = s.lan) (l : Nat) : u.lane l = s.lane l := by
  unfold State.lane
  rw [h]

@[simp] theorem State.at_lane (s : State) (t l : Nat) : (s.at t).lane l = s.lane l := State.lane_of_lan (s.at_lan t) l

theorem State.modLane_lane_same (s : State) (l : Nat) (f : Lane → Lane) : (s.modLane l f).lane l = f (s.lane l) := by
  rw [State.modLane_lane, if_pos rfl]

/-- From `s` to `u` the 32-bit count at bit `lo` of a wide value counts one more, unless a mailbox holds it frozen. -/
def CountsOne (id lo : Nat) (s u : State) : Prop := s.isFrozen id = false →
  bitsOf (u.wideRaw id).toNat (lo + 31) lo = (bitsOf (s.wideRaw id).toNat (lo + 31) lo + 1) % 2 ^ 32

theorem State.bump_countsOne (s : State) {id : Nat} (h : idBits id = 32) : CountsOne id 0 s (s.bump id) :=
  State.bump_counts h

theorem CountsOne.of_value {id lo : Nat} {s u v : State} (h : CountsOne id lo s u) (hv : v.wideRaw id = u.wideRaw id) :
    CountsOne id lo s v := fun hf => by rw [hv, h hf]

theorem State.event_wideRaw (s : State) (off b : Nat) (i : Info) (id : Nat) :
    (s.event off b i).wideRaw id = s.wideRaw id := (s.event_unchanged off b i).wideRaw (by decide) id

/-- One more in word `w` of a wide value of two words. -/
theorem State.addWord_countsOne (s : State) (id : Nat) {w : Nat} (hw : w < 2) :
    CountsOne id (32 * w) s (s.updWide id (.add (32 * w) 32 1)) := by
  intro hf
  have hlt := (s.wideRaw id).isLt
  rw [(State.updWide_free _ hf).2, if_pos rfl]
  obtain rfl | rfl : w = 0 ∨ w = 1 := by omega
  all_goals
    simp only [WideUpd.apply, putBits, bitsOf, BitVec.toNat_ofNat, Nat.shiftRight_eq_div_pow]
    omega

theorem idBits_laneEvents {l : Nat} (hl : l < 512) : idBits (Id.LAN_EVT_COUNT + l) = 32 := by
  have hrow : idAt (Id.LAN_EVT_COUNT + l) = some ⟨0x2800, 512, 32, .rw, 0⟩ := by
    unfold idAt idsAt Id.LAN_EVT_COUNT
    rw [show (0x2800 + l) / 2048 = 5 by omega]
    exact List.find?_cons_of_pos (by simp only [Bool.and_eq_true, decide_eq_true_eq]; omega)
  rw [idBits, hrow]

theorem idBits_laneRateDrops {l : Nat} (hl : l < 512) : idBits (Id.LAN_RDROP + l) = 32 := by
  have hrow : idAt (Id.LAN_RDROP + l) = some ⟨0x2A00, 512, 32, .rw, 0⟩ := by
    unfold idAt idsAt Id.LAN_RDROP
    rw [show (0x2A00 + l) / 2048 = 5 by omega]
    exact (List.find?_cons_of_neg (by simp)).trans
      (List.find?_cons_of_pos (by simp only [Bool.and_eq_true, decide_eq_true_eq]; omega))
  rw [idBits, hrow]

/-! ## The lanes that time (R212, R214, R218, R227, R228) -/

/-- Lane `l` times an edge at `pos`: it is on, its sector live, its tile not blanked, its dead time over. -/
def State.timesEdge (s : State) (l pos : Nat) : Prop :=
  s.laneOff l = false ∧ s.sectorLive (l / 64) = true ∧ s.blanked (l / 16) = false ∧ (s.lane l).deadTo ≤ pos

theorem State.timesEdge_iff (s : State) (l pos : Nat) : s.timesEdge l pos ↔
    ¬ (s.laneOff l || !s.sectorLive (l / 64) || s.blanked (l / 16) || decide (pos < (s.lane l).deadTo)) = true := by
  simp [State.timesEdge, and_assoc]

/-- A sector that is not settling stays as it is. -/
theorem State.settleSector_idle {s : State} {k : Nat} (h : fget 0 s.lan.settleAt k = 0) : s.settleSector k = s :=
  if_neg (fun hdue => hdue.1 h)

section
variable {s : State} (t : Nat) {l : Fin 512} (f : BitVec 10) (moved : Bool)

theorem exec_laneEdge (h : fget 0 s.lan.settleAt (l.val / 64) = 0) : exec (.laneEdge t l f moved) s = .next (
    let pos := 1024 * (s.at t).now + f.toNat
    if (s.at t).laneOff l || !(s.at t).sectorLive (l.val / 64) || (s.at t).blanked (l.val / 16) ||
      decide (pos < ((s.at t).lane l).deadTo) then s.at t else (s.at t).laneTimed l pos f.toNat moved) := by
  change execLaneEdge t l f moved s = _
  unfold execLaneEdge
  rw [State.settleSector_idle (by rw [State.at_lan, h])]
  dsimp only
  split <;> rfl

theorem laneEdge_without (h : fget 0 s.lan.settleAt (l.val / 64) = 0)
    (hdead : ¬ (s.at t).timesEdge l (1024 * (s.at t).now + f.toNat)) :
    Completes (.laneEdge t l f moved) s fun u => u = s.at t := by
  rw [State.timesEdge_iff, not_not] at hdead
  exact .of_next ((exec_laneEdge t f moved h).trans (congrArg Host.Outcome.next (if_pos hdead))) rfl

theorem laneEdge_timed (h : fget 0 s.lan.settleAt (l.val / 64) = 0)
    (hlive : (s.at t).timesEdge l (1024 * (s.at t).now + f.toNat)) :
    exec (.laneEdge t l f moved) s = .next ((s.at t).laneTimed l (1024 * (s.at t).now + f.toNat) f.toNat moved) :=
  (exec_laneEdge t f moved h).trans (congrArg Host.Outcome.next (if_neg ((State.timesEdge_iff _ _ _).mp hlive)))

end

/-! ## An edge and its token (R220, R221, R224) -/

/-- The edge at `pos` is accepted: the lane is dead for 8 ns, and the edge counts for tracking. -/
def State.edgeSeen (s : State) (l pos : Nat) : State :=
  s.modLane l (fun x => { x with deadTo := pos + 26215, edges := x.edges + 1 })

/-- The event word of an edge is counted, and takes a token. -/
def State.wordTaken (s : State) (l : Nat) : State := ((s.refillLane l).takeToken l).bump (Id.LAN_EVT_COUNT + l)

/-- From `s` to `u` dead time and edge count of lane `l` stay. -/
structure SameEdge (l : Nat) (s u : State) : Prop where
  dead : (u.lane l).deadTo = (s.lane l).deadTo
  edges : (u.lane l).edges = (s.lane l).edges

theorem SameEdge.of_lan {l : Nat} {s u : State} (h : u.lan = s.lan) : SameEdge l s u :=
  ⟨by rw [State.lane_of_lan h], by rw [State.lane_of_lan h]⟩

theorem SameEdge.trans {l : Nat} {a b c : State} (h : SameEdge l a b) (k : SameEdge l b c) : SameEdge l a c :=
  ⟨k.dead.trans h.dead, k.edges.trans h.edges⟩

/-- Neither the tokens of a lane nor its edges decide whether it is in gate. -/
theorem State.inGate_congr {s u : State} {l : Nat} (hnow : u.now = s.now) (hwhl : u.whl = s.whl)
    (hopen : (u.lane l).gOpen = (s.lane l).gOpen) (hclose : (u.lane l).gClose = (s.lane l).gClose) :
    u.inGate l = s.inGate l := by
  simp only [State.inGate, hnow, hwhl, hopen, hclose]

section
variable (s : State) (l : Nat)

theorem State.refillLane_lane : (s.refillLane l).lane l = { s.lane l with
    used := (s.lane l).used - (s.now - (s.lane l).tokenAt) / s.ratePeriod (l / 64)
    tokenAt := (s.lane l).tokenAt + (s.now - (s.lane l).tokenAt) / s.ratePeriod (l / 64) * s.ratePeriod (l / 64) } :=
  s.modLane_lane_same l _

theorem State.refillLane_edge : SameEdge l s (s.refillLane l) := by constructor <;> rw [State.refillLane_lane]

theorem State.wordTaken_lane :
    (s.wordTaken l).lane l = { (s.refillLane l).lane l with used := ((s.refillLane l).lane l).used + 1 } := by
  rw [State.wordTaken, State.lane_of_lan (State.bump_lan _ _ _)]
  exact State.modLane_lane_same _ _ _

theorem State.wordTaken_edge : SameEdge l s (s.wordTaken l) :=
  (s.refillLane_edge l).trans (by constructor <;> rw [State.wordTaken_lane])

theorem State.wordTaken_inGate : (s.wordTaken l).inGate l = s.inGate l := by
  refine State.inGate_congr (State.bump_now _ _ _) (State.bump_whl _ _ _) ?_ ?_
  all_goals rw [State.wordTaken_lane, State.refillLane_lane]

theorem State.edgeSeen_inGate (pos : Nat) : (s.edgeSeen l pos).inGate l = s.inGate l := by
  refine State.inGate_congr rfl rfl ?_ ?_
  all_goals rw [State.edgeSeen, State.modLane_lane_same]

theorem State.edgeSeen_hasToken (pos : Nat) : ((s.edgeSeen l pos).refillLane l).hasToken l = (s.refillLane l).hasToken l := by
  unfold State.hasToken
  rw [State.refillLane_lane, State.refillLane_lane, State.edgeSeen, State.modLane_lane_same]
  rfl

end

theorem State.inGate_cur {s : State} {l c : Nat} (h : s.inGate l = some c) : ∃ sh, s.whl.cur = some sh := by
  unfold State.inGate at h
  split at h
  · cases h
  · exact ⟨_, ‹_›⟩

/-! ## Where the word goes (R216, R217, R220, R221) -/

/-- An edge in an invalid window is counted in its word of LAN_DROP. -/
theorem State.laneDrop_counts (s : State) (l : Nat) {w : Nat} (hw : w < 2) : (s.laneDrop l w).lan = s.lan ∧
    CountsOne (Id.LAN_DROP + l) (32 * w) s (s.laneDrop l w) ∧ (s.laneDrop l w).kln = s.kln := by
  refine ⟨?_, (s.addWord_countsOne _ hw).of_value (State.event_wideRaw _ _ _ _ _), ?_⟩
  · exact (State.event_lan _ _ _ _).trans (State.updWide_lan _ _ _)
  · exact (State.event_kln _ _ _ _).trans (State.updWide_kln _ _ _)

section
variable {s : State} {l : Nat} (f : Nat) (moved : Bool)

theorem State.laneWord_without (hl : l < 512) (h : (s.refillLane l).hasToken l = false) :
    SameEdge l s (s.laneWord l f moved) ∧ CountsOne (Id.LAN_RDROP + l) 0 s (s.laneWord l f moved) ∧
      (s.laneWord l f moved).kln = s.kln := by
  unfold State.laneWord
  dsimp only
  rw [if_neg (by rw [h]; decide)]
  refine ⟨(s.refillLane_edge l).trans (.of_lan ?_), ?_, ?_⟩
  · exact (State.event_lan _ _ _ _).trans (State.bump_lan _ _ _)
  · exact ((s.refillLane l).bump_countsOne (idBits_laneRateDrops hl)).of_value (State.event_wideRaw _ _ _ _ _)
  · exact (State.event_kln _ _ _ _).trans (State.bump_kln _ _ _)

theorem State.laneWord_outOfGate (h : (s.refillLane l).hasToken l = true) (hgate : s.inGate l = none) :
    s.laneWord l f moved = (s.wordTaken l).calHit l f moved := by
  have hword : (((s.refillLane l).takeToken l).bump (Id.LAN_EVT_COUNT + l)).inGate l = none :=
    (s.wordTaken_inGate l).trans hgate
  unfold State.laneWord
  dsimp only
  rw [if_pos h, hword]
  rfl

theorem State.laneWord_inGate {c : Nat} {sh : Shot} (h : (s.refillLane l).hasToken l = true)
    (hgate : s.inGate l = some c) (hcur : s.whl.cur = some sh) :
    s.laneWord l f moved = (s.wordTaken l).kilnPush (l / 64) { j := l % 64, slot := sh.slot, c, f } := by
  have hword : (((s.refillLane l).takeToken l).bump (Id.LAN_EVT_COUNT + l)).inGate l = some c :=
    (s.wordTaken_inGate l).trans hgate
  have hslot : (((s.refillLane l).takeToken l).bump (Id.LAN_EVT_COUNT + l)).whl.cur = some sh :=
    (congrArg Wheel.cur (State.bump_whl _ _ _)).trans hcur
  unfold State.laneWord
  dsimp only
  rw [if_pos h, hword, hslot]
  rfl

theorem State.calHit_unchanged (s : State) (l f : Nat) (moved : Bool) : Unchanged [.cal] s (s.calHit l f moved) := by
  unfold State.calHit
  exact .ite (s.setCal_unchanged _) (.refl _ s)

/-- A word that takes a token leaves the lane's dead time and edges, and is counted, wherever it goes. -/
theorem State.laneWord_taken (hl : l < 512) (h : (s.refillLane l).hasToken l = true) :
    SameEdge l s (s.laneWord l f moved) ∧ CountsOne (Id.LAN_EVT_COUNT + l) 0 s (s.laneWord l f moved) := by
  have hrest : LanesKept (s.wordTaken l) (s.laneWord l f moved) := by
    cases hgate : s.inGate l with
    | none =>
      rw [State.laneWord_outOfGate f moved h hgate]
      exact .of_unchanged (State.calHit_unchanged _ _ _ _) (by decide)
    | some c =>
      obtain ⟨sh, hcur⟩ := State.inGate_cur hgate
      rw [State.laneWord_inGate f moved h hgate hcur]
      exact State.kilnPush_lanes _ _ _
  have hid : (Id.LAN_EVT_COUNT + l) / 0x800 = 5 := by
    unfold Id.LAN_EVT_COUNT
    omega
  have hcount : CountsOne (Id.LAN_EVT_COUNT + l) 0 s (s.wordTaken l) :=
    ((s.refillLane l).takeToken l).bump_countsOne (idBits_laneEvents hl)
  exact ⟨(s.wordTaken_edge l).trans (.of_lan hrest.lan), hcount.of_value (hrest.value _ hid)⟩

theorem State.laneWord_outOfGate_kln (h : (s.refillLane l).hasToken l = true) (hgate : s.inGate l = none) :
    (s.laneWord l f moved).kln = s.kln := by
  rw [State.laneWord_outOfGate f moved h hgate, State.calHit_unchanged _ _ _ _ .kln (by decide)]
  exact State.bump_kln _ _ _

theorem State.laneWord_inGate_queue {c : Nat} {sh : Shot} (h : (s.refillLane l).hasToken l = true)
    (hgate : s.inGate l = some c) (hcur : s.whl.cur = some sh) (hempty : (s.kiln (l / 64)).queue = []) :
    ((s.laneWord l f moved).kiln (l / 64)).queue = [{ j := l % 64, slot := sh.slot, c, f }] := by
  have hkiln : (s.wordTaken l).kiln (l / 64) = s.kiln (l / 64) := by
    rw [State.kiln, State.wordTaken, State.bump_kln]
    rfl
  rw [State.laneWord_inGate f moved h hgate hcur, State.kilnPush_queue (by rw [hkiln, hempty])]

end

/-! ## The edge as a whole -/

/-- The window of a range change is open. -/
abbrev Lane.inRange (x : Lane) (now : Nat) : Prop := x.rngFrom ≤ now ∧ now < x.rngTo

/-- The window of a threshold change is open. -/
abbrev Lane.inThreshold (x : Lane) (now : Nat) : Prop := x.thrFrom ≤ now ∧ now < x.thrTo

/-- In a range window an edge is dropped, else in a threshold window; outside of both its word goes on. -/
theorem State.laneTimed_eq (s : State) (l pos f : Nat) (moved : Bool) : s.laneTimed l pos f moved =
    if (s.lane l).inRange s.now then (s.edgeSeen l pos).laneDrop l 0
    else if (s.lane l).inThreshold s.now then (s.edgeSeen l pos).laneDrop l 1
    else (s.edgeSeen l pos).laneWord l f moved := by
  unfold State.laneTimed
  dsimp only
  rw [State.modLane_lane_same]
  rfl

/-- From `s` to `u` lane `l` sees the edge at `pos`. -/
structure SeesEdge (l pos : Nat) (s u : State) : Prop where
  dead : (u.lane l).deadTo = pos + 26215
  edges : (u.lane l).edges = (s.lane l).edges + 1

theorem SameEdge.sees {l pos : Nat} {s u : State} (h : SameEdge l (s.edgeSeen l pos) u) : SeesEdge l pos s u := by
  constructor
  · rw [h.dead, State.edgeSeen, State.modLane_lane_same]
  · rw [h.edges, State.edgeSeen, State.modLane_lane_same]

theorem State.laneTimed_sees {l : Nat} (s : State) (pos f : Nat) (moved : Bool) (hl : l < 512) :
    SeesEdge l pos s (s.laneTimed l pos f moved) := by
  refine SameEdge.sees ?_
  rw [State.laneTimed_eq]
  split
  · exact .of_lan (State.laneDrop_counts _ _ (by decide)).1
  · split
    · exact .of_lan (State.laneDrop_counts _ _ (by decide)).1
    · by_cases h : ((s.edgeSeen l pos).refillLane l).hasToken l = true
      · exact (State.laneWord_taken f moved hl h).1
      · exact (State.laneWord_without f moved hl (by simpa using h)).1

/-- Where an edge that lane `l` sees at `pos` is counted, and which events a Kiln gets. -/
structure EdgeCounted (l pos f : Nat) (s u : State) : Prop extends SeesEdge l pos s u where
  range : (s.lane l).inRange s.now →
    CountsOne (Id.LAN_DROP + l) 0 s u ∧ u.kln = s.kln
  threshold : ¬ (s.lane l).inRange s.now →
    (s.lane l).inThreshold s.now → CountsOne (Id.LAN_DROP + l) 32 s u ∧ u.kln = s.kln
  noToken : ¬ (s.lane l).inRange s.now →
    ¬ (s.lane l).inThreshold s.now → (s.refillLane l).hasToken l = false →
    CountsOne (Id.LAN_RDROP + l) 0 s u ∧ u.kln = s.kln
  taken : ¬ (s.lane l).inRange s.now →
    ¬ (s.lane l).inThreshold s.now → (s.refillLane l).hasToken l = true →
    CountsOne (Id.LAN_EVT_COUNT + l) 0 s u ∧ (s.inGate l = none → u.kln = s.kln) ∧
    ∀ c sh, s.inGate l = some c → s.whl.cur = some sh → (s.kiln (l / 64)).queue = [] →
      (u.kiln (l / 64)).queue = [{ j := l % 64, slot := sh.slot, c, f }]

theorem State.laneTimed_counts {l : Nat} (s : State) (pos f : Nat) (moved : Bool) (hl : l < 512) :
    EdgeCounted l pos f s (s.laneTimed l pos f moved) := by
  have htoken := s.edgeSeen_hasToken l pos
  have hgate := s.edgeSeen_inGate l pos
  refine ⟨s.laneTimed_sees pos f moved hl, fun hr => ?_, fun hr ht => ?_, fun hr ht htok => ?_, fun hr ht htok => ?_⟩
  all_goals rw [State.laneTimed_eq]
  · rw [if_pos hr]
    exact (State.laneDrop_counts (s.edgeSeen l pos) l (w := 0) (by decide)).2
  · rw [if_neg hr, if_pos ht]
    exact (State.laneDrop_counts (s.edgeSeen l pos) l (w := 1) (by decide)).2
  · rw [if_neg hr, if_neg ht]
    exact (State.laneWord_without f moved hl (htoken.trans htok)).2
  · rw [if_neg hr, if_neg ht]
    have htake := htoken.trans htok
    exact ⟨(State.laneWord_taken f moved hl htake).2,
      fun hout => State.laneWord_outOfGate_kln f moved htake (hgate.trans hout),
      fun c sh hin hcur hempty => State.laneWord_inGate_queue f moved htake (hgate.trans hin) hcur hempty⟩

theorem laneEdge_times {s : State} (t : Nat) {l : Fin 512} (f : BitVec 10) (moved : Bool)
    (h : fget 0 s.lan.settleAt (l.val / 64) = 0) (hlive : (s.at t).timesEdge l (1024 * (s.at t).now + f.toNat)) :
    Completes (.laneEdge t l f moved) s fun u =>
      (u.lane l).deadTo = 1024 * (s.at t).now + f.toNat + 26215 ∧ (u.lane l).edges = (s.lane l).edges + 1 ∧
      ((s.lane l).inRange (s.at t).now → CountsOne (Id.LAN_DROP + l) 0 (s.at t) u ∧ u.kln = s.kln) ∧
      (¬ (s.lane l).inRange (s.at t).now → (s.lane l).inThreshold (s.at t).now →
        CountsOne (Id.LAN_DROP + l) 32 (s.at t) u ∧ u.kln = s.kln) ∧
      (¬ (s.lane l).inRange (s.at t).now → ¬ (s.lane l).inThreshold (s.at t).now →
        ((s.at t).refillLane l).hasToken l = false → CountsOne (Id.LAN_RDROP + l) 0 (s.at t) u ∧ u.kln = s.kln) ∧
      (¬ (s.lane l).inRange (s.at t).now → ¬ (s.lane l).inThreshold (s.at t).now →
        ((s.at t).refillLane l).hasToken l = true →
        CountsOne (Id.LAN_EVT_COUNT + l) 0 (s.at t) u ∧ ((s.at t).inGate l = none → u.kln = s.kln) ∧
        ∀ c sh, (s.at t).inGate l = some c → s.whl.cur = some sh → (s.kiln (l.val / 64)).queue = [] →
          (u.kiln (l.val / 64)).queue = [{ j := l.val % 64, slot := sh.slot, c, f := f.toNat }]) := by
  have hkiln : (s.at t).kiln (l.val / 64) = s.kiln (l.val / 64) := by rw [State.kiln, State.at_kln, State.kiln]
  obtain ⟨⟨hdead, hedges⟩, hrange, hthreshold, hnoToken, htaken⟩ :=
    (s.at t).laneTimed_counts (1024 * (s.at t).now + f.toNat) f.toNat moved l.isLt
  simp only [State.at_lane, State.at_kln, State.at_whl, hkiln] at hedges hrange hthreshold hnoToken htaken
  exact .of_next (laneEdge_timed t f moved h hlive) ⟨hdead, hedges, hrange, hthreshold, hnoToken, htaken⟩

end Sys2Proof.Machine
end

section
/-! PROOFS. What comes to a lane or a tile at a tick of its own: tokens, stuck comparators, reference edges, invalid windows,
the end of settling (R212, R219 to R221, R224, R228). -/

namespace Sys2Proof.Machine

/-! ## What the passing of time leaves -/

@[simp] theorem State.at_sectorPowered (s : State) (t k : Nat) : (s.at t).sectorPowered k = s.sectorPowered k := by
  simp [State.sectorPowered, State.at_onVco]

@[simp] theorem State.at_laneOff (s : State) (t l : Nat) : (s.at t).laneOff l = s.laneOff l := by simp [State.laneOff]

@[simp] theorem State.at_sectorLive (s : State) (t k : Nat) : (s.at t).sectorLive k = s.sectorLive k := by
  simp [State.sectorLive]

@[simp] theorem State.at_ratePeriod (s : State) (t k : Nat) : (s.at t).ratePeriod k = s.ratePeriod k := by
  simp only [State.ratePeriod, State.at_fld]

@[simp] theorem State.at_fired (s : State) (t : Nat) (sh : Shot) (k : Nat) : (s.at t).fired sh k = s.fired sh k := by
  simp [State.fired]

theorem State.modLane_unchanged (s : State) (l : Nat) (f : Lane → Lane) : Unchanged [.lan] s (s.modLane l f) :=
  s.setLan_unchanged _

/-- A change of the lane field at a later tick. -/
theorem Unchanged.afterTime {s u : State} {t : Nat} (h : Unchanged [.lan] (s.at t) u) : Unchanged ([.lan] ++ recording) s u :=
  ((s.at_unchanged t).mono (by decide)).trans (h.mono (by decide))

/-! ## Tokens (R221) -/

theorem State.ratePeriod_pos (s : State) (k : Nat) : 0 < s.ratePeriod k := by
  unfold State.ratePeriod
  omega

/-- Refills come one in a period: the last one at or before the tick, less than a period ago. -/
theorem refill_within {p a now : Nat} (hp : 0 < p) (h : a ≤ now) :
    a + (now - a) / p * p ≤ now ∧ now < a + (now - a) / p * p + p := by
  have hdiv := Nat.div_add_mod' (now - a) p
  have hmod := Nat.mod_lt (now - a) hp
  omega

theorem laneTokenRefill_refills (t : Nat) (l : Fin 512) (s : State) : let p := s.ratePeriod (l.val / 64)
    Completes (.laneTokenRefill t l) s fun u => u.now = max s.now (max t ((s.lane l).tokenAt + p)) ∧
      (u.lane l).used = (s.lane l).used - (u.now - (s.lane l).tokenAt) / p ∧
      u.now < (u.lane l).tokenAt + p ∧ (u.lane l).tokenAt ≤ u.now ∧ Unchanged ([.lan] ++ recording) s u := by
  intro p
  have hnow : ((s.at (max t ((s.lane l).tokenAt + p))).refillLane l).now = max s.now (max t ((s.lane l).tokenAt + p)) :=
    State.at_now _ _
  have hwithin := refill_within (s.ratePeriod_pos (l.val / 64)) (a := (s.lane l).tokenAt)
    (now := max s.now (max t ((s.lane l).tokenAt + p))) (by omega)
  refine .of_next (u := (s.at (max t ((s.lane l).tokenAt + p))).refillLane l) rfl ⟨hnow, ?_, ?_, ?_, ?_⟩
  · rw [hnow, State.refillLane_lane, State.at_lane, State.at_now, State.at_ratePeriod]
  · rw [hnow, State.refillLane_lane, State.at_lane, State.at_now, State.at_ratePeriod]
    exact hwithin.2
  · rw [hnow, State.refillLane_lane, State.at_lane, State.at_now, State.at_ratePeriod]
    exact hwithin.1
  · exact (State.modLane_unchanged _ _ _).afterTime

/-! ## Stuck comparators (R212) -/

/-- The comparator of lane `l` has been high for 256 ticks. -/
def State.comparatorStuck (s : State) (l : Nat) : State := s.modLane l (fun x => { x with stuck := true })

theorem exec_stuckDetect (t : Nat) (l : Fin 512) (s : State) : exec (.stuckDetect t l) s = .next (
    if s.laneOff l || !s.sectorLive (l.val / 64) then s.at t
    else
      let u := ((s.at t).comparatorStuck l).bump (Id.LAN_STUCK + l.val / 64)
      if !(s.lane l).stuck then u.event (secOff Reg.LAN_STAT (l.val / 64)) 4 { inst := l.val / 64, detail := l } else u) := by
  change execStuckDetect t l s = _
  unfold execStuckDetect
  dsimp only
  rw [State.at_laneOff, State.at_sectorLive, State.at_lane]
  split <;> rfl

theorem stuckDetect_without {t : Nat} {l : Fin 512} {s : State}
    (h : s.laneOff l = true ∨ s.sectorLive (l.val / 64) = false) : Completes (.stuckDetect t l) s fun u => u = s.at t :=
  .of_next ((exec_stuckDetect t l s).trans (congrArg Host.Outcome.next (if_pos (by simpa using h)))) rfl

theorem idBits_laneStuck : ∀ k, k < 8 → idBits (Id.LAN_STUCK + k) = 32 := by decide

theorem stuckDetect_counts {t : Nat} {l : Fin 512} {s : State} (hon : s.laneOff l = false)
    (hlive : s.sectorLive (l.val / 64) = true) : Completes (.stuckDetect t l) s fun u =>
      u.lane l = { s.lane l with stuck := true } ∧ CountsOne (Id.LAN_STUCK + l.val / 64) 0 (s.at t) u ∧
      ((s.lane l).stuck = false → u.shows (secOff Reg.LAN_STAT (l.val / 64)) 4) ∧ Unchanged ([.lan] ++ recording) s u := by
  refine .of_next ((exec_stuckDetect t l s).trans (congrArg Host.Outcome.next (if_neg (by simp [hon, hlive])))) ?_
  dsimp only
  have hmod : Unchanged ([.lan] ++ recording) s ((s.at t).comparatorStuck l) := ((s.at t).modLane_unchanged l _).afterTime
  have hlane : ((s.at t).comparatorStuck l).lane l = { s.lane l with stuck := true } := by
    rw [State.comparatorStuck, State.modLane_lane_same, State.at_lane]
  have hcount : CountsOne (Id.LAN_STUCK + l.val / 64) 0 (s.at t)
      (((s.at t).comparatorStuck l).bump (Id.LAN_STUCK + l.val / 64)) :=
    ((s.at t).comparatorStuck l).bump_countsOne (idBits_laneStuck _ (show l.val / 64 < 8 by omega))
  generalize (s.at t).comparatorStuck l = x at hmod hlane hcount ⊢
  have hbump := (x.bump_quiet (Id.LAN_STUCK + l.val / 64) 1).unchanged.mono (more := [.lan] ++ recording) (by decide)
  split
  · refine ⟨?_, hcount.of_value (State.event_wideRaw _ _ _ _ _),
      fun _ => State.event_shows _ _ (by decide) _, ?_⟩
    · rw [State.lane_of_lan (State.event_lan _ _ _ _), State.lane_of_lan (x.bump_lan _ _), hlane]
    · exact (hmod.trans hbump).trans ((State.event_unchanged _ _ _ _).mono (by decide))
  · next hfirst =>
    refine ⟨?_, hcount, fun hnot => absurd (by simp [hnot]) hfirst, hmod.trans hbump⟩
    rw [State.lane_of_lan (x.bump_lan _ _), hlane]

/-! ## Reference edges (R219) -/

/-- The first edge of a shot stays. -/
def firstRef (m : FMap (Option Nat)) (k pos : Nat) : FMap (Option Nat) :=
  if (fget none m k).isSome then m else fset none m k (some pos)

theorem firstRef_get (m : FMap (Option Nat)) (k pos : Nat) :
    fget none (firstRef m k pos) k = (fget none m k).orElse (fun _ => some pos) := by
  unfold firstRef
  cases h : fget none m k <;> simp [h]

/-- An edge of an input is kept as the reference of its tile. -/
def State.keepRef (s : State) (inB : Bool) (k pos : Nat) : State :=
  { s with lan := if inB then { s.lan with refB := firstRef s.lan.refB k pos }
    else { s.lan with refA := firstRef s.lan.refA k pos } }

theorem State.keepRef_get (s : State) (inB : Bool) (k pos : Nat) :
    fget none (if inB then (s.keepRef inB k pos).lan.refB else (s.keepRef inB k pos).lan.refA) k =
      (fget none (if inB then s.lan.refB else s.lan.refA) k).orElse (fun _ => some pos) := by
  cases inB
  · exact firstRef_get s.lan.refA k pos
  · exact firstRef_get s.lan.refB k pos

section
variable {t : Nat} {k : Fin 32} {inB : Bool} {f : BitVec 10} {s : State} {sh : Shot} (hcur : s.whl.cur = some sh)
  (hsel : let mode := s.fld (secOff Reg.LAN_REF_CTL (k.val / 4) + 4 * (k.val % 4)) 1 0
    mode = 3 ∨ mode = if inB then 2 else 1)
  (hlive : s.sectorLive (k.val / 4) = true) (hfrom : sh.slot ≤ (s.at t).now) (hto : (s.at t).now ≤ sh.slot + 512)
  (hfired : s.fired sh k = true)
include hcur hsel hlive hfrom hto hfired

theorem exec_referenceEdge : exec (.referenceEdge t k inB f) s =
    .next ((s.at t).keepRef inB k (1024 * ((s.at t).now - sh.slot) + f.toNat)) := by
  have hshot : (s.at t).whl.cur = some sh := by rw [State.at_whl, hcur]
  change execReferenceEdge t k inB f s = _
  unfold execReferenceEdge
  dsimp only at hsel ⊢
  rw [hshot]
  dsimp only
  refine (if_pos ?_).trans rfl
  rw [State.at_fld, State.at_sectorLive, State.at_fired, hlive, hfired, decide_eq_true hfrom,
    decide_eq_true (p := (s.at t).now - sh.slot ≤ 512) (by omega)]
  simpa using hsel

theorem referenceEdge_keeps : Completes (.referenceEdge t k inB f) s fun u =>
    fget none (if inB then u.lan.refB else u.lan.refA) k = (fget none (if inB then s.lan.refB else s.lan.refA) k).orElse
      (fun _ => some (1024 * ((s.at t).now - sh.slot) + f.toNat)) ∧ Unchanged [.lan] (s.at t) u := by
  refine .of_next (exec_referenceEdge hcur hsel hlive hfrom hto hfired) ⟨?_, (s.at t).setLan_unchanged _⟩
  rw [State.keepRef_get, State.at_lan]

end

/-! ## Invalid windows (R220) -/

theorem exec_thresholdSwitch (t : Nat) (l : Fin 512) (s : State) : exec (.thresholdSwitch t l) s = .next (
    let b := s.at (max t (s.nextBoundary.getD t - 128))
    if b.thrWillChange l && !s.laneOff l then b.modLane l (fun x => { x with thrFrom := b.now, thrTo := b.now + 128 })
    else b) := by
  change execThresholdSwitch t l s = _
  unfold execThresholdSwitch
  dsimp only
  rw [State.at_laneOff]
  split <;> rfl

theorem thresholdSwitch_opens (t : Nat) (l : Fin 512) (s : State) :
    let b := s.at (max t (s.nextBoundary.getD t - 128))
    (b.thrWillChange l = true → s.laneOff l = false → Completes (.thresholdSwitch t l) s fun u =>
      u.lane l = { s.lane l with thrFrom := u.now, thrTo := u.now + 128 } ∧ u.now = b.now ∧ Unchanged [.lan] b u) ∧
    (b.thrWillChange l = false ∨ s.laneOff l = true → Completes (.thresholdSwitch t l) s fun u => u = b) := by
  intro b
  refine ⟨fun hchange hon => ?_, fun hnot => ?_⟩
  · refine .of_next ((exec_thresholdSwitch t l s).trans (congrArg Host.Outcome.next (if_pos ?_)))
      ⟨?_, rfl, b.modLane_unchanged _ _⟩
    · exact (Bool.and_eq_true _ _).mpr ⟨hchange, by rw [hon]; rfl⟩
    · rw [State.modLane_lane_same, State.at_lane]
      rfl
  · refine .of_next ((exec_thresholdSwitch t l s).trans (congrArg Host.Outcome.next (if_neg ?_))) rfl
    simpa [← Bool.not_eq_true, imp_iff_not_or] using hnot

theorem exec_rangeSwitch (t : Nat) (l : Fin 512) (s : State) : exec (.rangeSwitch t l) s = .next (
    let x := s.lane l
    let b := s.at (max t ((if x.gainForced.isSome then s.nextShotSlot else s.nextBoundary).getD t - 80))
    if (x.gainForced.orElse (fun _ => x.gainNext)).getD x.gain ≠ x.gain ∧ (!s.laneOff l) = true then
      b.modLane l (fun x => { x with rngFrom := b.now, rngTo := b.now + 77 })
    else b) := by
  change execRangeSwitch t l s = _
  unfold execRangeSwitch
  dsimp only
  rw [State.at_laneOff]
  split <;> rfl

theorem rangeSwitch_opens (t : Nat) (l : Fin 512) (s : State) : let x := s.lane l
    let b := s.at (max t ((if x.gainForced.isSome then s.nextShotSlot else s.nextBoundary).getD t - 80))
    let g := (x.gainForced.orElse (fun _ => x.gainNext)).getD x.gain
    (g ≠ x.gain → s.laneOff l = false → Completes (.rangeSwitch t l) s fun u =>
      u.lane l = { x with rngFrom := u.now, rngTo := u.now + 77 } ∧ u.now = b.now ∧ Unchanged [.lan] b u) ∧
    (g = x.gain ∨ s.laneOff l = true → Completes (.rangeSwitch t l) s fun u => u = b) := by
  intro x b g
  refine ⟨fun hchange hon => ?_, fun hnot => ?_⟩
  · refine .of_next ((exec_rangeSwitch t l s).trans (congrArg Host.Outcome.next (if_pos ⟨hchange, by rw [hon]; rfl⟩)))
      ⟨?_, rfl, b.modLane_unchanged _ _⟩
    rw [State.modLane_lane_same, State.at_lane]
    rfl
  · refine .of_next ((exec_rangeSwitch t l s).trans (congrArg Host.Outcome.next (if_neg ?_))) rfl
    rintro ⟨hchange, hon⟩
    exact hnot.elim hchange (fun hoff => by simp [hoff] at hon)

/-! ## The end of settling (R228) -/

/-- Changes of lanes `base` to `base + n - 1`, one after the other, each its own. -/
theorem modLanes_lane (s : State) (base n l : Nat) (f : Lane → Lane) :
    (forN n s (fun s j => s.modLane (base + j) f)).lane l =
      if base ≤ l ∧ l < base + n then f (s.lane l) else s.lane l := by
  induction n with
  | zero => simp [forN]
  | succ n ih =>
    rw [forN_succ, State.modLane_lane, ih]
    by_cases hl : l = base + n
    · rw [if_pos hl, if_neg (by omega), if_pos (by omega)]
    · rw [if_neg hl]
      exact if_congr (by omega) rfl rfl

/-- Of the lane field they change the lanes alone. -/
theorem modLanes_lan (s : State) (base n : Nat) (f : Lane → Lane) : (forN n s (fun s j => s.modLane (base + j) f)).lan =
    { s.lan with lane := (forN n s (fun s j => s.modLane (base + j) f)).lan.lane } := by
  induction n with
  | zero => rfl
  | succ n ih =>
    rw [forN_succ, State.modLane, ih]

theorem modLanes_unchanged (s : State) (base n : Nat) (f : Lane → Lane) :
    Unchanged [.lan] s (forN n s (fun s j => s.modLane (base + j) f)) := .forN (fun x _ => x.modLane_unchanged _ _) s

/-- The lanes of a sector whose settling is over: full buckets, no offset. -/
def Lane.settled (a : Nat) (x : Lane) : Lane := { x with used := 0, tokenAt := a, tOff := 0 }

/-- The sector has settled, and its lanes start afresh. -/
def State.sectorFresh (s : State) (k : Nat) : State :=
  forN 64 { s with lan := { s.lan with settleAt := fset 0 s.lan.settleAt k 0 } }
    (fun x j => x.modLane (64 * k + j) (Lane.settled (fget 0 s.lan.settleAt k)))

theorem State.settleSector_eq (s : State) (k : Nat) : s.settleSector k =
    if fget 0 s.lan.settleAt k ≠ 0 ∧ fget 0 s.lan.settleAt k ≤ s.now then s.sectorFresh k else s := rfl

theorem State.sectorFresh_unchanged (s : State) (k : Nat) : Unchanged [.lan] s (s.sectorFresh k) :=
  (s.setLan_unchanged _).trans (modLanes_unchanged _ _ _ _)

theorem State.sectorFresh_lan (s : State) (k : Nat) : (s.sectorFresh k).lan = { s.lan with
    settleAt := fset 0 s.lan.settleAt k 0, lane := (s.sectorFresh k).lan.lane } := modLanes_lan _ _ _ _

theorem State.sectorFresh_settleAt (s : State) (k : Nat) :
    (s.sectorFresh k).lan.settleAt = fset 0 s.lan.settleAt k 0 := by rw [State.sectorFresh_lan]

theorem State.sectorFresh_lane (s : State) (k l : Nat) : (s.sectorFresh k).lane l =
    if 64 * k ≤ l ∧ l < 64 * k + 64 then (s.lane l).settled (fget 0 s.lan.settleAt k) else s.lane l :=
  modLanes_lane _ _ _ _ _

theorem sectorSettled_refills (t : Nat) (k : Fin 8) (s : State) : let a := fget 0 s.lan.settleAt k
    a ≠ 0 → Completes (.sectorSettled t k) s fun u => u.now = max s.now (max t a) ∧ fget 0 u.lan.settleAt k = 0 ∧
      (∀ j, j < 64 → u.lane (64 * k.val + j) = { s.lane (64 * k.val + j) with used := 0, tokenAt := a, tOff := 0 }) ∧
      Unchanged ([.lan] ++ recording) s u := by
  intro a ha
  have hat : fget 0 (s.at (max t a)).lan.settleAt k = a := by rw [State.at_lan]
  have hdue : (s.at (max t a)).settleSector k = (s.at (max t a)).sectorFresh k := by
    rw [State.settleSector_eq, hat, State.at_now]
    exact if_pos ⟨ha, by omega⟩
  have hframe := (s.at (max t a)).sectorFresh_unchanged k
  refine .of_next (congrArg Host.Outcome.next hdue) ⟨?_, ?_, fun j hj => ?_, hframe.afterTime⟩
  · rw [hframe.now (by decide), State.at_now]
  · rw [State.sectorFresh_settleAt, fget_fset_same]
  · rw [State.sectorFresh_lane, if_pos (by omega), hat, State.at_lane]
    rfl

end Sys2Proof.Machine
end

section
/-! PROOFS. The lane boundary of a unit without a program (R222 to R228): what each lane applies, the power of the sectors,
and calibration behind it (R239, R241). -/

namespace Sys2Proof.Machine

/-! ## Calibration leaves the lanes (R239, R241) -/

theorem State.calEnd_lanes (s : State) (l st : Nat) : LanesKept s (s.calEnd l st) := by
  have hrun (f : CalRun → CalRun) : LanesKept s (s.modRun l f) := s.setCal_lanes _
  unfold State.calEnd
  exact ((hrun _).trans (State.setCal_lanes _ _)).trans
    (.ite (State.event_lanes _ _ _ _) (.ite (State.event_lanes _ _ _ _) (.refl _)))

theorem State.calTryEnd_lanes (s : State) (expired : Bool) (l : Nat) : LanesKept s (s.calTryEnd expired l) :=
  .ite (.refl s) (.ite (s.calEnd_lanes _ _) (.ite (s.calEnd_lanes _ _) (.ite (s.calEnd_lanes _ _) (.refl s))))

theorem State.calVerdict_lanes (s : State) : LanesKept s s.calVerdict := by
  have hput (v : Nat) : LanesKept s (s.putWide Id.CAL_RUN_SUM v) := s.putWide_lanes v (by decide)
  have haccept (x : State) : LanesKept x x.calAccept := by
    have hfree : LanesKept x x.freeUsed := .of_same rfl
    exact (hfree.trans (State.setCal_lanes _ _)).trans (State.event_lanes _ _ _ _)
  unfold State.calVerdict
  exact .ite ((hput _).trans (.ite (State.calFail_lanes _ _) (.ite (State.calFail_lanes _ _)
    (.ite (State.calFail_lanes _ _) (haccept _))))) (.refl s)

theorem State.calSwap_lanes (s : State) : LanesKept s s.calSwap := by
  unfold State.calSwap
  exact (((s.setCal_lanes _).trans (State.bump_lanes _ _ (by decide))).trans (State.putWide_lanes _ _ (by decide))).trans
    (State.event_lanes _ _ _ _)

theorem State.calBoundary_lanes (s : State) (frame : Bool) : LanesKept s (s.calBoundary frame) := by
  have hends : LanesKept s (forN 512 s (fun s l => if s.laneOff l then s.calTryEnd false l else s)) :=
    .foldl _ (fun x l => .ite (x.calTryEnd_lanes false l) (.refl x)) s
  have hverdict : LanesKept s (if s.cal.st = 1 then
      (forN 512 s (fun s l => if s.laneOff l then s.calTryEnd false l else s)).calVerdict else s) :=
    .ite (hends.trans (State.calVerdict_lanes _)) (.refl s)
  unfold State.calBoundary
  dsimp only
  generalize (if s.cal.st = 1 then State.calVerdict _ else s) = x at hverdict ⊢
  split
  · exact hverdict.trans (.ite x.calSwap_lanes (.refl x))
  · exact hverdict

/-! ## One lane at a boundary (R222 to R227) -/

/-- What a boundary that applies the mask `m` makes of lane `x`. -/
structure BoundaryApplied (m : Bool) (x y : Lane) : Prop where
  edges : y.edges = 0
  masked : y.masked = m
  gain : y.gain = x.gainNext.getD x.gain
  gainNext : y.gainNext = none
  within : x.floor ≤ x.ceil → x.floor ≤ y.thr ∧ y.thr ≤ x.ceil

/-- Nothing but tokens, dead time and tracking offset has changed since. -/
theorem BoundaryApplied.settled {m : Bool} {x y : Lane} (h : BoundaryApplied m x y) (a : Nat) :
    BoundaryApplied m x (y.settled a) := ⟨h.edges, h.masked, h.gain, h.gainNext, h.within⟩

/-- Bounds that leave room hold the applied code of any offset. -/
theorem thrApplied_within {x : Lane} (h : x.floor ≤ x.ceil) (o : Int) :
    x.floor ≤ thrApplied { x with tOff := o } ∧ thrApplied { x with tOff := o } ≤ x.ceil := by
  unfold thrApplied clampI
  dsimp only
  omega

theorem trackStep_gain (trk : Bool) (hi lo up d : Nat) (x : Lane) : (trackStep trk hi lo up d x).gain = x.gain := by
  unfold trackStep
  dsimp only
  split <;> rfl

theorem trackStep_gainNext (trk : Bool) (hi lo up d : Nat) (x : Lane) :
    (trackStep trk hi lo up d x).gainNext = x.gainNext := by
  unfold trackStep
  dsimp only
  split <;> rfl

/-- The threshold step holds the threshold within bounds that leave it room. -/
theorem trackStep_within (trk : Bool) (hi lo up d : Nat) {x : Lane} (h : x.floor ≤ x.ceil) :
    x.floor ≤ (trackStep trk hi lo up d x).thr ∧ (trackStep trk hi lo up d x).thr ≤ x.ceil := by
  unfold trackStep
  rw [if_neg (by omega)]
  exact thrApplied_within h _

/-- The lane before its range and mask apply: a lane that is off does not track. -/
def State.laneTracked (s : State) (l d : Nat) : Lane :=
  if s.laneOff l then
    { s.lane l with thr := thrApplied { s.lane l with tOff := 0 }, tOff := 0, pinned := false, atBound := false }
  else s.trackLane l d

theorem State.laneTracked_applies (s : State) (l d : Nat) :
    (s.laneTracked l d).gain = (s.lane l).gain ∧ (s.laneTracked l d).gainNext = (s.lane l).gainNext ∧
      ((s.lane l).floor ≤ (s.lane l).ceil →
        (s.lane l).floor ≤ (s.laneTracked l d).thr ∧ (s.laneTracked l d).thr ≤ (s.lane l).ceil) := by
  unfold State.laneTracked
  split
  · exact ⟨rfl, rfl, fun hroom => thrApplied_within hroom 0⟩
  · exact ⟨trackStep_gain _ _ _ _ _ _, trackStep_gainNext _ _ _ _ _ _, trackStep_within _ _ _ _ _⟩

theorem gainStep_applies (x : Lane) :
    (gainStep x).gain = x.gainNext.getD x.gain ∧ (gainStep x).gainNext = none ∧ (gainStep x).thr = x.thr := by
  unfold gainStep
  split
  · next g h => exact ⟨by rw [h]; rfl, rfl, rfl⟩
  · next h => exact ⟨by rw [h]; rfl, h, rfl⟩

/-- Lane `l` as a boundary that closes `d` ticks leaves it. -/
def State.boundaryLane (s : State) (l d : Nat) : Lane :=
  { gainStep (s.laneTracked l d) with
    edges := 0, stuck := false, mixed := false, masked := s.bit (lanReg Reg.LAN_THR l) 11 }

theorem State.boundaryLane_applied (s : State) (l d : Nat) :
    BoundaryApplied (s.bit (lanReg Reg.LAN_THR l) 11) (s.lane l) (s.boundaryLane l d) := by
  obtain ⟨hgain, hnext, hwithin⟩ := s.laneTracked_applies l d
  obtain ⟨hstepGain, hstepNext, hstepThr⟩ := gainStep_applies (s.laneTracked l d)
  refine ⟨rfl, rfl, ?_, hstepNext, fun hroom => ?_⟩
  · exact hstepGain.trans (by rw [hgain, hnext])
  · unfold State.boundaryLane
    dsimp only
    rw [hstepThr]
    exact hwithin hroom

theorem State.notSteady_lan (s : State) (l : Nat) : (s.notSteady l).lan = s.lan := by
  unfold State.notSteady
  split <;> rfl

/-- A further step that is taken under a condition only, and leaves the lane field. -/
theorem State.thenIf_lan {s x : State} {c : Prop} [Decidable c] (h : x.lan = s.lan) : (if c then x else s).lan = s.lan := by
  split
  · exact h
  · rfl

/-- Of the lane field a lane's boundary changes that lane alone. -/
theorem State.laneBoundary_lan (s : State) (l d : Nat) :
    (s.laneBoundary l d).lan = (s.modLane l (fun _ => s.boundaryLane l d)).lan := by
  unfold State.laneBoundary
  exact (State.thenIf_lan (State.event_lan _ _ _ _)).trans ((State.thenIf_lan (State.bump_lan _ _ _)).trans
    ((State.thenIf_lan (State.notSteady_lan _ _)).trans (State.thenIf_lan (State.paramClamp_lan _ _ _ _))))

/-! ## The lanes at a boundary -/

/-- Of the first `n` lanes each has met the boundary; what else a boundary reads is as it was. -/
structure LanesApplied (n : Nat) (s u : State) : Prop where
  done : ∀ l, l < n → BoundaryApplied (s.bit (lanReg Reg.LAN_THR l) 11) (s.lane l) (u.lane l)
  rest : ∀ l, n ≤ l → u.lane l = s.lane l
  regs : u.regs = s.regs
  secOn : u.lan.secOn = s.lan.secOn
  idleAt : u.lan.idleAt = s.lan.idleAt

theorem State.bit_of_regs {s u : State} (h : u.regs = s.regs) (off i : Nat) : u.bit off i = s.bit off i := by
  simp only [State.bit, State.reg, h]

theorem lanesApplied (s : State) (d n : Nat) : LanesApplied n s (forN n s (fun s l => s.laneBoundary l d)) := by
  induction n with
  | zero => exact ⟨fun l hl => absurd hl (Nat.not_lt_zero l), fun _ _ => rfl, rfl, rfl, rfl⟩
  | succ n ih =>
    rw [forN_succ]
    generalize forN n s (fun s l => s.laneBoundary l d) = x at ih ⊢
    have hlan := x.laneBoundary_lan n d
    have hlane (l : Nat) : (x.laneBoundary n d).lane l = if l = n then x.boundaryLane n d else x.lane l :=
      (State.lane_of_lan hlan l).trans (State.modLane_lane _ _ _ _)
    refine ⟨fun l hl => ?_, fun l hl => ?_, ((x.laneBoundary_calm n d).parts .regs (by decide)).trans ih.regs, ?_, ?_⟩
    · rw [hlane]
      by_cases hln : l = n
      · rw [if_pos hln, hln, ← State.bit_of_regs ih.regs, ← ih.rest n (Nat.le_refl n)]
        exact x.boundaryLane_applied n d
      · rw [if_neg hln]
        exact ih.done l (by omega)
    · rw [hlane, if_neg (by omega), ih.rest l (by omega)]
    · rw [hlan]
      exact ih.secOn
    · rw [hlan]
      exact ih.idleAt

/-! ## Sector power (R228) -/

theorem bitOf_or_sector {x : BitVec 8} {k i : Nat} (hi : i < 8) :
    bitOf (x ||| BitVec.ofNat 8 (2 ^ k)).toNat i = (bitOf x.toNat i || decide (k = i)) := by
  change (x ||| BitVec.ofNat 8 (2 ^ k)).getLsbD i = (x.getLsbD i || decide (k = i))
  rw [BitVec.getLsbD_or, BitVec.getLsbD_ofNat, Nat.testBit_two_pow, decide_eq_true hi, Bool.true_and]

theorem bitOf_clear_sector {x : BitVec 8} {k i : Nat} (hi : i < 8) :
    bitOf (x &&& ~~~(BitVec.ofNat 8 (2 ^ k))).toNat i = (bitOf x.toNat i && !decide (k = i)) := by
  change (x &&& ~~~(BitVec.ofNat 8 (2 ^ k))).getLsbD i = (x.getLsbD i && !decide (k = i))
  rw [BitVec.getLsbD_and, BitVec.getLsbD_not, BitVec.getLsbD_ofNat, Nat.testBit_two_pow, decide_eq_true hi, Bool.true_and,
    Bool.true_and]

/-- A boundary powers sector `k` as its register says, and no other; the lanes and the idle boundary stay. -/
theorem State.sectorPower_spec (s : State) (k : Nat) : (s.sectorPower k).regs = s.regs ∧
    (s.sectorPower k).lan.lane = s.lan.lane ∧ (s.sectorPower k).lan.idleAt = s.lan.idleAt ∧
    ∀ i, i < 8 → bitOf (s.sectorPower k).lan.secOn.toNat i =
      if i = k then s.bit (secOff Reg.LAN_CTL k) 0 else bitOf s.lan.secOn.toNat i := by
  unfold State.sectorPower
  dsimp only
  split
  · next h =>
    refine ⟨rfl, rfl, rfl, fun i hi => (bitOf_or_sector hi).trans ?_⟩
    obtain ⟨hen, -⟩ := (Bool.and_eq_true _ _).mp h
    by_cases hik : i = k
    · simp [hik, hen]
    · simp [hik, Ne.symm hik]
  · split
    · next h =>
      refine ⟨rfl, rfl, rfl, fun i hi => (bitOf_clear_sector hi).trans ?_⟩
      obtain ⟨-, hen⟩ := (Bool.and_eq_true _ _).mp h
      by_cases hik : i = k
      · simpa [hik] using hen
      · simp [hik, Ne.symm hik]
    · next hon hoff =>
      refine ⟨rfl, rfl, rfl, fun i _ => ?_⟩
      by_cases hik : i = k
      · rw [if_pos hik, hik]
        revert hon hoff
        generalize s.bit (secOff Reg.LAN_CTL k) 0 = en
        generalize bitOf s.lan.secOn.toNat k = was
        revert en was
        decide
      · rw [if_neg hik]

theorem State.settleSector_spec (s : State) (k : Nat) : (s.settleSector k).regs = s.regs ∧
    (s.settleSector k).lan.secOn = s.lan.secOn ∧ (s.settleSector k).lan.idleAt = s.lan.idleAt ∧
    ∀ l, (s.settleSector k).lane l = s.lane l ∨ ∃ a, (s.settleSector k).lane l = (s.lane l).settled a := by
  rw [State.settleSector_eq]
  split
  · refine ⟨s.sectorFresh_unchanged k .regs (by decide), by rw [State.sectorFresh_lan], by rw [State.sectorFresh_lan],
      fun l => ?_⟩
    rw [State.sectorFresh_lane]
    split
    · exact .inr ⟨_, rfl⟩
    · exact .inl rfl
  · exact ⟨rfl, rfl, rfl, fun l => .inl rfl⟩

/-- The lanes have met the boundary, and the first `n` sectors are powered as their registers say. -/
structure SectorsApplied (n : Nat) (s u : State) : Prop where
  lanes : ∀ l, l < 512 → BoundaryApplied (s.bit (lanReg Reg.LAN_THR l) 11) (s.lane l) (u.lane l)
  power : ∀ k, k < n → bitOf u.lan.secOn.toNat k = s.bit (secOff Reg.LAN_CTL k) 0
  regs : u.regs = s.regs
  idleAt : u.lan.idleAt = s.lan.idleAt

theorem sectorsApplied {s x : State} (h : LanesApplied 512 s x) {n : Nat} (hn : n ≤ 8) :
    SectorsApplied n s (forN n x (fun s k => (s.settleSector k).sectorPower k)) := by
  induction n with
  | zero => exact ⟨h.done, fun k hk => absurd hk (Nat.not_lt_zero k), h.regs, h.idleAt⟩
  | succ n ih =>
    have hprev := ih (by omega)
    rw [forN_succ]
    generalize forN n x _ = y at hprev ⊢
    obtain ⟨hregs, hsec, hidle, hlane⟩ := y.settleSector_spec n
    obtain ⟨hpregs, hplane, hpidle, hpower⟩ := (y.settleSector n).sectorPower_spec n
    refine ⟨fun l hl => ?_, fun k hk => ?_, hpregs.trans (hregs.trans hprev.regs), hpidle.trans (hidle.trans hprev.idleAt)⟩
    · have hsame : ((y.settleSector n).sectorPower n).lane l = (y.settleSector n).lane l := by
        rw [State.lane, hplane, State.lane]
      rw [hsame]
      obtain hkept | ⟨a, hfresh⟩ := hlane l
      · rw [hkept]
        exact hprev.lanes l hl
      · rw [hfresh]
        exact (hprev.lanes l hl).settled a
    · rw [hpower k (by omega)]
      split
      · next hkn => rw [hkn, State.bit_of_regs hregs, State.bit_of_regs hprev.regs]
      · rw [hsec]
        exact hprev.power k (by omega)

theorem State.lanesBoundary_applied (s : State) (d : Nat) : SectorsApplied 8 s (s.lanesBoundary d) :=
  sectorsApplied (lanesApplied s d 512) (Nat.le_refl 8)

/-! ## The boundary of a unit without a program (R226) -/

theorem idleLaneBoundary_without {t : Nat} {s : State} (h : s.wheelRuns = true ∨ s.onVco = false) :
    Completes (.idleLaneBoundary t) s fun u => u = s.at t :=
  .of_next (if_pos (by simpa using h)) rfl

/-- The tick and the note of an idle boundary. -/
def State.idleDue (s : State) (t : Nat) : State :=
  let b := s.at (max t (s.lan.idleAt + 1024))
  { b with lan := { b.lan with idleAt := b.now } }

theorem exec_idleLaneBoundary {t : Nat} {s : State} (hidle : s.wheelRuns = false) (hvco : s.onVco = true) :
    exec (.idleLaneBoundary t) s = .next (((s.idleDue t).lanesBoundary 1024).calBoundary true) := by
  change execIdleLaneBoundary t s = _
  unfold execIdleLaneBoundary
  rw [if_neg (by simp [hidle, hvco])]
  rfl

theorem State.idleDue_lane (s : State) (t l : Nat) : (s.idleDue t).lane l = s.lane l := s.at_lane _ l

theorem State.idleDue_bit (s : State) (t off i : Nat) : (s.idleDue t).bit off i = s.bit off i := s.at_bit _ off i

theorem idleLaneBoundary_applies {t : Nat} {s : State} (hidle : s.wheelRuns = false) (hvco : s.onVco = true) :
    Completes (.idleLaneBoundary t) s fun u =>
      u.now = max s.now (max t (s.lan.idleAt + 1024)) ∧ u.lan.idleAt = u.now ∧
      (∀ l, l < 512 → (u.lane l).edges = 0 ∧ (u.lane l).masked = s.bit (lanReg Reg.LAN_THR l) 11 ∧
        (u.lane l).gain = (s.lane l).gainNext.getD (s.lane l).gain ∧ (u.lane l).gainNext = none ∧
        ((s.lane l).floor ≤ (s.lane l).ceil → (s.lane l).floor ≤ (u.lane l).thr ∧ (u.lane l).thr ≤ (s.lane l).ceil)) ∧
      ∀ k, k < 8 → bitOf u.lan.secOn.toNat k = s.bit (secOff Reg.LAN_CTL k) 0 := by
  have hbound := (s.idleDue t).lanesBoundary_applied 1024
  have hcal := (((s.idleDue t).lanesBoundary 1024).calBoundary_lanes true).lan
  have hnow : (((s.idleDue t).lanesBoundary 1024).calBoundary true).now = max s.now (max t (s.lan.idleAt + 1024)) :=
    ((State.calBoundary_calm _ _).parts .now (by decide)).trans
      (((State.lanesBoundary_calm _ _).parts .now (by decide)).trans (s.at_now _))
  refine .of_next (exec_idleLaneBoundary hidle hvco) ⟨hnow, ?_, fun l hl => ?_, fun k hk => ?_⟩
  · rw [hcal, hbound.idleAt, hnow]
    exact s.at_now _
  · have hl := hbound.lanes l hl
    rw [State.idleDue_bit, State.idleDue_lane] at hl
    rw [State.lane_of_lan hcal]
    exact ⟨hl.edges, hl.masked, hl.gain, hl.gainNext, hl.within⟩
  · rw [hcal, hbound.power k hk, State.idleDue_bit]

/-! ## The family -/

/-- Settles O41: an edge by its windows, its token and its gate, and each other command by what it does in the states of its
clause. -/
theorem lanesTimeTheirEdges : Obligations.LanesTimeTheirEdges :=
  ⟨fun t _ f moved _ hsettled => ⟨laneEdge_without t f moved hsettled, laneEdge_times t f moved hsettled⟩,
    laneTokenRefill_refills, fun _ _ _ => ⟨stuckDetect_without, stuckDetect_counts⟩,
    fun _ _ _ _ _ _ hcur => referenceEdge_keeps hcur, thresholdSwitch_opens, rangeSwitch_opens, sectorSettled_refills,
    fun _ _ => idleLaneBoundary_without, fun _ _ => idleLaneBoundary_applies⟩

end Sys2Proof.Machine
end

section
/-! PROOFS. How a calibration run collects and ends (R233, R239): the end of one lane, the ends of all lanes, the verdict, a
failure. -/

namespace Sys2Proof.Machine

/-! ## Runs of lanes -/

theorem State.modRun_calRun (s : State) (l : Nat) (f : CalRun → CalRun) (i : Nat) :
    (s.modRun l f).calRun i = if i = l then f (s.calRun l) else s.calRun i := by
  unfold State.calRun State.modRun fmod
  exact fget_fset _ _ _ _ _

theorem State.calRun_of_runs {s u : State} (h : u.cal.runs = s.cal.runs) (l : Nat) : u.calRun l = s.calRun l := by
  rw [State.calRun, State.calRun, h]

theorem State.calIn_of_inRun {s u : State} (h : u.cal.inRun = s.cal.inRun) (l : Nat) : u.calIn l = s.calIn l := by
  rw [State.calIn, State.calIn, h]

@[simp] theorem State.at_calRun (s : State) (t l : Nat) : (s.at t).calRun l = s.calRun l :=
  State.calRun_of_runs (by rw [State.at_cal]) l

@[simp] theorem State.at_calIn (s : State) (t l : Nat) : (s.at t).calIn l = s.calIn l :=
  State.calIn_of_inRun (by rw [State.at_cal]) l

@[simp] theorem State.at_calHitLimit (s : State) (t : Nat) : (s.at t).calHitLimit = s.calHitLimit := by
  rw [State.calHitLimit, State.at_fld, State.calHitLimit]

@[simp] theorem State.at_calSet (s : State) (t l : Nat) : (s.at t).calSet l = s.calSet l := by
  rw [State.calSet, State.at_cal, State.calSet]

@[simp] theorem State.at_newTap (s : State) (t l : Nat) (r : CalRun) : (s.at t).newTap l r = s.newTap l r := by
  rw [State.newTap, State.at_bit, State.at_calSet, State.newTap]

@[simp] theorem State.at_dnlBad (s : State) (t : Nat) (r : CalRun) : (s.at t).dnlBad r = s.dnlBad r := by
  simp only [State.dnlBad, State.at_fld]

@[simp] theorem State.at_skewBad (s : State) (t l : Nat) (r : CalRun) : (s.at t).skewBad l r = s.skewBad l r := by
  simp only [State.skewBad, State.at_fld, State.at_newTap, State.at_calSet]

@[simp] theorem State.at_inlBad (s : State) (t l : Nat) (new : FMap Nat) : (s.at t).inlBad l new = s.inlBad l new := by
  simp only [State.inlBad, State.at_fld, State.at_calSet]

/-- The checks of R240 read registers and the sets in force. -/
@[simp] theorem State.at_calStatus (s : State) (t l : Nat) (r : CalRun) : (s.at t).calStatus l r = s.calStatus l r := by
  simp only [State.calStatus, State.at_dnlBad, State.at_skewBad, State.at_inlBad]

/-! ## What the end of a lane leaves -/

/-- From `s` to `u` nothing happens but ends of collection: outside calibration only events are recorded, and the state of
the run, its sectors and the sets in force stay. -/
structure LanesEnd (s u : State) : Prop where
  parts : Unchanged (.cal :: eventParts) s u
  st : u.cal.st = s.cal.st
  inRun : u.cal.inRun = s.cal.inRun
  sets : u.cal.sets = s.cal.sets

namespace LanesEnd

theorem refl (s : State) : LanesEnd s s := ⟨.refl _ s, rfl, rfl, rfl⟩

theorem trans {a b c : State} (h : LanesEnd a b) (k : LanesEnd b c) : LanesEnd a c :=
  ⟨h.parts.trans k.parts, k.st.trans h.st, k.inRun.trans h.inRun, k.sets.trans h.sets⟩

variable {s u : State} (h : LanesEnd s u)
include h

theorem calIn (l : Nat) : u.calIn l = s.calIn l := State.calIn_of_inRun h.inRun l

theorem fld (off hi lo : Nat) : u.fld off hi lo = s.fld off hi lo := by
  rw [State.fld, State.fld, h.parts.reg (by decide)]

theorem calHitLimit : u.calHitLimit = s.calHitLimit := by
  rw [State.calHitLimit, h.fld, State.calHitLimit]

theorem laneOff (l : Nat) : u.laneOff l = s.laneOff l := by
  have hlan : u.lan = s.lan := h.parts .lan (by decide)
  have hclk : u.clk = s.clk := h.parts .clk (by decide)
  have hthm : u.thm = s.thm := h.parts .thm (by decide)
  have hmode : u.mode = s.mode := h.parts .mode (by decide)
  simp only [State.laneOff, State.sectorPowered, State.onVco, State.lane, hlan, hclk, hthm, hmode]

end LanesEnd

/-! ## The end of one lane (R233, R239) -/

/-- The lane's note and the position of the run after the end of lane `l` with status `st` (R243). -/
def State.laneNoted (s : State) (l st : Nat) : State :=
  { s with cal := { s.cal with
    lanes := fset {} s.cal.lanes l { fget {} s.cal.lanes l with status := st }
    prog := { s.cal.prog with
      pos := min ((List.range 512).filter (fun i => (s.calRun i).done)).length (s.cal.prog.total - 1) } } }

/-- The ticks of the slot in progress that count against lane `l` (R233). -/
def State.slotLoss (s : State) (l : Nat) : Nat :=
  match s.whl.cur with
  | some sh => s.notLive sh l
  | none => 0

/-- The run `r` of lane `l` as its end with status `st` closes it. -/
def State.runClosed (s : State) (l st : Nat) (r : CalRun) : CalRun :=
  { r with done := true, status := st, live := s.now - s.cal.startAt - (r.sub + s.slotLoss l) }

/-- The end of lane `l` with status `st`, before its event. -/
def State.laneClosed (s : State) (l st : Nat) : State := (s.modRun l (s.runClosed l st)).laneNoted l st

theorem State.calEnd_eq (s : State) (l st : Nat) : s.calEnd l st =
    if 3 ≤ st ∧ st ≤ 5 then (s.laneClosed l st).event Reg.CAL_STAT 3 { inst := l % 256, detail := l }
    else if st = 2 then (s.laneClosed l st).event Reg.CAL_STAT 4 { inst := l % 256, detail := l }
    else s.laneClosed l st := rfl

theorem State.calEnd_cal (s : State) (l st : Nat) : (s.calEnd l st).cal = (s.laneClosed l st).cal := by
  rw [State.calEnd_eq]
  split
  · exact State.event_cal _ _ _ _
  · split
    · exact State.event_cal _ _ _ _
    · rfl

theorem State.calEnd_lanesEnd (s : State) (l st : Nat) : LanesEnd s (s.calEnd l st) := by
  have hclosed : Unchanged (.cal :: eventParts) s (s.laneClosed l st) :=
    (s.setCal_unchanged _).mono (by decide)
  have hevent (b : Nat) (i : Info) :
      Unchanged (.cal :: eventParts) (s.laneClosed l st) ((s.laneClosed l st).event Reg.CAL_STAT b i) :=
    (State.event_unchanged _ _ _ _).mono (by decide)
  refine ⟨?_, ?_, ?_, ?_⟩
  · rw [State.calEnd_eq]
    exact hclosed.trans (.ite (hevent _ _) (.ite (hevent _ _) (.refl _ _)))
  all_goals
    rw [State.calEnd_cal]
    rfl

theorem State.calEnd_calRun (s : State) (l st i : Nat) : (s.calEnd l st).calRun i =
    if i = l then s.runClosed l st (s.calRun l) else s.calRun i := by
  rw [State.calRun_of_runs (s := s.laneClosed l st) (by rw [State.calEnd_cal])]
  exact s.modRun_calRun l _ i

theorem State.calEnd_ends (s : State) (l st : Nat) :
    ((s.calEnd l st).calRun l).done = true ∧ ((s.calEnd l st).calRun l).status = st := by
  rw [State.calEnd_calRun, if_pos rfl]
  exact ⟨rfl, rfl⟩

/-! ## When a lane ends (R233) -/

/-- Lane `l` is in the run, and its collection has not ended. -/
def State.collectsLane (s : State) (l : Nat) : Prop := s.calIn l = true ∧ (s.calRun l).done = false

section
variable {s : State} {expired : Bool} {l : Nat}

theorem State.calTryEnd_settled (h : s.calIn l = false ∨ (s.calRun l).done = true) : s.calTryEnd expired l = s :=
  if_pos (by rcases h with h | h <;> simp [h])

variable (h : s.collectsLane l)
include h

theorem State.calTryEnd_collecting : s.calTryEnd expired l =
    if s.laneOff l then s.calEnd l 6
    else if s.calHitLimit ≤ (s.calRun l).n then s.calEnd l (s.calStatus l (s.calRun l))
    else if expired then s.calEnd l 2
    else s := by
  obtain ⟨hin, hopen⟩ := h
  exact if_neg (by simp [hin, hopen])

theorem State.calTryEnd_masked (hoff : s.laneOff l = true) : s.calTryEnd expired l = s.calEnd l 6 := by
  rw [State.calTryEnd_collecting h, if_pos hoff]

theorem State.calTryEnd_full (hon : s.laneOff l = false) (hn : s.calHitLimit ≤ (s.calRun l).n) :
    s.calTryEnd expired l = s.calEnd l (s.calStatus l (s.calRun l)) := by
  rw [State.calTryEnd_collecting h, if_neg (by simp [hon]), if_pos hn]

theorem State.calTryEnd_starved (hon : s.laneOff l = false) (hn : (s.calRun l).n < s.calHitLimit) :
    s.calTryEnd true l = s.calEnd l 2 := by
  rw [State.calTryEnd_collecting h, if_neg (by simp [hon]), if_neg (by omega), if_pos rfl]

theorem State.calTryEnd_waits (hon : s.laneOff l = false) (hn : (s.calRun l).n < s.calHitLimit) :
    s.calTryEnd false l = s := by
  rw [State.calTryEnd_collecting h, if_neg (by simp [hon]), if_neg (by omega), if_neg Bool.false_ne_true]

end

theorem State.calTryEnd_cases (s : State) (expired : Bool) (l : Nat) :
    s.calTryEnd expired l = s ∨ ∃ st, s.calTryEnd expired l = s.calEnd l st := by
  unfold State.calTryEnd
  dsimp only
  split
  · exact .inl rfl
  split
  · exact .inr ⟨_, rfl⟩
  split
  · exact .inr ⟨_, rfl⟩
  split
  · exact .inr ⟨_, rfl⟩
  · exact .inl rfl

theorem State.calTryEnd_lanesEnd (s : State) (expired : Bool) (l : Nat) : LanesEnd s (s.calTryEnd expired l) := by
  obtain h | ⟨st, h⟩ := s.calTryEnd_cases expired l
  · rw [h]
    exact .refl s
  · rw [h]
    exact s.calEnd_lanesEnd l st

theorem State.calTryEnd_calRun_ne (s : State) (expired : Bool) {l i : Nat} (hi : i ≠ l) :
    (s.calTryEnd expired l).calRun i = s.calRun i := by
  obtain h | ⟨st, h⟩ := s.calTryEnd_cases expired l
  · rw [h]
  · rw [h, State.calEnd_calRun, if_neg hi]

/-! ## The window expires (R233) -/

/-- Lane `l` of the run of `s` has ended in `u`, STARVED if it was on and short of hits. -/
structure LaneExpired (s u : State) (l : Nat) : Prop where
  done : (u.calRun l).done = true
  starved : (s.calRun l).done = false → s.laneOff l = false → (s.calRun l).n < s.calHitLimit → (u.calRun l).status = 2

theorem State.calTryEnd_expires (s : State) {l : Nat} (h : s.calIn l = true) : LaneExpired s (s.calTryEnd true l) l := by
  cases hdone : (s.calRun l).done with
  | true =>
    rw [State.calTryEnd_settled (.inr hdone)]
    exact ⟨hdone, fun hopen => by simp [hdone] at hopen⟩
  | false =>
    have hcollects : s.collectsLane l := ⟨h, hdone⟩
    by_cases hoff : s.laneOff l = true
    · rw [State.calTryEnd_masked hcollects hoff]
      exact ⟨(s.calEnd_ends l _).1, fun _ hon => by simp [hoff] at hon⟩
    rw [Bool.not_eq_true] at hoff
    by_cases hn : s.calHitLimit ≤ (s.calRun l).n
    · rw [State.calTryEnd_full hcollects hoff hn]
      exact ⟨(s.calEnd_ends l _).1, fun _ _ hshort => absurd hn (by omega)⟩
    · rw [State.calTryEnd_starved hcollects hoff (by omega)]
      exact ⟨(s.calEnd_ends l _).1, fun _ _ _ => (s.calEnd_ends l _).2⟩

/-- In `u` the window of `s` has expired for the lanes below `n`, and for no other. -/
structure WindowExpired (n : Nat) (s u : State) : Prop where
  ends : LanesEnd s u
  lanes : ∀ l, l < n → s.calIn l = true → LaneExpired s u l
  later : ∀ l, n ≤ l → u.calRun l = s.calRun l

theorem windowExpired (s : State) (n : Nat) : WindowExpired n s (forN n s (fun s l => s.calTryEnd true l)) := by
  induction n with
  | zero => exact ⟨.refl s, fun l hl => absurd hl (Nat.not_lt_zero l), fun _ _ => rfl⟩
  | succ n ih =>
    rw [forN_succ]
    generalize forN n s (fun s l => s.calTryEnd true l) = x at ih ⊢
    refine ⟨ih.ends.trans (x.calTryEnd_lanesEnd true n), fun l hl hin => ?_, fun l hl => ?_⟩
    · obtain hlast | hearlier : l = n ∨ l < n := by omega
      · subst hlast
        have hexpired := x.calTryEnd_expires (l := l) ((ih.ends.calIn l).trans hin)
        have hstarved := hexpired.starved
        rw [ih.later l (Nat.le_refl l), ih.ends.laneOff, ih.ends.calHitLimit] at hstarved
        exact ⟨hexpired.done, hstarved⟩
      · have hrun := x.calTryEnd_calRun_ne true (Nat.ne_of_lt hearlier)
        have hexpired := ih.lanes l hearlier hin
        exact ⟨by rw [hrun, hexpired.done], by rw [hrun]; exact hexpired.starved⟩
    · rw [x.calTryEnd_calRun_ne true (by omega), ih.later l (by omega)]

/-! ## The verdict (R239) -/

theorem State.calFail_cal (s : State) (reason : Nat) : (s.calFail reason).cal = { s.cal with
    st := if s.cal.commanded then 0 else 3
    holdTo := s.now + msT (1000 * s.fld Reg.CAL_WIN 7 0)
    commanded := false, failReason := reason, swapAt := none, prog := { s.cal.prog with st := 3 } } := by
  unfold State.calFail
  rw [State.event_cal]
  cases s.cal.commanded <;> rfl

/-- The run of `s` ends by its verdict: it fails, or waits for the swap. -/
structure RunEnds (s u : State) : Prop where
  st : u.cal.st ≠ 1
  runs : u.cal.runs = s.cal.runs
  sets : u.cal.sets = s.cal.sets

theorem State.calFail_ends (s : State) (reason : Nat) : RunEnds s (s.calFail reason) := by
  refine ⟨?_, ?_, ?_⟩ <;> rw [State.calFail_cal]
  dsimp only
  split <;> decide

theorem State.calAccept_ends (s : State) : RunEnds s s.calAccept := by
  unfold State.calAccept
  refine ⟨?_, ?_, ?_⟩ <;> rw [State.event_cal]
  · exact show (2 : Nat) ≠ 1 by decide
  · rfl
  · rfl

theorem RunEnds.of_cal {s x u : State} (h : RunEnds x u) (hcal : x.cal = s.cal) : RunEnds s u := by
  obtain ⟨hst, hruns, hsets⟩ := h
  rw [hcal] at hruns hsets
  exact ⟨hst, hruns, hsets⟩

/-- Every lane of the run has ended its collection. -/
def State.calDone (s : State) : Prop := ∀ l, l < 512 → s.calIn l = true → (s.calRun l).done = true

theorem State.calVerdict_ends {s : State} (hst : s.cal.st = 1) (h : s.calDone) : RunEnds s s.calVerdict := by
  have hall : ((List.range 512).all fun l => !s.calIn l || (s.calRun l).done) = true := by
    rw [List.all_eq_true]
    intro l hl
    cases hin : s.calIn l with
    | false => rfl
    | true => exact h l (List.mem_range.mp hl) hin
  unfold State.calVerdict
  dsimp only
  rw [hall, if_pos (by simp [hst])]
  generalize hx : s.putWide Id.CAL_RUN_SUM _ = x
  refine RunEnds.of_cal (x := x) ?_ (hx ▸ State.putWide_cal _ _ _)
  split
  · exact State.calFail_ends _ _
  split
  · exact State.calFail_ends _ _
  split
  · exact State.calFail_ends _ _
  · exact State.calAccept_ends _

theorem State.calVerdict_waits {s : State} (h : ¬ s.calDone) : s.calVerdict = s := by
  have hall : ((List.range 512).all fun l => !s.calIn l || (s.calRun l).done) = false := by
    rw [Bool.eq_false_iff]
    intro hall
    refine h fun l hl hin => ?_
    have hlane := List.all_eq_true.mp hall l (List.mem_range.mpr hl)
    simpa [hin] using hlane
  unfold State.calVerdict
  dsimp only
  rw [hall, Bool.and_false, if_neg Bool.false_ne_true]

/-- The verdict keeps the lanes' runs and the sets in force: the new sets wait for the swap. -/
theorem State.calVerdict_kept {s : State} (hst : s.cal.st = 1) :
    s.calVerdict.cal.runs = s.cal.runs ∧ s.calVerdict.cal.sets = s.cal.sets := by
  by_cases h : s.calDone
  · exact ⟨(State.calVerdict_ends hst h).runs, (State.calVerdict_ends hst h).sets⟩
  · rw [State.calVerdict_waits h]
    exact ⟨rfl, rfl⟩

theorem State.not_calDone {s : State} {l : Nat} (hl : l < 512) (h : s.collectsLane l) : ¬ s.calDone := fun hdone => by
  obtain ⟨hin, hopen⟩ := h
  simp [hdone l hl hin] at hopen

end Sys2Proof.Machine
end

section
/-! PROOFS. The commands of lane calibration (R233 to R244): a run begins, its lanes end, it expires, it is aborted, a hold
ends. -/

namespace Sys2Proof.Machine

/-! ## A run begins (R237, R238) -/

/-- Calibration as a run over the sectors of `mask` begins, before any lane has ended. -/
def Calib.begun (c : Calib) (mask : BitVec 8) (commanded : Bool) (now : Nat) (temp : Int) : Calib :=
  { c with
    st := 1, commanded, failReason := 0, runs := [], inRun := mask, startAt := now
    tMin := temp, tMax := temp, tSum := temp, tN := 1
    prog := { run := c.prog.run + 1, st := 1, pos := 0, total := 64 * popCount 8 mask.toNat } }

/-- A run over the sectors of `mask` collects from now on. -/
def State.runBegun (s : State) (mask : BitVec 8) (commanded : Bool) : State :=
  { s with cal := s.cal.begun mask commanded s.now s.thm.temp }

/-- No lane is off, and a run asks for some hits and some time. -/
structure CollectsAsked (s : State) : Prop where
  lanes : ∀ l, l < 512 → s.laneOff l = false
  hits : 0 < s.fld Reg.CAL_HITS 7 0
  window : 0 < s.fld Reg.CAL_WIN 7 0

theorem CollectsAsked.at {s : State} (h : CollectsAsked s) (t : Nat) : CollectsAsked (s.at t) :=
  ⟨fun l hl => by rw [State.at_laneOff, h.lanes l hl], by rw [State.at_fld]; exact h.hits,
    by rw [State.at_fld]; exact h.window⟩

theorem forN_fixed {α : Type} (n : Nat) {x : α} {f : α → Nat → α} (h : ∀ k, k < n → f x k = x) : forN n x f = x := by
  induction n with
  | zero => rfl
  | succ n ih => rw [forN_succ, ih fun k hk => h k (by omega), h n (by omega)]

/-- A lane of a run that has just begun, on and asked for hits, goes on collecting. -/
theorem State.runBegun_lane {s : State} (mask : BitVec 8) (commanded : Bool) {l : Nat} (hon : s.laneOff l = false)
    (hhits : 0 < s.fld Reg.CAL_HITS 7 0) : (s.runBegun mask commanded).calTryEnd false l = s.runBegun mask commanded := by
  by_cases hin : (s.runBegun mask commanded).calIn l = true
  · exact State.calTryEnd_waits ⟨hin, rfl⟩ hon (show 0 < 65536 * s.fld Reg.CAL_HITS 7 0 by omega)
  · exact State.calTryEnd_settled (.inl (by simpa using hin))

theorem State.runBegun_notDone (s : State) {mask : BitVec 8} (commanded : Bool) (h : mask ≠ 0) :
    ¬ (s.runBegun mask commanded).calDone := by
  obtain ⟨k, hk⟩ := Nat.exists_testBit_of_ne_zero (x := mask.toNat) (by simpa [← BitVec.toNat_inj] using h)
  have hlt : k < 8 := by
    by_contra hge
    exact absurd hk (by simp [BitVec.testBit_toNat, BitVec.getLsbD_of_ge mask k (by omega)])
  refine State.not_calDone (l := 64 * k) (by omega) ⟨?_, rfl⟩
  change bitOf mask.toNat (64 * k / 64) = true
  rw [Nat.mul_div_cancel_left k (by decide)]
  exact hk

theorem State.calBegin_collects {s : State} {mask : BitVec 8} (commanded : Bool) (h : mask ≠ 0) (hasked : CollectsAsked s) :
    s.calBegin mask commanded = s.runBegun mask commanded := by
  have hwindow : decide ((s.runBegun mask commanded).fld Reg.CAL_WIN 7 0 = 0) = false :=
    decide_eq_false (Nat.ne_of_gt hasked.window)
  have hlanes : forN 512 (s.runBegun mask commanded)
      (fun s l => s.calTryEnd (decide (s.fld Reg.CAL_WIN 7 0 = 0)) l) = s.runBegun mask commanded := by
    refine forN_fixed 512 fun l hl => ?_
    rw [hwindow]
    exact State.runBegun_lane mask commanded (hasked.lanes l hl) hasked.hits
  calc s.calBegin mask commanded
      = (forN 512 (s.runBegun mask commanded)
          (fun s l => s.calTryEnd (decide (s.fld Reg.CAL_WIN 7 0 = 0)) l)).calVerdict := if_neg h
    _ = s.runBegun mask commanded := by rw [hlanes, State.calVerdict_waits (s.runBegun_notDone commanded h)]

theorem State.runBegun_unchanged (s : State) (mask : BitVec 8) (commanded : Bool) :
    Unchanged [.cal] s (s.runBegun mask commanded) := s.setCal_unchanged _

/-- From `s` a run over the sectors of `mask` has begun in `u`, and collects. -/
def Collects (s u : State) (mask : BitVec 8) (commanded : Bool) : Prop :=
  u.cal.st = 1 ∧ u.cal.commanded = commanded ∧ u.cal.inRun = mask ∧ u.cal.startAt = u.now ∧ u.cal.runs = [] ∧
    u.cal.sets = s.cal.sets ∧ u.cal.prog.st = 1 ∧ u.cal.prog.run = s.cal.prog.run + 1 ∧
    u.cal.prog.total = 64 * popCount 8 mask.toNat

theorem State.runBegun_collects (s : State) (t : Nat) (mask : BitVec 8) (commanded : Bool) :
    Collects s ((s.at t).runBegun mask commanded) mask commanded :=
  ⟨rfl, rfl, rfl, rfl, rfl, (congrArg Calib.sets (s.at_cal t) :), rfl,
    (congrArg (fun c : Calib => c.prog.run + 1) (s.at_cal t) :), rfl⟩

@[simp] theorem State.at_calModeOk (s : State) (t : Nat) : (s.at t).calModeOk = s.calModeOk := by
  rw [State.calModeOk, State.at_mode, State.at_onVco, State.calModeOk]

/-- The conditions of an automatic run at tick `t` (R237). -/
def State.autoDue (s : State) (t : Nat) : Prop :=
  s.bit Reg.CAL_CTL 0 = true ∧ s.cal.st = 0 ∧ s.calModeOk = true ∧ (s.at t).calDue = true

theorem calAutoStart_begins {t : Nat} {s : State} (h : s.autoDue t) (hasked : CollectsAsked s) :
    exec (.calAutoStart t) s = .next ((s.at t).runBegun 0xFF false) := by
  obtain ⟨hauto, hidle, hmode, hdue⟩ := h
  have hexec : exec (.calAutoStart t) s = .next ((s.at t).calBegin 0xFF false) :=
    if_pos (by simp [State.at_bit, hauto, hidle, hmode, hdue])
  rw [hexec, State.calBegin_collects false (by decide) (hasked.at t)]

theorem exec_calAutoStart_notDue {t : Nat} {s : State} (h : ¬ s.autoDue t) : exec (.calAutoStart t) s = .next (s.at t) := by
  change execCalAutoStart t s = _
  refine if_neg fun hgo => h ?_
  simp only [Bool.and_eq_true, decide_eq_true_eq, State.at_bit, State.at_cal, State.at_calModeOk] at hgo
  obtain ⟨⟨⟨hauto, hidle⟩, hmode⟩, hdue⟩ := hgo
  exact ⟨hauto, hidle, hmode, hdue⟩

theorem exec_calStart (t : Nat) (p : Path) {s : State} (hg : s.gated = false) :
    exec (.calStart t p) s = .next ((s.at t).calStartCmd p) := congrArg Host.Outcome.next (State.onBar_at hg t _)

theorem State.calStartCmd_begins {s : State} (p : Path) (hmode : s.mode.active = .ready ∨ s.mode.active = .service)
    (hst : s.cal.st = 0) : s.calStartCmd p = s.calBegin (BitVec.ofNat 8 (s.fld Reg.CAL_RUN_MASK 7 0)) true :=
  if_pos (by simp [hst, hmode])

theorem State.calStartCmd_refuses {s : State} (p : Path) (h : (s.mode.active ≠ .ready ∧ s.mode.active ≠ .service) ∨
      2 ≤ s.cal.st ∨ (s.cal.st = 1 ∧ s.cal.commanded = true)) :
    s.calStartCmd p = s.event Reg.CAL_STAT 5 { path := pathCode p } := by
  refine if_neg ?_
  obtain ⟨hready, hservice⟩ | hswap | ⟨hrun, hcommanded⟩ := h
  · simp [hready, hservice]
  · simp [show s.cal.st ≠ 0 by omega, show s.cal.st ≠ 1 by omega]
  · simp [hrun, hcommanded]

theorem calStart_begins (t : Nat) (p : Path) {s : State} (hg : s.gated = false)
    (hmode : s.mode.active = .ready ∨ s.mode.active = .service) (hst : s.cal.st = 0) (hasked : CollectsAsked s)
    (hmask : 0 < s.fld Reg.CAL_RUN_MASK 7 0) :
    exec (.calStart t p) s = .next ((s.at t).runBegun (BitVec.ofNat 8 (s.fld Reg.CAL_RUN_MASK 7 0)) true) := by
  have hlt : s.fld Reg.CAL_RUN_MASK 7 0 < 2 ^ 8 := bitsOf_lt _ 7 0
  have hsome : BitVec.ofNat 8 (s.fld Reg.CAL_RUN_MASK 7 0) ≠ 0 := by
    simp only [ne_eq, ← BitVec.toNat_inj, BitVec.toNat_ofNat, Nat.mod_eq_of_lt hlt]
    exact Nat.ne_of_gt hmask
  rw [exec_calStart t p hg, State.calStartCmd_begins p (by simpa using hmode) (by simpa using hst), State.at_fld,
    State.calBegin_collects true hsome (hasked.at t)]

theorem calStart_refused (t : Nat) (p : Path) {s : State} (hg : s.gated = false)
    (h : (s.mode.active ≠ .ready ∧ s.mode.active ≠ .service) ∨ 2 ≤ s.cal.st ∨ (s.cal.st = 1 ∧ s.cal.commanded = true)) :
    Completes (.calStart t p) s fun u => u.cal = s.cal ∧ u.shows Reg.CAL_STAT 5 ∧ Unchanged recording s u := by
  refine .of_next (exec_calStart t p hg) ?_
  rw [State.calStartCmd_refuses p (by simpa using h)]
  exact ⟨by rw [State.event_cal, State.at_cal], State.event_shows _ _ (by decide) _,
    (s.at_unchanged t).trans (State.event_recording _ _ _ _)⟩

/-! ## The abort (R239, R244) -/

theorem exec_calAbort (t : Nat) (p : Path) {s : State} (hg : s.gated = false) :
    exec (.calAbort t p) s = .next (s.at t).calAbort := congrArg Host.Outcome.next (State.onBar_at hg t _)

theorem State.calFail_unchanged (s : State) (reason : Nat) : Unchanged ([.cal] ++ recording) s (s.calFail reason) :=
  ((s.setCal_unchanged _).mono (by decide)).trans ((State.event_recording _ _ _ _).mono (by decide))

theorem State.calFail_now (s : State) (reason : Nat) : (s.calFail reason).now = s.now := State.event_now _ _ _ _

theorem calAbort_fails (t : Nat) (p : Path) {s : State} (hg : s.gated = false) (h : s.cal.st = 1 ∨ s.cal.st = 2) :
    Completes (.calAbort t p) s fun u => u.cal.st = (if s.cal.commanded then 0 else 3) ∧
      u.cal.failReason = 3 ∧ u.cal.swapAt = none ∧ u.cal.sets = s.cal.sets ∧ u.cal.prog.st = 3 ∧ u.shows Reg.CAL_STAT 2 ∧
      u.cal.holdTo = u.now + msT (1000 * s.fld Reg.CAL_WIN 7 0) ∧ Unchanged ([.cal] ++ recording) s u := by
  refine .of_next (u := (s.at t).calFail 3) ?_ ?_
  · rw [exec_calAbort t p hg, State.calAbort, if_pos (by simpa using h)]
  · have hframe : Unchanged ([.cal] ++ recording) s ((s.at t).calFail 3) :=
      ((s.at_unchanged t).mono (by decide)).trans (State.calFail_unchanged _ _)
    rw [State.calFail_cal, State.calFail_now, State.at_fld, State.at_cal]
    exact ⟨rfl, rfl, rfl, rfl, rfl, State.event_shows _ _ (by decide) _, rfl, hframe⟩

theorem calAbort_without (t : Nat) (p : Path) {s : State} (hg : s.gated = false) (h : s.cal.st ≠ 1 ∧ s.cal.st ≠ 2) :
    Completes (.calAbort t p) s fun u => u = s.at t :=
  .of_next (exec_calAbort t p hg) (if_neg (by simp [h]))

/-! ## A lane completes (R233, R239) -/

theorem exec_calLaneComplete (t : Nat) (l : Fin 512) {s : State} (h : s.cal.st = 1) :
    exec (.calLaneComplete t l) s = .next ((s.at t).calTryEnd false l).calVerdict := by
  change execCalLaneComplete t l s = _
  exact if_pos (by simp [h])

theorem calLaneComplete_ends (t : Nat) (l : Fin 512) {s : State} (hst : s.cal.st = 1) (hin : s.calIn l = true)
    (hopen : (s.calRun l).done = false) : Completes (.calLaneComplete t l) s fun u =>
      (s.laneOff l = true → (u.calRun l).done = true ∧ (u.calRun l).status = 6) ∧
      (s.laneOff l = false → s.calHitLimit ≤ (s.calRun l).n →
        (u.calRun l).done = true ∧ (u.calRun l).status = s.calStatus l (s.calRun l)) ∧
      (s.laneOff l = false → (s.calRun l).n < s.calHitLimit → u = s.at t) ∧
      (∀ i, i ≠ l.val → u.calRun i = s.calRun i) ∧ u.cal.sets = s.cal.sets := by
  have hcollects : (s.at t).collectsLane l := ⟨by simpa using hin, by simpa using hopen⟩
  have hends := (s.at t).calTryEnd_lanesEnd false l
  obtain ⟨hruns, hsets⟩ := State.calVerdict_kept (hends.st.trans (by simpa using hst))
  have hrun := State.calRun_of_runs hruns
  refine .of_next (exec_calLaneComplete t l hst)
    ⟨fun hoff => ?_, fun hon hn => ?_, fun hon hn => ?_, fun i hi => ?_, by rw [hsets, hends.sets, State.at_cal]⟩
  · rw [hrun, State.calTryEnd_masked hcollects (by simpa using hoff)]
    exact State.calEnd_ends _ _ _
  · rw [hrun, State.calTryEnd_full hcollects (by simpa using hon) (by simpa using hn), State.at_calStatus, State.at_calRun]
    exact State.calEnd_ends _ _ _
  · rw [State.calTryEnd_waits hcollects (by simpa using hon) (by simpa using hn),
      State.calVerdict_waits (State.not_calDone l.isLt hcollects)]
  · rw [hrun, State.calTryEnd_calRun_ne _ _ hi, State.at_calRun]

/-! ## The window expires (R233) -/

theorem exec_calWindowExpiry (t : Nat) {s : State} (h : s.cal.st = 1) : exec (.calWindowExpiry t) s =
    .next (forN 512 (s.at (max t (s.cal.startAt + msT (1000 * s.fld Reg.CAL_WIN 7 0))))
      (fun s l => s.calTryEnd true l)).calVerdict := by
  change execCalWindowExpiry t s = _
  exact if_pos h

theorem calWindowExpiry_ends (t : Nat) {s : State} (hst : s.cal.st = 1) : Completes (.calWindowExpiry t) s fun u =>
    s.cal.startAt + msT (1000 * s.fld Reg.CAL_WIN 7 0) ≤ u.now ∧ u.cal.st ≠ 1 ∧ u.cal.sets = s.cal.sets ∧
    (∀ l, l < 512 → s.calIn l = true → (u.calRun l).done = true ∧
      ((s.calRun l).done = false → s.laneOff l = false → (s.calRun l).n < s.calHitLimit → (u.calRun l).status = 2)) := by
  refine .of_next (exec_calWindowExpiry t hst) ?_
  have hexpired := windowExpired (s.at (max t (s.cal.startAt + msT (1000 * s.fld Reg.CAL_WIN 7 0)))) 512
  generalize forN 512 _ _ = x at hexpired ⊢
  have hdone : x.calDone := fun l hl hin => (hexpired.lanes l hl ((hexpired.ends.calIn l).symm.trans hin)).done
  have hrun := State.calVerdict_ends (hexpired.ends.st.trans (by simpa using hst)) hdone
  refine ⟨?_, hrun.st, by rw [hrun.sets, hexpired.ends.sets, State.at_cal], fun l hl hin => ?_⟩
  · rw [x.calVerdict_calm.parts.now (by decide), hexpired.ends.parts.now (by decide), State.at_now]
    omega
  · obtain ⟨hended, hstarved⟩ := hexpired.lanes l hl (by simpa using hin)
    rw [State.at_calRun, State.at_laneOff, State.at_calHitLimit] at hstarved
    rw [State.calRun_of_runs hrun.runs]
    exact ⟨hended, hstarved⟩

theorem calWindowExpiry_without (t : Nat) {s : State} (h : s.cal.st ≠ 1) :
    Completes (.calWindowExpiry t) s fun u => u = s.at t := .of_next (if_neg h) rfl

/-! ## The hold ends (R237) -/

theorem calHoldEnd_ends (t : Nat) {s : State} (h : s.cal.st = 3) : Completes (.calHoldEnd t) s fun u =>
    u.cal = { s.cal with st := 0 } ∧ u.now = max s.now (max t s.cal.holdTo) ∧ Unchanged ([.cal] ++ recording) s u := by
  refine .of_next (if_pos h) ⟨?_, State.at_now _ _, ?_⟩
  · dsimp only
    rw [State.at_cal]
  · exact ((s.at_unchanged _).mono (by decide)).trans ((State.setCal_unchanged _ _).mono (by decide))

theorem calHoldEnd_without (t : Nat) {s : State} (h : s.cal.st ≠ 3) : Completes (.calHoldEnd t) s fun u => u = s.at t :=
  .of_next (if_neg h) rfl

/-! ## The family -/

/-- Settles O42: each command by what it does in the states of its clause; a run that begins with every lane on collects. -/
theorem calibrationRuns : Obligations.CalibrationRuns :=
  ⟨fun t s => ⟨fun hgo ⟨hlanes, hhits, hwindow⟩ => .of_next (calAutoStart_begins hgo ⟨hlanes, hhits, hwindow⟩)
      ⟨s.runBegun_collects t _ _, State.runBegun_unchanged _ _ _⟩,
      fun hno => .of_next (exec_calAutoStart_notDue hno) rfl⟩,
    fun t p s hg hmode hst ⟨hlanes, hhits, hwindow⟩ hmask =>
      .of_next (calStart_begins t p hg hmode hst ⟨hlanes, hhits, hwindow⟩ hmask)
        ⟨s.runBegun_collects t _ _, State.runBegun_unchanged _ _ _⟩,
    fun t p _ => calStart_refused t p, fun t p _ hg => ⟨calAbort_fails t p hg, calAbort_without t p hg⟩,
    fun t l _ => calLaneComplete_ends t l, fun t _ => calWindowExpiry_ends t, fun t _ => calWindowExpiry_without t,
    fun t _ => ⟨calHoldEnd_ends t, calHoldEnd_without t⟩⟩

end Sys2Proof.Machine
end

section
/-! PROOFS. What events, counts and the passing of time leave of the capture block (R345, R350, R485). -/

namespace Sys2Proof.Machine

/-! ## Events and counts -/

/-- An entry that is no fault is no trigger condition (R345). -/
theorem State.logPush_cap {s : State} {e : LogEntry} (h : isFaultCode e.code = false) : (s.logPush e).cap = s.cap := by
  unfold State.logPush
  simp only [h, Bool.false_and, Bool.false_eq_true, if_false]
  exact State.signal_unchanged _ _ .cap (by decide)

theorem infoCode_capture : ∀ b, b < 16 → isFaultCode (infoCode Reg.CAP_STAT b) = false := by decide

/-- An event of CAP_STAT leaves the capture block as it is. -/
theorem State.capEvent_cap (s : State) {b : Nat} (hb : b < 16) (i : Info) : (s.event Reg.CAP_STAT b i).cap = s.cap := by
  refine (State.logPush_cap ?_).trans (s.raise_unchanged _ _ .cap (by decide))
  exact infoCode_capture b hb

@[simp] theorem State.signal_cap (s : State) (v : Nat) : (s.signal v).cap = s.cap :=
  s.signal_unchanged v .cap (by decide)

@[simp] theorem State.putWide_cap (s : State) (id v : Nat) : (s.putWide id v).cap = s.cap :=
  s.updWide_unchanged id _ .cap (by decide)

theorem State.bump_unchanged (s : State) (id n : Nat) : Unchanged [.wide, .deferred, .recent] s (s.bump id n) :=
  .ite (.refl _ s) (s.updWide_unchanged id _)

@[simp] theorem State.bump_cap (s : State) (id n : Nat) : (s.bump id n).cap = s.cap :=
  s.bump_unchanged id n .cap (by decide)

/-- An update of one wide value leaves the others, and what waits for them, as they are. -/
theorem State.updWide_stored {s : State} {id o : Nat} (u : WideUpd) (h : o ≠ id) :
    (s.updWide id u).stored o = s.stored o := by
  unfold State.stored
  by_cases hz : s.isFrozen id = true
  · obtain ⟨hwait, hword⟩ := State.updWide_frozen u hz
    rw [hword, hwait, List.filter_append]
    simp [h.symm]
  · obtain ⟨hwait, hword⟩ := State.updWide_free u (by simpa using hz)
    rw [hwait, hword, if_neg h]

theorem State.modCap_unchanged (s : State) (f : Capture → Capture) : Unchanged [.cap] s (s.modCap f) :=
  s.setCap_unchanged _

theorem State.capCond_enabled {s : State} {src : Nat} (h : s.bit Reg.CAP_TRIG_EN src = true) (ut fine : Nat) (i : Bool)
    (d : Nat) : s.capCond src ut fine i d =
      s.modCap (fun c => { c with conds := c.conds ++ [{ at_ := s.now, src, ut, fine, interp := i, detail := d }] }) :=
  if_pos h

theorem State.capCond_disabled {s : State} {src : Nat} (h : s.bit Reg.CAP_TRIG_EN src = false) (ut fine : Nat) (i : Bool)
    (d : Nat) : s.capCond src ut fine i d = s := if_neg (by simp [h])

/-! ## The passing of time -/

/-- Recording feeds the trigger conditions and the recorder's position, and nothing else of the capture block. -/
theorem Quiet.cap {s u : State} (h : Quiet s u) : u.cap = { s.cap with
    conds := u.cap.conds, recOff := u.cap.recOff, recWraps := u.cap.recWraps, recGap := u.cap.recGap } :=
  congrArg State.cap h

section
variable (s : State) (t : Nat)

@[simp] theorem State.at_cap_st : (s.at t).cap.st = s.cap.st := (congrArg Capture.st (s.at_quiet t).cap :)
@[simp] theorem State.at_cap_export : (s.at t).cap.export_ = s.cap.export_ :=
  (congrArg Capture.export_ (s.at_quiet t).cap :)
@[simp] theorem State.at_cap_exProg : (s.at t).cap.exProg = s.cap.exProg :=
  (congrArg Capture.exProg (s.at_quiet t).cap :)
@[simp] theorem State.at_cap_ossd : (s.at t).cap.ossd = s.cap.ossd := (congrArg Capture.ossd (s.at_quiet t).cap :)
@[simp] theorem State.at_cap_fbFault : (s.at t).cap.fbFault = s.cap.fbFault :=
  (congrArg Capture.fbFault (s.at_quiet t).cap :)
@[simp] theorem State.at_cap_refWritten : (s.at t).cap.refWritten = s.cap.refWritten :=
  (congrArg Capture.refWritten (s.at_quiet t).cap :)
@[simp] theorem State.at_cap_sweepOk : (s.at t).cap.sweepOk = s.cap.sweepOk :=
  (congrArg Capture.sweepOk (s.at_quiet t).cap :)
@[simp] theorem State.at_cap_rangesOk : (s.at t).cap.rangesOk = s.cap.rangesOk :=
  (congrArg Capture.rangesOk (s.at_quiet t).cap :)
@[simp] theorem State.at_cap_viol : (s.at t).cap.viol = s.cap.viol := (congrArg Capture.viol (s.at_quiet t).cap :)
@[simp] theorem State.at_cap_violN : (s.at t).cap.violN = s.cap.violN := (congrArg Capture.violN (s.at_quiet t).cap :)
@[simp] theorem State.at_cap_cleanFrame : (s.at t).cap.cleanFrame = s.cap.cleanFrame :=
  (congrArg Capture.cleanFrame (s.at_quiet t).cap :)
@[simp] theorem State.at_cap_set : (s.at t).cap.set = s.cap.set := (congrArg Capture.set (s.at_quiet t).cap :)
@[simp] theorem State.at_cap_tests : (s.at t).cap.tests = s.cap.tests := (congrArg Capture.tests (s.at_quiet t).cap :)
@[simp] theorem State.at_cap_stale : (s.at t).cap.stale = s.cap.stale := (congrArg Capture.stale (s.at_quiet t).cap :)

end

end Sys2Proof.Machine
end

section
/-! PROOFS. Trigger conditions and their evaluation (R345, R347, R349). -/

namespace Sys2Proof.Machine

/-! ## CAP_TRIGGER (R345) -/

theorem exec_capTrigger (t : Nat) (p : Path) {s : State} (hg : s.gated = false) :
    exec (.capTrigger t p) s = .next ((s.at t).capCond 5 (s.at t).utime 0 false 0) :=
  congrArg Host.Outcome.next (State.onBar_at hg t _)

theorem capTrigger_enabled (t : Nat) (p : Path) {s : State} (hg : s.gated = false)
    (h : s.bit Reg.CAP_TRIG_EN 5 = true) : Completes (.capTrigger t p) s fun u =>
      u.cap.conds = (s.at t).cap.conds ++ [{ at_ := u.now, src := 5, ut := u.utime, fine := 0, interp := false, detail := 0 }] ∧
      Unchanged [.cap] (s.at t) u := by
  refine .of_next (exec_capTrigger t p hg) ?_
  rw [State.capCond_enabled (by rwa [State.at_bit])]
  exact ⟨rfl, State.modCap_unchanged _ _⟩

theorem capTrigger_disabled (t : Nat) (p : Path) {s : State} (hg : s.gated = false)
    (h : s.bit Reg.CAP_TRIG_EN 5 = false) : Completes (.capTrigger t p) s fun u => u = s.at t :=
  .of_next (exec_capTrigger t p hg) (State.capCond_disabled (by rwa [State.at_bit]) _ _ _ _)

/-! ## One waiting condition (R347) -/

/-- No condition waits any longer. -/
def State.condsTaken (s : State) : State := s.modCap (fun c => { c with conds := [] })

theorem State.evalConds_one {s : State} {c : Cond} (h : s.cap.conds = [c]) :
    s.evalConds s.cap.conds.length = s.condsTaken.evalCycle [c] := by
  rw [h, List.length_singleton]
  simp [State.evalConds, State.condsTaken, h]

theorem exec_triggerEvaluation_one (t : Nat) {s : State} {c : Cond} (h : (s.at t).cap.conds = [c]) :
    exec (.triggerEvaluation t) s = .next ((s.at t).condsTaken.evalCycle [c]) :=
  congrArg Host.Outcome.next (State.evalConds_one h)

theorem State.holdoffDue_outside {s : State} (h : s.cap.st ≠ 4) (a : Nat) : s.holdoffDue a = s := if_neg (by simp [h])

theorem lowestBit_pow : ∀ k, k < 6 → lowestBit 6 (2 ^ k) = some k := by decide

theorem State.evalCycle_armed {s : State} (h : s.cap.st = 1) {c : Cond} (hc : c.src < 6) :
    s.evalCycle [c] = s.accept c (2 ^ c.src) := by
  simp [State.evalCycle, State.holdoffDue_outside (s := s) (by omega), h, lowestBit_pow _ hc]

theorem State.evalCycle_idle {s : State} (h : s.cap.st = 0) (c : Cond) : s.evalCycle [c] = s := by
  simp [State.evalCycle, State.holdoffDue_outside (s := s) (by omega), h]

theorem State.evalCycle_busy {s : State} (h : s.cap.st = 2 ∨ s.cap.st = 3) (c : Cond) : s.evalCycle [c] =
    (s.bump Id.CAP_TRIG_MISSED).event Reg.CAP_STAT 2 { detail := 2 ^ c.src } := by
  have hkept : ((s.bump Id.CAP_TRIG_MISSED).event Reg.CAP_STAT 2 { detail := 2 ^ c.src }).cap = s.cap :=
    (State.capEvent_cap _ (by decide) _).trans (s.bump_cap _ _)
  have hmissed : s.missed 1 (2 ^ c.src) = (s.bump Id.CAP_TRIG_MISSED).event Reg.CAP_STAT 2 { detail := 2 ^ c.src } :=
    if_neg (by rw [hkept]; omega)
  obtain h | h := h <;>
    simpa [State.evalCycle, State.holdoffDue_outside (s := s) (by omega), h] using hmissed

/-! ## Acceptance (R347, R351, R354) -/

/-- A trigger's acceptance before it is recorded: the capture block and the trace's request of `s` for condition `c`. -/
def State.triggerTaken (s : State) (c : Cond) : State :=
  ({ s with str := { s.str with capTrig := true } }).modCap (fun x => { x with
    st := 2, trigUt := c.ut, trigPos := s.recPos
    postAt := some (s.now + s.ticksTo (c.ut + msT (s.reg Reg.CAP_REC_POST).toNat))
    trigInput := if c.src = 3 then some (14 + c.detail) else none
    waveAt := if s.bit Reg.CAP_CTL 3 then some (s.now + s.ticksTo (c.ut + msT (s.reg Reg.CAP_WAVE_POST).toNat)) else none })

theorem State.accept_eq (s : State) (c : Cond) (mask : Nat) : ∃ w, s.accept c mask =
    ((((s.triggerTaken c).putWide Id.CAP_TRIG_LAST w).bump Id.CAP_TRIG_COUNT).event Reg.CAP_STAT 0
      { detail := mask }).mfpPulse 27 (usT 1) := by
  unfold State.accept State.triggerTaken
  simp only [decide_eq_true_eq]
  exact ⟨_, rfl⟩

theorem State.mfpPulse_unchanged (s : State) (m n : Nat) : Unchanged [.pins] s (s.mfpPulse m n) :=
  .ite (s.setPins_unchanged _) (.refl _ s)

theorem State.triggerTaken_unchanged (s : State) (c : Cond) : Unchanged [.str, .cap] s (s.triggerTaken c) :=
  ((s.setStr_unchanged _).mono (by decide)).trans ((State.modCap_unchanged _ _).mono (by decide))

theorem State.accept_spec (s : State) (c : Cond) (mask : Nat) : (s.accept c mask).cap = (s.triggerTaken c).cap ∧
    (s.accept c mask).str.capTrig = true ∧ CountsOne Id.CAP_TRIG_COUNT 0 s (s.accept c mask) ∧
    (s.accept c mask).shows Reg.CAP_STAT 0 ∧ Unchanged ([.str, .pins] ++ recording) s (s.accept c mask) := by
  obtain ⟨w, haccept⟩ := s.accept_eq c mask
  rw [haccept]
  have htaken := s.triggerTaken_unchanged c
  have hput : Unchanged [.wide, .deferred, .recent] _ ((s.triggerTaken c).putWide Id.CAP_TRIG_LAST w) :=
    State.updWide_unchanged _ _ _
  have hlast : ((s.triggerTaken c).putWide Id.CAP_TRIG_LAST w).wideRaw Id.CAP_TRIG_COUNT =
      s.wideRaw Id.CAP_TRIG_COUNT := by
    rw [← htaken.wideRaw (by decide)]
    exact congrArg Prod.fst (State.updWide_stored _ (by decide))
  generalize (s.triggerTaken c).putWide Id.CAP_TRIG_LAST w = x at hput hlast ⊢
  have hbump := x.bump_unchanged Id.CAP_TRIG_COUNT 1
  have hevent := (x.bump Id.CAP_TRIG_COUNT).event_unchanged Reg.CAP_STAT 0 { detail := mask }
  have hpulse := ((x.bump Id.CAP_TRIG_COUNT).event Reg.CAP_STAT 0 { detail := mask }).mfpPulse_unchanged 27 (usT 1)
  refine ⟨?_, ?_, fun hf => ?_, ?_, ?_⟩
  · rw [hpulse .cap (by decide), State.capEvent_cap _ (by decide), State.bump_cap, hput .cap (by decide)]
  · rw [hpulse .str (by decide), hevent .str (by decide), hbump .str (by decide), hput .str (by decide)]
    rfl
  · have hfx : x.isFrozen Id.CAP_TRIG_COUNT = false := by
      rw [hput.isFrozen (by decide) (by decide) (by decide), htaken.isFrozen (by decide) (by decide) (by decide), hf]
    rw [hpulse.wideRaw (by decide), hevent.wideRaw (by decide), x.bump_countsOne (by decide) hfx, hlast]
  · exact (State.shows_of_stat (hpulse .stat (by decide)) _ _).mpr (State.event_shows _ _ (by decide) _)
  · exact ((((htaken.mono (by decide)).trans (hput.mono (by decide))).trans (hbump.mono (by decide))).trans
      (hevent.mono (by decide))).trans (hpulse.mono (by decide))

/-! ## TRIGGER_EVALUATION -/

section
variable (t : Nat) {s : State} {c : Cond} (hone : (s.at t).cap.conds = [c])
include hone

theorem triggerEvaluation_accepts (hc : c.src < 6) (hst : (s.at t).cap.st = 1) :
    Completes (.triggerEvaluation t) s fun u => u.cap.st = 2 ∧ u.cap.trigUt = c.ut ∧ u.cap.conds = [] ∧
      u.cap.postAt = some ((s.at t).now + (c.ut + msT (s.reg Reg.CAP_REC_POST).toNat - (s.at t).utime)) ∧
      CountsOne Id.CAP_TRIG_COUNT 0 (s.at t) u ∧ u.str.capTrig = true ∧ u.shows Reg.CAP_STAT 0 ∧
      Unchanged ([.str, .pins] ++ recording) s u := by
  have haccept := State.evalCycle_armed (s := (s.at t).condsTaken) hst hc
  refine .of_next ((exec_triggerEvaluation_one t hone).trans (congrArg _ haccept)) ?_
  obtain ⟨hcap, htrace, hcount, hshown, hframe⟩ := (s.at t).condsTaken.accept_spec c (2 ^ c.src)
  have htaken : Unchanged recording s (s.at t).condsTaken :=
    (s.at_unchanged t).trans ((State.modCap_unchanged _ _).mono (by decide))
  rw [hcap, ← State.at_reg s t]
  exact ⟨rfl, rfl, rfl, rfl, hcount, htrace, hshown, (htaken.mono (by decide)).trans hframe⟩

theorem triggerEvaluation_misses (hst : (s.at t).cap.st = 2 ∨ (s.at t).cap.st = 3) :
    Completes (.triggerEvaluation t) s fun u => u.cap.st = (s.at t).cap.st ∧ u.cap.conds = [] ∧
      u.cap.trigUt = (s.at t).cap.trigUt ∧ CountsOne Id.CAP_TRIG_MISSED 0 (s.at t) u ∧ u.shows Reg.CAP_STAT 2 ∧
      Unchanged recording s u := by
  have hmiss := State.evalCycle_busy (s := (s.at t).condsTaken) hst c
  refine .of_next ((exec_triggerEvaluation_one t hone).trans (congrArg _ hmiss)) ?_
  have hcount := (s.at t).condsTaken.bump_countsOne (id := Id.CAP_TRIG_MISSED) (by decide)
  have hframe : Unchanged recording s ((s.at t).condsTaken.bump Id.CAP_TRIG_MISSED) :=
    ((s.at_unchanged t).trans ((State.modCap_unchanged _ _).mono (by decide))).trans
      ((State.bump_unchanged _ _ _).mono (by decide))
  rw [State.capEvent_cap _ (by decide), State.bump_cap]
  exact ⟨rfl, rfl, rfl, hcount.of_value (State.event_wideRaw _ _ _ _ _), State.event_shows _ _ (by decide) _,
    hframe.trans (State.event_recording _ _ _ _)⟩

theorem triggerEvaluation_drops (hst : (s.at t).cap.st = 0) : Completes (.triggerEvaluation t) s fun u =>
    u = { s.at t with cap := { (s.at t).cap with conds := [] } } :=
  .of_next (exec_triggerEvaluation_one t hone) (State.evalCycle_idle (s := (s.at t).condsTaken) hst c)

end

theorem triggerEvaluation_without (t : Nat) {s : State} (h : (s.at t).cap.conds = []) :
    Completes (.triggerEvaluation t) s fun u => u = s.at t := by
  refine .of_next (u := (s.at t).evalConds (s.at t).cap.conds.length) rfl ?_
  rw [h]
  rfl

end Sys2Proof.Machine
end

section
/-! PROOFS. The freezes of the recorder and of the WAVE ring, and their release (R349, R351, R353, R354). -/

namespace Sys2Proof.Machine

/-! ## Release (R349, R353) -/

/-- From `s` the extents have been released in `u`: IDLE, ARMED or HOLDOFF by enable and hold-off, the WAVE ring writes
again and the recorder resumes with the next frame. -/
def ExtentsReleased (s u : State) : Prop :=
  u.cap.st = (if s.bit Reg.CAP_CTL 0 then (if s.reg Reg.CAP_HOLDOFF = 0 then 1 else 4) else 0) ∧
    u.cap.waveFrozen = false ∧ u.cap.recResume = true ∧ u.cap.holdAt = u.now + msT (s.reg Reg.CAP_HOLDOFF).toNat

theorem State.capRelease_unchanged (s : State) : Unchanged [.cap] s s.capRelease := s.modCap_unchanged _

/-- What a release does depends on the registers, which `x` has from `s`. -/
theorem State.capRelease_released {s x : State} (h : x.regs = s.regs) : ExtentsReleased s x.capRelease := by
  have hreg (off : Nat) : x.reg off = s.reg off := by rw [State.reg, State.reg, h]
  have hbit : x.bit Reg.CAP_CTL 0 = s.bit Reg.CAP_CTL 0 := by rw [State.bit, State.bit, hreg]
  refine ⟨?_, rfl, rfl, by rw [← hreg]; rfl⟩
  rw [← hreg, ← hbit]
  change (if (!x.bit Reg.CAP_CTL 0) = true then 0 else if (x.reg Reg.CAP_HOLDOFF).toNat = 0 then 1 else 4) = _
  cases x.bit Reg.CAP_CTL 0 <;> simp [← BitVec.toNat_inj]

theorem exec_capRelease (t : Nat) (p : Path) {s : State} (hg : s.gated = false) :
    exec (.capRelease t p) s = .next ((s.at t).capReleaseCmd p) := congrArg Host.Outcome.next (State.onBar_at hg t _)

theorem capRelease_without (t : Nat) (p : Path) {s : State} (hg : s.gated = false) (h : s.cap.st ≠ 3) :
    Completes (.capRelease t p) s fun u => u = s.at t :=
  .of_next (exec_capRelease t p hg) (if_pos (by rwa [State.at_cap_st]))

theorem capRelease_refused (t : Nat) (p : Path) {s : State} (hg : s.gated = false) (h : s.cap.st = 3)
    (hx : s.cap.export_ = true) : Completes (.capRelease t p) s fun u => u.cap.st = 3 ∧ u.shows Reg.CAP_STAT 6 := by
  have hcmd : (s.at t).capReleaseCmd p = (s.at t).event Reg.CAP_STAT 6 { path := pathCode p } := by
    simp [State.capReleaseCmd, h, hx]
  refine .of_next ((exec_capRelease t p hg).trans (congrArg _ hcmd)) ⟨?_, State.event_shows _ _ (by decide) _⟩
  rw [State.capEvent_cap _ (by decide), State.at_cap_st, h]

theorem capRelease_releases (t : Nat) (p : Path) {s : State} (hg : s.gated = false) (h : s.cap.st = 3)
    (hx : s.cap.export_ = false) : Completes (.capRelease t p) s fun u => ExtentsReleased s u ∧
      Unchanged [.cap] (s.at t) u := by
  have hcmd : (s.at t).capReleaseCmd p = (s.at t).capRelease := by simp [State.capReleaseCmd, h, hx]
  exact .of_next ((exec_capRelease t p hg).trans (congrArg _ hcmd))
    ⟨State.capRelease_released (s.at_regs t), State.capRelease_unchanged _⟩

theorem holdoffEnd_rearms (t : Nat) {s : State} (h : s.cap.st = 4) (htime : s.bit Reg.CAP_CTL 2 = false) :
    Completes (.holdoffEnd t) s fun u => u.cap.st = 1 ∧ u.now = max s.now (max t s.cap.holdAt) ∧
      Unchanged recording s u :=
  .of_next (if_pos ⟨h, htime⟩) ⟨rfl, s.at_now _, (s.at_unchanged _).trans ((State.modCap_unchanged _ _).mono (by decide))⟩

/-! ## The recorder freezes (R351) -/

/-- The recorder has stopped at the write position, with a window that begins at `start`, and CAP_FRZ_REC holds `w`. -/
def State.recStopped (s : State) (start w : Nat) : State :=
  ((s.modCap (fun c => { c with
    st := 3, postAt := none, postFrame := none, frzStart := start, frzEnd := s.recPos, recLoss := {} })).putWide
    Id.CAP_FRZ_REC w).event Reg.CAP_STAT 1 {}

theorem State.recFreeze_eq (s : State) : ∃ start w, s.recFreeze =
    if (s.recStopped start w).bit Reg.CAP_CTL 1 then s.recStopped start w else (s.recStopped start w).capRelease :=
  ⟨_, _, rfl⟩

theorem State.recStopped_cap (s : State) (start w : Nat) : (s.recStopped start w).cap = { s.cap with
    st := 3, postAt := none, postFrame := none, frzStart := start, frzEnd := s.recPos, recLoss := {} } :=
  (State.capEvent_cap _ (by decide) _).trans (State.putWide_cap _ _ _)

theorem State.recStopped_parts (s : State) (start w : Nat) :
    Unchanged ([.wide, .deferred, .recent] ++ eventParts) s (s.recStopped start w) :=
  (((s.modCap_unchanged _).mono (by decide)).trans ((State.updWide_unchanged _ _ _).mono (by decide))).trans
    ((State.event_unchanged _ _ _ _).mono (by decide))

theorem State.recFreeze_spec (s : State) : s.recFreeze.cap.postAt = none ∧ s.recFreeze.cap.frzEnd = s.recPos ∧
    (s.bit Reg.CAP_CTL 1 = true → s.recFreeze.cap.st = 3) ∧
    (s.bit Reg.CAP_CTL 1 = false → ExtentsReleased s s.recFreeze) ∧ s.recFreeze.shows Reg.CAP_STAT 1 ∧
    Unchanged ([.wide, .deferred, .recent] ++ eventParts) s s.recFreeze := by
  obtain ⟨start, w, hfreeze⟩ := s.recFreeze_eq
  have hcap := s.recStopped_cap start w
  have hparts := s.recStopped_parts start w
  have hshown : (s.recStopped start w).shows Reg.CAP_STAT 1 := State.event_shows _ _ (by decide) _
  rw [hfreeze]
  generalize s.recStopped start w = x at hcap hparts hshown ⊢
  have hkeep : x.bit Reg.CAP_CTL 1 = s.bit Reg.CAP_CTL 1 := by rw [State.bit, State.bit, hparts.reg (by decide)]
  rw [hkeep]
  cases hbit : s.bit Reg.CAP_CTL 1 with
  | true => simpa [hcap] using ⟨hshown, hparts⟩
  | false =>
    have hrelease := x.capRelease_unchanged
    have hend : x.capRelease.cap.frzEnd = s.recPos := congrArg Capture.frzEnd hcap
    simpa [hend] using ⟨rfl, State.capRelease_released (hparts .regs (by decide)),
      (State.shows_of_stat (hrelease .stat (by decide)) _ _).mpr hshown, hparts.trans (hrelease.mono (by decide))⟩

section
variable (t : Nat) {s : State} {a : Nat} (hpost : s.cap.postAt = some a)
include hpost

theorem exec_recPostExpiry : exec (.recPostExpiry t) s = .next (if s.whl.frameOpen then
    (s.at (max t a)).modCap (fun c =>
      { c with postAt := none, postFrame := some ((s.at (max t a)).wideN Id.WHL_FRAME_COUNT) })
    else (s.at (max t a)).recFreeze) := by
  change execRecPostExpiry t s = _
  unfold execRecPostExpiry
  simp only [hpost, State.at_whl]
  split <;> rfl

theorem recPostExpiry_waits (hopen : s.whl.frameOpen = true) : Completes (.recPostExpiry t) s fun u =>
    u.cap = { (s.at (max t a)).cap with
      postAt := none, postFrame := some ((s.at (max t a)).wideN Id.WHL_FRAME_COUNT) } ∧ Unchanged [.cap] (s.at (max t a)) u :=
  .of_next ((exec_recPostExpiry t hpost).trans (congrArg _ (if_pos hopen))) ⟨rfl, State.modCap_unchanged _ _⟩

theorem recPostExpiry_freezes (hopen : s.whl.frameOpen = false) : Completes (.recPostExpiry t) s fun u =>
    u.cap.postAt = none ∧ u.cap.frzEnd = (s.at (max t a)).recPos ∧ (s.bit Reg.CAP_CTL 1 = true → u.cap.st = 3) ∧
    (s.bit Reg.CAP_CTL 1 = false → ExtentsReleased s u) ∧ u.shows Reg.CAP_STAT 1 ∧ a ≤ u.now ∧ Unchanged recording s u := by
  refine .of_next ((exec_recPostExpiry t hpost).trans (congrArg _ (if_neg (by simp [hopen])))) ?_
  obtain ⟨hdone, hend, hkept, hreleased, hshown, hparts⟩ := (s.at (max t a)).recFreeze_spec
  rw [State.at_bit] at hkept hreleased
  refine ⟨hdone, hend, hkept, fun h => ?_, hshown, ?_, (s.at_unchanged _).trans (hparts.mono (by decide))⟩
  · simpa [ExtentsReleased, State.at_bit, State.at_reg] using hreleased h
  · rw [hparts.now (by decide), State.at_now]
    omega

end

/-! ## The WAVE ring freezes (R354) -/

/-- In `u` the captures of `s` in the sectors below `n` have stopped, and the other sectors are as they were. -/
structure CapturesStopped (n : Nat) (s u : State) : Prop where
  parts : Unchanged [.kln] s u
  stopped : ∀ k, k < n → (u.kiln k).capState ≠ 1 ∧ ((s.kiln k).capState = 1 → (u.kiln k).capState = 2)
  later : ∀ k, n ≤ k → u.kiln k = s.kiln k

theorem capturesStopped (s : State) (n : Nat) :
    CapturesStopped n s (forN n s (fun s k => if (s.kiln k).capState = 1 then s.startClear k else s)) := by
  induction n with
  | zero => exact ⟨.refl _ s, fun k hk => absurd hk (Nat.not_lt_zero k), fun _ _ => rfl⟩
  | succ n ih =>
    rw [forN_succ]
    generalize forN n s _ = x at ih ⊢
    have hlater := ih.later n (Nat.le_refl n)
    by_cases hrun : (x.kiln n).capState = 1
    · rw [if_pos hrun]
      have hkiln (k : Nat) := x.modKiln_kiln n k (fun q => { q with capState := 2, clearAt := some (x.now + 3200) })
      refine ⟨ih.parts.trans (x.setKln_unchanged _), fun k hk => ?_, fun k hk => ?_⟩
      · rw [State.startClear, hkiln]
        split
        · simp
        · exact ih.stopped k (by omega)
      · rw [State.startClear, hkiln, if_neg (by omega), ih.later k (by omega)]
    · rw [if_neg hrun]
      refine ⟨ih.parts, fun k hk => ?_, fun k hk => ih.later k (by omega)⟩
      obtain rfl | hearlier : k = n ∨ k < n := by omega
      · exact ⟨hrun, fun h => absurd (hlater ▸ h) hrun⟩
      · exact ih.stopped k hearlier

/-- The WAVE ring writes no more, and the extent `kept` is set aside. -/
def State.waveHeld (s : State) (kept : List Nat) : State :=
  s.modCap (fun c => { c with waveFrozen := true, waveAt := none, waveKept := kept })

theorem State.waveFreeze_eq (s : State) : ∃ kept w, s.waveFreeze =
    (forN 8 (s.waveHeld kept) (fun s k => if (s.kiln k).capState = 1 then s.startClear k else s)).putWide Id.CAP_FRZ_WAVE w := ⟨_, _, rfl⟩

theorem waveFreeze_freezes (t : Nat) {s : State} {a : Nat} (h : s.cap.waveAt = some a) :
    Completes (.waveFreeze t) s fun u => u.now = max s.now (max t a) ∧ u.cap.waveFrozen = true ∧ u.cap.waveAt = none ∧
      (∀ k, k < 8 → (u.kiln k).capState ≠ 1 ∧ ((s.kiln k).capState = 1 → (u.kiln k).capState = 2)) ∧
      Unchanged ([.kln] ++ recording) s u := by
  have hexec : exec (.waveFreeze t) s = .next (s.at (max t a)).waveFreeze := by
    change execWaveFreeze t s = _
    rw [execWaveFreeze, h]
  obtain ⟨kept, w, hfreeze⟩ := (s.at (max t a)).waveFreeze_eq
  rw [hfreeze] at hexec
  refine .of_next hexec ?_
  have hat := s.at_unchanged (max t a)
  have hkln : (s.at (max t a)).kln = s.kln := s.at_kln _
  have hnow := s.at_now (max t a)
  generalize s.at (max t a) = b at hat hkln hnow ⊢
  have hstopped := capturesStopped (b.waveHeld kept) 8
  have hcap := hstopped.parts .cap (by decide)
  generalize forN 8 _ _ = x at hstopped hcap ⊢
  have hput : Unchanged [.wide, .deferred, .recent] x (x.putWide Id.CAP_FRZ_WAVE w) := State.updWide_unchanged _ _ _
  have hkiln (k : Nat) : (x.putWide Id.CAP_FRZ_WAVE w).kiln k = x.kiln k := by
    rw [State.kiln, State.kiln, hput .kln (by decide)]
  have hbefore (k : Nat) : (b.waveHeld kept).kiln k = s.kiln k := by
    rw [State.kiln, State.kiln, State.waveHeld, State.modCap_kln, hkln]
  have hframe : Unchanged ([.kln] ++ recording) s x := ((hat.mono (by decide)).trans
    ((State.modCap_unchanged _ _).mono (by decide))).trans (hstopped.parts.mono (by decide))
  refine ⟨?_, ?_, ?_, fun k hk => ?_, hframe.trans (hput.mono (by decide))⟩
  · rw [hput.now (by decide), hstopped.parts.now (by decide), State.waveHeld, State.modCap_now, hnow]
  · rw [State.putWide_cap, hcap, State.waveHeld, State.modCap_cap]
  · rw [State.putWide_cap, hcap, State.waveHeld, State.modCap_cap]
  · rw [hkiln, ← hbefore]
    exact hstopped.stopped k hk

end Sys2Proof.Machine
end

section
/-! PROOFS. Exports of a frozen extent (R353, R355, R356), and O47. -/

namespace Sys2Proof.Machine

/-! ## CAP_EXPORT (R355, R421) -/

/-- The conditions under which exporting starts: frozen, none running, a ring of HIF that holds a WAVE record, and
SERVICE or the background in READY, SCAN or GUARD. -/
def State.exportAllowed (s : State) : Prop :=
  s.cap.st = 3 ∧ s.cap.export_ = false ∧
    (bitOf (s.fld Reg.CAP_EXPORT_CTL 1 0) 1 = true → 41 ≤ s.fld (ringCtl 2 + 4) 14 0) ∧
    (s.mode.active = .service ∨ (s.bit Reg.CAP_EXPORT_CTL 2 = true ∧
      (s.mode.active = .ready ∨ s.mode.active = .scan ∨ s.mode.active = .guard)))

theorem State.at_exportAllowed (s : State) (t : Nat) : (s.at t).exportAllowed ↔ s.exportAllowed := by
  simp [State.exportAllowed, State.at_fld, State.at_bit]

/-- Exporting of the selected extents has begun. -/
def State.exportBegun (s : State) : State :=
  s.modCap (fun c => { c with
    export_ := true, exWhat := s.fld Reg.CAP_EXPORT_CTL 1 0, exBad := []
    exProg := { run := c.exProg.run + 1, st := 1, pos := 0, total := s.exportUnits (s.fld Reg.CAP_EXPORT_CTL 1 0) } })

theorem State.capExport_begins {s : State} (p : Path) (h : s.exportAllowed) : s.capExport p = s.exportBegun := by
  obtain ⟨hst, hidle, hring, hmode⟩ := h
  refine if_pos ⟨hst, hidle, ?_, hmode⟩
  cases hwave : bitOf (s.fld Reg.CAP_EXPORT_CTL 1 0) 1 with
  | false => rfl
  | true => simpa using hring hwave

theorem State.capExport_refuses {s : State} (p : Path) (h : ¬ s.exportAllowed) :
    s.capExport p = s.event Reg.CAP_STAT 5 { path := pathCode p } := by
  refine if_neg fun ⟨hst, hidle, hsmall, hmode⟩ => h ⟨hst, hidle, fun hwave => ?_, hmode⟩
  simpa [hwave] using hsmall

theorem exec_capExport (t : Nat) (p : Path) {s : State} (hg : s.gated = false) :
    exec (.capExport t p) s = .next ((s.at t).capExport p) := congrArg Host.Outcome.next (State.onBar_at hg t _)

theorem capExport_starts (t : Nat) (p : Path) {s : State} (hg : s.gated = false) (h : s.exportAllowed) :
    Completes (.capExport t p) s fun u => u.cap.export_ = true ∧ u.cap.exProg.st = 1 ∧ u.cap.exProg.pos = 0 ∧
      u.cap.exProg.total = (s.at t).exportUnits (s.fld Reg.CAP_EXPORT_CTL 1 0) ∧ u.cap.st = 3 ∧
      Unchanged [.cap] (s.at t) u := by
  have hbegun := State.capExport_begins p ((s.at_exportAllowed t).mpr h)
  refine .of_next ((exec_capExport t p hg).trans (congrArg _ hbegun)) ?_
  rw [← State.at_fld s t]
  exact ⟨rfl, rfl, rfl, rfl, (s.at_cap_st t).trans h.1, State.modCap_unchanged _ _⟩

theorem capExport_refused (t : Nat) (p : Path) {s : State} (hg : s.gated = false) (h : ¬ s.exportAllowed) :
    Completes (.capExport t p) s fun u => u.cap.export_ = s.cap.export_ ∧ u.shows Reg.CAP_STAT 5 ∧
      Unchanged recording s u := by
  have hrefused := State.capExport_refuses p (mt (s.at_exportAllowed t).mp h)
  refine .of_next ((exec_capExport t p hg).trans (congrArg _ hrefused)) ?_
  rw [State.capEvent_cap _ (by decide), State.at_cap_export]
  exact ⟨rfl, State.event_shows _ _ (by decide) _, (s.at_unchanged t).trans (State.event_recording _ _ _ _)⟩

/-! ## CAP_EXPORT_ABORT (R355, R356) -/

theorem exec_capExportAbort (t : Nat) (p : Path) {s : State} (hg : s.gated = false) :
    exec (.capExportAbort t p) s = .next (s.at t).capExportAbort := congrArg Host.Outcome.next (State.onBar_at hg t _)

theorem capExportAbort_fails (t : Nat) (p : Path) {s : State} (hg : s.gated = false) (h : s.cap.export_ = true) :
    Completes (.capExportAbort t p) s fun u => u.cap.export_ = false ∧ u.cap.exProg.st = 3 ∧ u.cap.st = s.cap.st ∧
      Unchanged [.cap] (s.at t) u := by
  have habort : (s.at t).capExportAbort = (s.at t).modCap (fun c =>
      { c with export_ := false, exProg := { c.exProg with st := 3 } }) := if_pos (by rwa [State.at_cap_export])
  exact .of_next ((exec_capExportAbort t p hg).trans (congrArg _ habort))
    ⟨rfl, rfl, s.at_cap_st t, State.modCap_unchanged _ _⟩

theorem capExportAbort_without (t : Nat) (p : Path) {s : State} (hg : s.gated = false) (h : s.cap.export_ = false) :
    Completes (.capExportAbort t p) s fun u => u = s.at t :=
  .of_next (exec_capExportAbort t p hg) (if_neg (by simp [h]))

/-! ## EXPORT_DONE (R355, R421) -/

@[simp] theorem State.at_exportMoves (s : State) (t : Nat) : (s.at t).exportMoves = s.exportMoves := by
  rw [State.exportMoves, State.at_mode, State.exportMoves]

@[simp] theorem State.at_exportRuns (s : State) (t : Nat) : (s.at t).exportRuns = s.exportRuns := by
  simp only [State.exportRuns, State.at_cap_export, State.at_exportMoves, State.at_mode, State.at_fld]

theorem State.exportPump_stopped {s : State} (h : s.exportRuns = false) (n : Nat) : s.exportPump n = s := by
  cases n with
  | zero => rfl
  | succ n => simp [State.exportPump, h]

/-- Exporting has ended, and its vector is signalled (R356, R421). -/
def State.exportEnded (s : State) : State :=
  ((s.modCap (fun c => { c with export_ := false, exProg := { c.exProg with st := 2 } })).event Reg.CAP_STAT 3 {}).signal 2

theorem State.exportEnded_cap (s : State) :
    s.exportEnded.cap = { s.cap with export_ := false, exProg := { s.cap.exProg with st := 2 } } :=
  (State.signal_cap _ _).trans (State.capEvent_cap _ (by decide) _)

theorem State.exportEnded_parts (s : State) : Unchanged eventParts s s.exportEnded :=
  (((s.modCap_unchanged _).mono (by decide)).trans (State.event_unchanged _ _ _ _)).trans
    ((State.signal_unchanged _ _).mono (by decide))

theorem State.exportEnded_shows (s : State) : s.exportEnded.shows Reg.CAP_STAT 3 :=
  (State.shows_of_stat (State.signal_unchanged _ _ .stat (by decide)) _ _).mpr (State.event_shows _ _ (by decide) _)

theorem exec_exportDone_allSent (t : Nat) {s : State} (h : s.cap.export_ = true) (hmoves : s.exportMoves = true)
    (hsent : s.cap.exProg.total ≤ s.cap.exProg.pos) : exec (.exportDone t) s =
      .next (if (s.at t).exportEnded.bit Reg.CAP_EXPORT_CTL 3 then (s.at t).exportEnded.capRelease
        else (s.at t).exportEnded) := by
  change execExportDone t s = _
  have hnone : (s.at t).exportPump ((s.at t).cap.exProg.total - (s.at t).cap.exProg.pos) = s.at t := by
    rw [State.at_cap_exProg, Nat.sub_eq_zero_of_le hsent]
    rfl
  unfold execExportDone
  dsimp only
  rw [hnone, if_pos (by simp [h, hmoves, hsent])]
  rfl

theorem exportDone_ends (t : Nat) {s : State} (h : s.cap.export_ = true) (hmoves : s.exportMoves = true)
    (hsent : s.cap.exProg.total ≤ s.cap.exProg.pos) : Completes (.exportDone t) s fun u =>
      u.cap.export_ = false ∧ u.cap.exProg.st = 2 ∧ u.shows Reg.CAP_STAT 3 ∧
      (s.bit Reg.CAP_EXPORT_CTL 3 = true → ExtentsReleased s u) ∧
      (s.bit Reg.CAP_EXPORT_CTL 3 = false → u.cap.st = s.cap.st) ∧ Unchanged recording s u := by
  refine .of_next (exec_exportDone_allSent t h hmoves hsent) ?_
  have hcap := (s.at t).exportEnded_cap
  have hparts := (s.at t).exportEnded_parts
  have hshown := (s.at t).exportEnded_shows
  have hst := s.at_cap_st t
  have hframe : Unchanged recording s (s.at t).exportEnded := (s.at_unchanged t).trans (hparts.mono (by decide))
  generalize (s.at t).exportEnded = x at hcap hparts hshown hframe ⊢
  have hbit : x.bit Reg.CAP_EXPORT_CTL 3 = s.bit Reg.CAP_EXPORT_CTL 3 := by
    rw [State.bit, State.bit, hframe.reg (by decide)]
  rw [hbit]
  cases hrelease : s.bit Reg.CAP_EXPORT_CTL 3 with
  | false => simpa [hcap, hst] using ⟨hshown, hframe⟩
  | true =>
    have hreleased := x.capRelease_unchanged
    have hended : x.capRelease.cap.export_ = false := congrArg Capture.export_ hcap
    have hdone : x.capRelease.cap.exProg.st = 2 := congrArg (fun c : Capture => c.exProg.st) hcap
    simpa [hended, hdone] using ⟨(State.shows_of_stat (hreleased .stat (by decide)) _ _).mpr hshown,
      State.capRelease_released (hframe .regs (by decide)), hframe.trans (hreleased.mono (by decide))⟩

theorem exportDone_without (t : Nat) {s : State} (hruns : s.exportRuns = false) (hmoves : s.exportMoves = false) :
    Completes (.exportDone t) s fun u => u = s.at t := by
  have hnone (n : Nat) : (s.at t).exportPump n = s.at t := State.exportPump_stopped (by rw [State.at_exportRuns, hruns]) n
  refine .of_next (u := s.at t) ?_ rfl
  change execExportDone t s = _
  unfold execExportDone
  dsimp only
  rw [hnone, if_neg (by simp [hmoves])]

/-! ## The family's capture half -/

/-- Settles O47: each command by what it does in the states of its clause. -/
theorem captureTriggersAndFreezes : Obligations.CaptureTriggersAndFreezes :=
  ⟨fun t p _ hg => ⟨capTrigger_enabled t p hg, capTrigger_disabled t p hg⟩,
    fun t _ => triggerEvaluation_without t,
    fun t _ _ hone hc => ⟨triggerEvaluation_accepts t hone hc, triggerEvaluation_misses t hone,
      triggerEvaluation_drops t hone⟩,
    fun t _ _ hpost => ⟨recPostExpiry_waits t hpost, recPostExpiry_freezes t hpost⟩,
    fun t _ _ => waveFreeze_freezes t,
    fun t p _ hg => ⟨fun h _ => capRelease_without t p hg h, capRelease_refused t p hg, capRelease_releases t p hg⟩,
    fun t _ => holdoffEnd_rearms t,
    fun t p _ hg => ⟨capExport_starts t p hg, capExport_refused t p hg⟩,
    fun t p _ hg => ⟨capExportAbort_fails t p hg, capExportAbort_without t p hg⟩,
    fun t _ => ⟨exportDone_ends t, exportDone_without t⟩⟩

end Sys2Proof.Machine
end

section
/-! PROOFS. What the settling of the log leaves of the latched fatal reasons and of the wide values (R350, R352, R485,
R494). -/

namespace Sys2Proof.Machine

/-- The wide values that the log's own records write on their way to the host and the recorder, or that count their losses. -/
def logValues : List Nat :=
  [Id.HIF_EVT_LOST, Id.FLT_SUPPRESSED, Id.MEM_LAST_FAULT, Id.CAP_REC_FAULTS, Id.CAP_REC_BAD, Id.CAP_REC_PTR]

/-- From `s` to `u` no reason of a unit-fatal fault is latched or cleared, and of the wide values only the log's own change. -/
structure LogKept (s u : State) : Prop where
  fatal : SameFatal s u
  value : ∀ id, id ∉ logValues → u.stored id = s.stored id

namespace LogKept

/-- A change of other parts. -/
theorem of_same {s u : State} (h : (u.log.fatal, u.wide, u.deferred) = (s.log.fatal, s.wide, s.deferred)) : LogKept s u := by
  simp only [Prod.mk.injEq] at h
  obtain ⟨hfatal, hwide, hdeferred⟩ := h
  exact ⟨hfatal, fun id _ => by rw [State.stored, State.stored, State.wideRaw, State.wideRaw, hwide, hdeferred]⟩

theorem of_unchanged {but : List Part} {s u : State} (hf : SameFatal s u) (h : Unchanged but s u)
    (hb : Part.wide ∉ but ∧ Part.deferred ∉ but) : LogKept s u :=
  ⟨hf, fun id _ => by rw [State.stored, State.stored, h.wideRaw hb.1, h.deferred hb.2]⟩

theorem refl (s : State) : LogKept s s := of_same rfl

theorem trans {a b c : State} (h : LogKept a b) (k : LogKept b c) : LogKept a c :=
  ⟨h.fatal.trans k.fatal, fun id hid => (k.value id hid).trans (h.value id hid)⟩

theorem ite {s x y : State} {c : Prop} [Decidable c] (hx : LogKept s x) (hy : LogKept s y) :
    LogKept s (if c then x else y) := by
  split
  · exact hx
  · exact hy

/-- A further step that is taken under a condition only. -/
theorem thenIf {s x y : State} {c : Prop} [Decidable c] (hx : LogKept s x) (hy : LogKept x y) :
    LogKept s (if c then y else x) := ite (hx.trans hy) hx

theorem foldl {α : Type} (l : List α) {f : State → α → State} (h : ∀ s a, LogKept s (f s a)) (s : State) :
    LogKept s (l.foldl f s) := by
  induction l generalizing s with
  | nil => exact refl s
  | cons a l ih => exact (h s a).trans (ih _)

end LogKept

section
variable (s : State)

theorem State.raise_logKept (off : Nat) (f : BitVec 16) : LogKept s (s.raise off f) :=
  .of_unchanged (s.raise_sameFatal off f) (s.raise_unchanged off f) (by decide)

theorem State.logPush_logKept (e : LogEntry) : LogKept s (s.logPush e) :=
  .of_unchanged (s.logPush_sameFatal e) (s.logPush_unchanged e) (by decide)

theorem State.setCap_logKept (x : Capture) : LogKept s { s with cap := x } := .of_same rfl

theorem State.updWide_logKept {id : Nat} (u : WideUpd) (h : id ∈ logValues) : LogKept s (s.updWide id u) where
  fatal := .of_unchanged (s.updWide_unchanged id u) (by decide)
  value o ho := State.updWide_stored u (fun e => ho (e ▸ h))

theorem State.putWide_logKept {id : Nat} (v : Nat) (h : id ∈ logValues) : LogKept s (s.putWide id v) :=
  s.updWide_logKept _ h

theorem State.bump_logKept {id : Nat} (h : id ∈ logValues) : LogKept s (s.bump id) :=
  .ite (.refl s) (s.updWide_logKept _ h)

theorem State.fault_logKept (code off : Nat) (f : BitVec 16) (i : Info) : LogKept s (s.fault code off f i) := by
  have hentry (x : State) : LogKept x (x.faultEntry code i) := (x.logPush_logKept _).trans (State.raise_logKept _ _ _)
  have hheld (x : State) (a : FMap (Option Nat)) (r : FMap Nat) :
      LogKept x { x with log := { x.log with ceLast := a, ceRep := r } } := .of_same rfl
  have hrepeat (x : State) (r : FMap Nat) : LogKept x { x with log := { x.log with ceRep := r } } := .of_same rfl
  have hce (x : State) : LogKept x (x.faultCe code i) := by
    unfold State.faultCe
    exact .ite (((hheld _ _ _).trans (State.logPush_logKept _ _)).trans (State.raise_logKept _ _ _))
      ((hrepeat _ _).trans (State.bump_logKept _ (by decide)))
  exact (s.raise_logKept _ _).trans (.ite (hce _) (hentry _))

theorem State.recPut_logKept (r : BitVec 128) : LogKept s (s.recPut r) := by
  have hbyte (x : State) (m : Mem) : LogKept x { x with mem := m } := .of_same rfl
  have hmem (x : State) (a n v : Nat) : LogKept x (x.memPut a n v) := .foldl _ (fun y _ => hbyte y _) x
  have hmove (x : State) (o : Nat) : LogKept x (x.recMove o) := .ite (.of_same rfl) (.of_same rfl)
  have hptr (x : State) : LogKept x x.recPtr := x.putWide_logKept _ (by decide)
  have hport (x : State) (p l c q : Nat) : LogKept x (x.portFault p l c q) :=
    (x.putWide_logKept _ (by decide)).trans (State.fault_logKept _ _ _ _ _)
  have hlost (x : State) (v : Nat) : LogKept x ((x.bump Id.CAP_REC_FAULTS).putWide Id.CAP_REC_BAD v) :=
    (x.bump_logKept (by decide)).trans (State.putWide_logKept _ _ (by decide))
  unfold State.recPut
  refine .ite (.refl s) (.ite ?_ ?_)
  · exact ((hmem s _ _ _).trans (hmove _ _)).trans (hptr _)
  · exact (((((hport s _ _ _ _).trans (State.fault_logKept _ _ _ _ _)).trans (hlost _ _)).trans
      (State.setCap_logKept _ _)).trans (hmove _ _)).trans (hptr _)

theorem State.recWrite_logKept (r : BitVec 128) : LogKept s (s.recWrite r) := by
  unfold State.recWrite
  split
  · exact s.recPut_logKept r
  · exact ((s.setCap_logKept _).trans (State.recPut_logKept _ _)).trans (State.recPut_logKept _ _)

theorem State.logCommit_logKept (e : LogEntry) : LogKept s (s.logCommit e) := by
  have hring (x : State) : LogKept x (x.logRing e) := by
    unfold State.logRing
    exact .thenIf (.of_same rfl) (State.raise_logKept _ _ _)
  have hhost (x : State) (r : BitVec 128) : LogKept x (x.logHost r) :=
    .ite (.of_same rfl) ((x.bump_logKept (by decide)).trans (State.raise_logKept _ _ _))
  exact .thenIf ((hring s).trans (hhost _ _)) (State.recWrite_logKept _ _)

/-- The passing of time leaves the latched reasons, and every wide value that is not the log's own. -/
theorem State.at_logKept (t : Nat) : LogKept s (s.at t) := by
  have hnow : LogKept s { s with now := max s.now t } := .of_same rfl
  have hpend (x : State) (l : List LogEntry) : LogKept x { x with log := { x.log with pend := l } } := .of_same rfl
  unfold State.at State.settleLog
  exact hnow.trans (.ite (.refl _) ((hpend _ _).trans (.foldl _ State.logCommit_logKept _)))

theorem State.at_wideN (t : Nat) {id : Nat} (h : id ∉ logValues) : (s.at t).wideN id = s.wideN id := by
  rw [State.wideN_stored, State.wideN_stored, (s.at_logKept t).value id h]

end

end Sys2Proof.Machine
end

section
/-! PROOFS. The safety outputs (R361, R362): their conditions, the check of them, and the restarts. -/

namespace Sys2Proof.Machine

/-! ## The conditions of R361 -/

section
variable (s : State) (t : Nat)

@[simp] theorem State.at_activeFields : (s.at t).activeFields = s.activeFields := by
  rw [State.activeFields, State.at_reg, State.at_cap_set, State.activeFields]

@[simp] theorem State.at_fieldValid : (s.at t).fieldValid = s.fieldValid := by
  simp only [State.fieldValid, State.at_cap_refWritten, State.at_cap_sweepOk, State.at_cap_rangesOk]

@[simp] theorem State.at_ossdOk : (s.at t).ossdOk = s.ossdOk := by
  simp only [State.ossdOk, State.at_mode, State.at_sec, State.at_crc, State.at_fieldValid, State.at_cap_viol,
    State.at_activeFields, State.at_cap_fbFault]

end

theorem State.not_ossdOk_of_feedback {s : State} (h : s.cap.fbFault = true) : s.ossdOk = false := by
  simp [State.ossdOk, h]

theorem State.not_ossdOk_of_invalid {s : State} (h : s.fieldValid = false) : s.ossdOk = false := by
  simp [State.ossdOk, h]

/-- A violated field of the active set bars the outputs. -/
theorem State.not_ossdOk_of_violated {s : State} {f : Nat} (hv : bitOf s.cap.viol.toNat f = true)
    (ha : bitOf s.activeFields.toNat f = true) : s.ossdOk = false := by
  have hsome : s.cap.viol &&& s.activeFields ≠ 0 := by
    intro hnone
    have hbit := congrArg (fun x : BitVec 16 => bitOf x.toNat f) hnone
    simp only [bitOf] at hbit hv ha
    simp [hv, ha] at hbit
  rw [State.ossdOk, decide_eq_false hsome]
  simp

/-! ## The check (R361, R362) -/

theorem State.dropOssd_cap (s : State) : s.dropOssd.cap =
    { s.cap with ossd := false, okSince := if s.cap.ossd then none else s.cap.okSince } := by
  unfold State.dropOssd
  split
  next => rw [State.capEvent_cap _ (by decide)]
  next hlow => exact congrArg (fun o => { s.cap with ossd := o }) (Bool.eq_false_iff.mpr hlow)

/-- A check drops the outputs where a condition fails, keeps the tick from which all hold, and changes nothing else of the
capture block. -/
theorem State.ossdCheck_cap (s : State) : s.ossdCheck.cap = { s.cap with
    ossd := s.cap.ossd && s.ossdOk
    okSince := if s.ossdOk then s.cap.okSince.orElse (fun _ => some s.now) else none } := by
  unfold State.ossdCheck
  split
  · simp [*]
  · simp [*, State.dropOssd_cap]

/-- A check changes no condition. -/
@[simp] theorem State.ossdCheck_ossdOk (s : State) : s.ossdCheck.ossdOk = s.ossdOk := by
  have hparts := s.ossdCheck_unchanged
  have hcap := s.ossdCheck_cap
  have hmode : s.ossdCheck.mode = s.mode := hparts .mode (by decide)
  have hsec : s.ossdCheck.sec = s.sec := hparts .sec (by decide)
  have hcrc : s.ossdCheck.crc = s.crc := hparts .crc (by decide)
  have hvalid : s.ossdCheck.fieldValid = s.fieldValid := by rw [State.fieldValid, hcap, State.fieldValid]
  have hset : s.ossdCheck.cap.set = s.cap.set := by rw [hcap]
  have hfields : s.ossdCheck.activeFields = s.activeFields := by
    rw [State.activeFields, hparts.reg (by decide), hset, State.activeFields]
  have hviol : s.ossdCheck.cap.viol = s.cap.viol := by rw [hcap]
  have hfault : s.ossdCheck.cap.fbFault = s.cap.fbFault := by rw [hcap]
  rw [State.ossdOk, State.ossdOk, hmode, hsec, hcrc, hvalid, hfields, hviol, hfault]

/-- A check with a condition that fails leaves the outputs low. -/
theorem State.ossdCheck_low {s : State} (h : s.ossdOk = false) : s.ossdCheck.cap.ossd = false := by
  simp [State.ossdCheck_cap, h]

theorem State.ossdCheck_rises {s : State} (h : s.ossdCheck.cap.ossd = true) : s.cap.ossd = true := by
  rw [State.ossdCheck_cap] at h
  exact (Bool.and_eq_true_iff.mp h).1

theorem State.ossdOn_high (s : State) : s.ossdOn.cap.ossd = true := by
  unfold State.ossdOn
  split
  · assumption
  · rw [State.capEvent_cap _ (by decide)]
    rfl

theorem State.ossdOn_unchanged (s : State) : Unchanged eventParts s s.ossdOn :=
  .ite (.refl _ s) (((s.modCap_unchanged _).mono (by decide)).trans (State.event_unchanged _ _ _ _))

/-! ## OSSD_RESTART (R362) -/

/-- The conditions of a restart by path `p`: MANUAL, not from Greenware, every condition of R361, a clean frame. -/
def State.restartAllowed (s : State) (p : Path) : Prop :=
  p ≠ .greenware ∧ s.bit Reg.CAP_GUARD_CTL 0 = false ∧ s.ossdOk = true ∧ s.cap.cleanFrame = true

theorem State.checked_restartAllowed (s : State) (t : Nat) (p : Path) :
    (s.at t).ossdCheck.restartAllowed p ↔ s.restartAllowed p := by
  have hbit : (s.at t).ossdCheck.bit Reg.CAP_GUARD_CTL 0 = s.bit Reg.CAP_GUARD_CTL 0 := by
    rw [State.bit, (State.ossdCheck_unchanged _).reg (by decide), State.at_reg, State.bit]
  simp only [State.restartAllowed, hbit, State.ossdCheck_ossdOk, State.at_ossdOk, State.ossdCheck_cap,
    State.at_cap_cleanFrame]

theorem exec_ossdRestart (t : Nat) (p : Path) {s : State} (hg : s.gated = false) :
    exec (.ossdRestart t p) s = .next ((s.at t).ossdRestart p) := congrArg Host.Outcome.next (State.onBar_at hg t _)

theorem State.checked_recording (s : State) (t : Nat) : Unchanged recording s (s.at t).ossdCheck :=
  (s.at_unchanged t).trans ((State.ossdCheck_unchanged _).mono (by decide))

theorem ossdRestart_raises (t : Nat) (p : Path) {s : State} (hg : s.gated = false) (h : s.restartAllowed p) :
    Completes (.ossdRestart t p) s fun u => u.cap.ossd = true ∧ Unchanged recording s u := by
  have hrestart : (s.at t).ossdRestart p = (s.at t).ossdCheck.ossdOn := if_pos ((s.checked_restartAllowed t p).mpr h)
  exact .of_next ((exec_ossdRestart t p hg).trans (congrArg _ hrestart))
    ⟨State.ossdOn_high _, (s.checked_recording t).trans ((State.ossdOn_unchanged _).mono (by decide))⟩

theorem ossdRestart_refused (t : Nat) (p : Path) {s : State} (hg : s.gated = false) (h : ¬ s.restartAllowed p) :
    Completes (.ossdRestart t p) s fun u => (u.cap.ossd = true → s.cap.ossd = true) ∧ u.shows Reg.CAP_STAT 12 ∧
      Unchanged recording s u := by
  have hrestart : (s.at t).ossdRestart p = (s.at t).ossdCheck.event Reg.CAP_STAT 12 { path := pathCode p } :=
    if_neg (mt (s.checked_restartAllowed t p).mp h)
  refine .of_next ((exec_ossdRestart t p hg).trans (congrArg _ hrestart)) ⟨fun hu => ?_,
    State.event_shows _ _ (by decide) _, (s.checked_recording t).trans (State.event_recording _ _ _ _)⟩
  rw [State.capEvent_cap _ (by decide)] at hu
  exact (s.at_cap_ossd t).symm.trans (State.ossdCheck_rises hu)

/-! ## OSSD_AUTO_RESTART (R362) -/

theorem exec_ossdAutoRestart_due (t : Nat) {s : State} {a : Nat} (hauto : s.bit Reg.CAP_GUARD_CTL 0 = true)
    (hlow : s.cap.ossd = false) (hok : s.ossdOk = true) (hsince : s.cap.okSince = some a) :
    exec (.ossdAutoRestart t) s = .next (s.ossdCheck.at (max t (a + msT (s.reg Reg.CAP_GUARD_RST).toNat))).ossdOn := by
  have hreg (off : Nat) : s.ossdCheck.reg off = s.reg off := s.ossdCheck_unchanged.reg (by decide) off
  have hheld : s.ossdCheck.cap.okSince = some a := by simp [State.ossdCheck_cap, hok, hsince]
  have hcond : s.ossdCheck.bit Reg.CAP_GUARD_CTL 0 = true ∧ s.ossdCheck.cap.ossd = false :=
    ⟨by rw [State.bit, hreg]; exact hauto, by simp [State.ossdCheck_cap, hlow]⟩
  change execOssdAutoRestart t s = _
  unfold execOssdAutoRestart
  simp only [hheld, hreg]
  rw [if_pos hcond, if_pos (by simp [hok])]

/-- Without AUTO or with a condition that fails, nothing but the check happens. -/
theorem exec_ossdAutoRestart_not (t : Nat) {s : State} (h : s.bit Reg.CAP_GUARD_CTL 0 = false ∨ s.ossdOk = false) :
    exec (.ossdAutoRestart t) s = .next (s.ossdCheck.at t) := by
  change execOssdAutoRestart t s = _
  unfold execOssdAutoRestart
  obtain hmanual | hbad := h
  · have hbit : s.ossdCheck.bit Reg.CAP_GUARD_CTL 0 = false := by
      rw [State.bit, s.ossdCheck_unchanged.reg (by decide)]
      exact hmanual
    dsimp only
    split
    · exact if_neg (by simp [hbit])
    · rfl
  · have hnever : s.ossdCheck.cap.okSince = none := by simp [State.ossdCheck_cap, hbad]
    simp only [hnever]

theorem ossdAutoRestart_raises (t : Nat) {s : State} {a : Nat} (hauto : s.bit Reg.CAP_GUARD_CTL 0 = true)
    (hlow : s.cap.ossd = false) (hok : s.ossdOk = true) (hsince : s.cap.okSince = some a) :
    Completes (.ossdAutoRestart t) s fun u => u.cap.ossd = true ∧
      u.now = max s.now (max t (a + msT (s.reg Reg.CAP_GUARD_RST).toNat)) ∧ Unchanged recording s u := by
  refine .of_next (exec_ossdAutoRestart_due t hauto hlow hok hsince) ⟨State.ossdOn_high _, ?_, ?_⟩
  · rw [(State.ossdOn_unchanged _).now (by decide), State.at_now, s.ossdCheck_unchanged.now (by decide)]
  · exact ((s.ossdCheck_unchanged.mono (by decide)).trans (State.at_unchanged _ _)).trans
      ((State.ossdOn_unchanged _).mono (by decide))

theorem ossdAutoRestart_never (t : Nat) {s : State} (h : s.bit Reg.CAP_GUARD_CTL 0 = false ∨ s.ossdOk = false) :
    Completes (.ossdAutoRestart t) s fun u => (u.cap.ossd = true → s.cap.ossd = true) ∧
      (s.ossdOk = false → u.cap.ossd = false) ∧ Unchanged recording s u := by
  refine .of_next (exec_ossdAutoRestart_not t h) ?_
  rw [State.at_cap_ossd]
  exact ⟨State.ossdCheck_rises, State.ossdCheck_low,
    (s.ossdCheck_unchanged.mono (by decide)).trans (State.at_unchanged _ _)⟩

end Sys2Proof.Machine
end

section
/-! PROOFS. The feedback of the safety outputs (R363, R494): the entry into SAFE keeps the fault and raises no output, and an
agreement ends the latched reason. -/

namespace Sys2Proof.Machine

/-! ## Changes that raise no output -/

/-- From `s` to `u` no output rises, and the feedback fault stays as it is. -/
structure OutputsKept (s u : State) : Prop where
  fault : u.cap.fbFault = s.cap.fbFault
  low : u.cap.ossd = true → s.cap.ossd = true

namespace OutputsKept

/-- A change of other parts. -/
theorem of_cap {s u : State} (h : u.cap = s.cap) : OutputsKept s u := ⟨by rw [h], fun hu => by rwa [← h]⟩

theorem of_quiet {s u : State} (h : Quiet s u) : OutputsKept s u :=
  ⟨(congrArg Capture.fbFault h.cap :), fun hu => (congrArg Capture.ossd h.cap :).symm.trans hu⟩

theorem refl (s : State) : OutputsKept s s := of_cap rfl

theorem trans {a b c : State} (h : OutputsKept a b) (k : OutputsKept b c) : OutputsKept a c :=
  ⟨k.fault.trans h.fault, fun hc => h.low (k.low hc)⟩

theorem ite {s x y : State} {c : Prop} [Decidable c] (hx : OutputsKept s x) (hy : OutputsKept s y) :
    OutputsKept s (if c then x else y) := by
  split
  · exact hx
  · exact hy

/-- A further step that is taken under a condition only. -/
theorem thenIf {s x y : State} {c : Prop} [Decidable c] (hx : OutputsKept s x) (hy : OutputsKept x y) :
    OutputsKept s (if c then y else x) := ite (hx.trans hy) hx

theorem foldl {α : Type} (l : List α) {f : State → α → State} (h : ∀ s a, OutputsKept s (f s a)) (s : State) :
    OutputsKept s (l.foldl f s) := by
  induction l generalizing s with
  | nil => exact refl s
  | cons a l ih => exact (h s a).trans (ih _)

end OutputsKept

section
variable (s : State)

theorem State.event_outputs (off b : Nat) (i : Info) : OutputsKept s (s.event off b i) := .of_quiet (s.event_quiet off b i)

theorem State.coilStatus_outputs : OutputsKept s s.coilStatus := by
  have hcoil (x : State) (f : Coil → Coil) : OutputsKept x (x.modCoil f) := .of_cap rfl
  have hreport (x : State) (a w f o : Nat) : OutputsKept x (x.coilReport a w f o) :=
    .thenIf (.trans (.of_cap (x.putWide_cap _ _)) (hcoil _ _)) (State.event_outputs _ _ _ _)
  have hsend (x : State) (q : CoilPkt) : OutputsKept x (x.coilSend q) := .ite (hcoil x _) (.refl x)
  have hused (x : State) (c : Nat) : OutputsKept x (x.coilSeqUsed c) := hcoil x _
  have hto (x : State) (cls typ dst : Nat) (l : List (BitVec 128)) : OutputsKept x (x.coilTo cls typ dst l) := by
    unfold State.coilTo
    split
    · exact (hsend x _).trans (hused _ _)
    · exact .refl x
  exact .ite ((hcoil s _).trans (.ite (hreport _ _ _ _ _) (hto _ _ _ _ _))) (.refl s)

theorem State.coilLiveFrom_outputs (a : State) : OutputsKept s (s.coilLiveFrom a) :=
  .ite (.ite (.refl s) s.coilStatus_outputs) (.refl s)

theorem State.dropOssd_outputs : OutputsKept s s.dropOssd := by
  have hcap := s.dropOssd_cap
  exact ⟨by rw [hcap], fun hu => by simp [hcap] at hu⟩

theorem State.safeCut_outputs (c : Nat) : OutputsKept s (s.safeCut c) := by
  have hboot : OutputsKept s s.interruptBoot := .ite (.of_cap rfl) (.refl s)
  have hstop (x : State) : OutputsKept x x.stopBurst := .of_cap rfl
  have hkiln (x : State) (k : Nat) (f : Kiln → Kiln) : OutputsKept x (x.modKiln k f) := .of_cap rfl
  have hvoid (x : State) (n : Nat) : OutputsKept x (x.voidOpenPixel n) := by
    unfold State.voidOpenPixel
    split
    · exact .refl x
    · refine OutputsKept.trans (.foldl _ (fun y k => ?_) x) (.of_cap rfl)
      exact ((hkiln y _ _).trans (hkiln _ _ _)).trans (State.event_outputs _ _ _ _)
  have hframe (x : State) (n : Nat) (f : FrameQ → FrameQ) : OutputsKept x (x.modFrame n f) := .of_cap rfl
  have hcut (x : State) (d : CutInfo) : OutputsKept x (x.cutFrame d) :=
    (OutputsKept.thenIf (hvoid x _) (hframe _ _ _)).trans (.of_cap rfl)
  have hhalt (x : State) (f : Bool) : OutputsKept x (x.haltWheel f) :=
    .thenIf (.of_cap rfl) (State.event_outputs _ _ _ _)
  exact (((hboot.trans (hstop _)).trans (State.dropOssd_outputs _)).trans (hcut _ _)).trans (hhalt _ _)

theorem State.safeEnter_outputs (c : Nat) : OutputsKept s (s.safeEnter c) := by
  have hlatch (x : State) : OutputsKept x (x.latchCauses c) :=
    (OutputsKept.of_quiet (x.raise_quiet _ _)).trans
      (.foldl _ (fun y _ => .ite (.of_quiet (y.logPush_quiet _)) (.refl y)) _)
  have hsec (x : State) (y : Sec) : OutputsKept x { x with sec := y } := .of_cap rfl
  have hpermit (x : State) : OutputsKept x x.permitOff := .ite ((hsec x _).trans (State.event_outputs _ _ _ _)) (.refl x)
  have hmode (x : State) (m : Modes) : OutputsKept x { x with mode := m } := .of_cap rfl
  have hset (x : State) (m : Mode) : OutputsKept x (x.setMode m) :=
    ((hmode x _).trans (State.event_outputs _ _ _ _)).trans (State.coilStatus_outputs _)
  have hleave (x : State) : OutputsKept x x.leaveStandby := ⟨rfl, id⟩
  have htrigger (x : State) : OutputsKept x x.safeTrigger :=
    .ite (.of_quiet (x.capCond_quiet _ _ _ _ _)) (.refl x)
  have hcal (x : State) (y : Calib) : OutputsKept x { x with cal := y } := .of_cap rfl
  have habort (x : State) : OutputsKept x x.calAbort := .ite ((hcal x _).trans (State.event_outputs _ _ _ _)) (.refl x)
  unfold State.safeEnter
  refine (OutputsKept.ite (.refl s) (hlatch s)).trans (.ite (.refl _) (.ite (hpermit _) ?_))
  exact ((((((State.safeCut_outputs _ c).trans (hpermit _)).trans (hset _ _)).trans (State.event_outputs _ _ _ _)).trans
    (hleave _)).trans (htrigger _)).trans (habort _)

/-- The entry into SAFE hides no event. -/
theorem State.safeEnter_shows (c : Nat) {off b : Nat} (h : s.shows off b) : (s.safeEnter c).shows off b := by
  have hlatch : KeepsClock s (if s.pins.inReset = true then s else s.latchCauses c) :=
    .ite (.refl s) (s.latchCauses_keepsClock c)
  replace h := hlatch.shows off b h
  unfold State.safeEnter
  generalize (if s.pins.inReset = true then s else s.latchCauses c) = x at h ⊢
  have hentered := (x.safeEntered_keepsClock c).shows off b h
  have hleave (y : State) : y.leaveStandby.shows off b ↔ y.shows off b :=
    State.shows_of_stat (s := y) (u := y.leaveStandby) rfl off b
  dsimp only
  split
  · exact h
  · split
    · exact x.permitOff_keepsClock.shows off b h
    · exact (State.calAbort_keepsClock _).shows off b ((State.safeTrigger_keepsClock _).shows off b
        ((hleave _).mpr hentered))

/-- A unit-fatal fault with a latched reason raises no output, and hides no event. -/
theorem State.fatal_outputs (code b cause : Nat) (i : Info) : OutputsKept s (s.fatal code (some b) cause i) := by
  rw [State.fatal_eq]
  refine OutputsKept.trans ?_ ((State.safeEnter_outputs _ _).trans (State.coilLiveFrom_outputs _ _))
  exact .trans (.of_quiet (s.faultEntry_quiet code i)) (.of_cap rfl)

theorem State.fatal_shows (code b cause : Nat) (i : Info) {off f : Nat} (h : s.shows off f) :
    (s.fatal code (some b) cause i).shows off f := by
  have hlatched : (s.latchFatal code b i).shows off f :=
    (State.shows_of_stat rfl off f).mpr ((s.faultEntry_keepsClock code i).shows off f h)
  rw [State.fatal_eq]
  exact (State.coilLiveFrom_keepsClock _ _).shows off f (State.safeEnter_shows _ _ hlatched)

theorem State.fatal_bit (code cause : Nat) {b : Nat} (hb : b < 4) (i : Info) :
    bitOf (s.fatal code (some b) cause i).log.fatal.toNat b = true := by
  have hbit : bitOf (s.latchFatal code b i).log.fatal.toNat b = true := bitOf_or_pow hb
  rw [State.fatal_eq, (State.coilLiveFrom_sameFatal _ _), (State.safeEnter_sameFatal _ _)]
  exact hbit

end

/-! ## OSSD_FEEDBACK_MISMATCH (R363) -/

/-- The mismatch noted: the fault is set, the outputs are checked, the flag is raised. -/
def State.mismatchNoted (s : State) : State :=
  ((s.modCap (fun c => { c with fbFault := true })).ossdCheck).raise Reg.CAP_STAT (flag16 13)

theorem State.mismatchNoted_spec (s : State) : s.mismatchNoted.cap.fbFault = true ∧ s.mismatchNoted.cap.ossd = false ∧
    s.mismatchNoted.shows Reg.CAP_STAT 13 ∧ s.mismatchNoted.pins = s.pins := by
  have hcap : s.mismatchNoted.cap = (s.modCap (fun c => { c with fbFault := true })).ossdCheck.cap :=
    State.raise_unchanged _ _ _ .cap (by decide)
  rw [hcap]
  refine ⟨by rw [State.ossdCheck_cap]; rfl, State.ossdCheck_low (State.not_ossdOk_of_feedback rfl),
    (State.raise_shows _ _ _ _ _).mpr (.inr ⟨rfl, bitOf_flag16 (by decide)⟩), ?_⟩
  exact (State.raise_pins _ _ _).trans (State.ossdCheck_unchanged _ .pins (by decide))

theorem ossdFeedbackMismatch_trips (t : Nat) {s : State} (h : s.bit Reg.CAP_GUARD_CTL 1 = true) :
    Completes (.ossdFeedbackMismatch t) s fun u => u.cap.fbFault = true ∧ u.cap.ossd = false ∧ u.shows Reg.CAP_STAT 13 ∧
      bitOf u.log.fatal.toNat 0 = true ∧ (s.pins.inReset = false → u.mode.active = .safe) := by
  have hexec : exec (.ossdFeedbackMismatch t) s = .next ((s.at t).mismatchNoted.fatal 0xEB0 (some 0) 4 {}) :=
    if_pos (by rwa [State.at_bit])
  refine .of_next hexec ?_
  obtain ⟨hfault, hlow, hshown, hpins⟩ := (s.at t).mismatchNoted_spec
  rw [State.at_pins] at hpins
  generalize (s.at t).mismatchNoted = x at hfault hlow hshown hpins ⊢
  have houtputs := x.fatal_outputs 0xEB0 0 4 {}
  refine ⟨houtputs.fault.trans hfault, ?_, x.fatal_shows _ _ _ _ hshown, x.fatal_bit _ _ (by decide) _, fun hr => ?_⟩
  · exact Bool.eq_false_iff.mpr fun hu => by simp [houtputs.low hu] at hlow
  · exact (State.fatal_latches (by rwa [hpins]) _ _ (b := 0) (by decide) _).2.1

theorem ossdFeedbackMismatch_unchecked (t : Nat) {s : State} (h : s.bit Reg.CAP_GUARD_CTL 1 = false) :
    Completes (.ossdFeedbackMismatch t) s fun u => u = s.at t := .of_next (if_neg (by simp [State.at_bit, h])) rfl

/-! ## OSSD_FEEDBACK_AGREE (R363, R494) -/

/-- The feedback fault and its latched reason are gone. -/
def State.agreed (s : State) : State :=
  { s.modCap (fun c => { c with fbFault := false }) with log := { s.log with fatal := s.log.fatal &&& 0xE } }

theorem exec_ossdFeedbackAgree (t : Nat) (s : State) : exec (.ossdFeedbackAgree t) s =
    .next ((s.at t).agreed.ossdCheck.coilLive (s.at t).safeLive) := rfl

theorem bitOf_clear_feedback (x : BitVec 4) : bitOf (x &&& 0xE).toNat 0 = false ∧
    ∀ i, 0 < i → bitOf (x &&& 0xE).toNat i = bitOf x.toNat i := by
  have hmask : ∀ i, i < 4 → ((0xE : BitVec 4).toNat.testBit i = decide (0 < i)) := by decide
  refine ⟨by simp [bitOf, BitVec.toNat_and], fun i hi => ?_⟩
  rw [bitOf, bitOf, BitVec.toNat_and, Nat.testBit_and]
  by_cases hlt : i < 4
  · rw [hmask i hlt]
    simp [hi]
  · have hnone : x.toNat.testBit i = false :=
      Nat.testBit_lt_two_pow (x.isLt.trans_le (Nat.pow_le_pow_right (by decide) (by omega)))
    rw [hnone, Bool.false_and]

theorem State.ossdCheck_sameFatal (s : State) : SameFatal s s.ossdCheck := by
  have hcap (x : State) (c : Capture) : SameFatal x { x with cap := c } := rfl
  have hdrop : SameFatal s s.dropOssd := .ite ((hcap s _).trans (State.event_sameFatal _ _ _ _)) (.refl s)
  exact .ite (hcap s _) (hdrop.trans (hcap _ _))

theorem ossdFeedbackAgree_ends (t : Nat) (s : State) : Completes (.ossdFeedbackAgree t) s fun u =>
    u.cap.fbFault = false ∧ bitOf u.log.fatal.toNat 0 = false ∧
    (∀ i, 0 < i → bitOf u.log.fatal.toNat i = bitOf s.log.fatal.toNat i) ∧ Unchanged ([.coil] ++ recording) s u := by
  refine .of_next (exec_ossdFeedbackAgree t s) ?_
  have hbefore : (s.at t).log.fatal = s.log.fatal := (s.at_logKept t).fatal
  have hagreed : Unchanged ([.coil] ++ recording) s (s.at t).agreed :=
    ((s.at_unchanged t).mono (by decide)).trans (((State.modCap_unchanged _ _).mono (by decide)).trans
      ((State.setLog_unchanged _ _).mono (by decide)))
  have hlive (x : State) : Unchanged ([.coil] ++ recording) x (x.coilLive (s.at t).safeLive) :=
    (x.coilLive_steady _).parts.mono (by decide)
  have hkept (x : State) : OutputsKept x (x.coilLive (s.at t).safeLive) := .ite (.refl x) x.coilStatus_outputs
  have hsame (x : State) : SameFatal x (x.coilLive (s.at t).safeLive) := .ite (.refl x) x.coilStatus_sameFatal
  have hfatal : ((s.at t).agreed.ossdCheck.coilLive (s.at t).safeLive).log.fatal = s.log.fatal &&& 0xE := by
    rw [hsame, State.ossdCheck_sameFatal, ← hbefore]
    rfl
  have hcheck : (s.at t).agreed.ossdCheck.cap.fbFault = false := by
    rw [State.ossdCheck_cap]
    rfl
  obtain ⟨hcleared, hothers⟩ := bitOf_clear_feedback s.log.fatal
  rw [hfatal]
  exact ⟨(hkept _).fault.trans hcheck, hcleared, hothers,
    (hagreed.trans ((State.ossdCheck_unchanged _).mono (by decide))).trans (hlive _)⟩

end Sys2Proof.Machine
end

section
/-! PROOFS. Protective fields (R358 to R360): a violation, the test of a point against the fields of the active set, and the
staleness of a pixel. -/

namespace Sys2Proof.Machine

/-! ## Fields and points (R358) -/

/-- Does point `p` count in field `f`: is it in the active set, and violated? -/
def State.countsIn (s : State) (p : Point) (f : Nat) : Bool := bitOf s.activeFields.toNat f && s.violates p f

section
variable {s u : State} (hregs : u.regs = s.regs)
include hregs

/-- Which points violate a field depends on the registers alone. -/
theorem State.violates_of_regs (p : Point) (f : Nat) : u.violates p f = s.violates p f := by
  unfold State.violates State.fieldEntry State.bit State.fld State.reg
  rw [hregs]

theorem State.activeFields_of_regs (hset : u.cap.set = s.cap.set) : u.activeFields = s.activeFields := by
  rw [State.activeFields, State.activeFields, State.reg, State.reg, hregs, hset]

theorem State.countsIn_of_regs (hset : u.cap.set = s.cap.set) (p : Point) (f : Nat) : u.countsIn p f = s.countsIn p f := by
  rw [State.countsIn, State.countsIn, State.activeFields_of_regs hregs hset, State.violates_of_regs hregs]

end

/-! ## One field becomes violated (R359) -/

/-- What a violation may touch besides the capture block: its count and its event. -/
def fieldTestParts : List Part := [.wide, .deferred, .recent] ++ eventParts

/-- From `s` to `u` fields may become violated and outputs may drop; the points that wait, the active set and the staleness
stay, and every event that `s` shows is shown. -/
structure FieldsMove (s u : State) : Prop where
  parts : Unchanged fieldTestParts s u
  clock : KeepsClock s u
  tests : u.cap.tests = s.cap.tests
  set : u.cap.set = s.cap.set
  stale : u.cap.stale = s.cap.stale
  viol : ∀ f, bitOf s.cap.viol.toNat f = true → bitOf u.cap.viol.toNat f = true
  ossd : u.cap.ossd = true → s.cap.ossd = true

namespace FieldsMove

theorem refl (s : State) : FieldsMove s s := ⟨.refl _ s, .refl s, rfl, rfl, rfl, fun _ => id, id⟩

theorem trans {a b c : State} (h : FieldsMove a b) (k : FieldsMove b c) : FieldsMove a c where
  parts := h.parts.trans k.parts
  clock := h.clock.trans k.clock
  tests := k.tests.trans h.tests
  set := k.set.trans h.set
  stale := k.stale.trans h.stale
  viol f hf := k.viol f (h.viol f hf)
  ossd hu := h.ossd (k.ossd hu)

variable {s u : State} (h : FieldsMove s u)
include h

theorem regs : u.regs = s.regs := h.parts .regs (by decide)

theorem fld (off hi lo : Nat) : u.fld off hi lo = s.fld off hi lo := by
  rw [State.fld, State.fld, State.reg, State.reg, h.regs]

theorem activeFields : u.activeFields = s.activeFields := State.activeFields_of_regs h.regs h.set

theorem countsIn (p : Point) (f : Nat) : u.countsIn p f = s.countsIn p f := State.countsIn_of_regs h.regs h.set p f

theorem low (hs : s.cap.ossd = false) : u.cap.ossd = false :=
  Bool.eq_false_iff.mpr fun hu => by simp [h.ossd hu] at hs

end FieldsMove

/-- Field `f` is marked as violated. -/
def State.fieldMarked (s : State) (f : Nat) : State :=
  s.modCap (fun c => { c with viol := c.viol ||| flag16 f, violNew := c.violNew ||| flag16 f })

/-- The violation of field `f` has been marked, counted and logged, and is a trigger condition where that source is on. -/
def State.violationNoted (s : State) (f ut fine : Nat) : State :=
  (((s.fieldMarked f).bump Id.CAP_VIOL_COUNT).event Reg.CAP_STAT 7 { inst := f, detail := f }).capCond 0 ut fine true f

theorem State.fieldViolated_new {s : State} {f : Nat} (h : bitOf s.cap.viol.toNat f = false) (ut fine : Nat) :
    s.fieldViolated f ut fine = (s.violationNoted f ut fine).ossdCheck := if_neg (by simp [h])

theorem State.fieldViolated_again {s : State} {f : Nat} (h : bitOf s.cap.viol.toNat f = true) (ut fine : Nat) :
    s.fieldViolated f ut fine = s := if_pos h

theorem State.capCond_cap (s : State) (src ut fine : Nat) (i : Bool) (d : Nat) :
    (s.capCond src ut fine i d).cap = { s.cap with conds := (s.capCond src ut fine i d).cap.conds } := by
  unfold State.capCond
  split <;> rfl

theorem State.violationNoted_cap (s : State) (f ut fine : Nat) : (s.violationNoted f ut fine).cap =
    { (s.fieldMarked f).cap with conds := (s.violationNoted f ut fine).cap.conds } := by
  have hevent : (((s.fieldMarked f).bump Id.CAP_VIOL_COUNT).event Reg.CAP_STAT 7 { inst := f, detail := f }).cap =
      (s.fieldMarked f).cap := (State.capEvent_cap _ (by decide) _).trans (State.bump_cap _ _ _)
  unfold State.violationNoted
  conv_lhs => rw [State.capCond_cap, hevent]

/-- The capture block after a new violation: the field is marked, the outputs are checked, a condition may wait. -/
theorem State.violation_cap (s : State) (f ut fine : Nat) :
    ∃ l k, (s.violationNoted f ut fine).ossdCheck.cap = { (s.fieldMarked f).cap with
      conds := l, ossd := s.cap.ossd && (s.violationNoted f ut fine).ossdOk, okSince := k } :=
  ⟨_, _, by rw [State.ossdCheck_cap, State.violationNoted_cap]; rfl⟩

theorem bitOf_or (x y : BitVec 16) (f : Nat) : bitOf (x ||| y).toNat f = (bitOf x.toNat f || bitOf y.toNat f) := by
  rw [bitOf, BitVec.toNat_or, Nat.testBit_or, bitOf, bitOf]

theorem State.fieldViolated_moves (s : State) (f ut fine : Nat) : FieldsMove s (s.fieldViolated f ut fine) := by
  by_cases hv : bitOf s.cap.viol.toNat f = true
  · rw [State.fieldViolated_again hv]
    exact .refl s
  · rw [State.fieldViolated_new (by simpa using hv)]
    obtain ⟨l, k, hcap⟩ := s.violation_cap f ut fine
    have hcond (x : State) : Unchanged fieldTestParts x (x.capCond 0 ut fine true f) :=
      .ite ((x.setCap_unchanged _).mono (by decide)) (.refl _ x)
    have hparts : Unchanged fieldTestParts s (s.violationNoted f ut fine) :=
      ((((s.modCap_unchanged _).mono (by decide)).trans ((State.bump_unchanged _ _ _).mono (by decide))).trans
        ((State.event_unchanged _ _ _ _).mono (by decide))).trans (hcond _)
    have hclock : KeepsClock s (s.violationNoted f ut fine) :=
      (((s.modCap_keepsClock _).trans (State.bump_keepsClock _ _ _)).trans (State.event_keepsClock _ _ _ _)).trans
        (State.capCond_keepsClock _ _ _ _ _ _)
    refine ⟨hparts.trans ((State.ossdCheck_unchanged _).mono (by decide)),
      hclock.trans (State.ossdCheck_keepsClock _), by rw [hcap]; rfl, by rw [hcap]; rfl, by rw [hcap]; rfl,
      fun g hg => ?_, fun hu => ?_⟩
    · rw [hcap]
      exact (bitOf_or _ _ _).trans (by rw [hg, Bool.true_or])
    · rw [hcap] at hu
      exact (Bool.and_eq_true_iff.mp hu).1

theorem State.fieldViolated_violN (s : State) (f ut fine : Nat) :
    (s.fieldViolated f ut fine).cap.violN = s.cap.violN := by
  by_cases hv : bitOf s.cap.viol.toNat f = true
  · rw [State.fieldViolated_again hv]
  · rw [State.fieldViolated_new (by simpa using hv)]
    obtain ⟨l, k, hcap⟩ := s.violation_cap f ut fine
    rw [hcap]
    rfl

theorem bitOf_flag16_eq {f : Nat} (hf : f < 16) (g : Nat) : bitOf (flag16 f).toNat g = decide (g = f) := by
  rw [bitOf, flag16, BitVec.toNat_ofNat, Nat.testBit_mod_two_pow, Nat.testBit_two_pow]
  by_cases h : f = g
  · simp [h ▸ hf, h]
  · simp [h, Ne.symm h]

theorem State.fieldMarked_viol (s : State) {f : Nat} (hf : f < 16) (g : Nat) :
    bitOf (s.fieldMarked f).cap.viol.toNat g = (bitOf s.cap.viol.toNat g || decide (g = f)) := by
  refine (bitOf_or _ _ _).trans ?_
  rw [bitOf_flag16_eq hf]

/-- Of the fields the violated one is marked, and no other. -/
theorem State.fieldViolated_viol (s : State) {f : Nat} (hf : f < 16) (ut fine g : Nat) :
    bitOf (s.fieldViolated f ut fine).cap.viol.toNat g = (bitOf s.cap.viol.toNat g || decide (g = f)) := by
  by_cases hv : bitOf s.cap.viol.toNat f = true
  · rw [State.fieldViolated_again hv]
    by_cases hg : g = f
    · simp [hg, hv]
    · simp [hg]
  · rw [State.fieldViolated_new (by simpa using hv)]
    obtain ⟨l, k, hcap⟩ := s.violation_cap f ut fine
    rw [hcap]
    exact s.fieldMarked_viol hf g

/-- A new violation in a field of the active set drops the outputs (R361). -/
theorem State.fieldViolated_drops {s : State} {f : Nat} (hf : f < 16) (ha : bitOf s.activeFields.toNat f = true)
    (hv : bitOf s.cap.viol.toNat f = false) (ut fine : Nat) : (s.fieldViolated f ut fine).cap.ossd = false := by
  have hcap := s.violationNoted_cap f ut fine
  have hmarked : bitOf (s.violationNoted f ut fine).cap.viol.toNat f = true := by
    rw [hcap]
    exact (s.fieldMarked_viol hf f).trans (by simp)
  have hset : (s.violationNoted f ut fine).cap.set = s.cap.set := by
    rw [hcap]
    rfl
  have hregs : (s.violationNoted f ut fine).regs = s.regs := by simp [State.violationNoted, State.fieldMarked]
  rw [State.fieldViolated_new hv]
  exact State.ossdCheck_low (State.not_ossdOk_of_violated hmarked (by rw [State.activeFields_of_regs hregs hset, ha]))

/-! ## A point and one field (R358, R359) -/

/-- Field `f` has counted one more point. -/
def State.fieldCounted (s : State) (f : Nat) : State :=
  s.modCap (fun c => { c with violN := fset 0 c.violN f (fget 0 s.cap.violN f + 1) })

theorem State.fieldCounted_violN (s : State) (f : Nat) :
    (s.fieldCounted f).cap.violN = fset 0 s.cap.violN f (fget 0 s.cap.violN f + 1) := rfl

theorem State.fieldPoint_without {s : State} {p : Point} {f : Nat} (h : s.countsIn p f = false) : s.fieldPoint p f = s :=
  if_neg (by rw [State.countsIn] at h; simp [h])

theorem State.fieldPoint_counts {s : State} {p : Point} {f : Nat} (h : s.countsIn p f = true) : s.fieldPoint p f =
    if s.fld (Reg.CAP_FIELD_CTL + 4 * f) 7 0 < fget 0 s.cap.violN f + 1 then (s.fieldCounted f).fieldViolated f p.ut p.fine
    else s.fieldCounted f := if_pos h

theorem State.fieldCounted_moves (s : State) (f : Nat) : FieldsMove s (s.fieldCounted f) :=
  ⟨(s.modCap_unchanged _).mono (by decide), s.modCap_keepsClock _, rfl, rfl, rfl, fun _ => id, id⟩

theorem State.fieldPoint_moves (s : State) (p : Point) (f : Nat) : FieldsMove s (s.fieldPoint p f) := by
  cases h : s.countsIn p f with
  | false =>
    rw [State.fieldPoint_without h]
    exact .refl s
  | true =>
    rw [State.fieldPoint_counts h]
    split
    · exact (s.fieldCounted_moves f).trans (State.fieldViolated_moves _ _ _ _)
    · exact s.fieldCounted_moves f

theorem State.fieldPoint_violN (s : State) (p : Point) (f g : Nat) : fget 0 (s.fieldPoint p f).cap.violN g =
    fget 0 s.cap.violN g + if g = f then b2n (s.countsIn p f) else 0 := by
  cases h : s.countsIn p f with
  | false =>
    rw [State.fieldPoint_without h]
    simp [b2n]
  | true =>
    have hn : (s.fieldPoint p f).cap.violN = (s.fieldCounted f).cap.violN := by
      rw [State.fieldPoint_counts h]
      split
      · exact State.fieldViolated_violN _ _ _ _
      · rfl
    rw [hn, State.fieldCounted_violN, fget_fset]
    split
    · simp [*, b2n]
    · rfl

theorem State.fieldPoint_exceeds {s : State} {p : Point} {f : Nat} (hf : f < 16) (h : s.countsIn p f = true)
    (htol : s.fld (Reg.CAP_FIELD_CTL + 4 * f) 7 0 < fget 0 s.cap.violN f + 1) :
    bitOf (s.fieldPoint p f).cap.viol.toNat f = true ∧
      (bitOf s.cap.viol.toNat f = false → (s.fieldPoint p f).cap.ossd = false) := by
  rw [State.fieldPoint_counts h, if_pos htol]
  refine ⟨(State.fieldViolated_viol _ hf _ _ f).trans (by simp), fun hv =>
    State.fieldViolated_drops (s := s.fieldCounted f) hf ?_ hv _ _⟩
  rw [(s.fieldCounted_moves f).activeFields]
  exact (Bool.and_eq_true_iff.mp h).1

theorem State.fieldPoint_others (s : State) (p : Point) {f g : Nat} (hf : f < 16) (hg : g ≠ f) :
    bitOf (s.fieldPoint p f).cap.viol.toNat g = bitOf s.cap.viol.toNat g := by
  cases h : s.countsIn p f with
  | false => rw [State.fieldPoint_without h]
  | true =>
    rw [State.fieldPoint_counts h]
    split
    · rw [State.fieldViolated_viol _ hf, decide_eq_false hg, Bool.or_false]
      rfl
    · rfl

/-! ## A point and every field -/

/-- In `u` the point `p` has been tested in `s` against the fields below `n`. -/
structure PointTested (p : Point) (n : Nat) (s u : State) : Prop where
  moves : FieldsMove s u
  counted : ∀ f, fget 0 u.cap.violN f = fget 0 s.cap.violN f + if f < n then b2n (s.countsIn p f) else 0
  later : ∀ f, n ≤ f → bitOf u.cap.viol.toNat f = bitOf s.cap.viol.toNat f
  violated : ∀ f, f < n → s.countsIn p f = true → s.fld (Reg.CAP_FIELD_CTL + 4 * f) 7 0 < fget 0 s.cap.violN f + 1 →
    bitOf u.cap.viol.toNat f = true ∧ (bitOf s.cap.viol.toNat f = false → u.cap.ossd = false)

theorem pointTested (s : State) (p : Point) {n : Nat} (hn : n ≤ 16) :
    PointTested p n s (forN n s (fun s f => s.fieldPoint p f)) := by
  induction n with
  | zero => exact ⟨.refl s, fun f => by simp [forN], fun _ _ => rfl, fun f hf => absurd hf (Nat.not_lt_zero f)⟩
  | succ n ih =>
    have ih := ih (by omega)
    rw [forN_succ]
    generalize forN n s (fun s f => s.fieldPoint p f) = x at ih ⊢
    have hstep := x.fieldPoint_moves p n
    have hcounts := ih.moves.countsIn p n
    have hbefore : fget 0 x.cap.violN n = fget 0 s.cap.violN n := by simpa using ih.counted n
    refine ⟨ih.moves.trans hstep, fun f => ?_, fun f hf => ?_, fun f hf hc htol => ?_⟩
    · rw [State.fieldPoint_violN, ih.counted, hcounts]
      by_cases hlast : f = n
      · simp [hlast]
      · simp [hlast, show f < n + 1 ↔ f < n by omega]
    · rw [x.fieldPoint_others p (by omega) (by omega), ih.later f (by omega)]
    · obtain rfl | hearlier : f = n ∨ f < n := by omega
      · obtain ⟨hviol, hdrop⟩ := x.fieldPoint_exceeds (by omega) (hcounts.trans hc)
          (by rwa [ih.moves.fld, hbefore])
        exact ⟨hviol, fun hnew => hdrop ((ih.later f (Nat.le_refl f)).trans hnew)⟩
      · obtain ⟨hviol, hdrop⟩ := ih.violated f hearlier hc htol
        exact ⟨hstep.viol f hviol, fun hnew => hstep.low (hdrop hnew)⟩

end Sys2Proof.Machine
end

section
/-! PROOFS. FIELD_TEST, GUARD_STALE and FIELD_CRC_SWEEP (R358 to R360, R364), and O48. -/

namespace Sys2Proof.Machine

/-! ## FIELD_TEST (R358) -/

/-- The oldest point is taken; `rest` still waits. -/
def State.pointTaken (s : State) (rest : List Point) : State := s.modCap (fun c => { c with tests := rest })

theorem State.fieldTest_point {s : State} {p : Point} {rest : List Point} (h : s.cap.tests = p :: rest) :
    s.fieldTest = forN 16 (s.pointTaken rest) (fun s f => s.fieldPoint p f) := by
  rw [State.fieldTest, h]
  rfl

theorem fieldTest_without (t : Nat) {s : State} (h : (s.at t).cap.tests = []) :
    Completes (.fieldTest t) s fun u => u = s.at t :=
  .of_next (u := (s.at t).fieldTest) rfl (by rw [State.fieldTest, h])

theorem fieldTest_tests (t : Nat) {s : State} {p : Point} {rest : List Point} (h : s.cap.tests = p :: rest) :
    Completes (.fieldTest t) s fun u => u.cap.tests = rest ∧
      (∀ f, f < 16 → fget 0 u.cap.violN f = fget 0 s.cap.violN f + b2n (s.countsIn p f) ∧
        (bitOf s.cap.viol.toNat f = true → bitOf u.cap.viol.toNat f = true) ∧
        (s.countsIn p f = true → s.fld (Reg.CAP_FIELD_CTL + 4 * f) 7 0 < fget 0 s.cap.violN f + 1 →
          bitOf u.cap.viol.toNat f = true ∧ (bitOf s.cap.viol.toNat f = false → u.cap.ossd = false))) ∧
      Unchanged recording s u := by
  refine .of_next (u := (s.at t).fieldTest) rfl ?_
  rw [State.fieldTest_point ((s.at_cap_tests t).trans h)]
  have hframe : Unchanged recording s ((s.at t).pointTaken rest) :=
    (s.at_unchanged t).trans ((State.modCap_unchanged _ _).mono (by decide))
  have hcounts := State.countsIn_of_regs (u := (s.at t).pointTaken rest) (s.at_regs t) (s.at_cap_set t) p
  have hfld (off : Nat) : ((s.at t).pointTaken rest).fld off 7 0 = s.fld off 7 0 := s.at_fld t off 7 0
  have hviolN : ((s.at t).pointTaken rest).cap.violN = s.cap.violN := s.at_cap_violN t
  have hviol : ((s.at t).pointTaken rest).cap.viol = s.cap.viol := s.at_cap_viol t
  have htests : ((s.at t).pointTaken rest).cap.tests = rest := rfl
  generalize (s.at t).pointTaken rest = x at hframe hcounts hfld hviolN hviol htests ⊢
  obtain ⟨hmoves, hcounted, -, hviolated⟩ := pointTested x p (Nat.le_refl 16)
  refine ⟨hmoves.tests.trans htests, fun f hf => ⟨?_, fun hv => hmoves.viol f (by rwa [hviol]), ?_⟩,
    hframe.trans (hmoves.parts.mono (by decide))⟩
  · rw [hcounted, if_pos hf, hcounts, hviolN]
  · simpa only [hcounts, hfld, hviolN, hviol] using hviolated f hf

/-! ## GUARD_STALE (R360) -/

/-- The staleness is noted and flagged. -/
def State.staleNoted (s : State) : State := (s.modCap (fun c => { c with stale := true })).event Reg.CAP_STAT 8 {}

/-- A field of the active set is violated by the staleness. -/
def State.staleField (s : State) (f : Nat) : State :=
  if bitOf s.activeFields.toNat f then s.fieldViolated f s.utime 0 else s

/-- In `u` the fields of the active set below `n` are violated. -/
structure FieldsStale (n : Nat) (s u : State) : Prop where
  moves : FieldsMove s u
  violated : ∀ f, f < n → bitOf s.activeFields.toNat f = true → bitOf u.cap.viol.toNat f = true

theorem State.staleField_moves (s : State) (f : Nat) : FieldsMove s (s.staleField f) := by
  unfold State.staleField
  split
  · exact s.fieldViolated_moves f _ _
  · exact .refl s

theorem fieldsStale (s : State) {n : Nat} (hn : n ≤ 16) : FieldsStale n s (forN n s State.staleField) := by
  induction n with
  | zero => exact ⟨.refl s, fun f hf => absurd hf (Nat.not_lt_zero f)⟩
  | succ n ih =>
    have ih := ih (by omega)
    rw [forN_succ]
    generalize forN n s State.staleField = x at ih ⊢
    have hstep := x.staleField_moves n
    refine ⟨ih.moves.trans hstep, fun f hf ha => ?_⟩
    obtain rfl | hearlier : f = n ∨ f < n := by omega
    · rw [State.staleField, if_pos (by rw [ih.moves.activeFields, ha]), State.fieldViolated_viol _ (by omega)]
      simp
    · exact hstep.viol f (ih.violated f hearlier ha)

theorem exec_guardStale {s : State} {a : Nat} (t : Nat) (hopen : s.pix.first = some a) (hguard : s.mode.active = .guard)
    (hfresh : s.cap.stale = false) : exec (.guardStale t) s =
      .next (forN 16 (s.at (max t (a + usT (clampN 100 4000 (s.fld Reg.CAP_GUARD_TMO 12 0))))).staleNoted
        State.staleField) := by
  change execGuardStale t s = _
  unfold execGuardStale
  simp only [hopen]
  rw [if_pos (by simp [hguard, hfresh])]
  rfl

theorem guardStale_violates (t : Nat) {s : State} {a : Nat} (hopen : s.pix.first = some a)
    (hguard : s.mode.active = .guard) (hfresh : s.cap.stale = false) : Completes (.guardStale t) s fun u =>
      u.now = max s.now (max t (a + usT (clampN 100 4000 (s.fld Reg.CAP_GUARD_TMO 12 0)))) ∧ u.cap.stale = true ∧
      u.shows Reg.CAP_STAT 8 ∧ (∀ f, f < 16 → bitOf s.activeFields.toNat f = true → bitOf u.cap.viol.toNat f = true) ∧
      Unchanged recording s u := by
  refine .of_next (exec_guardStale t hopen hguard hfresh) ?_
  generalize max t (a + usT (clampN 100 4000 (s.fld Reg.CAP_GUARD_TMO 12 0))) = due
  have hcap : (s.at due).staleNoted.cap = { (s.at due).cap with stale := true } := State.capEvent_cap _ (by decide) _
  have hshown : (s.at due).staleNoted.shows Reg.CAP_STAT 8 := State.event_shows _ _ (by decide) _
  have hnow : (s.at due).staleNoted.now = max s.now due := (State.event_now _ _ _ _).trans (s.at_now due)
  have hframe : Unchanged recording s (s.at due).staleNoted :=
    ((s.at_unchanged due).trans ((State.modCap_unchanged _ _).mono (by decide))).trans (State.event_recording _ _ _ _)
  have hactive : (s.at due).staleNoted.activeFields = s.activeFields :=
    State.activeFields_of_regs (hframe .regs (by decide)) (by rw [hcap]; exact s.at_cap_set due)
  obtain ⟨hmoves, hviolated⟩ := fieldsStale (s.at due).staleNoted (Nat.le_refl 16)
  rw [hactive] at hviolated
  exact ⟨hmoves.clock.now.trans hnow, by rw [hmoves.stale, hcap], hmoves.clock.shows _ _ hshown, hviolated,
    hframe.trans (hmoves.parts.mono (by decide))⟩

theorem guardStale_without (t : Nat) {s : State} (hnone : s.pix.first = none) (hruns : s.wheelRuns = true) :
    Completes (.guardStale t) s fun u => u = s.at t := by
  refine .of_next (u := s.at t) ?_ rfl
  change execGuardStale t s = _
  unfold execGuardStale
  simp only [hnone, hruns, if_true]

/-! ## FIELD_CRC_SWEEP (R364) -/

section
variable {s u : State} (h : u.regs = s.regs)
include h

theorem State.fieldMembers_of_regs : u.fieldMembers = s.fieldMembers := by
  unfold State.fieldMembers State.reg
  rw [h]

theorem State.rangesBad_of_regs : u.rangesBad = s.rangesBad := by
  unfold State.rangesBad State.reg
  rw [h]

end

/-- A sweep has completed: its CRC `c` is recorded and compared, the ranges are judged. -/
def State.sweepDone (s : State) (c : Nat) : State :=
  (s.putWide Id.CAP_FIELD_CRC_LAST c).modCap (fun x => { x with
    fieldSweepAt := s.now, sweepOk := x.refWritten && decide (c = s.wideN Id.CAP_FIELD_CRC_REF)
    rangesOk := !s.rangesBad })

theorem State.sweepDone_cap (s : State) (c : Nat) : (s.sweepDone c).cap = { s.cap with
    fieldSweepAt := s.now, sweepOk := s.cap.refWritten && decide (c = s.wideN Id.CAP_FIELD_CRC_REF)
    rangesOk := !s.rangesBad } := by
  rw [State.sweepDone, State.modCap_cap, State.putWide_cap]

theorem State.sweepDone_unchanged (s : State) (c : Nat) : Unchanged [.wide, .deferred, .recent, .cap] s (s.sweepDone c) :=
  ((s.updWide_unchanged _ _).mono (by decide)).trans ((State.modCap_unchanged _ _).mono (by decide))

/-- CAP_FIELD_CRC_LAST holds the CRC of the sweep, unless a mailbox holds it frozen. -/
theorem State.sweepDone_last {s : State} (hf : s.isFrozen Id.CAP_FIELD_CRC_LAST = false) (c : Nat) :
    bitsOf ((s.sweepDone c).wideRaw Id.CAP_FIELD_CRC_LAST).toNat 31 0 = c % 2 ^ 32 := by
  have hraw : (s.sweepDone c).wideRaw Id.CAP_FIELD_CRC_LAST =
      (s.putWide Id.CAP_FIELD_CRC_LAST c).wideRaw Id.CAP_FIELD_CRC_LAST :=
    (State.modCap_unchanged _ _).wideRaw (by decide) _
  have hbits : idBits Id.CAP_FIELD_CRC_LAST = 32 := by decide
  rw [hraw, State.putWide, (State.updWide_free _ hf).2, if_pos rfl]
  simp only [hbits, WideUpd.apply, bitsOf, BitVec.toNat_ofNat, Nat.shiftRight_zero]
  omega

theorem State.fieldJudged_cap (s : State) (was : Bool) :
    ∃ o k, (s.fieldJudged was).cap = { s.cap with ossd := o, okSince := k } := by
  have hevent : (s.event Reg.CAP_STAT 11 {}).cap = s.cap := State.capEvent_cap _ (by decide) _
  unfold State.fieldJudged
  dsimp only
  split
  · split
    · exact ⟨_, _, by rw [State.ossdCheck_cap, State.stopBurst, hevent]⟩
    · exact ⟨s.cap.ossd, s.cap.okSince, hevent⟩
  · exact ⟨_, _, s.ossdCheck_cap⟩

theorem State.fieldJudged_unchanged (s : State) (was : Bool) : Unchanged (.emt :: eventParts) s (s.fieldJudged was) := by
  have hcheck (x : State) : Unchanged (.emt :: eventParts) x x.ossdCheck := x.ossdCheck_unchanged.mono (by decide)
  have hstop (x : State) : Unchanged (.emt :: eventParts) x x.stopBurst := (x.setEmt_unchanged _).mono (by decide)
  exact .ite (.thenIf ((s.event_unchanged _ _ _).mono (by decide)) ((hstop _).trans (hcheck _))) (hcheck s)

/-- A configuration that turns invalid is flagged; in GUARD the outputs drop. -/
theorem State.fieldJudged_invalid {s : State} (h : s.fieldValid = false) : (s.fieldJudged true).shows Reg.CAP_STAT 11 ∧
    (s.mode.active = .guard → (s.fieldJudged true).cap.ossd = false) := by
  have hshown : (s.event Reg.CAP_STAT 11 {}).shows Reg.CAP_STAT 11 := State.event_shows _ _ (by decide) _
  have hevent : (s.event Reg.CAP_STAT 11 {}).cap = s.cap := State.capEvent_cap _ (by decide) _
  have hinvalid : (s.event Reg.CAP_STAT 11 {}).stopBurst.fieldValid = false := by
    rw [State.fieldValid, State.stopBurst, hevent]
    exact h
  have hjudged : s.fieldJudged true = if s.mode.active = .guard then (s.event Reg.CAP_STAT 11 {}).stopBurst.ossdCheck
      else s.event Reg.CAP_STAT 11 {} := by
    rw [State.fieldJudged, if_pos (by simp [h])]
    dsimp only
    rw [State.event_mode]
  rw [hjudged]
  by_cases hguard : s.mode.active = .guard
  · rw [if_pos hguard]
    exact ⟨(State.ossdCheck_keepsClock _).shows _ _ ((State.shows_of_stat rfl _ _).mpr hshown),
      fun _ => State.ossdCheck_low (State.not_ossdOk_of_invalid hinvalid)⟩
  · rw [if_neg hguard]
    exact ⟨hshown, fun hg => absurd hg hguard⟩

theorem exec_fieldCrcSweep (t : Nat) {s : State} (h : s.mode.active ≠ .standby) : exec (.fieldCrcSweep t) s =
    .next (((s.at (max t (s.cap.fieldSweepAt + 65536 * s.pclk))).sweepDone (crcMembersOf s.fieldMembers)).fieldJudged
      s.fieldValid) := by
  rw [← State.at_fieldValid s (max t (s.cap.fieldSweepAt + 65536 * s.pclk)),
    ← State.fieldMembers_of_regs (s.at_regs (max t (s.cap.fieldSweepAt + 65536 * s.pclk)))]
  exact if_neg h

theorem fieldCrcSweep_judges (t : Nat) {s : State} (h : s.mode.active ≠ .standby) :
    Completes (.fieldCrcSweep t) s fun u => let c := crcMembersOf s.fieldMembers
      u.now = max s.now (max t (s.cap.fieldSweepAt + 65536 * s.pclk)) ∧ u.cap.fieldSweepAt = u.now ∧
      u.cap.sweepOk = (s.cap.refWritten && decide (c = s.wideN Id.CAP_FIELD_CRC_REF)) ∧ u.cap.rangesOk = !s.rangesBad ∧
      (s.isFrozen Id.CAP_FIELD_CRC_LAST = false → bitsOf (u.wideRaw Id.CAP_FIELD_CRC_LAST).toNat 31 0 = c % 2 ^ 32) ∧
      (s.fieldValid = true → u.fieldValid = false → u.shows Reg.CAP_STAT 11 ∧ (s.mode.active = .guard → u.cap.ossd = false)) ∧
      Unchanged ([.emt] ++ recording) s u := by
  refine .of_next (exec_fieldCrcSweep t h) ?_
  generalize crcMembersOf s.fieldMembers = c
  generalize max t (s.cap.fieldSweepAt + 65536 * s.pclk) = due
  have hcap := (s.at due).sweepDone_cap c
  rw [State.at_wideN s due (by decide), State.rangesBad_of_regs (s.at_regs due), State.at_cap_refWritten] at hcap
  have hdone := (s.at due).sweepDone_unchanged c
  have hlast := State.sweepDone_last (s := s.at due) (c := c)
  rw [State.at_isFrozen] at hlast
  have hframe : Unchanged recording s ((s.at due).sweepDone c) := (s.at_unchanged due).trans (hdone.mono (by decide))
  have hnow : ((s.at due).sweepDone c).now = (s.at due).now := hdone.now (by decide)
  have hmode : ((s.at due).sweepDone c).mode = s.mode := hframe .mode (by decide)
  have hat := s.at_now due
  generalize (s.at due).sweepDone c = x at hcap hlast hframe hnow hmode ⊢
  obtain ⟨o, k, hjudged⟩ := x.fieldJudged_cap s.fieldValid
  have hparts := x.fieldJudged_unchanged s.fieldValid
  have hend : (x.fieldJudged s.fieldValid).now = (s.at due).now := (hparts.now (by decide)).trans hnow
  refine ⟨hend.trans hat, ?_, ?_, ?_, fun hf => ?_, fun hwas hinvalid => ?_,
    (hframe.mono (by decide)).trans (hparts.mono (by decide))⟩
  · rw [hend, hjudged, hcap]
  · rw [hjudged, hcap]
  · rw [hjudged, hcap]
  · rw [hparts.wideRaw (by decide), hlast hf]
  · have hturned : x.fieldValid = false := by
      rw [State.fieldValid, hjudged] at hinvalid
      exact hinvalid
    rw [hwas, ← hmode]
    exact State.fieldJudged_invalid hturned

theorem fieldCrcSweep_standby (t : Nat) {s : State} (h : s.mode.active = .standby) :
    Completes (.fieldCrcSweep t) s fun u => u = s.at t := .of_next (if_pos h) rfl

/-! ## The family's guard half -/

/-- Settles O48: each command by what it does in the states of its clause. -/
theorem protectiveFieldsAndOutputs : Obligations.ProtectiveFieldsAndOutputs :=
  ⟨fun t _ => fieldTest_without t, fun t _ _ _ => fieldTest_tests t, fun t _ _ => guardStale_violates t,
    fun t _ => guardStale_without t, fun t _ => fieldCrcSweep_judges t, fun t _ => fieldCrcSweep_standby t,
    fun t p _ hg => ⟨ossdRestart_raises t p hg, ossdRestart_refused t p hg⟩,
    fun t _ _ => ossdAutoRestart_raises t, fun t _ => ossdAutoRestart_never t,
    fun t _ => ossdFeedbackMismatch_trips t, fun t _ => ossdFeedbackMismatch_unchecked t, ossdFeedbackAgree_ends⟩

end Sys2Proof.Machine
end

section
/-! PROOFS. The Coil's network: what packets, reports and alignment states leave of it, and what an enumeration and a new
topology change (R385, R390 to R394, R398, R407). -/

namespace Sys2Proof.Machine

/-! ## Ports, root and routes as time passes -/

section
variable (s : State) (t : Nat)

@[simp] theorem State.at_coilOn : (s.at t).coilOn = s.coilOn := by simp [State.coilOn]

@[simp] theorem State.at_coilUp (p : Nat) : (s.at t).coilUp p = s.coilUp p := by simp [State.coilUp]

@[simp] theorem State.at_coilRoot : (s.at t).coilRoot = s.coilRoot := by simp [State.coilRoot, State.at_bit]

@[simp] theorem State.at_coilRoute (dst : Nat) : (s.at t).coilRoute dst = s.coilRoute dst := by
  have hhigher : (s.at t).coilHigher = s.coilHigher := by simp [State.coilHigher]
  simp only [State.coilRoute, State.at_coil, hhigher]

@[simp] theorem State.at_coilSeq (cls : Nat) : (s.at t).coilSeq cls = s.coilSeq cls := by simp [State.coilSeq]

end

/-! ## Changes that leave the network -/

/-- The Coil block without what packets, reports and alignment states change. -/
def Coil.net (c : Coil) : Coil :=
  { c with
    align := 0, lostReason := 0, offs := [], holdOffs := [], driftN := 0, stepPend := 0
    pktSeq := [], sent := [], statusAt := 0, nodeAt := [] }

/-- From `s` to `u` the Coil sends, reports or changes its alignment: the rest of its block is kept, with the tick, the pins,
the registers and every event shown. -/
structure NetKept (s u : State) : Prop where
  net : u.coil.net = s.coil.net
  clock : KeepsClock s u

namespace NetKept

theorem of_coil {s u : State} (h : u.coil = s.coil) (k : KeepsClock s u) : NetKept s u := ⟨congrArg Coil.net h, k⟩

theorem refl (s : State) : NetKept s s := of_coil rfl (.refl s)

theorem trans {a b c : State} (h : NetKept a b) (k : NetKept b c) : NetKept a c :=
  ⟨k.net.trans h.net, h.clock.trans k.clock⟩

theorem ite {s x y : State} {c : Prop} [Decidable c] (hx : NetKept s x) (hy : NetKept s y) :
    NetKept s (if c then x else y) := by
  split
  · exact hx
  · exact hy

/-- A further step that is taken under a condition only. -/
theorem thenIf {s x y : State} {c : Prop} [Decidable c] (hx : NetKept s x) (hy : NetKept x y) :
    NetKept s (if c then y else x) := ite (hx.trans hy) hx

theorem foldl {α : Type} (l : List α) {f : State → α → State} (h : ∀ s a, NetKept s (f s a)) (s : State) :
    NetKept s (l.foldl f s) := by
  induction l generalizing s with
  | nil => exact refl s
  | cons a l ih => exact (h s a).trans (ih _)

/-- One change of the network made on both sides. -/
theorem modCoil {s u : State} (h : NetKept s u) {f : Coil → Coil} (hf : ∀ c, (f c).net = (f c.net).net) :
    NetKept (s.modCoil f) (u.modCoil f) where
  net := by rw [State.modCoil_coil, State.modCoil_coil, hf, h.net, ← hf]
  clock := (KeepsClock.of_same (s := s.modCoil f) (u := s) rfl).trans (h.clock.trans (u.modCoil_keepsClock f))

section
variable {s u : State} (h : NetKept s u)
include h

theorem link : u.coil.link = s.coil.link := (congrArg Coil.link h.net :)
theorem addr : u.coil.addr = s.coil.addr := (congrArg Coil.addr h.net :)
theorem yielded : u.coil.yielded = s.coil.yielded := (congrArg Coil.yielded h.net :)
theorem ring : u.coil.ring = s.coil.ring := (congrArg Coil.ring h.net :)
theorem topo : u.coil.topo = s.coil.topo := (congrArg Coil.topo h.net :)
theorem enumAt : u.coil.enumAt = s.coil.enumAt := (congrArg Coil.enumAt h.net :)
theorem enumPhase : u.coil.enumPhase = s.coil.enumPhase := (congrArg Coil.enumPhase h.net :)
theorem enumSplit : u.coil.enumSplit = s.coil.enumSplit := (congrArg Coil.enumSplit h.net :)

/-- The unit stays the root, or stays none. -/
theorem coilRoot : u.coilRoot = s.coilRoot := by
  unfold State.coilRoot State.bit State.reg
  rw [h.clock.regs, h.clock.pins, h.yielded]

end

end NetKept

/-! ## Packets, reports and alignment -/

section
variable (s : State)

theorem State.event_net (off b : Nat) (i : Info) : NetKept s (s.event off b i) :=
  .of_coil (s.event_coil off b i) (s.event_keepsClock off b i)

theorem State.putWide_net (id v : Nat) : NetKept s (s.putWide id v) :=
  .of_coil (s.putWide_coil id v) (s.updWide_keepsClock id _)

/-- A change of the Coil block beside its network. -/
theorem State.modCoil_net {f : Coil → Coil} (hf : (f s.coil).net = s.coil.net) : NetKept s (s.modCoil f) :=
  ⟨hf, s.modCoil_keepsClock f⟩

theorem State.coilSend_net (x : CoilPkt) : NetKept s (s.coilSend x) := .ite (s.modCoil_net rfl) (.refl s)

theorem State.coilOut_net (port cls typ dst : Nat) (l : List (BitVec 128)) : NetKept s (s.coilOut port cls typ dst l) := by
  unfold State.coilOut State.coilSeqUsed
  exact (s.coilSend_net _).trans (State.modCoil_net _ rfl)

theorem State.coilTo_net (cls typ dst : Nat) (l : List (BitVec 128)) : NetKept s (s.coilTo cls typ dst l) := by
  unfold State.coilTo
  split
  · exact s.coilOut_net _ _ _ _ _
  · exact .refl s

theorem State.coilBcast_net (cls typ : Nat) (l : List (BitVec 128)) : NetKept s (s.coilBcast cls typ l) := by
  unfold State.coilBcast
  exact ((NetKept.ite (.refl s) (s.coilSend_net _)).trans (State.coilSend_net _ _)).trans (State.modCoil_net _ rfl)

theorem State.coilReport_net (a w f o : Nat) : NetKept s (s.coilReport a w f o) := by
  unfold State.coilReport
  exact .thenIf ((s.putWide_net _ _).trans (State.modCoil_net _ rfl)) (State.event_net _ _ _ _)

theorem State.coilStatus_net : NetKept s s.coilStatus := by
  unfold State.coilStatus
  exact .ite ((s.modCoil_net rfl).trans (.ite (State.coilReport_net _ _ _ _ _) (State.coilTo_net _ _ _ _ _))) (.refl s)

theorem State.coilAlignSet_net (st : Nat) : NetKept s (s.coilAlignSet st) := by
  have hshown (x : State) (i j : Info) : NetKept x
      (if st = 2 then x.event Reg.COIL_STAT 6 i else if st = 4 then x.event Reg.COIL_STAT 7 j else x) :=
    .ite (x.event_net _ _ _) (.ite (x.event_net _ _ _) (.refl x))
  unfold State.coilAlignSet
  exact .ite (.refl s) (((s.modCoil_net rfl).trans (hshown _ _ _)).trans (State.coilStatus_net _))

theorem State.coilFilter_net : NetKept s s.coilFilter := s.modCoil_net rfl

theorem State.coilCheck_net : NetKept s s.coilCheck := by
  have hacquire : NetKept s s.coilAcquire := s.coilFilter_net.trans (State.coilAlignSet_net _ _)
  unfold State.coilCheck
  exact .ite (.ite (.refl s) (s.coilFilter_net.trans (State.coilAlignSet_net _ _)))
    (.ite (s.coilAlignSet_net _) (.ite hacquire (.refl s)))

end

/-! ## A topology in force (R392, R394) -/

/-- The Coil block with this topology and address. -/
def Coil.taken (c : Coil) (ring : Bool) (l : List Nat) (addr : Nat) : Coil := { c with topo := l, ring, addr }

/-- Topology and address are in force, shown in COIL_TOPO and flagged. -/
def State.coilTaken (s : State) (ring : Bool) (l : List Nat) (addr : Nat) : State :=
  ((s.modCoil (fun c => c.taken ring l addr)).putWide Id.COIL_TOPO (coilTopoWord l)).event Reg.COIL_STAT 0 {}

/-- What follows a new topology keeps it. -/
theorem State.coilTake_keeps (s : State) (ring : Bool) (l : List Nat) (addr : Nat) :
    NetKept (s.coilTaken ring l addr) (s.coilTake ring l addr) := by
  have hcon (x : State) (f : Consumer → Consumer) : NetKept x (x.modCon 2 f) := .of_coil rfl (.of_same rfl)
  unfold State.coilTake
  refine NetKept.trans ?_ (State.coilCheck_net _)
  exact .thenIf (.thenIf (.refl (s.coilTaken ring l addr)) (State.event_net _ _ _ _))
    ((hcon _ _).trans (State.event_net _ _ _ _))

theorem State.coilTake_net (s : State) (ring : Bool) (l : List Nat) (addr : Nat) :
    NetKept (s.modCoil (fun c => c.taken ring l addr)) (s.coilTake ring l addr) :=
  ((State.putWide_net _ _ _).trans (State.event_net _ _ _ _)).trans (s.coilTake_keeps ring l addr)

theorem State.coilTake_shows (s : State) (ring : Bool) (l : List Nat) (addr : Nat) :
    (s.coilTake ring l addr).shows Reg.COIL_STAT 0 :=
  (s.coilTake_keeps ring l addr).clock.shows _ _ (State.event_shows _ _ (by decide) _)

/-! ## Enumeration (R392, R393) -/

/-- The topology of a completed list: a RING's as it is; in a LINE the `n` units behind the root's port 1 in reverse, the
root, then those behind port 0 (log 22). -/
def enumOrder (ring : Bool) (n : Nat) (l : List Nat) : List Nat :=
  if ring then l else (((l.drop 1).take n).reverse ++ [1]) ++ l.drop (1 + n)

/-- The Coil block of a root that has completed an enumeration. -/
def Coil.enumerated (c : Coil) (ring : Bool) (mask : BitVec 16) (l : List Nat) : Coil :=
  { c with
    enumPhase := 0, retryAt := none, enumMask := mask, enumList := l, ring
    topo := enumOrder ring c.enumSplit l, addr := 1 }

/-- The list is closed and its TOPO broadcast; units past the sixteenth address are flagged. -/
def State.coilTopoSent (s : State) (ring : Bool) (mask : BitVec 16) (l : List Nat) : State :=
  let x := (s.modCoil (fun c => { c with enumPhase := 0, retryAt := none, enumMask := mask, enumList := l, ring })).coilBcast
    0 2 (coilList (BitVec.ofNat 16 (b2n ring)) (enumOrder ring s.coil.enumSplit l))
  if coilOver l then x.event Reg.COIL_STAT 5 {} else x

/-- The root takes the topology that it has sent. -/
def State.coilTopoTaken (s : State) (ring : Bool) (mask : BitVec 16) (l : List Nat) : State :=
  (s.coilTopoSent ring mask l).coilTake ring (enumOrder ring s.coil.enumSplit l) 1

theorem State.coilTopoTaken_net (s : State) (ring : Bool) (mask : BitVec 16) (l : List Nat) :
    NetKept (s.modCoil (fun c => c.enumerated ring mask l)) (s.coilTopoTaken ring mask l) := by
  have hsent : NetKept (s.modCoil (fun c => { c with enumPhase := 0, retryAt := none, enumMask := mask, enumList := l, ring }))
      (s.coilTopoSent ring mask l) := .thenIf (State.coilBcast_net _ _ _ _) (State.event_net _ _ _ _)
  exact (hsent.modCoil (f := fun c => c.taken ring (enumOrder ring s.coil.enumSplit l) 1) (fun _ => rfl)).trans
    (State.coilTake_net _ _ _ _)

theorem State.coilEnumDone_eq {s : State} (ring : Bool) (mask : BitVec 16) {l : List Nat} (h : l.length ≤ 24) :
    s.coilEnumDone ring mask l =
      ((enumOrder ring s.coil.enumSplit l).filter (fun a => decide (2 ≤ a) && !s.coil.topo.contains a)).foldl
        (fun s a => s.coilTo 2 0 a (coilTable s.coil.cycle s.coil.act s.coil.sched))
        (s.coilTopoTaken ring mask l).coilStatus := if_neg (by omega)

/-- The root completes an enumeration of at most 24 positions. -/
theorem State.coilEnumDone_net {s : State} (ring : Bool) (mask : BitVec 16) {l : List Nat} (h : l.length ≤ 24) :
    NetKept (s.modCoil (fun c => c.enumerated ring mask l)) (s.coilEnumDone ring mask l) := by
  rw [State.coilEnumDone_eq ring mask h]
  exact ((s.coilTopoTaken_net ring mask l).trans (State.coilStatus_net _)).trans
    (.foldl _ (fun x a => x.coilTo_net _ _ _ _) _)

theorem State.coilEnumFail_coil (s : State) :
    s.coilEnumFail.coil = { s.coil with enumPhase := 0, retryAt := some (s.now + msT 100) } := State.event_coil _ _ _ _

/-- The root's second TOKEN leaves by port 0. -/
theorem State.coilPhase2_net {s : State} (mask : BitVec 16) (l : List Nat) (h : s.coilUp 0 = true) :
    NetKept (s.modCoil (fun c => { c with enumSplit := l.length - 1, enumPhase := 2 })) (s.coilPhase2 mask l) := by
  unfold State.coilPhase2
  rw [if_pos (by exact h)]
  exact State.coilOut_net _ _ _ _ _ _

/-- Without port 0 the LINE is complete. -/
theorem State.coilPhase2_done {s : State} (mask : BitVec 16) (l : List Nat) (h : s.coilUp 0 = false) :
    s.coilPhase2 mask l = (s.modCoil (fun c => { c with enumSplit := l.length - 1 })).coilEnumDone false mask l :=
  if_neg (Bool.not_eq_true _ ▸ h)

/-- From `s` to `u` an enumeration goes on: it began when it did, on the same links, and the unit has yielded to no rival. -/
structure EnumKept (s u : State) : Prop where
  link : u.coil.link = s.coil.link
  yielded : u.coil.yielded = s.coil.yielded
  enumAt : u.coil.enumAt = s.coil.enumAt
  clock : KeepsClock s u

theorem NetKept.enumKept {s u : State} (h : NetKept s u) : EnumKept s u := ⟨h.link, h.yielded, h.enumAt, h.clock⟩

theorem EnumKept.trans {a b c : State} (h : EnumKept a b) (k : EnumKept b c) : EnumKept a c :=
  ⟨k.link.trans h.link, k.yielded.trans h.yielded, k.enumAt.trans h.enumAt, h.clock.trans k.clock⟩

theorem State.coilPhase2_enumKept (s : State) (mask : BitVec 16) {l : List Nat} (h : l.length ≤ 24) :
    EnumKept s (s.coilPhase2 mask l) := by
  have hmod (x : State) (f : Coil → Coil)
      (hf : ((f x.coil).link, (f x.coil).yielded, (f x.coil).enumAt) = (x.coil.link, x.coil.yielded, x.coil.enumAt)) :
      EnumKept x (x.modCoil f) := by
    simp only [Prod.mk.injEq] at hf
    obtain ⟨hlink, hyielded, hat⟩ := hf
    exact ⟨hlink, hyielded, hat, x.modCoil_keepsClock f⟩
  by_cases hup : s.coilUp 0 = true
  · exact (hmod _ _ rfl).trans (State.coilPhase2_net mask l hup).enumKept
  · rw [State.coilPhase2_done mask l (Bool.not_eq_true _ ▸ hup)]
    exact (hmod _ _ rfl).trans ((hmod _ _ rfl).trans (State.coilEnumDone_net false mask h).enumKept)

/-- The root's Coil block at the start of an enumeration. -/
def Coil.enumStarted (c : Coil) (now : Nat) : Coil :=
  { c with enumAt := now, enumPhase := 1, retryAt := none, enumMask := 1, enumList := [1], enumSplit := 0 }

theorem State.coilEnum_other {s : State} (h : s.coilRoot = false) : s.coilEnum = s := if_pos (by simp [h])

theorem State.coilEnum_root {s : State} (h : s.coilRoot = true) :
    EnumKept (s.modCoil (fun c => c.enumStarted s.now)) s.coilEnum := by
  unfold State.coilEnum
  rw [if_neg (by simp [h])]
  by_cases hup : s.coilUp 1 = true
  · rw [if_pos (by exact hup)]
    exact (State.coilOut_net _ _ _ _ _ _).enumKept
  · rw [if_neg (by exact hup)]
    exact State.coilPhase2_enumKept _ _ (by decide)

/-- The root begins an enumeration now. -/
theorem State.coilEnum_starts {s : State} (h : s.coilRoot = true) : s.coilEnum.coil.enumAt = s.coilEnum.now :=
  (State.coilEnum_root h).enumAt.trans (State.coilEnum_root h).clock.now.symm

theorem State.coilEnum_keepsClock {s : State} (h : s.coilRoot = true) : KeepsClock s s.coilEnum :=
  (s.modCoil_keepsClock _).trans (State.coilEnum_root h).clock

end Sys2Proof.Machine
end

section
/-! PROOFS. Enumeration by command: TOKEN, TOKEN_END, TOPO, and what starts, retries and ends it (R391 to R394). -/

namespace Sys2Proof.Machine

/-! ## Packets out of one port -/

theorem State.modCoil_unchanged (s : State) (f : Coil → Coil) : Unchanged [.coil] s (s.modCoil f) := s.setCoil_unchanged _

theorem State.coilSend_unchanged (s : State) (x : CoilPkt) : Unchanged [.coil] s (s.coilSend x) :=
  .ite (s.modCoil_unchanged _) (.refl _ s)

theorem State.coilOut_unchanged (s : State) (port cls typ dst : Nat) (l : List (BitVec 128)) :
    Unchanged [.coil] s (s.coilOut port cls typ dst l) :=
  (s.coilSend_unchanged _).trans (State.modCoil_unchanged _ _)

theorem State.coilSend_up {s : State} {x : CoilPkt} (h : s.coilUp x.port = true) :
    (s.coilSend x).coil = { s.coil with sent := s.coil.sent ++ [x] } := by
  rw [State.coilSend, if_pos h, State.modCoil_coil]

/-! ## TOKEN (R391 to R393) -/

section
variable {s : State} (t : Nat) (p : Fin 2) (m : BitVec 16) (l : List Nat) (st : Bool)

/-- The address that a TOKEN with the mask `m` gives the unit (R393). -/
def State.tokenAddr (s : State) (m : BitVec 16) : Nat :=
  if s.bit Reg.COIL_CTL 0 = false then 0
  else if s.coil.addr ≠ 0 ∧ bitOf m.toNat (s.coil.addr - 1) = false then s.coil.addr else coilFree m

/-- An ordinary unit notes its next address and the port towards the root, and passes the TOKEN on or turns it back. -/
theorem State.coilToken_spec (s : State) (p : Nat) (m : BitVec 16) (l : List Nat) :
    (s.coilToken p m l).coil.rootPort = p ∧ (s.coilToken p m l).coil.addrNext = s.tokenAddr m ∧
      Unchanged [.coil] s (s.coilToken p m l) := by
  have hnoted (a : Nat) := s.modCoil_unchanged (fun c => { c with addrNext := a, rootPort := p })
  have hout (a port typ dst : Nat) (k : List (BitVec 128)) :
      NetKept (s.modCoil (fun c => { c with addrNext := a, rootPort := p }))
        ((s.modCoil (fun c => { c with addrNext := a, rootPort := p })).coilOut port 0 typ dst k) :=
    State.coilOut_net _ _ _ _ _ _
  have haddr : (if (!s.bit Reg.COIL_CTL 0) = true then 0
      else if s.coil.addr ≠ 0 ∧ (!bitOf m.toNat (s.coil.addr - 1)) = true then s.coil.addr else coilFree m) =
      s.tokenAddr m := by simp only [State.tokenAddr, Bool.not_eq_true']
  unfold State.coilToken
  simp only [haddr]
  split
  all_goals exact ⟨(congrArg Coil.rootPort (hout _ _ _ _ _).net :), (congrArg Coil.addrNext (hout _ _ _ _ _).net :),
    (hnoted _).trans (State.coilOut_unchanged _ _ _ _ _ _)⟩

section
variable (hon : s.coilOn = true)
include hon

theorem token_givesAddress (hroot : s.coilRoot = false) (ident : BitVec 64) : Completes (.token t p m l st ident) s fun u =>
    u.coil.rootPort = p ∧ u.coil.addrNext = s.tokenAddr m ∧ Unchanged [.coil] (s.at t) u := by
  have hexec : exec (.token t p m l st ident) s = .next ((s.at t).coilToken p m l) :=
    (if_neg (by simp [hon])).trans (if_pos (by simp [hroot]))
  have hspec := (s.at t).coilToken_spec p m l
  rw [State.tokenAddr, State.at_bit, State.at_coil] at hspec
  exact .of_next hexec hspec

theorem token_closesRing (hroot : s.coilRoot = true) {ident : BitVec 64} (hown : ident = s.pins.unitId)
    (hphase : s.coil.enumPhase = 1) (hp : p = 0) (hl : l.length ≤ 24) : Completes (.token t p m l st ident) s fun u =>
      u.coil.ring = true ∧ u.coil.topo = l ∧ u.coil.addr = 1 ∧ u.coil.enumPhase = 0 := by
  have hexec : exec (.token t p m l st ident) s = .next ((s.at t).coilEnumDone true m l) :=
    ((if_neg (by simp [hon])).trans (if_neg (by simp [hroot]))).trans
      ((if_pos (by simp [hown])).trans (congrArg Host.Outcome.next (if_pos (by simp [hphase, hp]))))
  have hdone := State.coilEnumDone_net (s := s.at t) true m hl
  exact .of_next hexec ⟨hdone.ring, hdone.topo, hdone.addr, hdone.enumPhase⟩

/-- A contest (R391): the unit is strapped and the rival not, or both are alike and its identifier is the lower. -/
def State.winsContest (s : State) (st : Bool) (ident : BitVec 64) : Prop :=
  if bitOf s.pins.straps.toNat 0 = st then s.pins.unitId.toNat < ident.toNat else bitOf s.pins.straps.toNat 0 = true

theorem exec_token_rival (hroot : s.coilRoot = true) {ident : BitVec 64} (hrival : ident ≠ s.pins.unitId)
    [Decidable (s.winsContest st ident)] : exec (.token t p m l st ident) s =
      .next (if s.winsContest st ident then ((s.at t).event Reg.COIL_STAT 4 {}).coilEnum
        else ((s.at t).event Reg.COIL_STAT 4 {}).modCoil
          (fun c => { c with yielded := true, enumPhase := 0, retryAt := none })) := by
  refine ((if_neg (by simp [hon])).trans (if_neg (by simp [hroot]))).trans
    ((if_neg (by simpa using hrival)).trans (congrArg Host.Outcome.next ?_))
  refine if_congr ?_ rfl rfl
  rw [State.winsContest, State.at_pins]
  split <;> simp

theorem token_contest (hroot : s.coilRoot = true) {ident : BitVec 64} (hrival : ident ≠ s.pins.unitId) :
    Completes (.token t p m l st ident) s fun u => u.shows Reg.COIL_STAT 4 ∧
      (s.winsContest st ident → u.coil.enumAt = u.now ∧ u.coil.yielded = s.coil.yielded) ∧
      (¬ s.winsContest st ident → u.coil.yielded = true ∧ u.coil.enumPhase = 0 ∧ u.coil.topo = s.coil.topo) := by
  classical
  refine .of_next (exec_token_rival t p m l st hon hroot hrival) ?_
  have hevent := (s.at t).event_net Reg.COIL_STAT 4 {}
  have hshown := (s.at t).event_shows Reg.COIL_STAT (b := 4) (by decide) {}
  have hcoil : ((s.at t).event Reg.COIL_STAT 4 {}).coil = s.coil := by rw [State.event_coil, State.at_coil]
  have hstays : ((s.at t).event Reg.COIL_STAT 4 {}).coilRoot = true := by rw [hevent.coilRoot, State.at_coilRoot, hroot]
  generalize (s.at t).event Reg.COIL_STAT 4 {} = x at hshown hcoil hstays ⊢
  by_cases hwin : s.winsContest st ident
  · rw [if_pos hwin]
    refine ⟨(State.coilEnum_keepsClock hstays).shows _ _ hshown, fun _ => ⟨State.coilEnum_starts hstays, ?_⟩,
      fun hn => absurd hwin hn⟩
    exact (State.coilEnum_root hstays).yielded.trans (congrArg Coil.yielded hcoil :)
  · rw [if_neg hwin]
    exact ⟨(x.modCoil_keepsClock _).shows _ _ hshown, fun h => absurd h hwin, fun _ => ⟨rfl, rfl, (congrArg Coil.topo hcoil :)⟩⟩

/-! ## TOKEN_END (R392) -/

theorem tokenEnd_forwarded (hroot : s.coilRoot = false) (hup : s.coilUp (1 - p.val) = true) :
    Completes (.tokenEnd t p m l) s fun u => ∃ x : CoilPkt, u.coil = { s.coil with sent := s.coil.sent ++ [x] } ∧
      x.port = 1 - p.val ∧ x.typ = 1 ∧ x.dst = 1 := by
  have hexec : exec (.tokenEnd t p m l) s = .next ((s.at t).coilSend
      { port := 1 - p.val, cls := 0, dst := 1, src := 0, typ := 1, payload := coilList m l }) :=
    (if_neg (by simp [hon])).trans (if_pos (by simp [hroot]))
  exact .of_next hexec ⟨_, by rw [State.coilSend_up (by simpa using hup), State.at_coil], rfl, rfl, rfl⟩

theorem tokenEnd_turnsToPortZero (hroot : s.coilRoot = true) (hphase : s.coil.enumPhase = 1) (hup : s.coilUp 0 = true) :
    Completes (.tokenEnd t p m l) s fun u => u.coil.enumPhase = 2 ∧ u.coil.enumSplit = l.length - 1 ∧
      u.coil.topo = s.coil.topo := by
  have hexec : exec (.tokenEnd t p m l) s = .next ((s.at t).coilPhase2 m l) :=
    ((if_neg (by simp [hon])).trans (if_neg (by simp [hroot]))).trans (if_pos (by simp [hphase]))
  have hsecond := State.coilPhase2_net (s := s.at t) m l (by simpa using hup)
  exact .of_next hexec ⟨hsecond.enumPhase, hsecond.enumSplit, hsecond.topo.trans (congrArg Coil.topo (s.at_coil t) :)⟩

theorem tokenEnd_completesLine (hroot : s.coilRoot = true) (hphase : s.coil.enumPhase = 2) (hl : l.length ≤ 24) :
    Completes (.tokenEnd t p m l) s fun u => u.coil.ring = false ∧ u.coil.addr = 1 ∧ u.coil.enumPhase = 0 ∧
      u.coil.topo = (((l.drop 1).take s.coil.enumSplit).reverse ++ [1]) ++ l.drop (1 + s.coil.enumSplit) := by
  have hexec : exec (.tokenEnd t p m l) s = .next ((s.at t).coilEnumDone false m l) :=
    ((if_neg (by simp [hon])).trans (if_neg (by simp [hroot]))).trans
      ((if_neg (by simp [hphase])).trans (if_pos (by simp [hphase])))
  have hdone := State.coilEnumDone_net (s := s.at t) false m hl
  refine .of_next hexec ⟨hdone.ring, hdone.addr, hdone.enumPhase, hdone.topo.trans ?_⟩
  rw [State.modCoil_coil, State.at_coil]
  rfl

/-! ## TOPO (R392) -/

theorem topo_takes (hroot : s.coilRoot = false) (ring : Bool) : Completes (.topo t ring l) s fun u =>
    u.coil.topo = l.take 24 ∧ u.coil.ring = ring ∧ u.coil.addr = (if s.bit Reg.COIL_CTL 0 then s.coil.addrNext else 0) ∧
      u.shows Reg.COIL_STAT 0 := by
  have hexec : exec (.topo t ring l) s = .next (((s.at t).coilTake ring (l.take 24)
      (if (s.at t).bit Reg.COIL_CTL 0 then (s.at t).coil.addrNext else 0)).coilStatus) := if_neg (by simp [hon, hroot])
  rw [State.at_bit, State.at_coil] at hexec
  generalize (if s.bit Reg.COIL_CTL 0 = true then s.coil.addrNext else 0) = a at hexec ⊢
  have hreport := ((s.at t).coilTake ring (l.take 24) a).coilStatus_net
  have htaken := ((s.at t).coilTake_net ring (l.take 24) a).trans hreport
  exact .of_next hexec ⟨htaken.topo, htaken.ring, htaken.addr,
    hreport.clock.shows _ _ ((s.at t).coilTake_shows ring (l.take 24) a)⟩

end

theorem topo_without (ring : Bool) (h : s.coilRoot = true ∨ s.coilOn = false) :
    Completes (.topo t ring l) s fun u => u = s.at t := .of_next (if_pos (by simpa using h)) rfl

/-! ## Start, retry and timeout (R392, R394) -/

theorem linkEvent_starts (hroot : s.coilRoot = true) : Completes (.linkEvent t) s fun u => u.coil.enumAt = u.now :=
  .of_next rfl (State.coilEnum_starts (by simpa using hroot))

theorem linkEvent_other (hroot : s.coilRoot = false) : Completes (.linkEvent t) s fun u => u = s.at t :=
  .of_next rfl (State.coilEnum_other (by simpa using hroot))

theorem coilEnumerate_starts (q : Path) (hroot : s.coilRoot = true) (hg : s.gated = false) :
    Completes (.coilEnumerate t q) s fun u => u.coil.enumAt = u.now :=
  .of_next (congrArg Host.Outcome.next (State.onBar_at hg t _)) (State.coilEnum_starts (by simpa using hroot))

theorem coilEnumerate_other (q : Path) (hroot : s.coilRoot = false) :
    Completes (.coilEnumerate t q) s fun u => u = s.at t := by
  refine .of_next rfl ?_
  rw [State.onBar, State.coilEnum_other (by simpa using hroot), ite_self]

theorem enumRetry_starts {a : Nat} (hdue : s.coil.retryAt = some a) (hroot : s.coilRoot = true) :
    Completes (.enumRetry t) s fun u => u.coil.enumAt = u.now ∧ u.now = max s.now (max t a) := by
  have hexec : exec (.enumRetry t) s = .next (s.at (max t a)).coilEnum := by
    change execEnumRetry t s = _
    unfold execEnumRetry
    rw [hdue]
  have hstays : (s.at (max t a)).coilRoot = true := by simpa using hroot
  exact .of_next hexec ⟨State.coilEnum_starts hstays, (State.coilEnum_keepsClock hstays).now.trans (s.at_now _)⟩

theorem enumTimeout_fails (hroot : s.coilRoot = true) (hphase : s.coil.enumPhase ≠ 0) :
    Completes (.enumTimeout t) s fun u => s.coil.enumAt + msT 10 ≤ u.now ∧
      u.coil = { s.coil with enumPhase := 0, retryAt := some (u.now + msT 100) } ∧ u.shows Reg.COIL_STAT 1 := by
  have hexec : exec (.enumTimeout t) s = .next (s.at (max t (s.coil.enumAt + msT 10))).coilEnumFail :=
    if_pos (by simp [hroot, hphase])
  have hnow : (s.at (max t (s.coil.enumAt + msT 10))).coilEnumFail.now = max s.now (max t (s.coil.enumAt + msT 10)) :=
    (State.event_now _ _ _ _).trans (s.at_now _)
  refine .of_next hexec ⟨by omega, ?_, State.event_shows _ _ (by decide) _⟩
  rw [hnow, State.coilEnumFail_coil, State.at_coil, State.at_now]

end

/-- Settles O51: each command by what it does on the root and on another unit. -/
theorem coilEnumerates : Obligations.CoilEnumerates :=
  ⟨fun t p m l st _ _ hon => ⟨fun hroot => token_givesAddress t p m l st hon hroot _,
      fun hroot => token_closesRing t p m l st hon hroot, fun hroot => token_contest t p m l st hon hroot⟩,
    fun t p m l _ hon => ⟨tokenEnd_forwarded t p m l hon, tokenEnd_turnsToPortZero t p m l hon,
      tokenEnd_completesLine t p m l hon⟩,
    fun t ring l _ => ⟨topo_without t l ring, fun hroot hon => topo_takes t l hon hroot ring⟩,
    fun t p _ => ⟨fun hroot => ⟨linkEvent_starts t hroot, coilEnumerate_starts t p hroot⟩,
      fun hroot => ⟨linkEvent_other t hroot, coilEnumerate_other t p hroot⟩,
      fun _ => enumRetry_starts t, enumTimeout_fails t⟩⟩

end Sys2Proof.Machine
end

section
/-! PROOFS. The Coil's packets by command: links, discards, routes, streams and management requests (R385, R388, R390, R394,
R404, R406). -/

namespace Sys2Proof.Machine

/-! ## COIL_LINK_CHANGE (R385, R394) -/

/-- Bit `p` of the links set or cleared. -/
def linkSet (x : BitVec 2) (p : Fin 2) (up : Bool) : BitVec 2 :=
  if up then x ||| BitVec.ofNat 2 (2 ^ p.val) else x &&& ~~~(BitVec.ofNat 2 (2 ^ p.val))

theorem bitOf_linkSet : ∀ (x : BitVec 2) (p : Fin 2) (up : Bool), bitOf (linkSet x p up).toNat p = up ∧
    bitOf (linkSet x p up).toNat (1 - p.val) = bitOf x.toNat (1 - p.val) := by decide

/-- The changed link is noted and flagged. -/
def State.linkNoted (s : State) (p : Fin 2) (up : Bool) : State :=
  (s.modCoil (fun c => { c with link := linkSet c.link p up })).event Reg.COIL_STAT 2 { detail := p.val }

section
variable {s : State} (t : Nat) (p : Fin 2)

theorem coilLinkChange_same {up : Bool} (h : bitOf s.coil.link.toNat p = up) :
    Completes (.coilLinkChange t p up) s fun u => u = s.at t := .of_next (if_pos (by simpa using h)) rfl

theorem exec_coilLinkChange {up : Bool} (h : bitOf s.coil.link.toNat p ≠ up) : exec (.coilLinkChange t p up) s =
    .next (if ((s.at t).linkNoted p up).coilRoot then ((s.at t).linkNoted p up).coilEnum
      else ((s.at t).linkNoted p up).coilTo 0 6 1 []) := if_neg (by simpa using h)

theorem coilLinkChange_notes {up : Bool} (h : bitOf s.coil.link.toNat p ≠ up) :
    Completes (.coilLinkChange t p up) s fun u => bitOf u.coil.link.toNat p = up ∧
      bitOf u.coil.link.toNat (1 - p.val) = bitOf s.coil.link.toNat (1 - p.val) ∧ u.shows Reg.COIL_STAT 2 ∧
      (s.coilRoot = true → u.coil.enumAt = u.now) := by
  refine .of_next (exec_coilLinkChange t p h) ?_
  have hnoted := State.event_net ((s.at t).modCoil (fun c => { c with link := linkSet c.link p up })) Reg.COIL_STAT 2
    { detail := p.val }
  have hlink : ((s.at t).linkNoted p up).coil.link = linkSet s.coil.link p up := by
    rw [State.linkNoted, hnoted.link, State.modCoil_coil, State.at_coil]
  have hroot : ((s.at t).linkNoted p up).coilRoot = s.coilRoot := hnoted.coilRoot.trans (s.at_coilRoot t)
  have hshown : ((s.at t).linkNoted p up).shows Reg.COIL_STAT 2 := State.event_shows _ _ (by decide) _
  obtain ⟨hset, hother⟩ := bitOf_linkSet s.coil.link p up
  rw [← hlink] at hset hother
  generalize (s.at t).linkNoted p up = x at hroot hshown hset hother ⊢
  by_cases hr : x.coilRoot = true
  · rw [if_pos hr]
    have henum := State.coilEnum_root hr
    rw [henum.link]
    exact ⟨hset, hother, (State.coilEnum_keepsClock hr).shows _ _ hshown, fun _ => State.coilEnum_starts hr⟩
  · rw [if_neg hr]
    have hsent := x.coilTo_net 0 6 1 []
    rw [hsent.link]
    exact ⟨hset, hother, hsent.clock.shows _ _ hshown, fun hs => absurd (hroot.trans hs) hr⟩

/-! ## COIL_PACKET_RECEIVE (R388, R390) -/

theorem State.coilDiscard_counts (s : State) (p : Fin 2) : CountsOne Id.COIL_DISCARDS (32 * p) s (s.coilDiscard p) :=
  s.addWord_countsOne _ p.isLt

theorem State.coilDiscard_coil (s : State) (p : Nat) : (s.coilDiscard p).coil = s.coil := s.updWide_coil _ _

/-- A forwarded packet leaves with one hop more, or is discarded where that would be 16. -/
theorem State.coilForward_spec (s : State) (p : Fin 2) (q : Nat) (h : BitVec 64) :
    (15 ≤ hdrFld h 27 24 → CountsOne Id.COIL_DISCARDS (32 * p) s (s.coilForward p q h) ∧
      (s.coilForward p q h).coil = s.coil) ∧
    (hdrFld h 27 24 < 15 → s.coilUp q = true → ∃ x : CoilPkt,
      (s.coilForward p q h).coil = { s.coil with sent := s.coil.sent ++ [x] } ∧ x.port = q ∧ x.dst = hdrFld h 7 3 ∧
      x.src = hdrFld h 12 8 ∧ x.hops = hdrFld h 27 24 + 1 ∧ x.seq = hdrFld h 47 32) := by
  unfold State.coilForward
  refine ⟨fun hfar => ?_, fun hnear hup => ?_⟩
  · rw [if_pos hfar]
    exact ⟨s.coilDiscard_counts p, s.coilDiscard_coil p⟩
  · rw [if_neg (by omega)]
    exact ⟨_, State.coilSend_up hup, rfl, rfl, rfl, rfl, rfl⟩

/-- A sound packet for one unit that this row consumes or routes: SCHED, or MGMT other than TOKEN and TOKEN_END (R388,
R390). -/
def Routed (h : BitVec 64) : Prop :=
  hdrReserved h = false ∧ hdrFld h 55 48 ≤ 128 ∧ (hdrFld h 2 0 = 2 ∨ (hdrFld h 2 0 = 0 ∧ 2 ≤ hdrFld h 23 16)) ∧
    hdrFld h 7 3 ≠ 31 ∧ hdrFld h 7 3 ≠ 0

variable {h : BitVec 64}

theorem coilPacketReceive_off (ok : Bool) (hoff : s.coilOn = false) :
    Completes (.coilPacketReceive t p h ok) s fun u => u = s.at t := .of_next (if_pos (by simp [hoff])) rfl

section
variable (hon : s.coilOn = true)
include hon

theorem coilPacketReceive_badCrc : Completes (.coilPacketReceive t p h false) s fun u =>
    CountsOne Id.COIL_DISCARDS (32 * p) (s.at t) u ∧ u.shows Reg.COIL_STAT 11 ∧ u.coil = s.coil := by
  have hexec : exec (.coilPacketReceive t p h false) s =
      .next (((s.at t).coilDiscard p).event Reg.COIL_STAT 11 { detail := p }) :=
    (if_neg (by simp [hon])).trans (if_pos rfl)
  refine .of_next hexec ⟨((s.at t).coilDiscard_counts p).of_value (State.event_wideRaw _ _ _ _ _),
    State.event_shows _ _ (by decide) _, ?_⟩
  rw [State.event_coil, State.coilDiscard_coil, State.at_coil]

/-- Past its CRC a packet goes on by its header. -/
theorem exec_coilPacketReceive (h : BitVec 64) : exec (.coilPacketReceive t p h true) s =
    if hdrReserved h || decide (128 < hdrFld h 55 48) then .next ((s.at t).coilDiscard p)
    else if hdrFld h 2 0 = 1 ∨ hdrFld h 2 0 = 3 ∨ (hdrFld h 2 0 = 0 ∧ hdrFld h 23 16 ≤ 1) then
      .next (if hdrFld h 7 3 ≠ (s.at t).coil.addr ∧ 15 ≤ hdrFld h 27 24 then (s.at t).coilDiscard p
        else (s.at t).coilConsume h)
    else if hdrFld h 7 3 = 31 then .next ((s.at t).coilBroadcast p h)
    else if hdrFld h 7 3 = 0 then .next (s.at t)
    else if hdrFld h 7 3 = (s.at t).coil.addr then .next ((s.at t).coilConsume h)
    else .next (match (s.at t).coilRoute (hdrFld h 7 3) with
      | some (q, _) => (s.at t).coilForward p q h
      | none => s.at t) := (if_neg (by simp [hon])).trans (if_neg (by decide))

theorem coilPacketReceive_reserved (hbad : hdrReserved h = true ∨ 128 < hdrFld h 55 48) :
    Completes (.coilPacketReceive t p h true) s fun u =>
      CountsOne Id.COIL_DISCARDS (32 * p) (s.at t) u ∧ u.coil = s.coil :=
  .of_next ((exec_coilPacketReceive t p hon h).trans (if_pos (by simpa using hbad)))
    ⟨(s.at t).coilDiscard_counts p, by rw [State.coilDiscard_coil, State.at_coil]⟩

theorem exec_coilPacketReceive_routed (hr : Routed h) : exec (.coilPacketReceive t p h true) s =
    if hdrFld h 7 3 = s.coil.addr then .next ((s.at t).coilConsume h)
    else .next (match s.coilRoute (hdrFld h 7 3) with
      | some (q, _) => (s.at t).coilForward p q h
      | none => s.at t) := by
  obtain ⟨htype, hlength, hcls, hsingle, haddressed⟩ := hr
  rw [exec_coilPacketReceive t p hon h, if_neg (by simp [htype, hlength]), if_neg (by omega), if_neg hsingle,
    if_neg haddressed, State.at_coil, State.at_coilRoute]

theorem coilPacketReceive_consumes (hr : Routed h) (hown : hdrFld h 7 3 = s.coil.addr) :
    Completes (.coilPacketReceive t p h true) s fun u =>
      u.coil = { s.coil with lastRx := some h } ∧ Unchanged [.coil] (s.at t) u := by
  refine .of_next ((exec_coilPacketReceive_routed t p hon hr).trans (if_pos hown)) ⟨?_, State.modCoil_unchanged _ _⟩
  rw [State.coilConsume, State.modCoil_coil, State.at_coil]

theorem coilPacketReceive_forwards (hr : Routed h) (hother : hdrFld h 7 3 ≠ s.coil.addr) {q : Nat} {path : List Nat}
    (hroute : s.coilRoute (hdrFld h 7 3) = some (q, path)) : Completes (.coilPacketReceive t p h true) s fun u =>
      (15 ≤ hdrFld h 27 24 → CountsOne Id.COIL_DISCARDS (32 * p) (s.at t) u ∧ u.coil = s.coil) ∧
      (hdrFld h 27 24 < 15 → s.coilUp q = true → ∃ x : CoilPkt, u.coil = { s.coil with sent := s.coil.sent ++ [x] } ∧
        x.port = q ∧ x.dst = hdrFld h 7 3 ∧ x.src = hdrFld h 12 8 ∧ x.hops = hdrFld h 27 24 + 1 ∧
        x.seq = hdrFld h 47 32) := by
  have hexec := (exec_coilPacketReceive_routed t p hon hr).trans (if_neg hother)
  rw [hroute] at hexec
  have hspec := (s.at t).coilForward_spec p q h
  rw [State.at_coil, State.at_coilUp] at hspec
  exact .of_next hexec hspec

end

/-! ## STREAM_RECORDS (R404) -/

theorem State.writeback_coil (s : State) (x : Nat) : (s.writeback x).coil = s.coil := by
  unfold State.writeback
  dsimp only
  split
  · exact State.signal_coil _ _
  · rfl

theorem State.writebackDue_coil (s : State) (x : Nat) : (s.writebackDue x).coil = s.coil := by
  unfold State.writebackDue
  split
  · split
    · exact s.writeback_coil x
    · rfl
  · rfl

theorem State.ringPut_coil (s : State) (x : Nat) (r : BitVec 128) : (s.ringPut x r).coil = s.coil := by
  unfold State.ringPut
  dsimp only
  split
  · exact (State.writeback_coil _ _).trans (s.writebackDue_coil x)
  · exact s.writebackDue_coil x

/-- What the sink writes into its ring leaves the numbers that it expects. -/
theorem State.sinkPump_rxSeq (s : State) (a n : Nat) : (s.sinkPump a n).coil.rxSeq = s.coil.rxSeq := by
  have hput (l : List (BitVec 128)) (x : State) : (l.foldl (fun s r => s.ringPut (3 + a) r) x).coil = x.coil := by
    induction l generalizing x with
    | nil => rfl
    | cons r l ih => exact (ih _).trans (x.ringPut_coil _ r)
  induction n generalizing s with
  | zero => rfl
  | succ n ih =>
    unfold State.sinkPump
    split
    · rfl
    · split
      · rw [ih, hput]
      · rfl

/-- The sink next expects the number after the one it took. -/
theorem State.coilSink_expects (s : State) (a seq : Nat) (recs : List (BitVec 128)) :
    fget none (s.coilSink a seq recs).coil.rxSeq a = some ((seq + 1) % 65536) := by
  unfold State.coilSink State.sinkRun
  rw [State.sinkPump_rxSeq, State.modCoil_coil]
  dsimp only
  exact fget_fset_same none _ a _

section
variable (hon : s.coilOn = true) {o : Fin 17} {d : Fin 32} (q : BitVec 16) (recs : List (BitVec 128))
include hon

theorem streamRecords_delivered (hown : d.val = s.coil.addr) (hd : d.val ≠ 0) (ho : o.val ≠ 0) :
    Completes (.streamRecords t p o d q recs) s fun u =>
      fget none u.coil.rxSeq o = some ((q.toNat + 1) % 65536) := by
  have hexec : exec (.streamRecords t p o d q recs) s = .next ((s.at t).coilSink o q.toNat recs) :=
    ((if_neg (by simp [hon])).trans (if_pos ⟨hd, by rw [hown, State.at_coil]⟩)).trans
      (congrArg Host.Outcome.next (if_neg ho))
  exact .of_next hexec ((s.at t).coilSink_expects o q.toNat recs)

theorem streamRecords_forwarded (hother : d.val ≠ s.coil.addr) {k : Nat} {path : List Nat}
    (hroute : s.coilRoute d = some (k, path)) (hup : s.coilUp k = true) :
    Completes (.streamRecords t p o d q recs) s fun u => u.coil = { s.coil with sent := s.coil.sent ++ [
      { port := k, cls := 3, dst := d, src := o, typ := 0, seq := q.toNat, payload := recs }] } := by
  have hexec : exec (.streamRecords t p o d q recs) s = .next (match (s.at t).coilRoute d with
      | some (q', _) => (s.at t).coilSend
        { port := q', cls := 3, dst := d, src := o, typ := 0, seq := q.toNat, payload := recs }
      | none => s.at t) :=
    (if_neg (by simp [hon])).trans (if_neg (by simp [hother]))
  rw [State.at_coilRoute, hroute] at hexec
  exact .of_next hexec (by rw [State.coilSend_up (by simpa using hup), State.at_coil])

end

/-! ## REQ, RESP and what stays unanswered (R406) -/

/-- A packet of the unit's own is sent by its route. -/
theorem State.coilTo_sent {s : State} {dst q : Nat} {path : List Nat} (hroute : s.coilRoute dst = some (q, path))
    (hup : s.coilUp q = true) (cls typ : Nat) (l : List (BitVec 128)) : (s.coilTo cls typ dst l).coil.sent =
      s.coil.sent ++ [{ port := q, cls, dst, src := s.coil.addr, typ, seq := s.coilSeq cls, payload := l }] := by
  unfold State.coilTo State.coilOut State.coilSeqUsed
  rw [hroute, State.modCoil_coil, State.coilSend_up hup]

/-- From `s` to `u` the requester `a` is answered NO_AGENT, where a route to it is up. -/
def NoAgentSent (a : Nat) (s u : State) : Prop := ∀ q path, s.coilRoute a = some (q, path) → s.coilUp q = true →
  u.coil.sent = s.coil.sent ++ [
    { port := q, cls := 0, dst := a, src := s.coil.addr, typ := 4, seq := s.coilSeq 0, payload := [ofWords 3 0 0 0, 0] }]

theorem State.coilAnswer_noAgent (s : State) (a : Nat) : NoAgentSent a s (s.coilAnswer a 3 0 0) :=
  fun _ _ hroute hup => State.coilTo_sent hroute hup 0 4 _

theorem State.at_noAgentSent {a : Nat} {u : State} (h : NoAgentSent a (s.at t) u) : NoAgentSent a s u := by
  intro q path hroute hup
  have hsent := h q path (by rwa [State.at_coilRoute]) (by rwa [State.at_coilUp])
  rwa [State.at_coil, State.at_coilSeq] at hsent

theorem State.at_greenRuns (s : State) (t : Nat) : (s.at t).greenRuns = s.greenRuns := by
  unfold State.greenRuns
  rw [State.at_mode]

theorem req_noAgent (a : Fin 17) (op : MgmtOp) (x : Bool) (hon : s.coilOn = true) (hgreen : s.greenRuns = false) :
    Completes (.req t a op x) s (NoAgentSent a s) := by
  have hexec : exec (.req t a op x) s = .next ((s.at t).coilAnswer a 3 0 0) :=
    (if_neg (by simp [hon])).trans (if_pos (by simp [State.at_greenRuns, hgreen]))
  exact .of_next hexec (State.at_noAgentSent t ((s.at t).coilAnswer_noAgent a))

theorem req_waits (a : Fin 17) (op : MgmtOp) (hon : s.coilOn = true) (hgreen : s.greenRuns = true) :
    Completes (.req t a op false) s fun u =>
      u.coil = { s.coil with mgmt := s.coil.mgmt ++ [(a.val, u.now)] } ∧ Unchanged [.coil] (s.at t) u := by
  have hexec : exec (.req t a op false) s =
      .next ((s.at t).modCoil (fun c => { c with mgmt := c.mgmt ++ [(a.val, (s.at t).now)] })) :=
    (if_neg (by simp [hon])).trans ((if_neg (by simp [State.at_greenRuns, hgreen])).trans (if_neg (by decide)))
  refine .of_next hexec ⟨?_, State.modCoil_unchanged _ _⟩
  rw [State.modCoil_coil, State.modCoil_now, State.at_coil]

theorem resp_kept (a : Fin 17) (st d : Nat) : Completes (.resp t a st d) s fun u =>
    u.coil = { s.coil with lastResp := some (a.val, st, d) } ∧ Unchanged [.coil] (s.at t) u := by
  refine .of_next rfl ⟨?_, State.modCoil_unchanged _ _⟩
  rw [State.modCoil_coil, State.at_coil]

/-- The oldest request of `a`, open since `r`, is answered for Greenware. -/
theorem coilNoAgent_answers {a r : Nat} {rest : List (Nat × Nat)} (hopen : s.coil.mgmt = (a, r) :: rest) :
    Completes (.coilNoAgent t) s fun u => u.now = max s.now (max t (r + msT 1)) ∧ u.coil.mgmt = rest ∧ NoAgentSent a s u := by
  have hexec : exec (.coilNoAgent t) s = .next (((s.at (max t (r + msT 1))).modCoil
      (fun c => { c with mgmt := rest })).coilAnswer a 3 0 0) := by
    change execCoilNoAgent t s = _
    unfold execCoilNoAgent
    rw [hopen]
  refine .of_next hexec ?_
  have hnet := State.coilTo_net ((s.at (max t (r + msT 1))).modCoil (fun c => { c with mgmt := rest })) 0 4 a
    [ofWords 3 0 0 0, 0]
  have hsent := State.coilAnswer_noAgent ((s.at (max t (r + msT 1))).modCoil (fun c => { c with mgmt := rest })) a
  exact ⟨hnet.clock.now.trans (s.at_now _), (congrArg Coil.mgmt hnet.net :),
    State.at_noAgentSent (max t (r + msT 1)) hsent⟩

theorem coilMgmtTimeout_flags (s : State) : Completes (.coilMgmtTimeout t) s fun u =>
    u.shows Reg.COIL_STAT 15 ∧ Unchanged recording s u :=
  .of_next rfl ⟨State.event_shows _ _ (by decide) _, (s.at_unchanged t).trans (State.event_recording _ _ _ _)⟩

end

/-- Settles O50: each command by what its header, its route and the ports make of it. -/
theorem coilRoutesPackets : Obligations.CoilRoutesPackets := by
  refine ⟨fun t p _ _ => ⟨coilLinkChange_same t p, coilLinkChange_notes t p⟩, fun t p h ok s => ⟨?_, ?_, ?_, ?_, ?_⟩,
    fun t p _ _ q recs _ hon => ⟨streamRecords_delivered t p hon q recs,
      fun hother _ _ => streamRecords_forwarded t p hon q recs hother⟩,
    fun t a op _ hon => ⟨fun hgreen x => req_noAgent t a op x hon hgreen, req_waits t a op hon⟩,
    fun t a st d _ => resp_kept t a st d, fun t _ _ _ _ => coilNoAgent_answers t, coilMgmtTimeout_flags⟩
  · exact coilPacketReceive_off t p ok
  · rintro hon rfl
    exact coilPacketReceive_badCrc t p hon
  · rintro hon rfl
    exact coilPacketReceive_reserved t p hon
  · rintro hon ⟨rfl, hr⟩
    exact coilPacketReceive_consumes t p hon hr
  · rintro hon ⟨rfl, hr⟩ hother q path
    exact coilPacketReceive_forwards t p hon hr hother

end Sys2Proof.Machine
end
